-- ==== Sys2Proof/Word.lean ====
section
/-! DEFINITION. The words of the LD6430: octets, 32-bit register words, and their plainest reading as
numbers. -/

namespace Sys2Proof

/-- One octet. -/
abbrev Byte := BitVec 8

/-- One register of the 24-bit register space (R587). -/
abbrev Word := BitVec 32

/-- A run of octets: a packet, a frame, a parameter block. -/
abbrev Bytes := List Byte

end Sys2Proof
end

