-- ==== Sys2Proof/Syntax.lean ====
section
/-! DEFINITION. The commands of the LD6430: one constructor for each row of the table of operations and
events, with the row's operands. Rows that are host opcodes carry the command header (Table 2-1) and the
parameter bytes, numbered as the opcode's table numbers them; rows that are register writes carry the
header, the index of the instance, the mask and the value of REG_WRITE (Table 2-9); rows that are events
carry the index of the unit concerned and whatever the world outside supplies. -/

namespace Sys2Proof

/-- Where a command came from: the transport endpoints of R50, and the configuration replay of R478. -/
inductive Endpoint where
  /-- The ring pair of a session in the direct window (Table 2-3). -/
  | pcie (ring : Nat)
  /-- The quad SPI port (R43). -/
  | spi
  /-- An in-band source MAC address (wire order) with its VLAN, arriving on an Ethernet port (R45, R50). -/
  | inband (mac : Bytes) (vlan port : Nat)
  /-- A record of a configuration image, replayed before any session opens (R478). -/
  | replay
  /-- A command forwarded by the head of the chain (R524). -/
  | chain (head : Nat)
  deriving DecidableEq, Repr

/-- A command header after steps 1 to 4 of Table 2-5, with the packet's trailer (R35, R37). -/
structure Cmd where
  ep : Endpoint
  session : Nat
  tag : Nat
  trailer : Nat
  target : Nat
  timeout : Nat
  wantReply : Bool
  inTxn : Bool
  urgent : Bool
  forward : Bool
  deriving DecidableEq, Repr

/-- A detection raised by a preamble detector (R162, R163). -/
structure Detection where
  radio : Nat
  filet : Bool
  subband : Nat
  slot : Nat
  /-- 0.25 dB steps, dBm. -/
  strength : Int
  /-- Instant of the first qualifier symbol, ns of elapsed time. -/
  start : Nat
  /-- Carrier, Hz. -/
  carrier : Nat
  deriving DecidableEq, Repr

/-- What a measurement of the offset says of its master (R326, Tables 11-7, 11-8). -/
structure MasterInfo where
  port : Nat
  steps : Nat
  identity : Bytes
  utcOffset : Int
  leap : Bool
  deriving DecidableEq, Repr

/-- The alarm detectors of Table 19-4, and the alarms of R407. -/
inductive Alarm where
  | tamper
  | shield
  | voltage
  | clock
  | temperature
  deriving DecidableEq, Repr

/-- What the ECC of one DRAM read found (R421). -/
inductive EccFault where
  | clean
  | corrected
  | uncorrectable
  deriving DecidableEq, Repr

/-- What goes wrong in a unit while it serves (R537, R542): its own check fails (a boundary stamp against the time base, the
parity of a lane's data path, a decoder's self-check), or an SRAM row gives a corrected or an uncorrectable error. Rows of
SRAM are numbered macro · 256 + row. (DESIGN CHOICE: log 119.) -/
inductive UnitFault where
  | clean
  | check
  | corrected (row : Nat)
  | uncorrectable (row : Nat)
  deriving DecidableEq, Repr

/-- What a TAP access asks for (Table 19-5). -/
inductive DebugAccess where
  | bypass
  | idcode
  | readReg (address : Nat)
  | trace
  | halt (processor : Nat)
  | resume (processor : Nat)
  | step (processor : Nat)
  | writeReg (address : Nat) (value : Word)
  | boundaryScan
  deriving DecidableEq, Repr

/-- What an enumeration walk finds (R518): the identities of the devices reached out of CRD_DN and, where the chain is
open there, out of CRD_UP, in hop order; whether the walk came back to CRD_UP; a second device that claims to be head;
the ports found miswired and those that have a link, bit p for port p. -/
structure ChainWalk where
  down : List Bytes
  up : List Bytes
  closed : Bool
  conflict : Bool
  miswired : Nat
  links : Nat
  deriving DecidableEq, Repr

/-- What a chain control frame says (Table 20-1, kind 3). The manual states no format for its content.
(DESIGN CHOICE: log 26.) -/
inductive ChainControl where
  /-- A neighbour acknowledges a sequence (R523). -/
  | ack (seq : Nat)
  /-- The head gives a device its number, with the head's identity (R518). -/
  | number (device : Nat) (head : Bytes)
  /-- The device numbers out of CRD_DN and out of CRD_UP of the receiver, in hop order (R532). -/
  | paths (down up : List Nat) (ring : Bool)
  /-- A device lost the link of a port to a neighbour (R532). -/
  | broken (port neighbour : Nat)
  /-- A device's port has its link, and these identities lie beyond it, in hop order (R532). -/
  | found (port : Nat) (beyond : List Bytes) (ring : Bool)
  /-- A share of a commit: the holder's session, the instant in ns, entries of address, mask and value (R528). -/
  | share (session instant : Nat) (entries : List (Nat × Word × Word))
  /-- A device has armed its share, or refuses it with a status and a result (R528). -/
  | armed (session status : Nat) (result : Bytes)
  | go (session : Nat)
  /-- A device's share has applied, or has failed with a status (R528). -/
  | applied (session status : Nat)
  /-- The head orders a share discarded, or rolled back once applied (R77, R529). -/
  | undo (session : Nat)
  /-- A device has rolled its share back (R529). -/
  | undone (session : Nat)
  deriving DecidableEq, Repr

/-- What the boot ROM and the controllers find at a cold start: the DRAM devices (R411), the training
result of each channel, the first failing step or 0 (R413), and the start-up time in ms (R484). -/
structure StartUp where
  cause : Nat
  density : Nat
  twoRanks : Bool
  mr8Ok : Bool
  trainFail : List Nat
  startMs : Nat
  /-- What enumeration finds where it runs at the start (R518). -/
  walk : ChainWalk
  deriving DecidableEq, Repr

/-- The rows of the table of operations and events. -/
inductive Instr where
  /-- DW_RING_CFG_WRITE (R41). A PCIe write of DW_RING_CFG checks and enables or disables a session's ring pair; disabling closes the session and discards its held replies. -/
  | dwRingCfgWrite (session : Nat) (value : Word)
  /-- DW_CMD_TAIL_WRITE (R38). The host rings the command doorbell, and the device copies the published slots and advances DW_CMD_HEAD. -/
  | dwCmdTailWrite (session : Nat) (value : Word) (slots : List Bytes)
  /-- DW_RPL_HEAD_WRITE (R38). The host advances DW_RPL_HEAD and frees reply slots. -/
  | dwRplHeadWrite (session : Nat) (value : Word)
  /-- HELD_REPLY_WRITE (R39). Once reply ring space is free, the device writes the replies and events it was holding and advances DW_RPL_TAIL. -/
  | heldReplyWrite (session : Nat)
  /-- SPI_STATUS (R44). A quad SPI status instruction returns the reply-waiting, buffer-free and discard bits, and clears the discard bit. -/
  | spiStatus
  /-- SPI_PUT (R44). A quad SPI PUT delivers one command packet to a free buffer, or is discarded and counted. -/
  | spiPut (instruction : Nat) (bytes : Bytes)
  /-- SPI_GET (R43). A quad SPI GET returns the length and bytes of one waiting reply or event; an incomplete read leaves the reply in place. -/
  | spiGet (clocked : Nat)
  /-- HELLO (R50). HELLO opens, reopens or refuses a session binding and reports part, version and reset cause. -/
  | hello (c : Cmd) (p : Bytes)
  /-- STATUS (R70). STATUS returns SYS_SUMMARY and the session's transaction state. -/
  | status (c : Cmd) (p : Bytes)
  /-- RESET (R466). RESET replies OK and schedules a reset of the kind requested 1 ms later. -/
  | reset (c : Cmd) (p : Bytes)
  /-- RESET_START (R466). The scheduled reset begins 1 ms after its final reply. -/
  | resetStart
  /-- POWER_STATE (R443). POWER_STATE checks holders and then enters Trim, Doze, Standby or Backup by the ordered entry steps, or changes to Run. -/
  | powerState (c : Cmd) (p : Bytes)
  /-- CANCEL (R60). CANCEL stops an outstanding tag of its own session, or lets it complete, and reports whether it was found. -/
  | cancel (c : Cmd) (p : Bytes)
  /-- EVENT_MASK (R63). EVENT_MASK sets which event-code high bytes are raised to the session. -/
  | eventMask (c : Cmd) (p : Bytes)
  /-- SESSION_CLOSE (R51). SESSION_CLOSE replies and then closes the session: it aborts the open transaction, cancels outstanding commands and empties the event queue. -/
  | sessionClose (c : Cmd) (p : Bytes)
  /-- SESSION_IDLE_EXPIRY (R52). An in-band session with no command for SYS_SESSION_IDLE seconds is closed. -/
  | sessionIdleExpiry (session : Nat)
  /-- COMMAND_TIMEOUT (R59). A command's timeout hint elapses, its work stops at the next safe point, and TIMEOUT is returned with its progress. -/
  | commandTimeout (session tag : Nat)
  /-- EVENTS_LOST (R64). When event queue space frees after drops, one EVENTS_LOST event is queued with the count and the first lost sequence number. -/
  | eventsLost (session : Nat)
  /-- CROSSING_TIMEOUT (R14). A crossing handshake not completed within 100 µs, or 200 µs for AON, is abandoned with INTERNAL_FAULT and scored. -/
  | crossingTimeout (source dest : Nat) (command : Option (Nat × Nat)) (parity : Bool)
  /-- REG_READ (R588). REG_READ returns one register word, or fails for an absent address. -/
  | regRead (c : Cmd) (p : Bytes)
  /-- REG_WRITE (R66). REG_WRITE changes the masked bits of a register that has no row of its own, after the checks of its access type and fields, or stages the write in a transaction. -/
  | regWrite (c : Cmd) (p : Bytes)
  /-- REG_READ_BLOCK (R20). REG_READ_BLOCK returns consecutive words, giving one consistent value when it starts at a latching word. -/
  | regReadBlock (c : Cmd) (p : Bytes)
  /-- LATCHING_WORD_READ (R16). A read of a latching word takes the requester's snapshot of the whole multi-word value. -/
  | latchingWordRead (requester address : Nat)
  /-- TXN_BEGIN (R70). TXN_BEGIN opens a transaction for the session, or drops a roll-back record from APPLIED. -/
  | txnBegin (c : Cmd) (p : Bytes)
  /-- TXN_STAGE (R71). TXN_STAGE checks the entry count and every entry and stages them all, or stages none. -/
  | txnStage (c : Cmd) (p : Bytes)
  /-- TXN_COMMIT (R75). TXN_COMMIT checks the instant and conflicts, then arms an immediate or timed commit on every device it touches. -/
  | txnCommit (c : Cmd) (p : Bytes)
  /-- TXN_ABORT (R80). TXN_ABORT discards an open transaction, cancels a pending timed commit before its deadline, or rolls back an applied one exactly. -/
  | txnAbort (c : Cmd) (p : Bytes)
  /-- TXN_STATUS (R70). TXN_STATUS reports the transaction state, the staged count, the instant and the devices armed. -/
  | txnStatus (c : Cmd) (p : Bytes)
  /-- TXN_ARMING_DEADLINE (R75). At 1 ms before the instant, a commit not armed everywhere is disarmed and fails with TXN_EXPIRED. -/
  | txnArmingDeadline (session : Nat)
  /-- COMMIT_APPLY (R29). At the commit instant, each island applies its staged writes in one clock cycle, and AON at the next tick. -/
  | commitApply (session : Nat) (failed : Option (Nat × Nat))
  /-- SYN_FREQ_WRITE (R85). A write of TRXn_SYN_FREQ retunes the radio at once, after the frame in the air, or at the next exit to IDLE, depending on its state. -/
  | synFreqWrite (c : Cmd) (radio : Nat) (mask value : Word)
  /-- HOP_FREQ_WRITE (R86). A write of TRXn_HOP_FREQ sets the frequency the hop synthesiser locks on in advance. -/
  | hopFreqWrite (c : Cmd) (radio : Nat) (mask value : Word)
  /-- STATE_REQUEST_WRITE (R91). A write of TRXn_STATE_CTL requests a radio state or transmit inhibit. -/
  | stateRequestWrite (c : Cmd) (radio : Nat) (mask value : Word)
  /-- TX_PWR_WRITE (R110). A write of TRXn_TX_PWR is checked against the band limit and refused with REG_LOCKED when it exceeds it. -/
  | txPwrWrite (c : Cmd) (radio : Nat) (mask value : Word)
  /-- STATE_TRANSITION_DONE (R92). A radio state transition completes within its time in Table 3-3. -/
  | stateTransitionDone (radio : Nat)
  /-- SYNTH_LOCK_DONE (R87). The lock detector declares lock, and the radio leaves SYNTH. -/
  | synthLockDone (radio : Nat) (synthB : Bool)
  /-- SYNTH_LOCK_TIMEOUT (R88). A synthesiser not locked after twice its lock time fails: the failure is scored and the lock is retried up to 3 times. -/
  | synthLockTimeout (radio : Nat) (synthB : Bool)
  /-- CAL_TEMP_TRIGGER (R96). A die temperature change of temp_delta or more raises a full calibration. -/
  | calTempTrigger (radio : Nat) (temp : Int)
  /-- CAL_INTERVAL_EXPIRY (R96). The periodic calibration interval elapses and raises a full calibration. -/
  | calIntervalExpiry (radio : Nat)
  /-- CAL_GAP_START (R97). A raised calibration starts once no frame is in transmission and no stitch lies within 1,500 µs. -/
  | calGapStart (radio : Nat)
  /-- CAL_DEFER_EXPIRY (R97). After defer seconds without a gap, the pending calibration runs when the current frame ends. -/
  | calDeferExpiry (radio : Nat)
  /-- CAL_DONE (R96). A full calibration ends with the on-air synthesiser locked, and any waiting RADIO_CAL replies. -/
  | calDone (radio : Nat) (bandFails : Option Nat)
  /-- TX_DECISION (R94). A radio decides a transmission, checks limits, enters TX and begins the 100 µs turnaround. -/
  | txDecision (radio frame : Nat)
  /-- LATE_LIMIT_EXPIRY (R93). A held scheduled frame's late limit passes, so it is not sent and SLOT_MISSED is returned. -/
  | lateLimitExpiry (radio frame : Nat)
  /-- COEX_REQ_RAISE (R103). COEXn_REQ is raised at the planned first preamble symbol less req_lead. -/
  | coexReqRaise (radio : Nat)
  /-- COEX_GRANT_SAMPLE (R104). At the start of the ramp-up, the grant is sampled and the duty check is made; the frame is sent, waits or is refused. -/
  | coexGrantSample (radio : Nat) (grant : Bool)
  /-- COEX_GRANT_ARRIVAL (R104). A grant arrives within the wait, and the ramp-up begins at once. -/
  | coexGrantArrival (radio : Nat)
  /-- COEX_GRANT_WAIT_EXPIRY (R104). The grant wait ends without a grant, so the frame fails or is retried and the radio leaves TX. -/
  | coexGrantWaitExpiry (radio : Nat)
  /-- COEX_GRANT_WITHDRAWN (R105). A grant withdrawn during transmission aborts the frame within 2 µs, and the attempt is charged and retried. -/
  | coexGrantWithdrawn (radio radiated : Nat)
  /-- TX_FRAME_END (R92). The last symbol and the ramp-down end; duty is charged and the radio turns around to its requested state. -/
  | txFrameEnd (radio : Nat)
  /-- DUTY_BIN_ADVANCE (R112). A one-second duty bin closes, and the oldest bin ages out of the window. -/
  | dutyBinAdvance
  /-- RADIO_PROFILE_APPLY (R118). RADIO_PROFILE_APPLY writes or stages the TRXn registers of a role as one immediate commit. -/
  | radioProfileApply (c : Cmd) (p : Bytes)
  /-- RADIO_CAL (R99). RADIO_CAL starts or joins a full calibration, or marks the calibration invalid in SLEEP. -/
  | radioCal (c : Cmd) (p : Bytes)
  /-- RGL_CERT_WRITE (R117). RGL_CERT_WRITE writes bytes into the 20 KB certificate staging buffer. -/
  | rglCertWrite (c : Cmd) (p : Bytes)
  /-- RGL_CERT_APPLY (R109). RGL_CERT_APPLY checks the certificate's format and replies ACCEPTED, then starts the signature checks. -/
  | rglCertApply (c : Cmd) (p : Bytes)
  /-- RGL_CERT_VERIFY_DONE (R117). Both signatures are checked; on success the certificate is sealed in both copies and applied, and the final reply is sent. -/
  | rglCertVerifyDone
  /-- RGL_READ (R117). RGL_READ returns one band entry of the applied certificate. -/
  | rglRead (c : Cmd) (p : Bytes)
  /-- PROF_CFG_WRITE (R161). A write of TRXn_PROF_CFGk is checked whole and enables or disables a GFSK profile slot. -/
  | profCfgWrite (c : Cmd) (radio slot : Nat) (mask value : Word)
  /-- MOD_PROFILE_APPLY (R159). MOD_PROFILE_APPLY writes or stages the profile slots of a preset. -/
  | modProfileApply (c : Cmd) (p : Bytes)
  /-- LOAD_TABLE_WRITE (R153). LOAD_TABLE_WRITE checks a loading table and installs it whole as a peer's receive or transmit table. -/
  | loadTableWrite (c : Cmd) (p : Bytes)
  /-- LOAD_TABLE_READ (R152). LOAD_TABLE_READ returns one of a peer's four loading tables. -/
  | loadTableRead (c : Cmd) (p : Bytes)
  /-- FILET_SOUND (R159). FILET_SOUND queues a sounding frame to a Filet peer. -/
  | filetSound (c : Cmd) (p : Bytes)
  /-- SOUNDING_RX (R156). A received sounding frame is counted and used to derive a loading table for its peer. -/
  | soundingRx (lane : Nat) (snr : List Int) (offset : Int)
  /-- DETECTION (R172). A preamble detector raises a detection, and the allocator assigns a lane, captures, or counts starvation. -/
  | detection (d : Detection)
  /-- SYNC_FOUND (R174). A lane finds the sync word, SFD or S2 and stamps the receive time. -/
  | syncFound (lane slot stamp : Nat) (stampFails : Bool)
  /-- SYNC_TIMEOUT (R174). A sync window closes without a sync word, so the lane is released and sync_timeout is counted. -/
  | syncTimeout (lane : Nat)
  /-- HEADER_RECEIVED (R148). A frame header is decoded and checked, and a failing header releases the lane. -/
  | headerReceived (lane header : Nat)
  /-- RECEIVE_COMPLETE (R150). A lane finishes decoding and passes its CRC-32 result to the medium access engine and PKT, and the lane is released. -/
  | receiveComplete (lane : Nat) (crcOk : Bool) (body : Bytes) (snr ferr : Int) (trouble : UnitFault)
  /-- STITCH_WINDOW_OPEN (R176). A scheduled receive window opens, and a lane is held for it. -/
  | stitchWindowOpen (radio : Nat)
  /-- STITCH_WINDOW_CLOSE (R176). A scheduled receive window closes, and an unused held lane is released. -/
  | stitchWindowClose (radio : Nat)
  /-- LANE_SELF_TEST_START (R181). A due 40 µs self-test starts on a free lane when allowed. -/
  | laneSelfTestStart (lane : Nat)
  /-- LANE_SELF_TEST_DONE (R181). A lane self-test ends; the lane passes back to the pool or is retired. -/
  | laneSelfTestDone (lane : Nat) (pass : Bool)
  /-- LANE_STARVED (R185). At the end of a second in which lane_starved advanced, LANE_STARVED is raised. -/
  | laneStarved (radio : Nat)
  /-- POOL_LIMITS_WRITE (R177). A write of SEARCH_POOL_RES or SEARCH_POOL_CAP is checked and applies to later allocations. -/
  | poolLimitsWrite (c : Cmd) (cap : Bool) (mask value : Word)
  /-- SEARCH_PROFILE_APPLY (R184). SEARCH_PROFILE_APPLY writes or stages a search preset. -/
  | searchProfileApply (c : Cmd) (p : Bytes)
  /-- LANE_POOL_SET (R184). LANE_POOL_SET writes or stages the reservations and caps. -/
  | lanePoolSet (c : Cmd) (p : Bytes)
  /-- LANE_POOL_READ (R184). LANE_POOL_READ returns the pool and lane status, copied in one cycle. -/
  | lanePoolRead (c : Cmd) (p : Bytes)
  /-- SEARCH_NOISE_READ (R184). SEARCH_NOISE_READ returns a radio's sub-band noise floors. -/
  | searchNoiseRead (c : Cmd) (p : Bytes)
  /-- QUEUE_HEAD (R196). A contention frame reaches the head of its queue with nothing unresolved for its peer and enters BACKOFF. -/
  | queueHead (frame : Nat)
  /-- BACKOFF_EXPIRY (R197). A backoff elapses, and the frame goes to LISTEN or DECIDE. -/
  | backoffExpiry (frame : Nat)
  /-- LISTEN_DONE (R193). A listen-before-talk period ends clear or busy. -/
  | listenDone (frame : Nat) (busy : Bool)
  /-- DEFER_RX_EXPIRY (R194). A frame's defer_rx allowance is spent, so it goes at its next clear listen. -/
  | deferRxExpiry (frame : Nat)
  /-- ACK_WINDOW_CLOSE (R198). An acknowledgement window closes unmatched, and the attempt ends. -/
  | ackWindowClose (frame : Nat)
  /-- REORDER_TIMEOUT (R214). A held plait frame reaches reorder_to, and the gaps before it are skipped. -/
  | reorderTimeout (plait seq : Nat)
  /-- PLAIT_HISTORY_AGE (R214). A plait idle for the history age with an empty buffer clears valid. -/
  | plaitHistoryAge (plait : Nat)
  /-- PEER_HISTORY_AGE (R204). A peer history not refreshed for the age becomes invalid. -/
  | peerHistoryAge (peer : Nat)
  /-- PLAIT_PROBE_DUE (R212). The probe period of a down member elapses, and the next frame probes it. -/
  | plaitProbeDue (plait member : Nat)
  /-- LBT_WRITE (R193). A write of WMAC_n_LBT is refused with REG_LOCKED when it is looser than the certificate. -/
  | lbtWrite (c : Cmd) (radio : Nat) (mask value : Word)
  /-- MAC_ENABLE_WRITE (R222). A write of WMAC_n_CTL.enable stops or resumes contention traffic on the radio. -/
  | macEnableWrite (c : Cmd) (radio : Nat) (mask value : Word)
  /-- MAC_PROFILE_APPLY (R219). MAC_PROFILE_APPLY writes or stages a medium access preset. -/
  | macProfileApply (c : Cmd) (p : Bytes)
  /-- PEER_WRITE (R192). PEER_WRITE writes a peer entry, resetting its state when the address changes. -/
  | peerWrite (c : Cmd) (p : Bytes)
  /-- PEER_READ (R219). PEER_READ returns a peer entry. -/
  | peerRead (c : Cmd) (p : Bytes)
  /-- PLAIT_SET (R215). PLAIT_SET configures a plait, flushing its state when the peer, remote or mode changes. -/
  | plaitSet (c : Cmd) (p : Bytes)
  /-- PLAIT_READ (R219). PLAIT_READ returns a plait's registers and counters. -/
  | plaitRead (c : Cmd) (p : Bytes)
  /-- RADIO_SEND (R200). RADIO_SEND queues a contention frame with a retry budget from its hint. -/
  | radioSend (c : Cmd) (p : Bytes)
  /-- CONTEXT_FETCH (R230). A client context is fetched from DRAM and pinned three stitch lengths before the stitch. -/
  | contextFetch (client occurrence : Nat) (trouble : UnitFault)
  /-- STITCH_PREPARE (R237). At the preparation instant, the prediction and guard are computed and the window is placed, or the occurrence is skipped as ctx_late. -/
  | stitchPrepare (client occurrence : Nat)
  /-- CTX_LATE (R246). At the end of a second in which ctx_late advanced, CTX_LATE is raised. -/
  | ctxLate (radio : Nat)
  /-- STITCH_END (R239). A stitch ends, and the occurrence is scored and the re-threading level updated. -/
  | stitchEnd (radio : Nat)
  /-- CONTEXT_WRITE_BACK (R230). A context is written back to DRAM and unpinned after its stitch. -/
  | contextWriteBack (client : Nat)
  /-- SCHED_PROFILE_APPLY (R245). SCHED_PROFILE_APPLY writes or stages a pattern preset. -/
  | schedProfileApply (c : Cmd) (p : Bytes)
  /-- CLIENT_WRITE (R227). CLIENT_WRITE checks and writes a client's configuration bytes. -/
  | clientWrite (c : Cmd) (p : Bytes)
  /-- CLIENT_READ (R230). CLIENT_READ returns a consistent 64-byte client context. -/
  | clientRead (c : Cmd) (p : Bytes)
  /-- CLIENT_SEND (R244). CLIENT_SEND queues a downlink frame for a client, with a budget from its hint. -/
  | clientSend (c : Cmd) (p : Bytes)
  /-- ETH_FRAME_RX (R252). A whole Ethernet frame arrives, is checked in order, counted and handed to forwarding. -/
  | ethFrameRx (port : Nat) (frame : Bytes) (codeError stampFails : Bool)
  /-- PAUSE_EXPIRY (R253). A received pause time runs out, and transmission resumes. -/
  | pauseExpiry (port : Nat)
  /-- PAUSE_REPEAT (R254). While the share stays above half, the PAUSE is repeated every 0x8000 quanta. -/
  | pauseRepeat (port : Nat)
  /-- PCS_SYNC_CHANGE (R255). A port's PCS gains or loses code-group synchronisation. -/
  | pcsSyncChange (port : Nat) (sync : Bool)
  /-- LINK_UP (R255). After 1 ms of synchronisation, and auto-negotiation where used, the link comes up. -/
  | linkUp (port : Nat) (partner : Option Nat)
  /-- LINK_DOWN (R255). A loss lasting link_hold takes the link down, flushing or holding queues and removing MAC entries. -/
  | linkDown (port reason : Nat) (remoteFault : Bool)
  /-- EMAC_CTL_WRITE (R257). A write of EMAC_n_CTL that changes speed or an_en restarts the link through 2 ms of electrical idle. -/
  | emacCtlWrite (c : Cmd) (port : Nat) (mask value : Word)
  /-- RESTART_IDLE_END (R257). The 2 ms idle of a link restart ends, and the port switches setting. -/
  | restartIdleEnd (port : Nat)
  /-- RATE_WINDOW_END (R259). A utilisation window ends, and the port may lower or raise its rate. -/
  | rateWindowEnd (port percent : Nat)
  /-- RATE_IDLE_END (R260). The 2 ms electrical idle of a rate change ends, and the SerDes switches rate. -/
  | rateIdleEnd (port : Nat)
  /-- RATE_RETRAIN_TIMEOUT (R260). A link not up within 500 ms of a rate change returns to the former rate, or goes down. -/
  | rateRetrainTimeout (port : Nat)
  /-- ETH_TX_END (R250). A frame finishes on a port's transmit line, and the port is free again. -/
  | ethTxEnd (port : Nat)
  /-- EMAC_PROFILE_APPLY (R266). EMAC_PROFILE_APPLY writes or stages an Ethernet preset. -/
  | emacProfileApply (c : Cmd) (p : Bytes)
  /-- EMAC_STATS_READ (R265). EMAC_STATS_READ returns all counters of a port, copied in one cycle. -/
  | emacStatsRead (c : Cmd) (p : Bytes)
  /-- FWD_LOOKUP (R274). The packet engine runs the lookup steps on one frame and hands its copies to traffic management. -/
  | fwdLookup (trouble : UnitFault)
  /-- MAC_AGE_SCAN (R280). Once a second, dynamic MAC entries older than the age are removed. -/
  | macAgeScan
  /-- FWD_PROFILE_APPLY (R289). FWD_PROFILE_APPLY writes or stages a forwarding preset. -/
  | fwdProfileApply (c : Cmd) (p : Bytes)
  /-- FWD_MAC_WRITE (R278). FWD_MAC_WRITE writes a MAC entry into a way of its bucket. -/
  | fwdMacWrite (c : Cmd) (p : Bytes)
  /-- FWD_MAC_READ (R277). FWD_MAC_READ returns a MAC entry by key. -/
  | fwdMacRead (c : Cmd) (p : Bytes)
  /-- FWD_MAC_FLUSH (R280). FWD_MAC_FLUSH removes dynamic entries by port and VLAN. -/
  | fwdMacFlush (c : Cmd) (p : Bytes)
  /-- FWD_VLAN_WRITE (R290). FWD_VLAN_WRITE writes a VLAN entry. -/
  | fwdVlanWrite (c : Cmd) (p : Bytes)
  /-- FWD_VLAN_READ (R290). FWD_VLAN_READ returns a VLAN entry. -/
  | fwdVlanRead (c : Cmd) (p : Bytes)
  /-- FWD_ROUTE_WRITE (R282). FWD_ROUTE_WRITE writes a prefix entry, refusing duplicates. -/
  | fwdRouteWrite (c : Cmd) (p : Bytes)
  /-- FWD_NH_WRITE (R282). FWD_NH_WRITE writes a next-hop entry. -/
  | fwdNhWrite (c : Cmd) (p : Bytes)
  /-- FWD_ACL_WRITE (R285). FWD_ACL_WRITE writes an access-control entry and zeroes its hit counter. -/
  | fwdAclWrite (c : Cmd) (p : Bytes)
  /-- FWD_TABLE_READ (R289). FWD_TABLE_READ returns a prefix, next-hop or access-control entry. -/
  | fwdTableRead (c : Cmd) (p : Bytes)
  /-- FWD_FRAME_SEND (R289). FWD_FRAME_SEND injects a host frame through the lookup or directly to a port. -/
  | fwdFrameSend (c : Cmd) (p : Bytes)
  /-- TM_PORT_SERVE (R302). A ready port node makes one scheduling decision and sends a frame. -/
  | tmPortServe (node : Nat) (trouble : UnitFault)
  /-- TM_TEMPLATE_APPLY (R311). TM_TEMPLATE_APPLY writes or stages a traffic management template. -/
  | tmTemplateApply (c : Cmd) (p : Bytes)
  /-- TM_MAP_WRITE (R297). TM_MAP_WRITE maps a logical port to a subscriber. -/
  | tmMapWrite (c : Cmd) (p : Bytes)
  /-- TM_MAP_READ (R311). TM_MAP_READ returns a port's subscriber and port node. -/
  | tmMapRead (c : Cmd) (p : Bytes)
  /-- TM_NODE_READ (R311). TM_NODE_READ returns a node's configuration and state. -/
  | tmNodeRead (c : Cmd) (p : Bytes)
  /-- TM_METER_READ (R311). TM_METER_READ returns a meter's settings, buckets and counts. -/
  | tmMeterRead (c : Cmd) (p : Bytes)
  /-- TM_STATS_READ (R311). TM_STATS_READ returns a port node's counters. -/
  | tmStatsRead (c : Cmd) (p : Bytes)
  /-- TIME_MEASUREMENT (R326). An offset measurement from the selected source yields a correction, and the time state changes under Table 11-3. -/
  | timeMeasurement (source : Nat) (correction : Int) (master : MasterInfo)
  /-- ANNOUNCE_TIMEOUT (R326). An announce receipt timeout loses the IEEE 1588 source, and the device enters HOLDOVER. -/
  | announceTimeout (port : Nat)
  /-- PTP_MESSAGE_DUE (R322). A Sync, Announce or Delay_Req interval elapses, and the time function sends the message. -/
  | ptpMessageDue (port kind : Nat)
  /-- TIME_CTL_WRITE (R326). A write of TIME_CTL changes the source, possibly losing the old one. -/
  | timeCtlWrite (c : Cmd) (mask value : Word)
  /-- PTP_CFG_WRITE (R323). A write of TIME_PTP_e_CFG enables IEEE 1588 on a port unless rate lowering or spread holds it. -/
  | ptpCfgWrite (c : Cmd) (port : Nat) (mask value : Word)
  /-- TIME_ANNOUNCE_DUE (R335). Every announce seconds, each radio queues a time announcement broadcast. -/
  | timeAnnounceDue (radio : Nat)
  /-- CONVERTER_START (R330). A converter-start grid instant arrives, and MEAS samples every enabled input. -/
  | converterStart (samples : List Int) (failing : List Nat)
  /-- PULSE_ENABLE_WRITE (R337). Setting a generator's enable checks and latches its values and claims its output. -/
  | pulseEnableWrite (c : Cmd) (generator : Nat) (mask value : Word)
  /-- PULSE_EDGE (R337). A pulse edge instant arrives, driving the output active or inactive and stopping at count. -/
  | pulseEdge (generator : Nat)
  /-- TIME_STAMP_OVERFLOW (R320). At most once a second per port, dropped transmit stamps raise TIME_STAMP_OVERFLOW. -/
  | timeStampOverflow (port : Nat)
  /-- TIME_PROFILE_APPLY (R595). TIME_PROFILE_APPLY writes TIME_CTL and the port IEEE 1588 configurations of a preset. -/
  | timeProfileApply (c : Cmd) (p : Bytes)
  /-- TIME_STATUS (R342). TIME_STATUS returns the time state, source and offsets. -/
  | timeStatus (c : Cmd) (p : Bytes)
  /-- TIME_READ (R342). TIME_READ returns the network time and state. -/
  | timeRead (c : Cmd) (p : Bytes)
  /-- TIME_ADJUST (R327). TIME_ADJUST is a source-3 measurement: slewed, stepped in FREE, or refused. -/
  | timeAdjust (c : Cmd) (p : Bytes)
  /-- TIME_FORCE_SET (R329). TIME_FORCE_SET steps the time base and updates contexts, commits and triggers. -/
  | timeForceSet (c : Cmd) (p : Bytes)
  /-- TIME_STAMP_READ (R320). TIME_STAMP_READ removes entries from a port's transmit stamp queue. -/
  | timeStampRead (c : Cmd) (p : Bytes)
  /-- TIME_FRAME_SEND (R342). TIME_FRAME_SEND sends a frame directly on a port with a stamp identifier. -/
  | timeFrameSend (c : Cmd) (p : Bytes)
  /-- TIME_CLIENT_STEP (R334). TIME_CLIENT_STEP queues a step order for a scheduled client. -/
  | timeClientStep (c : Cmd) (p : Bytes)
  /-- RTC_SECOND (R348). The prescaler completes 32,768 cycles, and the calendar advances one second. -/
  | rtcSecond
  /-- VBAT_SWITCHOVER (R346). VDDIO_A falls below 1.55 V, and the backup domain switches to VBAT. -/
  | vbatSwitchover
  /-- VDDIO_RETURN (R346). VDDIO_A rises above 1.65 V, and the backup domain switches back. -/
  | vddioReturn
  /-- RTC_TIME_W_WRITE (R352). A write of RTC_TIME_W while halted checks and sets the time of day. -/
  | rtcTimeWWrite (c : Cmd) (mask value : Word)
  /-- RTC_DATE_W_WRITE (R352). A write of RTC_DATE_W while halted checks and sets the date. -/
  | rtcDateWWrite (c : Cmd) (mask value : Word)
  /-- RTC_HALT_WRITE (R353). A write of RTC_CTL.halt freezes or releases the prescaler and calendar. -/
  | rtcHaltWrite (c : Cmd) (mask value : Word)
  /-- RTC_WAKE_WRITE (R359). A write of RTC_WAKE sets N and restarts the periodic wake. -/
  | rtcWakeWrite (c : Cmd) (mask value : Word)
  /-- RTC_PERIODIC_WAKE (R359). The periodic wake fires, requesting an exit or raising RTC_WAKE. -/
  | rtcPeriodicWake
  /-- RTC_OSC_STOP (R358). The 32.768 kHz oscillator gives no edge for 1 ms, which sets osc_stopped. -/
  | rtcOscStop
  /-- CALENDAR_SNAPSHOT_EXPIRY (R350). A requester's calendar snapshot ends 2 ms after it was taken. -/
  | calendarSnapshotExpiry (requester : Nat)
  /-- RTC_SET (R356). RTC_SET halts the RTC, writes the date and time, and releases it at once or at an instant. -/
  | rtcSet (c : Cmd) (p : Bytes)
  /-- RTC_READ (R360). RTC_READ returns one consistent calendar copy. -/
  | rtcRead (c : Cmd) (p : Bytes)
  /-- METER_WINDOW_PUBLISH (R366). A metering window is published 200 µs after its end with its quantities, flags and energy. -/
  | meterWindowPublish
  /-- CONTROL_CYCLE (R373). A control cycle fires: the snapshot is taken, the rules are evaluated and actions are issued. -/
  | controlCycle
  /-- CYCLE_OUTPUT_APPLY (R373). At trigger plus 200 µs the cycle's output writes take effect, or the cycle is skipped. -/
  | cycleOutputApply (evaluated : Bool)
  /-- REPORT_AGE_EXPIRY (R372). A stored report passes age_max and becomes stale. -/
  | reportAgeExpiry (client : Nat)
  /-- OUT_READBACK_CHECK (R382). Every 1 ms a relay output is read back and the mismatch state updated. -/
  | outReadbackCheck (output : Nat) (level : Bool)
  /-- OUT_HOLD_EXPIRY (R385). Held outputs not passed back within 10 s go high-impedance. -/
  | outHoldExpiry
  /-- CAPTURE_EDGE (R386). A capture input level persists for its debounce time and counts as an edge. -/
  | captureEdge (input : Nat) (level : Bool) (stamp : Nat)
  /-- SER_RX_BYTE (R387). A UART receives a byte into its buffer, or drops it on overrun. -/
  | serRxByte (port : Nat) (byte : Byte)
  /-- SER_RX (R387). After idle character times, or 256 bytes, the received bytes are raised as SER_RX. -/
  | serRx (port : Nat)
  /-- MEAS_IN_CFG_WRITE (R363). A write of MEAS_IN_i_CFG enables an input and routes a converter channel to it. -/
  | measInCfgWrite (c : Cmd) (input : Nat) (mask value : Word)
  /-- MEAS_PROFILE_APPLY (R388). MEAS_PROFILE_APPLY writes or stages a metering setup. -/
  | measProfileApply (c : Cmd) (p : Bytes)
  /-- MEAS_READ (R390). MEAS_READ returns a pair's window results as one snapshot. -/
  | measRead (c : Cmd) (p : Bytes)
  /-- MEAS_WAVE_CAPTURE (R388). MEAS_WAVE_CAPTURE starts a waveform capture to DRAM and replies ACCEPTED. -/
  | measWaveCapture (c : Cmd) (p : Bytes)
  /-- MEAS_WAVE_DONE (R388). A waveform capture ends, and its final reply and MEAS_WAVE_DONE follow. -/
  | measWaveDone
  /-- MEAS_WAVE_READ (R388). MEAS_WAVE_READ returns captured samples. -/
  | measWaveRead (c : Cmd) (p : Bytes)
  /-- CTLP_PROGRAM_WRITE (R379). CTLP_PROGRAM_WRITE checks rules and writes them into the staging bank. -/
  | ctlpProgramWrite (c : Cmd) (p : Bytes)
  /-- CTLP_PROGRAM_COMMIT (R379). CTLP_PROGRAM_COMMIT schedules the bank swap at the next or a given cycle. -/
  | ctlpProgramCommit (c : Cmd) (p : Bytes)
  /-- CTLP_PROGRAM_READ (R379). CTLP_PROGRAM_READ returns rules of a bank. -/
  | ctlpProgramRead (c : Cmd) (p : Bytes)
  /-- CTLP_MSG_WRITE (R378). CTLP_MSG_WRITE writes or clears a message table entry. -/
  | ctlpMsgWrite (c : Cmd) (p : Bytes)
  /-- CTLP_GROUP_WRITE (R372). CTLP_GROUP_WRITE assigns clients to report groups. -/
  | ctlpGroupWrite (c : Cmd) (p : Bytes)
  /-- CTLP_REPORT_READ (R372). CTLP_REPORT_READ returns a client's stored report. -/
  | ctlpReportRead (c : Cmd) (p : Bytes)
  /-- OUT_SET (R383). OUT_SET drives an unheld output. -/
  | outSet (c : Cmd) (p : Bytes)
  /-- OUT_OVERRIDE (R383). OUT_OVERRIDE forces or releases an output held by the control program. -/
  | outOverride (c : Cmd) (p : Bytes)
  /-- SER_WRITE (R387). SER_WRITE queues bytes for a UART transmit buffer. -/
  | serWrite (c : Cmd) (p : Bytes)
  /-- SER_READ (R387). SER_READ returns waiting received bytes. -/
  | serRead (c : Cmd) (p : Bytes)
  /-- CIPHER_OP_START (R394). A free engine takes the head request of the highest queue and loads its key. -/
  | cipherOpStart (engine : Nat)
  /-- CIPHER_OP_DONE (R395). A cipher operation ends and releases its output, or is re-executed on a failed self-check. -/
  | cipherOpDone (engine : Nat) (selfCheck : Bool)
  /-- ALARM_DETECTED (R501). An alarm detector fires: the keys are erased, the latch is set and the debug level is closed. -/
  | alarmDetected (alarm : Alarm)
  /-- PREV_PAGE_HOLD_EXPIRY (R406). The previous radio page stops decoding its generation after prev_hold seconds. -/
  | prevPageHoldExpiry
  /-- KEY_LOAD (R399). KEY_LOAD loads a wrapped or plain key into an empty page with its binding. -/
  | keyLoad (c : Cmd) (p : Bytes)
  /-- KEY_ERASE (R399). KEY_ERASE empties the pages of a mask. -/
  | keyErase (c : Cmd) (p : Bytes)
  /-- KEY_STATUS (R397). KEY_STATUS returns each page's configuration and check value. -/
  | keyStatus (c : Cmd) (p : Bytes)
  /-- CIPHER_RUN (R398). CIPHER_RUN encrypts, decrypts, tags or verifies data with a page bound to the session. -/
  | cipherRun (c : Cmd) (p : Bytes)
  /-- DRAM_ACCESS (R417). The arbiter serves one 64-byte access for a port, with ECC correction and the page policy. -/
  | dramAccess (port address : Nat) (write : Option Bytes) (ecc : EccFault) (region level : Nat)
  /-- REFRESH_DUE (R418). A per-bank refresh falls due and is issued or postponed under panic. -/
  | refreshDue (channel rank bank : Nat)
  /-- MR4_READ_DUE (R418). Every 16 ms MR4 is read to set the refresh rate. -/
  | mr4ReadDue (rate : Nat)
  /-- DQS_DRIFT_CHECK (R415). Every interval the DQS oscillator is read, and a rank is re-centred when drifted. -/
  | dqsDriftCheck (channel rank drift : Nat)
  /-- ACT_WINDOW_END (R420). A refresh window ends, and activation counts and throttles reset. -/
  | actWindowEnd
  /-- SCRUB_READ (R421). The patrol scrubber reads the next address and corrects or scores errors. -/
  | scrubRead (ecc : EccFault) (region : Nat)
  /-- DRAM_PROFILE_APPLY (R423). DRAM_PROFILE_APPLY writes or stages port weights. -/
  | dramProfileApply (c : Cmd) (p : Bytes)
  /-- DRAM_ROW_RETIRE (R423). DRAM_ROW_RETIRE retires and remaps a named row. -/
  | dramRowRetire (c : Cmd) (p : Bytes)
  /-- DRAM_STATUS (R423). DRAM_STATUS returns the DRAM configuration and status registers. -/
  | dramStatus (c : Cmd) (p : Bytes)
  /-- TIMER_WRAP (R425). A timer's count would reach its period, so it wraps and a period event occurs. -/
  | timerWrap (timer : Nat)
  /-- TIMER_COMPARE (R433). A timer's count reaches CMP, so a compare event occurs and its output changes. -/
  | timerCompare (timer : Nat)
  /-- TMR_PERIOD_WRITE (R428). A write of TMR_n_PERIOD takes effect at once, or at the next wrap. -/
  | tmrPeriodWrite (c : Cmd) (timer : Nat) (mask value : Word)
  /-- TMR_CNT_WRITE (R425). A write of TMR_n_CNT sets the count of a disabled timer. -/
  | tmrCntWrite (c : Cmd) (timer : Nat) (mask value : Word)
  /-- TMR_CTL_WRITE (R434). A write of TMR_n_CTL enables the timer and claims or releases its output. -/
  | tmrCtlWrite (c : Cmd) (timer : Nat) (mask value : Word)
  /-- TMR_GO_WRITE (R432). A write of TMR_GO arms selected timers to start together. -/
  | tmrGoWrite (c : Cmd) (mask value : Word)
  /-- TMR_GO_RELEASE (R432). At the first strobe edge 64 µs after the write, the selected timers start. -/
  | tmrGoRelease
  /-- TMR_CAPTURE_READ (R436). TMR_CAPTURE_READ removes entries from a capture queue. -/
  | tmrCaptureRead (c : Cmd) (p : Bytes)
  /-- LOW_POWER_EXIT (R447). An enabled wake source requests exit from Doze or Standby, and the device returns to Run or Trim. -/
  | lowPowerExit
  /-- WAKE_FRAME (R450). A frame on the wake port is matched and acknowledged, and may request exit. -/
  | wakeFrame (address : Nat) (probe stop : Bool)
  /-- HOST_WAKE_SIGNAL (R447). A quad SPI chip-select assertion requests exit. -/
  | hostWakeSignal
  /-- CLOCK_MONITOR_WINDOW (R456). A monitor window ends, and each clock source is judged good or failed. -/
  | clockMonitorWindow (source count : Nat)
  /-- PLL_LOCK_LOSS (R459). A PLL loses lock, so its island's clock stops and the loss is scored. -/
  | pllLockLoss (pll : Nat)
  /-- PLL_RELOCK (R459). A PLL relocks, and its island's clock restarts. -/
  | pllRelock (pll : Nat)
  /-- CLK_GATE_CTL_WRITE (R453). A write of CLK_GATE_CTL sets gates with their parents, or refuses to clear a gate in use. -/
  | clkGateCtlWrite (c : Cmd) (mask value : Word)
  /-- CLK_SSC_WRITE (R455). A write of CLK_SSC_g sets spread depth and rate, unless time holds the group. -/
  | clkSscWrite (c : Cmd) (group : Nat) (mask value : Word)
  /-- PWR_STATUS (R460). PWR_STATUS returns the power state and wake registers. -/
  | pwrStatus (c : Cmd) (p : Bytes)
  /-- CLK_STATUS (R460). CLK_STATUS returns clock source, gate, PLL and monitor status. -/
  | clkStatus (c : Cmd) (p : Bytes)
  /-- SUPPLY_LOSS (R576). A supply below its falling threshold for 1 µs asserts reset and outputs go high-impedance. -/
  | supplyLoss (supply : Nat)
  /-- POWER_ON_RESET (R463). Power-on reset is released 2 ms after the last supply is good and RESET_N is high. -/
  | powerOnReset (testmode : Bool)
  /-- RESET_N_ASSERT (R463). RESET_N driven low for 1 µs gives a cold reset. -/
  | resetNAssert
  /-- PCIE_FUNDAMENTAL_RESET (R463). The PCIe fundamental reset resets the endpoint and disables every PCIe ring. -/
  | pcieFundamentalReset
  /-- COLD_START (R484). A cold start runs its phases, chooses the firmware and replays the configuration. -/
  | coldStart (found : StartUp)
  /-- WARM_RESET (R465). A warm reset keeps the retained state and replays the running configuration from DRAM. -/
  | warmReset (walk : ChainWalk)
  /-- WDT_KICK (R467). Firmware writes SYS_WDT_KICK and restarts the watchdog; host writes are refused. -/
  | wdtKick (c : Option Cmd) (mask value : Word)
  /-- WATCHDOG_EXPIRY (R467). The watchdog expires: ALIVE_N is released and a warm reset follows. -/
  | watchdogExpiry
  /-- CONFIRM_TIMEOUT (R476). Trial firmware not confirmed in time is rejected, and a warm reset with hold follows. -/
  | confirmTimeout
  /-- FW_WRITE (R474). FW_WRITE writes image bytes into the slot that is not running. -/
  | fwWrite (c : Cmd) (p : Bytes)
  /-- FW_ACTIVATE (R475). FW_ACTIVATE starts verification of the written image and replies ACCEPTED. -/
  | fwActivate (c : Cmd) (p : Bytes)
  /-- FIRMWARE_VERIFY_DONE (R475). Verification ends: the slot is marked trial, OK is sent and a warm reset is scheduled. -/
  | firmwareVerifyDone
  /-- FW_CONFIRM (R476). FW_CONFIRM confirms trial firmware and raises the rollback floor. -/
  | fwConfirm (c : Cmd) (p : Bytes)
  /-- FW_STATUS (R485). FW_STATUS returns the slot records and headers. -/
  | fwStatus (c : Cmd) (p : Bytes)
  /-- CFG_SAVE (R479). CFG_SAVE captures the running configuration and starts writing it to a slot. -/
  | cfgSave (c : Cmd) (p : Bytes)
  /-- CFG_WRITE (R485). CFG_WRITE writes bytes into the configuration staging buffer. -/
  | cfgWrite (c : Cmd) (p : Bytes)
  /-- CFG_COMMIT_IMAGE (R486). CFG_COMMIT_IMAGE checks the staged image and starts writing it to a slot. -/
  | cfgCommitImage (c : Cmd) (p : Bytes)
  /-- CONFIG_FLASH_WRITE_DONE (R482). The erase, program, read-back and check of a configuration slot end, and the final reply follows. -/
  | configFlashWriteDone (readBack : Bool)
  /-- CFG_READ (R485). CFG_READ returns bytes of a configuration image. -/
  | cfgRead (c : Cmd) (p : Bytes)
  /-- SEC_STAGE_WRITE (R507). SEC_STAGE_WRITE writes bytes into the security staging buffer. -/
  | secStageWrite (c : Cmd) (p : Bytes)
  /-- LIFECYCLE_SET (R490). LIFECYCLE_SET makes a permitted lifecycle transition with its effects. -/
  | lifecycleSet (c : Cmd) (p : Bytes)
  /-- IDENTITY_GEN (R493). IDENTITY_GEN creates the identity key pairs once in Manufacture. -/
  | identityGen (c : Cmd) (p : Bytes)
  /-- DEV_CERT_WRITE (R494). DEV_CERT_WRITE verifies and stores the device certificate. -/
  | devCertWrite (c : Cmd) (p : Bytes)
  /-- DEV_CERT_READ (R494). DEV_CERT_READ returns certificate bytes. -/
  | devCertRead (c : Cmd) (p : Bytes)
  /-- ATTEST (R495). ATTEST copies the report values and starts signing them. -/
  | attest (c : Cmd) (p : Bytes)
  /-- ATTEST_SIGN_DONE (R495). Signing ends, and ATTEST's final reply gives the report length. -/
  | attestSignDone
  /-- ATTEST_READ (R495). ATTEST_READ returns report bytes. -/
  | attestRead (c : Cmd) (p : Bytes)
  /-- KTK_LOAD (R497). KTK_LOAD decrypts and installs the key-transport key. -/
  | ktkLoad (c : Cmd) (p : Bytes)
  /-- DBG_AUTH_SET (R504). DBG_AUTH_SET writes the debug authority digests to OTP once. -/
  | dbgAuthSet (c : Cmd) (p : Bytes)
  /-- DBG_NONCE (R506). DBG_NONCE issues a fresh debug nonce. -/
  | dbgNonce (c : Cmd) (p : Bytes)
  /-- DBG_NONCE_EXPIRY (R506). An outstanding debug nonce becomes void after 600 s. -/
  | dbgNonceExpiry
  /-- DBG_UNLOCK (R508). DBG_UNLOCK checks a token and grants a debug level. -/
  | dbgUnlock (c : Cmd) (p : Bytes)
  /-- DBG_LOCK (R510). DBG_LOCK returns the debug level to Closed. -/
  | dbgLock (c : Cmd) (p : Bytes)
  /-- DEBUG_LIFETIME_EXPIRY (R510). A token's lifetime ends, and the debug level returns to Closed. -/
  | debugLifetimeExpiry
  /-- DEBUG_ACCESS (R503). A TAP access is served or refused by the debug level. -/
  | debugAccess (access : DebugAccess)
  /-- SEC_AUTH (R499). SEC_AUTH issues a challenge or checks the host tag to authenticate an in-band session. -/
  | secAuth (c : Cmd) (p : Bytes)
  /-- AUTH_TIMEOUT (R498). An in-band session not authenticated within auth_s closes. -/
  | authTimeout (session : Nat)
  /-- CHAIN_ENUM (R518). CHAIN_ENUM walks the chain and numbers every device. -/
  | chainEnum (c : Cmd) (p : Bytes) (walk : ChainWalk)
  /-- CHAIN_STATUS (R534). CHAIN_STATUS returns chain status, presence, routes and hop counts. -/
  | chainStatus (c : Cmd) (p : Bytes)
  /-- CHAIN_PORT_SET (R534). CHAIN_PORT_SET enables or disables a Cordonnet port. -/
  | chainPortSet (c : Cmd) (p : Bytes)
  /-- CHAIN_CTL_WRITE (R535). A write of CHAIN_CTL sets head, auto_enum and port enables; clearing a port's enable acts as a link loss. -/
  | chainCtlWrite (c : Cmd) (mask value : Word)
  /-- CORDONNET_FRAME_RX (R521). A Cordonnet frame arrives, is checked and is delivered, relayed or discarded. -/
  | cordonnetFrameRx (port : Nat) (frame : Bytes) (control : Option ChainControl)
  /-- HOP_RESEND (R523). A kind 2 or 3 frame unacknowledged after 20 µs is resent once. -/
  | hopResend (port seq : Nat)
  /-- CHAIN_LINK_LOSS (R532). A port loses block lock for 10 µs; paths are recomputed and devices may leave the chain. -/
  | chainLinkLoss (port lost : Nat)
  /-- CHAIN_LINK_UP (R532). A port regains its link after 1 ms of lock, and devices rejoin. -/
  | chainLinkUp (port : Nat) (beyond : List Bytes) (ring : Bool)
  /-- DELAY_BLOCK_DUE (R530). Every 16 ms a port exchanges delay blocks and filters the path delay. -/
  | delayBlockDue (port : Nat) (t1 t2 t3 t4 : Int)
  /-- TIME_BLOCK_DUE (R531). Every 1 ms the head sends a time block on each port. -/
  | timeBlockDue
  /-- FORWARDED_TAG_ORPHANED (R525). 1 ms after a target leaves, its outstanding tags receive NO_SUCH_DEVICE. -/
  | forwardedTagOrphaned (session tag : Nat)
  /-- SCORE_LEAK (R536). A leak period passes, and each score falls by 1. -/
  | scoreLeak (kind : Nat)
  /-- SPARE_BRING_IN (R543). The darning engine starts bringing a spare in for a retired unit, once any earlier bring-in of the class ends. -/
  | spareBringIn (kind : Nat)
  /-- SPARE_SELF_TEST_DONE (R543). A spare's self-test ends; it takes state and enters service, or it is retired and the next is tried. -/
  | spareSelfTestDone (kind : Nat) (pass : Bool) (took : Nat)
  /-- HEARTBEAT_LOSS (R548). A processor without a heartbeat for 100 µs is declared failed. -/
  | heartbeatLoss (processor took : Nat) (memoryError : Bool)
  /-- CHECKPOINT_DUE (R548). Every 250 µs a processor writes a checkpoint of its tasks. -/
  | checkpointDue (processor : Nat)
  /-- WEAR_HOUR (R550). Every hour the wear counters are updated and logged, and thresholds are checked. -/
  | wearHour (hot : Bool)
  /-- DARN_STATUS (R555). DARN_STATUS returns the service, class and wear status. -/
  | darnStatus (c : Cmd) (p : Bytes)
  /-- DARN_UNIT_READ (R555). DARN_UNIT_READ returns unit scores and states. -/
  | darnUnitRead (c : Cmd) (p : Bytes)
  /-- DARN_RETIRE (R555). DARN_RETIRE retires a named unit and brings in a spare. -/
  | darnRetire (c : Cmd) (p : Bytes)
  /-- DARN_LOG_READ (R555). DARN_LOG_READ returns darning log records. -/
  | darnLogRead (c : Cmd) (p : Bytes)
  /-- DARN_PROFILE_APPLY (R555). DARN_PROFILE_APPLY writes or stages the class thresholds. -/
  | darnProfileApply (c : Cmd) (p : Bytes)
  /-- LIFECYCLE_TRANSITION_DONE (R491). The lifecycle transition's effects and state-fuse programming finish, the final reply follows within 200 ms of ACCEPTED, and LIFECYCLE_CHANGED is raised. -/
  | lifecycleTransitionDone
  deriving DecidableEq, Repr

end Sys2Proof
end

