-- ==== Sys2Proof/Machine/RegMap.lean ====
section
/-! DEFINITION. The register space of R587: the address of every register, its access type, its reset value,
the bits a write can change and the range of each of its fields, row for row from the register tables of the
chapters. Written from those tables; a row stands for all instances of its register. -/

namespace Sys2Proof.Machine

/-- The access types of Table 0-3. -/
inductive Access where
  | rw
  | ro
  | w1c
  | wo
  | rsn
  | seal
  | txn
  deriving DecidableEq, Repr

/-- A field `[hi:lo]` with the least and the greatest value the chapter states for it. -/
structure FieldRange where
  hi : Nat
  lo : Nat
  signed : Bool
  least : Int
  greatest : Int
  deriving DecidableEq, Repr

/-- One row of a register table: `n1` by `n2` instances from `base`, `s1` and `s2` apart. -/
structure RegRow where
  base : Nat
  n1 : Nat
  s1 : Nat
  n2 : Nat
  s2 : Nat
  access : Access
  reset : Word
  /-- Reset values by instance of the last dimension, where they differ. -/
  resets : List Word
  /-- The bits that a write changes: not the reserved bits (R4), not the fields marked read only (R5). -/
  mask : Word
  fields : List FieldRange
  deriving DecidableEq, Repr

/-- The instance of a row at an address: the indexes of its two dimensions. -/
def RegRow.find? (r : RegRow) (a : Nat) : Option (Nat × Nat) :=
  if a < r.base then none
  else
    let d := a - r.base
    let i := if r.n1 = 1 then 0 else min (d / r.s1) (r.n1 - 1)
    let e := d - r.s1 * i
    let j := if r.n2 = 1 then 0 else min (e / r.s2) (r.n2 - 1)
    if e = (if r.n2 = 1 then 0 else r.s2 * j) then some (i, j) else none

/-- The reset value of the instance with indexes `i`, `j`. -/
def RegRow.resetAt (r : RegRow) (i j : Nat) : Word :=
  match r.resets with
  | [] => r.reset
  | _ => r.resets.getD (if r.n2 = 1 then i else j) r.reset

namespace Reg

/-- SYS_ID (Table 2-14). -/
abbrev sysId : Nat := 0x0

/-- SYS_SUMMARY (Table 2-14). -/
abbrev sysSummary : Nat := 0x4

/-- SYS_CMD_RX_LO (Table 2-14). -/
abbrev sysCmdRxLo : Nat := 0x10

/-- SYS_CMD_RX_HI (Table 2-14). -/
abbrev sysCmdRxHi : Nat := 0x14

/-- SYS_CMD_DROP (Table 2-14). -/
abbrev sysCmdDrop : Nat := 0x18

/-- SYS_CMD_ERR (Table 2-14). -/
abbrev sysCmdErr : Nat := 0x1C

/-- SYS_SESSION_IDLE (Table 2-14). -/
abbrev sysSessionIdle : Nat := 0x20

/-- SYS_INBAND_CTL (Table 2-14). -/
abbrev sysInbandCtl : Nat := 0x24

/-- SYS_SESSION_STAT (Table 2-14). -/
abbrev sysSessionStat : Nat := 0x28

/-- SYS_RESET_CAUSE (Table 18-10). -/
abbrev sysResetCause : Nat := 0x100

/-- SYS_BOOT_STAT (Table 18-10). -/
abbrev sysBootStat : Nat := 0x104

/-- SYS_FW_VER (Table 18-10). -/
abbrev sysFwVer : Nat := 0x108

/-- SYS_CFG_SEQ (Table 18-10). -/
abbrev sysCfgSeq : Nat := 0x10C

/-- SYS_CFG_STAT (Table 18-10). -/
abbrev sysCfgStat : Nat := 0x110

/-- SYS_WDT_CFG (Table 18-10). -/
abbrev sysWdtCfg : Nat := 0x114

/-- SYS_WDT_KICK (Table 18-10). -/
abbrev sysWdtKick : Nat := 0x118

/-- SYS_FW_CONFIRM_CFG (Table 18-10). -/
abbrev sysFwConfirmCfg : Nat := 0x11C

/-- CHAIN_CTL (Table 20-5). -/
abbrev chainCtl : Nat := 0x10000

/-- CHAIN_STAT (Table 20-5). -/
abbrev chainStat : Nat := 0x10004

/-- CHAIN_MAP_LO (Table 20-5). -/
abbrev chainMapLo : Nat := 0x10008

/-- CHAIN_MAP_HI (Table 20-5). -/
abbrev chainMapHi : Nat := 0x1000C

/-- CHAIN_ROUTE_LO (Table 20-5). -/
abbrev chainRouteLo : Nat := 0x10010

/-- CHAIN_ROUTE_HI (Table 20-5). -/
abbrev chainRouteHi : Nat := 0x10014

/-- CHAIN_PORT_p_STAT (Table 20-5). -/
def chainPortStat (i : Nat) : Nat := 0x10020 + 0x20 * i

/-- CHAIN_PORT_p_DELAY (Table 20-5). -/
def chainPortDelay (i : Nat) : Nat := 0x10024 + 0x20 * i

/-- CHAIN_PORT_p_ASYM (Table 20-5). -/
def chainPortAsym (i : Nat) : Nat := 0x10028 + 0x20 * i

/-- CHAIN_PORT_p_CNTk_LO (Table 20-5). -/
def chainPortCntLo (i j : Nat) : Nat := 0x10100 + 0x40 * i + 0x8 * j

/-- CHAIN_PORT_p_CNTk_HI (Table 20-5). -/
def chainPortCntHi (i j : Nat) : Nat := 0x10104 + 0x40 * i + 0x8 * j

/-- SEC_LIFECYCLE (Table 19-12). -/
abbrev secLifecycle : Nat := 0x20000

/-- SEC_DBG_STAT (Table 19-12). -/
abbrev secDbgStat : Nat := 0x20004

/-- SEC_ALARM_CFG (Table 19-12). -/
abbrev secAlarmCfg : Nat := 0x20008

/-- SEC_ALARM_LATCH (Table 19-12). -/
abbrev secAlarmLatch : Nat := 0x2000C

/-- SEC_ROLLBACK (Table 19-12). -/
abbrev secRollback : Nat := 0x20010

/-- SEC_ID_i (Table 19-12). -/
def secId (i : Nat) : Nat := 0x20014 + 0x4 * i

/-- SEC_INBAND_CFG (Table 19-12). -/
abbrev secInbandCfg : Nat := 0x20024

/-- SEC_CNT (Table 19-12). -/
def secCnt (i : Nat) : Nat := 0x20040 + 0x4 * i

/-- TRXn_STATE (Table 3-10). -/
def trxState (i : Nat) : Nat := 0x100000 + 0x10000 * i

/-- TRXn_STATE_CTL (Table 3-10). -/
def trxStateCtl (i : Nat) : Nat := 0x100004 + 0x10000 * i

/-- TRXn_SYN_FREQ (Table 3-10). -/
def trxSynFreq (i : Nat) : Nat := 0x100008 + 0x10000 * i

/-- TRXn_HOP_FREQ (Table 3-10). -/
def trxHopFreq (i : Nat) : Nat := 0x10000C + 0x10000 * i

/-- TRXn_SYN_CTL (Table 3-10). -/
def trxSynCtl (i : Nat) : Nat := 0x100010 + 0x10000 * i

/-- TRXn_CAL_CTL (Table 3-10). -/
def trxCalCtl (i : Nat) : Nat := 0x100014 + 0x10000 * i

/-- TRXn_CAL_STAT (Table 3-10). -/
def trxCalStat (i : Nat) : Nat := 0x100018 + 0x10000 * i

/-- TRXn_TX_PWR (Table 3-10). -/
def trxTxPwr (i : Nat) : Nat := 0x10001C + 0x10000 * i

/-- TRXn_FEM_MAP (Table 3-10). -/
def trxFemMap (i : Nat) : Nat := 0x100020 + 0x10000 * i

/-- TRXn_FEM_TIME (Table 3-10). -/
def trxFemTime (i : Nat) : Nat := 0x100024 + 0x10000 * i

/-- TRXn_COEX_CTL (Table 3-10). -/
def trxCoexCtl (i : Nat) : Nat := 0x100028 + 0x10000 * i

/-- TRXn_COEX_STAT (Table 3-10). -/
def trxCoexStat (i : Nat) : Nat := 0x10002C + 0x10000 * i

/-- TRXn_TEMP (Table 3-10). -/
def trxTemp (i : Nat) : Nat := 0x100030 + 0x10000 * i

/-- TRXn_CNT (Table 3-10). -/
def trxCnt (i j : Nat) : Nat := 0x100040 + 0x10000 * i + 0x4 * j

/-- TRX0_RGL_BAND_LO (Table 3-10). -/
def rglBandLo (i : Nat) : Nat := 0x100800 + 0x10 * i

/-- TRX0_RGL_BAND_CFG (Table 3-10). -/
def rglBandCfg (i : Nat) : Nat := 0x100804 + 0x10 * i

/-- TRX0_RGL_DUTY_LIM (Table 3-10). -/
def rglDutyLim (i : Nat) : Nat := 0x100808 + 0x10 * i

/-- TRX0_RGL_DUTY_USED (Table 3-10). -/
def rglDutyUsed (i : Nat) : Nat := 0x10080C + 0x10 * i

/-- TRX0_RGL_CERT_VER (Table 3-10). -/
abbrev rglCertVer : Nat := 0x100900

/-- TRX0_RGL_CERT_STAT (Table 3-10). -/
abbrev rglCertStat : Nat := 0x100904

/-- TRX0_RGL_DUTY_WARN (Table 3-10). -/
abbrev rglDutyWarn : Nat := 0x100908

/-- TRXn_PROF_CFGk (Table 4-13). -/
def profCfg (i j : Nat) : Nat := 0x100100 + 0x10000 * i + 0x10 * j

/-- TRXn_PROF_SYNCk (Table 4-13). -/
def profSync (i j : Nat) : Nat := 0x100104 + 0x10000 * i + 0x10 * j

/-- TRXn_PROF_SUNk (Table 4-13). -/
def profSun (i j : Nat) : Nat := 0x100108 + 0x10000 * i + 0x10 * j

/-- TRXn_FILET_CFG (Table 4-13). -/
def filetCfg (i : Nat) : Nat := 0x100180 + 0x10000 * i

/-- TRXn_AFC_CTL (Table 4-13). -/
def afcCtl (i : Nat) : Nat := 0x100184 + 0x10000 * i

/-- TRXn_MODCNT (Table 4-13). -/
def modCnt (i j : Nat) : Nat := 0x100190 + 0x10000 * i + 0x4 * j

/-- SEARCH_n_CTL (Table 5-6). -/
def searchCtl (i : Nat) : Nat := 0x130000 + 0x100 * i

/-- SEARCH_n_DET_THR (Table 5-6). -/
def searchDetThr (i : Nat) : Nat := 0x130004 + 0x100 * i

/-- SEARCH_n_SB_EN_LO (Table 5-6). -/
def searchSbEnLo (i : Nat) : Nat := 0x130008 + 0x100 * i

/-- SEARCH_n_SB_EN_HI (Table 5-6). -/
def searchSbEnHi (i : Nat) : Nat := 0x13000C + 0x100 * i

/-- SEARCH_n_SB_ACT_LO (Table 5-6). -/
def searchSbActLo (i : Nat) : Nat := 0x130010 + 0x100 * i

/-- SEARCH_n_SB_ACT_HI (Table 5-6). -/
def searchSbActHi (i : Nat) : Nat := 0x130014 + 0x100 * i

/-- SEARCH_n_CNT (Table 5-6). -/
def searchCnt (i j : Nat) : Nat := 0x130040 + 0x100 * i + 0x4 * j

/-- SEARCH_n_NF (Table 5-6). -/
def searchNf (i j : Nat) : Nat := 0x130080 + 0x100 * i + 0x4 * j

/-- SEARCH_POOL_RES (Table 5-6). -/
abbrev poolRes : Nat := 0x130400

/-- SEARCH_POOL_CAP (Table 5-6). -/
abbrev poolCap : Nat := 0x130404

/-- SEARCH_POOL_STAT (Table 5-6). -/
abbrev poolStat : Nat := 0x130408

/-- SEARCH_POOL_HELD (Table 5-6). -/
abbrev poolHeld : Nat := 0x13040C

/-- SEARCH_POOL_MAP (Table 5-6). -/
def poolMap (i : Nat) : Nat := 0x130410 + 0x4 * i

/-- SEARCH_LANE_STAT (Table 5-6). -/
def laneStat (i : Nat) : Nat := 0x130800 + 0x4 * i

/-- WMAC_n_CTL (Table 6-7). -/
def wmacCtl (i : Nat) : Nat := 0x140000 + 0x100 * i

/-- WMAC_n_ADDR (Table 6-7). -/
def wmacAddr (i : Nat) : Nat := 0x140004 + 0x100 * i

/-- WMAC_n_LBT (Table 6-7). -/
def wmacLbt (i : Nat) : Nat := 0x140008 + 0x100 * i

/-- WMAC_n_BO (Table 6-7). -/
def wmacBo (i : Nat) : Nat := 0x14000C + 0x100 * i

/-- WMAC_n_ACK (Table 6-7). -/
def wmacAck (i : Nat) : Nat := 0x140010 + 0x100 * i

/-- WMAC_n_CNT (Table 6-7). -/
def wmacCnt (i j : Nat) : Nat := 0x140040 + 0x100 * i + 0x4 * j

/-- WMAC_GLB_HIST (Table 6-7). -/
abbrev wmacGlbHist : Nat := 0x140300

/-- WMAC_PLT_CFG (Table 6-7). -/
def pltCfg (i : Nat) : Nat := 0x140400 + 0x20 * i

/-- WMAC_PLT_MEMB01 (Table 6-7). -/
def pltMemb01 (i : Nat) : Nat := 0x140404 + 0x20 * i

/-- WMAC_PLT_MEMB23 (Table 6-7). -/
def pltMemb23 (i : Nat) : Nat := 0x140408 + 0x20 * i

/-- WMAC_PLT_TIME (Table 6-7). -/
def pltTime (i : Nat) : Nat := 0x14040C + 0x20 * i

/-- WMAC_PLT_TX (Table 6-7). -/
def pltTx (i : Nat) : Nat := 0x140410 + 0x20 * i

/-- WMAC_PLT_RX (Table 6-7). -/
def pltRx (i : Nat) : Nat := 0x140414 + 0x20 * i

/-- WMAC_PLT_MAP_LO (Table 6-7). -/
def pltMapLo (i : Nat) : Nat := 0x140418 + 0x20 * i

/-- WMAC_PLT_MAP_HI (Table 6-7). -/
def pltMapHi (i : Nat) : Nat := 0x14041C + 0x20 * i

/-- WMAC_PEER_CFG (Table 6-7). -/
def peerCfg (i : Nat) : Nat := 0x148000 + 0x40 * i

/-- WMAC_PEER_ADDR (Table 6-7). -/
def peerAddr (i : Nat) : Nat := 0x148004 + 0x40 * i

/-- WMAC_PEER_SEQ (Table 6-7). -/
def peerSeq (i : Nat) : Nat := 0x148008 + 0x40 * i

/-- WMAC_PEER_AFC (Table 6-7). -/
def peerAfc (i : Nat) : Nat := 0x14800C + 0x40 * i

/-- WMAC_PEER_HEARD (Table 6-7). -/
def peerHeard (i : Nat) : Nat := 0x148010 + 0x40 * i

/-- WMAC_PEER_SIG (Table 6-7). -/
def peerSig (i : Nat) : Nat := 0x148014 + 0x40 * i

/-- WMAC_PEER_CNT (Table 6-7). -/
def peerCnt (i j : Nat) : Nat := 0x148018 + 0x40 * i + 0x4 * j

/-- SCHED_n_PAT (Table 7-8). -/
def schedPat (i : Nat) : Nat := 0x150000 + 0x100 * i

/-- SCHED_n_PHASE (Table 7-8). -/
def schedPhase (i : Nat) : Nat := 0x150004 + 0x100 * i

/-- SCHED_n_DRIFT (Table 7-8). -/
def schedDrift (i : Nat) : Nat := 0x150008 + 0x100 * i

/-- SCHED_n_OCC (Table 7-8). -/
def schedOcc (i : Nat) : Nat := 0x15000C + 0x100 * i

/-- SCHED_n_CNT (Table 7-8). -/
def schedCnt (i j : Nat) : Nat := 0x150040 + 0x100 * i + 0x4 * j

/-- SCHED_GLB_CTL (Table 7-8). -/
abbrev schedGlbCtl : Nat := 0x150400

/-- SCHED_RES_STAT (Table 7-8). -/
abbrev schedResStat : Nat := 0x150404

/-- SCHED_CTX_BASE_LO (Table 7-8). -/
abbrev schedCtxBaseLo : Nat := 0x150408

/-- SCHED_CTX_BASE_HI (Table 7-8). -/
abbrev schedCtxBaseHi : Nat := 0x15040C

/-- SCHED_CLIENTS (Table 7-8). -/
abbrev schedClients : Nat := 0x150410

/-- EMAC_n_CTL (Table 8-5). -/
def emacCtl (i : Nat) : Nat := 0x200000 + 0x1000 * i

/-- EMAC_n_STAT (Table 8-5). -/
def emacStat (i : Nat) : Nat := 0x200004 + 0x1000 * i

/-- EMAC_n_MAC_LO (Table 8-5). -/
def emacMacLo (i : Nat) : Nat := 0x200008 + 0x1000 * i

/-- EMAC_n_MAC_HI (Table 8-5). -/
def emacMacHi (i : Nat) : Nat := 0x20000C + 0x1000 * i

/-- EMAC_n_MAXLEN (Table 8-5). -/
def emacMaxlen (i : Nat) : Nat := 0x200010 + 0x1000 * i

/-- EMAC_n_RATE (Table 8-5). -/
def emacRate (i : Nat) : Nat := 0x200014 + 0x1000 * i

/-- EMAC_n_HALF_MASK_LO (Table 8-5). -/
def emacHalfMaskLo (i : Nat) : Nat := 0x200018 + 0x1000 * i

/-- EMAC_n_HALF_MASK_HI (Table 8-5). -/
def emacHalfMaskHi (i : Nat) : Nat := 0x20001C + 0x1000 * i

/-- EMAC_n_HALF_STAT_LO (Table 8-5). -/
def emacHalfStatLo (i : Nat) : Nat := 0x200020 + 0x1000 * i

/-- EMAC_n_HALF_STAT_HI (Table 8-5). -/
def emacHalfStatHi (i : Nat) : Nat := 0x200024 + 0x1000 * i

/-- EMAC_n_RATE_STAT (Table 8-5). -/
def emacRateStat (i : Nat) : Nat := 0x200028 + 0x1000 * i

/-- EMAC_n_CNTk_LO (Table 8-5). -/
def emacCntLo (i j : Nat) : Nat := 0x200100 + 0x1000 * i + 0x8 * j

/-- EMAC_n_CNTk_HI (Table 8-5). -/
def emacCntHi (i j : Nat) : Nat := 0x200104 + 0x1000 * i + 0x8 * j

/-- FWD_CTL (Table 9-13). -/
abbrev fwdCtl : Nat := 0x210000

/-- FWD_AGE (Table 9-13). -/
abbrev fwdAge : Nat := 0x210004

/-- FWD_RTR_MAC_LO (Table 9-13). -/
abbrev fwdRtrMacLo : Nat := 0x210008

/-- FWD_RTR_MAC_HI (Table 9-13). -/
abbrev fwdRtrMacHi : Nat := 0x21000C

/-- FWD_MAC_STAT (Table 9-13). -/
abbrev fwdMacStat : Nat := 0x210010

/-- FWD_L3_STAT (Table 9-13). -/
abbrev fwdL3Stat : Nat := 0x210014

/-- FWD_ACL_STAT (Table 9-13). -/
abbrev fwdAclStat : Nat := 0x210018

/-- FWD_RADIO_n_CFG (Table 9-13). -/
def fwdRadioCfg (i : Nat) : Nat := 0x210020 + 0x4 * i

/-- FWD_PORT_e_CFG (Table 9-13). -/
def fwdPortCfg (i : Nat) : Nat := 0x210030 + 0x4 * i

/-- FWD_HOST_CFG (Table 9-13). -/
abbrev fwdHostCfg : Nat := 0x210040

/-- FWD_CHAIN_CFG (Table 9-13). -/
abbrev fwdChainCfg : Nat := 0x210044

/-- FWD_EXC_CFGr (Table 9-13). -/
def fwdExcCfg (i : Nat) : Nat := 0x210080 + 0x4 * i

/-- FWD_EXC_CNTr (Table 9-13). -/
def fwdExcCnt (i : Nat) : Nat := 0x2100C0 + 0x4 * i

/-- FWD_CNTk_LO (Table 9-13). -/
def fwdCntLo (i : Nat) : Nat := 0x210100 + 0x8 * i

/-- FWD_CNTk_HI (Table 9-13). -/
def fwdCntHi (i : Nat) : Nat := 0x210104 + 0x8 * i

/-- FWD_ACL_HITi_LO (Table 9-13). -/
def fwdAclHitLo (i : Nat) : Nat := 0x218000 + 0x8 * i

/-- FWD_ACL_HITi_HI (Table 9-13). -/
def fwdAclHitHi (i : Nat) : Nat := 0x218004 + 0x8 * i

/-- TM_BUF_STAT (Table 10-7). -/
abbrev tmBufStat : Nat := 0x220000

/-- TM_PRIV_RES (Table 10-7). -/
abbrev tmPrivRes : Nat := 0x220004

/-- TM_CLASS_MAP_LO (Table 10-7). -/
abbrev tmClassMapLo : Nat := 0x220008

/-- TM_CLASS_MAP_HI (Table 10-7). -/
abbrev tmClassMapHi : Nat := 0x22000C

/-- TM_ING_e (Table 10-7). -/
def tmIng (i : Nat) : Nat := 0x220040 + 0x4 * i

/-- TM_ING_STAT_e (Table 10-7). -/
def tmIngStat (i : Nat) : Nat := 0x220050 + 0x4 * i

/-- TM_PORT_CFG (Table 10-7). -/
def tmPortCfg (i : Nat) : Nat := 0x220100 + 0x10 * i

/-- TM_PORT_SHAPE (Table 10-7). -/
def tmPortShape (i : Nat) : Nat := 0x220104 + 0x10 * i

/-- TM_PORT_OVH (Table 10-7). -/
def tmPortOvh (i : Nat) : Nat := 0x220108 + 0x10 * i

/-- TM_PORT_TOK (Table 10-7). -/
def tmPortTok (i : Nat) : Nat := 0x22010C + 0x10 * i

/-- TM_DROP_d_GY (Table 10-7). -/
def tmDropGy (i : Nat) : Nat := 0x220200 + 0x8 * i

/-- TM_DROP_d_R (Table 10-7). -/
def tmDropR (i : Nat) : Nat := 0x220204 + 0x8 * i

/-- TM_SVC_CFG (Table 10-7). -/
def tmSvcCfg (i : Nat) : Nat := 0x221000 + 0x10 * i

/-- TM_SVC_SHAPE (Table 10-7). -/
def tmSvcShape (i : Nat) : Nat := 0x221004 + 0x10 * i

/-- TM_SVC_TOK (Table 10-7). -/
def tmSvcTok (i : Nat) : Nat := 0x221008 + 0x10 * i

/-- TM_SUB_CFG (Table 10-7). -/
def tmSubCfg (i : Nat) : Nat := 0x224000 + 0x8 * i

/-- TM_SUB_SHAPE (Table 10-7). -/
def tmSubShape (i : Nat) : Nat := 0x224004 + 0x8 * i

/-- TM_MTR_RATE (Table 10-7). -/
def tmMtrRate (i : Nat) : Nat := 0x22C000 + 0x8 * i

/-- TM_MTR_BURST (Table 10-7). -/
def tmMtrBurst (i : Nat) : Nat := 0x22C004 + 0x8 * i

/-- TIME_CTL (Table 11-9). -/
abbrev timeCtl : Nat := 0x300000

/-- TIME_STATE (Table 11-9). -/
abbrev timeState : Nat := 0x300004

/-- TIME_NOW_SEC_LO (Table 11-9). -/
abbrev timeNowSecLo : Nat := 0x300008

/-- TIME_NOW_SEC_HI (Table 11-9). -/
abbrev timeNowSecHi : Nat := 0x30000C

/-- TIME_NOW_NS (Table 11-9). -/
abbrev timeNowNs : Nat := 0x300010

/-- TIME_NOW_FRAC (Table 11-9). -/
abbrev timeNowFrac : Nat := 0x300014

/-- TIME_FREQ (Table 11-9). -/
abbrev timeFreq : Nat := 0x300018

/-- TIME_JUMP_LIM (Table 11-9). -/
abbrev timeJumpLim : Nat := 0x30001C

/-- TIME_OFFSET (Table 11-9). -/
abbrev timeOffset : Nat := 0x300020

/-- TIME_SLEW (Table 11-9). -/
abbrev timeSlew : Nat := 0x300024

/-- TIME_REFUSED_LO (Table 11-9). -/
abbrev timeRefusedLo : Nat := 0x300028

/-- TIME_REFUSED_HI (Table 11-9). -/
abbrev timeRefusedHi : Nat := 0x30002C

/-- TIME_FLAGS (Table 11-9). -/
abbrev timeFlags : Nat := 0x300030

/-- TIME_CONV_PHASE (Table 11-9). -/
abbrev timeConvPhase : Nat := 0x300034

/-- TIME_CYC_CFG (Table 11-9). -/
abbrev timeCycCfg : Nat := 0x300038

/-- TIME_RADIO_CFG (Table 11-9). -/
abbrev timeRadioCfg : Nat := 0x30003C

/-- TIME_PTP_CLOCK (Table 11-9). -/
abbrev timePtpClock : Nat := 0x300040

/-- TIME_PTP_e_CFG (Table 11-9). -/
def timePtpCfg (i : Nat) : Nat := 0x300100 + 0x8 * i

/-- TIME_PTP_e_ASYM (Table 11-9). -/
def timePtpAsym (i : Nat) : Nat := 0x300104 + 0x8 * i

/-- TIME_SQ_e_STAT (Table 11-9). -/
def timeSqStat (i : Nat) : Nat := 0x300140 + 0x4 * i

/-- TIME_PLS_k_CTL (Table 11-9). -/
def plsCtl (i : Nat) : Nat := 0x300400 + 0x20 * i

/-- TIME_PLS_k_START_LO (Table 11-9). -/
def plsStartLo (i : Nat) : Nat := 0x300404 + 0x20 * i

/-- TIME_PLS_k_START_HI (Table 11-9). -/
def plsStartHi (i : Nat) : Nat := 0x300408 + 0x20 * i

/-- TIME_PLS_k_START_NS (Table 11-9). -/
def plsStartNs (i : Nat) : Nat := 0x30040C + 0x20 * i

/-- TIME_PLS_k_WIDTH (Table 11-9). -/
def plsWidth (i : Nat) : Nat := 0x300410 + 0x20 * i

/-- TIME_PLS_k_PERIOD (Table 11-9). -/
def plsPeriod (i : Nat) : Nat := 0x300414 + 0x20 * i

/-- TIME_PLS_k_STAT (Table 11-9). -/
def plsStat (i : Nat) : Nat := 0x300418 + 0x20 * i

/-- RTC_CTL (Table 12-5). -/
abbrev rtcCtl : Nat := 0x310000

/-- RTC_STAT (Table 12-5). -/
abbrev rtcStat : Nat := 0x310004

/-- RTC_ERR (Table 12-5). -/
abbrev rtcErr : Nat := 0x310008

/-- RTC_EVT (Table 12-5). -/
abbrev rtcEvt : Nat := 0x31000C

/-- RTC_SEC (Table 12-5). -/
abbrev rtcSec : Nat := 0x310010

/-- RTC_SSEC (Table 12-5). -/
abbrev rtcSsec : Nat := 0x310014

/-- RTC_MIN (Table 12-5). -/
abbrev rtcMin : Nat := 0x310018

/-- RTC_HOUR (Table 12-5). -/
abbrev rtcHour : Nat := 0x31001C

/-- RTC_DAY (Table 12-5). -/
abbrev rtcDay : Nat := 0x310020

/-- RTC_MON (Table 12-5). -/
abbrev rtcMon : Nat := 0x310024

/-- RTC_YEAR (Table 12-5). -/
abbrev rtcYear : Nat := 0x310028

/-- RTC_TIME_W (Table 12-5). -/
abbrev rtcTimeW : Nat := 0x310030

/-- RTC_DATE_W (Table 12-5). -/
abbrev rtcDateW : Nat := 0x310034

/-- RTC_WAKE (Table 12-5). -/
abbrev rtcWake : Nat := 0x310040

/-- RTC_WAKE_CNT (Table 12-5). -/
abbrev rtcWakeCnt : Nat := 0x310044

/-- RTC_BKP_STAMP_T (Table 12-5). -/
abbrev rtcBkpStampT : Nat := 0x310050

/-- RTC_BKP_STAMP_D (Table 12-5). -/
abbrev rtcBkpStampD : Nat := 0x310054

/-- RTC_BKP_DATAi (Table 12-5). -/
def rtcBkpData (i : Nat) : Nat := 0x310060 + 0x4 * i

/-- MEAS_CTL (Table 13-12). -/
abbrev measCtl : Nat := 0x400000

/-- MEAS_STAT (Table 13-12). -/
abbrev measStat : Nat := 0x400004

/-- MEAS_CNT (Table 13-12). -/
def measCnt (i : Nat) : Nat := 0x400040 + 0x4 * i

/-- MEAS_IN_i_CFG (Table 13-12). -/
def measInCfg (i : Nat) : Nat := 0x400100 + 0x20 * i

/-- MEAS_IN_i_FS (Table 13-12). -/
def measInFs (i : Nat) : Nat := 0x400104 + 0x20 * i

/-- MEAS_IN_i_GAIN (Table 13-12). -/
def measInGain (i : Nat) : Nat := 0x400108 + 0x20 * i

/-- MEAS_IN_i_OFS (Table 13-12). -/
def measInOfs (i : Nat) : Nat := 0x40010C + 0x20 * i

/-- MEAS_IN_i_DLY (Table 13-12). -/
def measInDly (i : Nat) : Nat := 0x400110 + 0x20 * i

/-- MEAS_F_f_WIN (Table 13-12). -/
def measWin (i : Nat) : Nat := 0x400400 + 0x80 * i

/-- MEAS_F_f_Q (Table 13-12). -/
def measQ (i j : Nat) : Nat := 0x400404 + 0x80 * i + 0x4 * j

/-- MEAS_F_f_FLAGS (Table 13-12). -/
def measFlags (i : Nat) : Nat := 0x400428 + 0x80 * i

/-- MEAS_F_f_E_LO (Table 13-12). -/
def measELo (i j : Nat) : Nat := 0x40042C + 0x80 * i + 0x8 * j

/-- MEAS_F_f_E_HI (Table 13-12). -/
def measEHi (i j : Nat) : Nat := 0x400430 + 0x80 * i + 0x8 * j

/-- MEAS_OUT_k_CFG (Table 13-12). -/
def outCfg (i : Nat) : Nat := 0x400C00 + 0x10 * i

/-- MEAS_OUT_k_VAL (Table 13-12). -/
def outVal (i : Nat) : Nat := 0x400C04 + 0x10 * i

/-- MEAS_OUT_k_STAT (Table 13-12). -/
def outStat (i : Nat) : Nat := 0x400C08 + 0x10 * i

/-- MEAS_CAP_c_CFG (Table 13-12). -/
def measCapCfg (i : Nat) : Nat := 0x400E00 + 0x4 * i

/-- CTLP_CTL (Table 13-14). -/
abbrev ctlpCtl : Nat := 0x410000

/-- CTLP_STAT (Table 13-14). -/
abbrev ctlpStat : Nat := 0x410004

/-- CTLP_RPT_CFG (Table 13-14). -/
abbrev ctlpRptCfg : Nat := 0x410008

/-- CTLP_CYC_LO (Table 13-14). -/
abbrev ctlpCycLo : Nat := 0x41000C

/-- CTLP_CYC_HI (Table 13-14). -/
abbrev ctlpCycHi : Nat := 0x410010

/-- CTLP_CNT (Table 13-14). -/
def ctlpCnt (i : Nat) : Nat := 0x410040 + 0x4 * i

/-- CTLP_VAR (Table 13-14). -/
def ctlpVar (i : Nat) : Nat := 0x410100 + 0x4 * i

/-- CTLP_GRP_g_CNT (Table 13-14). -/
def ctlpGrpCnt (i : Nat) : Nat := 0x410200 + 0x10 * i

/-- CTLP_GRP_g_FLT (Table 13-14). -/
def ctlpGrpFlt (i : Nat) : Nat := 0x410204 + 0x10 * i

/-- CTLP_GRP_g_PWR (Table 13-14). -/
def ctlpGrpPwr (i : Nat) : Nat := 0x410208 + 0x10 * i

/-- SER_s_CFG (Table 13-14). -/
def serCfg (i : Nat) : Nat := 0x410C00 + 0x10 * i

/-- SER_s_BAUD (Table 13-14). -/
def serBaud (i : Nat) : Nat := 0x410C04 + 0x10 * i

/-- SER_s_STAT (Table 13-14). -/
def serStat (i : Nat) : Nat := 0x410C08 + 0x10 * i

/-- CIPH_STAT (Table 14-7). -/
abbrev ciphStat : Nat := 0x500000

/-- CIPH_ALARM (Table 14-7). -/
abbrev ciphAlarm : Nat := 0x500004

/-- CIPH_RADIO_CFG (Table 14-7). -/
abbrev ciphRadioCfg : Nat := 0x500008

/-- CIPH_LREC_BASE_LO (Table 14-7). -/
abbrev ciphLrecBaseLo : Nat := 0x500010

/-- CIPH_LREC_BASE_HI (Table 14-7). -/
abbrev ciphLrecBaseHi : Nat := 0x500014

/-- CIPH_CNT (Table 14-7). -/
def ciphCnt (i : Nat) : Nat := 0x500040 + 0x4 * i

/-- CIPH_PAGE_p_CFG (Table 14-7). -/
def ciphPageCfg (i : Nat) : Nat := 0x500100 + 0x8 * i

/-- CIPH_PAGE_p_KCV (Table 14-7). -/
def ciphPageKcv (i : Nat) : Nat := 0x500104 + 0x8 * i

/-- CIPH_ENG_e_STAT (Table 14-7). -/
def ciphEngStat (i : Nat) : Nat := 0x500200 + 0x4 * i

/-- DRAM_CFG (Table 15-9). -/
abbrev dramCfg : Nat := 0x510000

/-- DRAM_CTL (Table 15-9). -/
abbrev dramCtl : Nat := 0x510004

/-- DRAM_STAT (Table 15-9). -/
abbrev dramStat : Nat := 0x510008

/-- DRAM_PAGE_CTL (Table 15-9). -/
abbrev dramPageCtl : Nat := 0x51000C

/-- DRAM_ACT_CTL (Table 15-9). -/
abbrev dramActCtl : Nat := 0x510010

/-- DRAM_ACT_FLAG (Table 15-9). -/
abbrev dramActFlag : Nat := 0x510014

/-- DRAM_TRN_CTL (Table 15-9). -/
abbrev dramTrnCtl : Nat := 0x510018

/-- DRAM_SCRUB (Table 15-9). -/
abbrev dramScrub : Nat := 0x51001C

/-- DRAM_SPARE_STAT (Table 15-9). -/
abbrev dramSpareStat : Nat := 0x510020

/-- DRAM_ERR_ADDR_LO (Table 15-9). -/
abbrev dramErrAddrLo : Nat := 0x510028

/-- DRAM_ERR_ADDR_HI (Table 15-9). -/
abbrev dramErrAddrHi : Nat := 0x51002C

/-- DRAM_PORT_p_CFG (Table 15-9). -/
def dramPortCfg (i : Nat) : Nat := 0x510040 + 0x8 * i

/-- DRAM_PORT_p_STAT (Table 15-9). -/
def dramPortStat (i : Nat) : Nat := 0x510044 + 0x8 * i

/-- DRAM_CNTk_LO (Table 15-9). -/
def dramCntLo (i : Nat) : Nat := 0x510100 + 0x8 * i

/-- DRAM_CNTk_HI (Table 15-9). -/
def dramCntHi (i : Nat) : Nat := 0x510104 + 0x8 * i

/-- DRAM_REMAP (Table 15-9). -/
def dramRemap (i j : Nat) : Nat := 0x510200 + 0x80 * i + 0x4 * j

/-- TMR_n_CTL (Table 16-6). -/
def tmrCtl (i : Nat) : Nat := 0x520000 + 0x20 * i

/-- TMR_n_PERIOD (Table 16-6). -/
def tmrPeriod (i : Nat) : Nat := 0x520004 + 0x20 * i

/-- TMR_n_PERIOD_ACT (Table 16-6). -/
def tmrPeriodAct (i : Nat) : Nat := 0x520008 + 0x20 * i

/-- TMR_n_CNT (Table 16-6). -/
def tmrCnt (i : Nat) : Nat := 0x52000C + 0x20 * i

/-- TMR_n_CMP (Table 16-6). -/
def tmrCmp (i : Nat) : Nat := 0x520010 + 0x20 * i

/-- TMR_n_EVT (Table 16-6). -/
def tmrEvt (i : Nat) : Nat := 0x520014 + 0x20 * i

/-- TMR_n_PRE (Table 16-6). -/
def tmrPre (i : Nat) : Nat := 0x520018 + 0x20 * i

/-- TMR_CAP_c_CFG (Table 16-6). -/
def tmrCapCfg (i : Nat) : Nat := 0x520200 + 0x10 * i

/-- TMR_CAP_c_STAT (Table 16-6). -/
def tmrCapStat (i : Nat) : Nat := 0x520204 + 0x10 * i

/-- TMR_CAP_c_FLAG (Table 16-6). -/
def tmrCapFlag (i : Nat) : Nat := 0x520208 + 0x10 * i

/-- TMR_GO (Table 16-6). -/
abbrev tmrGo : Nat := 0x520400

/-- TMR_RUN (Table 16-6). -/
abbrev tmrRun : Nat := 0x520404

/-- PWR_STATE (Table 17-9). -/
abbrev pwrState : Nat := 0x600000

/-- PWR_CTL (Table 17-9). -/
abbrev pwrCtl : Nat := 0x600004

/-- PWR_TRIM_CFG (Table 17-9). -/
abbrev pwrTrimCfg : Nat := 0x600008

/-- PWR_WAKE_EN (Table 17-9). -/
abbrev pwrWakeEn : Nat := 0x60000C

/-- PWR_WAKE_SRC (Table 17-9). -/
abbrev pwrWakeSrc : Nat := 0x600010

/-- PWR_WAKE_ADDR (Table 17-9). -/
abbrev pwrWakeAddr : Nat := 0x600014

/-- PWR_WAKE_CNT (Table 17-9). -/
abbrev pwrWakeCnt : Nat := 0x600018

/-- PWR_DOM_STAT (Table 17-9). -/
abbrev pwrDomStat : Nat := 0x60001C

/-- PWR_ISO_STAT (Table 17-9). -/
abbrev pwrIsoStat : Nat := 0x600020

/-- CLK_SRC_STAT (Table 17-11). -/
abbrev clkSrcStat : Nat := 0x610000

/-- CLK_GATE_CTL (Table 17-11). -/
abbrev clkGateCtl : Nat := 0x610004

/-- CLK_GATE_STAT (Table 17-11). -/
abbrev clkGateStat : Nat := 0x610008

/-- CLK_PLL_STAT (Table 17-11). -/
abbrev clkPllStat : Nat := 0x61000C

/-- CLK_SSC_g (Table 17-11). -/
def clkSsc (i : Nat) : Nat := 0x610010 + 0x4 * i

/-- CLK_MON_CNT (Table 17-11). -/
def clkMonCnt (i : Nat) : Nat := 0x610020 + 0x4 * i

/-- CLK_FAIL (Table 17-11). -/
abbrev clkFail : Nat := 0x610030

/-- DARN_SVC (Table 21-11). -/
abbrev darnSvc : Nat := 0x700000

/-- DARN_STAT (Table 21-11). -/
abbrev darnStat : Nat := 0x700004

/-- DARN_CLASS_k_CFG (Table 21-11). -/
def darnClassCfg (i : Nat) : Nat := 0x700010 + 0x4 * i

/-- DARN_CLASS_k_STAT (Table 21-11). -/
def darnClassStat (i : Nat) : Nat := 0x700030 + 0x4 * i

/-- DARN_CNT (Table 21-11). -/
def darnCnt (i : Nat) : Nat := 0x700040 + 0x4 * i

/-- DARN_WEAR_w (Table 21-11). -/
def darnWear (i : Nat) : Nat := 0x700060 + 0x4 * i

/-- DARN_WEAR_w_THR (Table 21-11). -/
def darnWearThr (i : Nat) : Nat := 0x700080 + 0x4 * i

end Reg

/-- The registers of the SYS block. -/
def sysRows : List RegRow := [
  -- SYS_ID
  ⟨0x0, 1, 0x4, 1, 0x4, .ro, 0x64300001, [], 0x0, []⟩,
  -- SYS_SUMMARY
  ⟨0x4, 1, 0x4, 1, 0x4, .ro, 0x0, [], 0x0, []⟩,
  -- SYS_CMD_RX_LO
  ⟨0x10, 1, 0x4, 1, 0x4, .rsn, 0x0, [], 0x0, []⟩,
  -- SYS_CMD_RX_HI
  ⟨0x14, 1, 0x4, 1, 0x4, .ro, 0x0, [], 0x0, []⟩,
  -- SYS_CMD_DROP
  ⟨0x18, 1, 0x4, 1, 0x4, .ro, 0x0, [], 0x0, []⟩,
  -- SYS_CMD_ERR
  ⟨0x1C, 1, 0x4, 1, 0x4, .ro, 0x0, [], 0x0, []⟩,
  -- SYS_SESSION_IDLE
  ⟨0x20, 1, 0x4, 1, 0x4, .rw, 0x3C, [], 0xFFFF, []⟩,
  -- SYS_INBAND_CTL
  ⟨0x24, 1, 0x4, 1, 0x4, .rw, 0x0, [], 0x1FFFF, []⟩,
  -- SYS_SESSION_STAT
  ⟨0x28, 1, 0x4, 1, 0x4, .ro, 0x0, [], 0x0, []⟩,
  -- SYS_RESET_CAUSE
  ⟨0x100, 1, 0x4, 1, 0x4, .ro, 0x0, [], 0x0, []⟩,
  -- SYS_BOOT_STAT
  ⟨0x104, 1, 0x4, 1, 0x4, .ro, 0x0, [], 0x0, []⟩,
  -- SYS_FW_VER
  ⟨0x108, 1, 0x4, 1, 0x4, .ro, 0x0, [], 0x0, []⟩,
  -- SYS_CFG_SEQ
  ⟨0x10C, 1, 0x4, 1, 0x4, .ro, 0x0, [], 0x0, []⟩,
  -- SYS_CFG_STAT
  ⟨0x110, 1, 0x4, 1, 0x4, .ro, 0x420, [], 0x0, []⟩,
  -- SYS_WDT_CFG
  ⟨0x114, 1, 0x4, 1, 0x4, .rw, 0x31388, [], 0x3FFFF, [⟨15, 0, false, 100, 60000⟩]⟩,
  -- SYS_WDT_KICK
  ⟨0x118, 1, 0x4, 1, 0x4, .wo, 0x0, [], 0xFFFFFFFF, []⟩,
  -- SYS_FW_CONFIRM_CFG
  ⟨0x11C, 1, 0x4, 1, 0x4, .rw, 0x258, [], 0xFFFF, [⟨15, 0, false, 10, 3600⟩]⟩]

/-- The registers of the CHAIN block. -/
def chainRows : List RegRow := [
  -- CHAIN_CTL
  ⟨0x10000, 1, 0x4, 1, 0x4, .rw, 0x300, [], 0x303, []⟩,
  -- CHAIN_STAT
  ⟨0x10004, 1, 0x4, 1, 0x4, .ro, 0xFF, [], 0x0, []⟩,
  -- CHAIN_MAP_LO
  ⟨0x10008, 1, 0x4, 1, 0x4, .ro, 0x0, [], 0x0, []⟩,
  -- CHAIN_MAP_HI
  ⟨0x1000C, 1, 0x4, 1, 0x4, .ro, 0x0, [], 0x0, []⟩,
  -- CHAIN_ROUTE_LO
  ⟨0x10010, 1, 0x4, 1, 0x4, .ro, 0x0, [], 0x0, []⟩,
  -- CHAIN_ROUTE_HI
  ⟨0x10014, 1, 0x4, 1, 0x4, .ro, 0x0, [], 0x0, []⟩,
  -- CHAIN_PORT_p_STAT
  ⟨0x10020, 2, 0x20, 1, 0x4, .ro, 0xFF00, [], 0x0, []⟩,
  -- CHAIN_PORT_p_DELAY
  ⟨0x10024, 2, 0x20, 1, 0x4, .ro, 0x0, [], 0x0, []⟩,
  -- CHAIN_PORT_p_ASYM
  ⟨0x10028, 2, 0x20, 1, 0x4, .rw, 0x0, [], 0xFFFFFFFF, [⟨31, 0, true, -1000000, 1000000⟩]⟩,
  -- CHAIN_PORT_p_CNTk_LO
  ⟨0x10100, 2, 0x40, 6, 0x8, .rsn, 0x0, [], 0x0, []⟩,
  -- CHAIN_PORT_p_CNTk_HI
  ⟨0x10104, 2, 0x40, 6, 0x8, .ro, 0x0, [], 0x0, []⟩]

/-- The registers of the SEC block. -/
def secRows : List RegRow := [
  -- SEC_LIFECYCLE
  ⟨0x20000, 1, 0x4, 1, 0x4, .ro, 0x0, [], 0x0, []⟩,
  -- SEC_DBG_STAT
  ⟨0x20004, 1, 0x4, 1, 0x4, .ro, 0x0, [], 0x0, []⟩,
  -- SEC_ALARM_CFG
  ⟨0x20008, 1, 0x4, 1, 0x4, .seal, 0xC97D07, [], 0xFFFF07, [⟨15, 8, false, 115, 135⟩, ⟨23, 16, true, -60, -45⟩]⟩,
  -- SEC_ALARM_LATCH
  ⟨0x2000C, 1, 0x4, 1, 0x4, .w1c, 0x0, [], 0x7F, []⟩,
  -- SEC_ROLLBACK
  ⟨0x20010, 1, 0x4, 1, 0x4, .ro, 0x0, [], 0x0, []⟩,
  -- SEC_ID_i
  ⟨0x20014, 4, 0x4, 1, 0x4, .ro, 0x0, [], 0x0, []⟩,
  -- SEC_INBAND_CFG
  ⟨0x20024, 1, 0x4, 1, 0x4, .rw, 0xA00, [], 0xFF0F, [⟨15, 8, false, 1, 60⟩]⟩,
  -- SEC_CNT
  ⟨0x20040, 7, 0x4, 1, 0x4, .ro, 0x0, [], 0x0, []⟩]

/-- The registers of the TRX block. -/
def trxRows : List RegRow := [
  -- TRXn_STATE
  ⟨0x100000, 3, 0x10000, 1, 0x4, .ro, 0x0, [], 0x0, []⟩,
  -- TRXn_STATE_CTL
  ⟨0x100004, 3, 0x10000, 1, 0x4, .rw, 0x0, [], 0x10F, []⟩,
  -- TRXn_SYN_FREQ
  ⟨0x100008, 3, 0x10000, 1, 0x4, .rw, 0x0, [], 0xFFFFFFFF, []⟩,
  -- TRXn_HOP_FREQ
  ⟨0x10000C, 3, 0x10000, 1, 0x4, .rw, 0x0, [], 0xFFFFFFFF, []⟩,
  -- TRXn_SYN_CTL
  ⟨0x100010, 3, 0x10000, 1, 0x4, .rw, 0x1, [], 0x1, []⟩,
  -- TRXn_CAL_CTL
  ⟨0x100014, 3, 0x10000, 1, 0x4, .rw, 0xA000014, [], 0xFFFFFFFF, [⟨7, 0, false, 5, 40⟩, ⟨31, 24, false, 1, 60⟩]⟩,
  -- TRXn_CAL_STAT
  ⟨0x100018, 3, 0x10000, 1, 0x4, .ro, 0x0, [], 0x0, []⟩,
  -- TRXn_TX_PWR
  ⟨0x10001C, 3, 0x10000, 1, 0x4, .rw, 0x0, [], 0xFF, [⟨7, 0, true, -80, 64⟩]⟩,
  -- TRXn_FEM_MAP
  ⟨0x100020, 3, 0x10000, 1, 0x4, .rw, 0x0, [], 0xFFFF, []⟩,
  -- TRXn_FEM_TIME
  ⟨0x100024, 3, 0x10000, 1, 0x4, .rw, 0xA0A, [], 0xFFFF, [⟨7, 0, false, 0, 40⟩, ⟨15, 8, false, 0, 40⟩]⟩,
  -- TRXn_COEX_CTL
  ⟨0x100028, 3, 0x10000, 1, 0x4, .rw, 0x1F42870, [], 0xFFFFFFF7, [⟨15, 8, false, 10, 100⟩, ⟨31, 16, false, 0, 2000⟩]⟩,
  -- TRXn_COEX_STAT
  ⟨0x10002C, 3, 0x10000, 1, 0x4, .ro, 0x0, [], 0x0, []⟩,
  -- TRXn_TEMP
  ⟨0x100030, 3, 0x10000, 1, 0x4, .ro, 0x0, [], 0x0, []⟩,
  -- TRXn_CNT
  ⟨0x100040, 3, 0x10000, 11, 0x4, .ro, 0x0, [], 0x0, []⟩,
  -- TRX0_RGL_BAND_LO
  ⟨0x100800, 16, 0x10, 1, 0x4, .ro, 0x0, [], 0x0, []⟩,
  -- TRX0_RGL_BAND_CFG
  ⟨0x100804, 16, 0x10, 1, 0x4, .ro, 0x0, [], 0x0, []⟩,
  -- TRX0_RGL_DUTY_LIM
  ⟨0x100808, 16, 0x10, 1, 0x4, .ro, 0x0, [], 0x0, []⟩,
  -- TRX0_RGL_DUTY_USED
  ⟨0x10080C, 16, 0x10, 1, 0x4, .ro, 0x0, [], 0x0, []⟩,
  -- TRX0_RGL_CERT_VER
  ⟨0x100900, 1, 0x4, 1, 0x4, .ro, 0x0, [], 0x0, []⟩,
  -- TRX0_RGL_CERT_STAT
  ⟨0x100904, 1, 0x4, 1, 0x4, .ro, 0x2, [], 0x0, []⟩,
  -- TRX0_RGL_DUTY_WARN
  ⟨0x100908, 1, 0x4, 1, 0x4, .rw, 0x5A, [], 0xFF, [⟨7, 0, false, 50, 100⟩]⟩,
  -- TRXn_PROF_CFGk
  ⟨0x100100, 3, 0x10000, 8, 0x10, .rw, 0x0, [], 0x3FFF, []⟩,
  -- TRXn_PROF_SYNCk
  ⟨0x100104, 3, 0x10000, 8, 0x10, .rw, 0x7A0E93C5, [], 0xFFFFFFFF, []⟩,
  -- TRXn_PROF_SUNk
  ⟨0x100108, 3, 0x10000, 8, 0x10, .rw, 0x0, [], 0x3F, []⟩,
  -- TRXn_FILET_CFG
  ⟨0x100180, 3, 0x10000, 1, 0x4, .rw, 0xA0002, [], 0xFFFF0F, [⟨23, 16, false, 1, 60⟩]⟩,
  -- TRXn_AFC_CTL
  ⟨0x100184, 3, 0x10000, 1, 0x4, .rw, 0x2803, [], 0xFF03, [⟨15, 8, false, 1, 100⟩]⟩,
  -- TRXn_MODCNT
  ⟨0x100190, 3, 0x10000, 8, 0x4, .ro, 0x0, [], 0x0, []⟩]

/-- The registers of the SEARCH block. -/
def searchRows : List RegRow := [
  -- SEARCH_n_CTL
  ⟨0x130000, 3, 0x100, 1, 0x4, .rw, 0x101016, [], 0x3FFF1F, [⟨3, 0, false, 3, 15⟩, ⟨21, 16, false, 8, 32⟩]⟩,
  -- SEARCH_n_DET_THR
  ⟨0x130004, 3, 0x100, 1, 0x4, .rw, 0x188892, [], 0xFFFFFF, [⟨7, 0, true, -120, -40⟩, ⟨15, 8, true, -128, -60⟩, ⟨23, 16, false, 8, 80⟩]⟩,
  -- SEARCH_n_SB_EN_LO
  ⟨0x130008, 3, 0x100, 1, 0x4, .rw, 0xFFFFFFFF, [], 0xFFFFFFFF, []⟩,
  -- SEARCH_n_SB_EN_HI
  ⟨0x13000C, 3, 0x100, 1, 0x4, .rw, 0xFFFFFFFF, [], 0xFFFFFFFF, []⟩,
  -- SEARCH_n_SB_ACT_LO
  ⟨0x130010, 3, 0x100, 1, 0x4, .ro, 0x0, [], 0x0, []⟩,
  -- SEARCH_n_SB_ACT_HI
  ⟨0x130014, 3, 0x100, 1, 0x4, .ro, 0x0, [], 0x0, []⟩,
  -- SEARCH_n_CNT
  ⟨0x130040, 3, 0x100, 9, 0x4, .ro, 0x0, [], 0x0, []⟩,
  -- SEARCH_n_NF
  ⟨0x130080, 3, 0x100, 16, 0x4, .ro, 0x80808080, [], 0x0, []⟩,
  -- SEARCH_POOL_RES
  ⟨0x130400, 1, 0x4, 1, 0x4, .rw, 0x101010, [], 0xFFFFFF, []⟩,
  -- SEARCH_POOL_CAP
  ⟨0x130404, 1, 0x4, 1, 0x4, .rw, 0x484848, [], 0xFFFFFF, [⟨7, 0, false, 1, 72⟩, ⟨15, 8, false, 1, 72⟩, ⟨23, 16, false, 1, 72⟩]⟩,
  -- SEARCH_POOL_STAT
  ⟨0x130408, 1, 0x4, 1, 0x4, .ro, 0x84848, [], 0x0, []⟩,
  -- SEARCH_POOL_HELD
  ⟨0x13040C, 1, 0x4, 1, 0x4, .ro, 0x0, [], 0x0, []⟩,
  -- SEARCH_POOL_MAP
  ⟨0x130410, 3, 0x4, 1, 0x4, .ro, 0x0, [0xFFFFFFFF, 0xFFFFFFFF, 0xFF], 0x0, []⟩,
  -- SEARCH_LANE_STAT
  ⟨0x130800, 80, 0x4, 1, 0x4, .ro, 0x0, List.replicate 72 0x0 ++ List.replicate 8 0x5, 0x0, []⟩]

/-- The registers of the WMAC block. -/
def wmacRows : List RegRow := [
  -- WMAC_n_CTL
  ⟨0x140000, 3, 0x100, 1, 0x4, .rw, 0xFA0040B, [], 0xFFFFFF0F, [⟨15, 8, false, 0, 15⟩, ⟨31, 16, false, 0, 20000⟩]⟩,
  -- WMAC_n_ADDR
  ⟨0x140004, 3, 0x100, 1, 0x4, .rw, 0xFFFE, [], 0xFFFF, [⟨15, 0, false, 0, 65534⟩]⟩,
  -- WMAC_n_LBT
  ⟨0x140008, 3, 0x100, 1, 0x4, .rw, 0xA0AB00, [], 0xFFFFFF01, [⟨15, 8, true, -120, -40⟩, ⟨31, 16, false, 0, 10000⟩]⟩,
  -- WMAC_n_BO
  ⟨0x14000C, 3, 0x100, 1, 0x4, .rw, 0x530140, [], 0xFFFFFF, [⟨15, 0, false, 20, 10000⟩, ⟨19, 16, false, 0, 8⟩]⟩,
  -- WMAC_n_ACK
  ⟨0x140010, 3, 0x100, 1, 0x4, .rw, 0x70028, [], 0x700FF, [⟨7, 0, false, 10, 200⟩, ⟨18, 16, false, 1, 7⟩]⟩,
  -- WMAC_n_CNT
  ⟨0x140040, 3, 0x100, 16, 0x4, .ro, 0x0, [], 0x0, []⟩,
  -- WMAC_GLB_HIST
  ⟨0x140300, 1, 0x4, 1, 0x4, .rw, 0x1E, [], 0xFFF, [⟨11, 0, false, 1, 3600⟩]⟩,
  -- WMAC_PLT_CFG
  ⟨0x140400, 64, 0x20, 1, 0x4, .rw, 0x0, [], 0x3F01FF03, []⟩,
  -- WMAC_PLT_MEMB01
  ⟨0x140404, 64, 0x20, 1, 0x4, .rw, 0x0, [], 0x3FFF3FFF, [⟨2, 1, false, 0, 2⟩, ⟨18, 17, false, 0, 2⟩]⟩,
  -- WMAC_PLT_MEMB23
  ⟨0x140408, 64, 0x20, 1, 0x4, .rw, 0x0, [], 0x3FFF3FFF, [⟨2, 1, false, 0, 2⟩, ⟨18, 17, false, 0, 2⟩]⟩,
  -- WMAC_PLT_TIME
  ⟨0x14040C, 64, 0x20, 1, 0x4, .rw, 0xA4014, [], 0xFFFFF1FF, [⟨8, 0, false, 1, 500⟩, ⟨15, 12, false, 1, 15⟩, ⟨31, 16, false, 1, 3600⟩]⟩,
  -- WMAC_PLT_TX
  ⟨0x140410, 64, 0x20, 1, 0x4, .ro, 0x0, [], 0x0, []⟩,
  -- WMAC_PLT_RX
  ⟨0x140414, 64, 0x20, 1, 0x4, .rsn, 0x0, [], 0x0, []⟩,
  -- WMAC_PLT_MAP_LO
  ⟨0x140418, 64, 0x20, 1, 0x4, .ro, 0x0, [], 0x0, []⟩,
  -- WMAC_PLT_MAP_HI
  ⟨0x14041C, 64, 0x20, 1, 0x4, .ro, 0x0, [], 0x0, []⟩,
  -- WMAC_PEER_CFG
  ⟨0x148000, 512, 0x40, 1, 0x4, .rw, 0x0, [], 0x3FF7FFF, [⟨3, 2, false, 0, 2⟩]⟩,
  -- WMAC_PEER_ADDR
  ⟨0x148004, 512, 0x40, 1, 0x4, .rw, 0xFFFE, [], 0xFFFFFF, []⟩,
  -- WMAC_PEER_SEQ
  ⟨0x148008, 512, 0x40, 1, 0x4, .ro, 0x0, [], 0x0, []⟩,
  -- WMAC_PEER_AFC
  ⟨0x14800C, 512, 0x40, 1, 0x4, .ro, 0x0, [], 0x0, []⟩,
  -- WMAC_PEER_HEARD
  ⟨0x148010, 512, 0x40, 1, 0x4, .ro, 0x0, [], 0x0, []⟩,
  -- WMAC_PEER_SIG
  ⟨0x148014, 512, 0x40, 1, 0x4, .ro, 0x0, [], 0x0, []⟩,
  -- WMAC_PEER_CNT
  ⟨0x148018, 512, 0x40, 10, 0x4, .ro, 0x0, [], 0x0, []⟩]

/-- The registers of the SCHED block. -/
def schedRows : List RegRow := [
  -- SCHED_n_PAT
  ⟨0x150000, 3, 0x100, 1, 0x4, .txn, 0xEA60, [], 0x1FFFF, [⟨15, 0, false, 64, 65535⟩]⟩,
  -- SCHED_n_PHASE
  ⟨0x150004, 3, 0x100, 1, 0x4, .txn, 0x0, [], 0xFFFF, []⟩,
  -- SCHED_n_DRIFT
  ⟨0x150008, 3, 0x100, 1, 0x4, .rw, 0x328, [], 0xFFF, [⟨7, 0, false, 1, 100⟩, ⟨11, 8, false, 1, 6⟩]⟩,
  -- SCHED_n_OCC
  ⟨0x15000C, 3, 0x100, 1, 0x4, .ro, 0x0, [], 0x0, []⟩,
  -- SCHED_n_CNT
  ⟨0x150040, 3, 0x100, 14, 0x4, .ro, 0x0, [], 0x0, []⟩,
  -- SCHED_GLB_CTL
  ⟨0x150400, 1, 0x4, 1, 0x4, .rw, 0x8, [], 0x7F, [⟨6, 0, false, 1, 64⟩]⟩,
  -- SCHED_RES_STAT
  ⟨0x150404, 1, 0x4, 1, 0x4, .ro, 0x0, [], 0x0, []⟩,
  -- SCHED_CTX_BASE_LO
  ⟨0x150408, 1, 0x4, 1, 0x4, .ro, 0x0, [], 0x0, []⟩,
  -- SCHED_CTX_BASE_HI
  ⟨0x15040C, 1, 0x4, 1, 0x4, .ro, 0x0, [], 0x0, []⟩,
  -- SCHED_CLIENTS
  ⟨0x150410, 1, 0x4, 1, 0x4, .ro, 0x0, [], 0x0, []⟩]

/-- The registers of the EMAC block. -/
def emacRows : List RegRow := [
  -- EMAC_n_CTL
  ⟨0x200000, 4, 0x1000, 1, 0x4, .rw, 0xA0002, [], 0x3FF003F, [⟨25, 16, false, 0, 1000⟩]⟩,
  -- EMAC_n_STAT
  ⟨0x200004, 4, 0x1000, 1, 0x4, .ro, 0x0, [], 0x0, []⟩,
  -- EMAC_n_MAC_LO
  ⟨0x200008, 4, 0x1000, 1, 0x4, .rw, 0x0, [], 0xFFFFFFFF, []⟩,
  -- EMAC_n_MAC_HI
  ⟨0x20000C, 4, 0x1000, 1, 0x4, .rw, 0x0, [], 0xFFFF, []⟩,
  -- EMAC_n_MAXLEN
  ⟨0x200010, 4, 0x1000, 1, 0x4, .rw, 0x2580, [], 0x3FFF, [⟨13, 0, false, 1518, 9600⟩]⟩,
  -- EMAC_n_RATE
  ⟨0x200014, 4, 0x1000, 1, 0x4, .rw, 0x3C5014, [], 0xFFFFFFF, [⟨7, 0, false, 5, 40⟩, ⟨15, 8, false, 50, 95⟩, ⟨27, 16, false, 10, 3600⟩]⟩,
  -- EMAC_n_HALF_MASK_LO
  ⟨0x200018, 4, 0x1000, 1, 0x4, .rw, 0xFFFFFFFF, [], 0xFFFFFFFF, []⟩,
  -- EMAC_n_HALF_MASK_HI
  ⟨0x20001C, 4, 0x1000, 1, 0x4, .rw, 0xFFF, [], 0xFFF, []⟩,
  -- EMAC_n_HALF_STAT_LO
  ⟨0x200020, 4, 0x1000, 1, 0x4, .w1c, 0x0, [], 0xFFFFFFFF, []⟩,
  -- EMAC_n_HALF_STAT_HI
  ⟨0x200024, 4, 0x1000, 1, 0x4, .w1c, 0x0, [], 0xFFF, []⟩,
  -- EMAC_n_RATE_STAT
  ⟨0x200028, 4, 0x1000, 1, 0x4, .ro, 0x0, [], 0x0, []⟩,
  -- EMAC_n_CNTk_LO
  ⟨0x200100, 4, 0x1000, 44, 0x8, .rsn, 0x0, [], 0x0, []⟩,
  -- EMAC_n_CNTk_HI
  ⟨0x200104, 4, 0x1000, 44, 0x8, .ro, 0x0, [], 0x0, []⟩]

/-- The registers of the FWD block. -/
def fwdRows : List RegRow := [
  -- FWD_CTL
  ⟨0x210000, 1, 0x4, 1, 0x4, .rw, 0x2, [], 0xF, []⟩,
  -- FWD_AGE
  ⟨0x210004, 1, 0x4, 1, 0x4, .rw, 0x12C, [], 0xFFFFF, []⟩,
  -- FWD_RTR_MAC_LO
  ⟨0x210008, 1, 0x4, 1, 0x4, .rw, 0x0, [], 0xFFFFFFFF, []⟩,
  -- FWD_RTR_MAC_HI
  ⟨0x21000C, 1, 0x4, 1, 0x4, .rw, 0x0, [], 0xFFFF, []⟩,
  -- FWD_MAC_STAT
  ⟨0x210010, 1, 0x4, 1, 0x4, .ro, 0x0, [], 0x0, []⟩,
  -- FWD_L3_STAT
  ⟨0x210014, 1, 0x4, 1, 0x4, .ro, 0x0, [], 0x0, []⟩,
  -- FWD_ACL_STAT
  ⟨0x210018, 1, 0x4, 1, 0x4, .ro, 0x0, [], 0x0, []⟩,
  -- FWD_RADIO_n_CFG
  ⟨0x210020, 3, 0x4, 1, 0x4, .rw, 0x3001, [], 0xFFFF3FFF, [⟨11, 0, false, 1, 4094⟩]⟩,
  -- FWD_PORT_e_CFG
  ⟨0x210030, 4, 0x4, 1, 0x4, .rw, 0x7001, [], 0x7FFF, [⟨11, 0, false, 1, 4094⟩]⟩,
  -- FWD_HOST_CFG
  ⟨0x210040, 1, 0x4, 1, 0x4, .rw, 0x1, [], 0x1FFF, [⟨11, 0, false, 1, 4094⟩]⟩,
  -- FWD_CHAIN_CFG
  ⟨0x210044, 1, 0x4, 1, 0x4, .rw, 0x1000, [], 0x1000, []⟩,
  -- FWD_EXC_CFGr
  ⟨0x210080, 10, 0x4, 1, 0x4, .rw, 0x0, [0x640001, 0x3E80001, 0x640001, 0x640001, 0x640001, 0x0, 0x640001, 0x640001, 0x3E80002, 0x2], 0xFFFF0003, []⟩,
  -- FWD_EXC_CNTr
  ⟨0x2100C0, 10, 0x4, 1, 0x4, .ro, 0x0, [], 0x0, []⟩,
  -- FWD_CNTk_LO
  ⟨0x210100, 26, 0x8, 1, 0x4, .rsn, 0x0, [], 0x0, []⟩,
  -- FWD_CNTk_HI
  ⟨0x210104, 26, 0x8, 1, 0x4, .ro, 0x0, [], 0x0, []⟩,
  -- FWD_ACL_HITi_LO
  ⟨0x218000, 2048, 0x8, 1, 0x4, .rsn, 0x0, [], 0x0, []⟩,
  -- FWD_ACL_HITi_HI
  ⟨0x218004, 2048, 0x8, 1, 0x4, .ro, 0x0, [], 0x0, []⟩]

/-- The registers of the TM block. -/
def tmRows : List RegRow := [
  -- TM_BUF_STAT
  ⟨0x220000, 1, 0x4, 1, 0x4, .ro, 0x4000, [], 0x0, []⟩,
  -- TM_PRIV_RES
  ⟨0x220004, 1, 0x4, 1, 0x4, .rw, 0x400, [], 0x7FFF, [⟨14, 0, false, 0, 4096⟩]⟩,
  -- TM_CLASS_MAP_LO
  ⟨0x220008, 1, 0x4, 1, 0x4, .rw, 0x4040404, [], 0xFFFFFFFF, [⟨7, 2, false, 1, 63⟩, ⟨15, 10, false, 1, 63⟩, ⟨23, 18, false, 1, 63⟩, ⟨31, 26, false, 1, 63⟩]⟩,
  -- TM_CLASS_MAP_HI
  ⟨0x22000C, 1, 0x4, 1, 0x4, .rw, 0x7060505, [], 0xFFFFFFFF, [⟨7, 2, false, 1, 63⟩, ⟨15, 10, false, 1, 63⟩, ⟨23, 18, false, 1, 63⟩, ⟨31, 26, false, 1, 63⟩]⟩,
  -- TM_ING_e
  ⟨0x220040, 4, 0x4, 1, 0x4, .rw, 0x800, [], 0x7FFF, [⟨14, 0, false, 64, 16384⟩]⟩,
  -- TM_ING_STAT_e
  ⟨0x220050, 4, 0x4, 1, 0x4, .ro, 0x0, [], 0x0, []⟩,
  -- TM_PORT_CFG
  ⟨0x220100, 16, 0x10, 1, 0x4, .rw, 0x800, [], 0xFFFFFF03, [⟨15, 8, false, 1, 64⟩]⟩,
  -- TM_PORT_SHAPE
  ⟨0x220104, 16, 0x10, 1, 0x4, .txn, 0x10000, [], 0xFFFFFFFF, []⟩,
  -- TM_PORT_OVH
  ⟨0x220108, 16, 0x10, 1, 0x4, .rw, 0x1000000, [], 0x1FFF00FF, [⟨7, 0, true, -32, 63⟩, ⟨28, 16, false, 1, 4096⟩]⟩,
  -- TM_PORT_TOK
  ⟨0x22010C, 16, 0x10, 1, 0x4, .ro, 0x0, [], 0x0, []⟩,
  -- TM_DROP_d_GY
  ⟨0x220200, 16, 0x8, 1, 0x4, .rw, 0x2000400, [], 0x7FFF7FFF, []⟩,
  -- TM_DROP_d_R
  ⟨0x220204, 16, 0x8, 1, 0x4, .rw, 0x80, [], 0x7FFF, []⟩,
  -- TM_SVC_CFG
  ⟨0x221000, 16, 0x10, 1, 0x4, .txn, 0x0, [0x100, 0x101, 0x102, 0x103, 0x104, 0x105, 0x106, 0x107, 0x108, 0x109, 0x10A, 0x10B, 0x10C, 0x10D, 0x10E, 0x10F], 0xFF3F, [⟨15, 8, false, 1, 255⟩]⟩,
  -- TM_SVC_CFG
  ⟨0x221100, 496, 0x10, 1, 0x4, .txn, 0x100, [], 0xFF3F, [⟨15, 8, false, 1, 255⟩]⟩,
  -- TM_SVC_SHAPE
  ⟨0x221004, 512, 0x10, 1, 0x4, .txn, 0x10000, [], 0xFFFFFFFF, []⟩,
  -- TM_SVC_TOK
  ⟨0x221008, 512, 0x10, 1, 0x4, .ro, 0x0, [], 0x0, []⟩,
  -- TM_SUB_CFG
  ⟨0x224000, 16, 0x8, 1, 0x4, .txn, 0x0, [0x1000, 0x1001, 0x1002, 0x1003, 0x1004, 0x1005, 0x1006, 0x1007, 0x1008, 0x1009, 0x100A, 0x100B, 0x100C, 0x100D, 0x100E, 0x100F], 0xFFF7FF, [⟨19, 12, false, 1, 255⟩]⟩,
  -- TM_SUB_CFG
  ⟨0x224080, 4080, 0x8, 1, 0x4, .txn, 0x1000, [], 0xFFF7FF, [⟨19, 12, false, 1, 255⟩]⟩,
  -- TM_SUB_SHAPE
  ⟨0x224004, 4096, 0x8, 1, 0x4, .txn, 0x10000, [], 0xFFFFFFFF, []⟩,
  -- TM_MTR_RATE
  ⟨0x22C000, 2048, 0x8, 1, 0x4, .rw, 0x0, [], 0xFFFFFFFF, []⟩,
  -- TM_MTR_BURST
  ⟨0x22C004, 2048, 0x8, 1, 0x4, .rw, 0x0, [], 0xFFFFFFF, []⟩]

/-- The registers of the TIME block. -/
def timeRows : List RegRow := [
  -- TIME_CTL
  ⟨0x300000, 1, 0x4, 1, 0x4, .rw, 0x6400, [], 0xFF03, [⟨15, 8, false, 1, 200⟩]⟩,
  -- TIME_STATE
  ⟨0x300004, 1, 0x4, 1, 0x4, .ro, 0xF0, [], 0x0, []⟩,
  -- TIME_NOW_SEC_LO
  ⟨0x300008, 1, 0x4, 1, 0x4, .rsn, 0x0, [], 0x0, []⟩,
  -- TIME_NOW_SEC_HI
  ⟨0x30000C, 1, 0x4, 1, 0x4, .ro, 0x0, [], 0x0, []⟩,
  -- TIME_NOW_NS
  ⟨0x300010, 1, 0x4, 1, 0x4, .ro, 0x0, [], 0x0, []⟩,
  -- TIME_NOW_FRAC
  ⟨0x300014, 1, 0x4, 1, 0x4, .ro, 0x0, [], 0x0, []⟩,
  -- TIME_FREQ
  ⟨0x300018, 1, 0x4, 1, 0x4, .ro, 0x0, [], 0x0, []⟩,
  -- TIME_JUMP_LIM
  ⟨0x30001C, 1, 0x4, 1, 0x4, .rw, 0xF4240, [], 0x3FFFFFFF, [⟨29, 0, false, 1000, 1000000000⟩]⟩,
  -- TIME_OFFSET
  ⟨0x300020, 1, 0x4, 1, 0x4, .ro, 0x0, [], 0x0, []⟩,
  -- TIME_SLEW
  ⟨0x300024, 1, 0x4, 1, 0x4, .ro, 0x0, [], 0x0, []⟩,
  -- TIME_REFUSED_LO
  ⟨0x300028, 1, 0x4, 1, 0x4, .rsn, 0x0, [], 0x0, []⟩,
  -- TIME_REFUSED_HI
  ⟨0x30002C, 1, 0x4, 1, 0x4, .ro, 0x0, [], 0x0, []⟩,
  -- TIME_FLAGS
  ⟨0x300030, 1, 0x4, 1, 0x4, .w1c, 0x0, [], 0xF, []⟩,
  -- TIME_CONV_PHASE
  ⟨0x300034, 1, 0x4, 1, 0x4, .txn, 0x0, [], 0x1FFFF, [⟨16, 0, false, 0, 124999⟩]⟩,
  -- TIME_CYC_CFG
  ⟨0x300038, 1, 0x4, 1, 0x4, .txn, 0x64, [], 0x3FF03FF, [⟨9, 0, false, 1, 1000⟩]⟩,
  -- TIME_RADIO_CFG
  ⟨0x30003C, 1, 0x4, 1, 0x4, .rw, 0x64, [], 0xFFFFFFFF, []⟩,
  -- TIME_PTP_CLOCK
  ⟨0x300040, 1, 0x4, 1, 0x4, .rw, 0xBB808000, [], 0xFFFFFFFF, []⟩,
  -- TIME_PTP_e_CFG
  ⟨0x300100, 4, 0x8, 1, 0x4, .rw, 0x301D06, [], 0xFFFF7F, [⟨6, 5, false, 0, 2⟩, ⟨11, 8, true, -7, 4⟩, ⟨15, 12, true, -3, 4⟩, ⟨19, 16, true, -7, 5⟩, ⟨23, 20, false, 2, 15⟩]⟩,
  -- TIME_PTP_e_ASYM
  ⟨0x300104, 4, 0x8, 1, 0x4, .rw, 0x0, [], 0xFFFFFFFF, [⟨31, 0, true, -100000, 100000⟩]⟩,
  -- TIME_SQ_e_STAT
  ⟨0x300140, 4, 0x4, 1, 0x4, .ro, 0x0, [], 0x0, []⟩,
  -- TIME_PLS_k_CTL
  ⟨0x300400, 4, 0x20, 1, 0x4, .rw, 0x0, [], 0xFFFF007F, []⟩,
  -- TIME_PLS_k_START_LO
  ⟨0x300404, 4, 0x20, 1, 0x4, .rw, 0x0, [], 0xFFFFFFFF, []⟩,
  -- TIME_PLS_k_START_HI
  ⟨0x300408, 4, 0x20, 1, 0x4, .rw, 0x0, [], 0xFFFF, []⟩,
  -- TIME_PLS_k_START_NS
  ⟨0x30040C, 4, 0x20, 1, 0x4, .rw, 0x0, [], 0xFFFFFFFF, []⟩,
  -- TIME_PLS_k_WIDTH
  ⟨0x300410, 4, 0x20, 1, 0x4, .rw, 0x0, [], 0xFFFFFFFF, []⟩,
  -- TIME_PLS_k_PERIOD
  ⟨0x300414, 4, 0x20, 1, 0x4, .rw, 0x0, [], 0xFFFFFFFF, []⟩,
  -- TIME_PLS_k_STAT
  ⟨0x300418, 4, 0x20, 1, 0x4, .ro, 0x0, [], 0x0, []⟩]

/-- The registers of the RTC block. -/
def rtcRows : List RegRow := [
  -- RTC_CTL
  ⟨0x310000, 1, 0x4, 1, 0x4, .rw, 0x0, [], 0x7, []⟩,
  -- RTC_STAT
  ⟨0x310004, 1, 0x4, 1, 0x4, .ro, 0x1, [], 0x0, []⟩,
  -- RTC_ERR
  ⟨0x310008, 1, 0x4, 1, 0x4, .w1c, 0x0, [], 0x3, []⟩,
  -- RTC_EVT
  ⟨0x31000C, 1, 0x4, 1, 0x4, .w1c, 0x0, [], 0x7, []⟩,
  -- RTC_SEC
  ⟨0x310010, 1, 0x4, 1, 0x4, .rsn, 0x0, [], 0x0, []⟩,
  -- RTC_SSEC
  ⟨0x310014, 1, 0x4, 1, 0x4, .ro, 0x0, [], 0x0, []⟩,
  -- RTC_MIN
  ⟨0x310018, 1, 0x4, 1, 0x4, .ro, 0x0, [], 0x0, []⟩,
  -- RTC_HOUR
  ⟨0x31001C, 1, 0x4, 1, 0x4, .ro, 0x0, [], 0x0, []⟩,
  -- RTC_DAY
  ⟨0x310020, 1, 0x4, 1, 0x4, .ro, 0x601, [], 0x0, []⟩,
  -- RTC_MON
  ⟨0x310024, 1, 0x4, 1, 0x4, .ro, 0x1, [], 0x0, []⟩,
  -- RTC_YEAR
  ⟨0x310028, 1, 0x4, 1, 0x4, .ro, 0x7D0, [], 0x0, []⟩,
  -- RTC_TIME_W
  ⟨0x310030, 1, 0x4, 1, 0x4, .wo, 0x0, [], 0xFFFFFFFF, []⟩,
  -- RTC_DATE_W
  ⟨0x310034, 1, 0x4, 1, 0x4, .wo, 0x0, [], 0xFFFFFFFF, []⟩,
  -- RTC_WAKE
  ⟨0x310040, 1, 0x4, 1, 0x4, .rw, 0xFF, [], 0xFFFFFF, []⟩,
  -- RTC_WAKE_CNT
  ⟨0x310044, 1, 0x4, 1, 0x4, .ro, 0x0, [], 0x0, []⟩,
  -- RTC_BKP_STAMP_T
  ⟨0x310050, 1, 0x4, 1, 0x4, .ro, 0x0, [], 0x0, []⟩,
  -- RTC_BKP_STAMP_D
  ⟨0x310054, 1, 0x4, 1, 0x4, .ro, 0x0, [], 0x0, []⟩,
  -- RTC_BKP_DATAi
  ⟨0x310060, 8, 0x4, 1, 0x4, .rw, 0x0, [], 0xFFFFFFFF, []⟩]

/-- The registers of the MEAS block. -/
def measRows : List RegRow := [
  -- MEAS_CTL
  ⟨0x400000, 1, 0x4, 1, 0x4, .rw, 0xA00, [], 0xFF01, [⟨15, 8, false, 1, 100⟩]⟩,
  -- MEAS_STAT
  ⟨0x400004, 1, 0x4, 1, 0x4, .ro, 0x210, [], 0x0, []⟩,
  -- MEAS_CNT
  ⟨0x400040, 5, 0x4, 1, 0x4, .ro, 0x0, [], 0x0, []⟩,
  -- MEAS_IN_i_CFG
  ⟨0x400100, 18, 0x20, 1, 0x4, .rw, 0x1F00, [], 0x3, [⟨1, 0, false, 0, 2⟩]⟩,
  -- MEAS_IN_i_FS
  ⟨0x400104, 18, 0x20, 1, 0x4, .rw, 0x0, [], 0xFFFFFFFF, [⟨31, 0, false, 1, 4000000⟩]⟩,
  -- MEAS_IN_i_GAIN
  ⟨0x400108, 18, 0x20, 1, 0x4, .rw, 0x40000000, [], 0xFFFFFFFF, [⟨31, 0, false, 536870912, 2147483647⟩]⟩,
  -- MEAS_IN_i_OFS
  ⟨0x40010C, 18, 0x20, 1, 0x4, .rw, 0x0, [], 0xFFFFFF, []⟩,
  -- MEAS_IN_i_DLY
  ⟨0x400110, 18, 0x20, 1, 0x4, .rw, 0x0, [], 0xFFFFFFFF, [⟨31, 0, true, -62500, 62500⟩]⟩,
  -- MEAS_F_f_WIN
  ⟨0x400400, 9, 0x80, 1, 0x4, .rsn, 0x0, [], 0x0, []⟩,
  -- MEAS_F_f_Q
  ⟨0x400404, 9, 0x80, 9, 0x4, .ro, 0x0, [], 0x0, []⟩,
  -- MEAS_F_f_FLAGS
  ⟨0x400428, 9, 0x80, 1, 0x4, .ro, 0x0, [], 0x0, []⟩,
  -- MEAS_F_f_E_LO
  ⟨0x40042C, 9, 0x80, 4, 0x8, .ro, 0x0, [], 0x0, []⟩,
  -- MEAS_F_f_E_HI
  ⟨0x400430, 9, 0x80, 4, 0x8, .ro, 0x0, [], 0x0, []⟩,
  -- MEAS_OUT_k_CFG
  ⟨0x400C00, 16, 0x10, 1, 0x4, .rw, 0x320064, [], 0xFFFFFFF, [⟨14, 0, false, 100, 25000⟩, ⟨25, 16, false, 1, 1000⟩]⟩,
  -- MEAS_OUT_k_VAL
  ⟨0x400C04, 16, 0x10, 1, 0x4, .ro, 0x0, [], 0x0, []⟩,
  -- MEAS_OUT_k_STAT
  ⟨0x400C08, 16, 0x10, 1, 0x4, .ro, 0x0, [], 0x0, []⟩,
  -- MEAS_CAP_c_CFG
  ⟨0x400E00, 8, 0x4, 1, 0x4, .rw, 0x0, [], 0xFF, []⟩]

/-- The registers of the CTLP block. -/
def ctlpRows : List RegRow := [
  -- CTLP_CTL
  ⟨0x410000, 1, 0x4, 1, 0x4, .rw, 0x0, [], 0x1, []⟩,
  -- CTLP_STAT
  ⟨0x410004, 1, 0x4, 1, 0x4, .ro, 0x0, [], 0x0, []⟩,
  -- CTLP_RPT_CFG
  ⟨0x410008, 1, 0x4, 1, 0x4, .rw, 0x5A005A, [], 0x7FFFFF, [⟨15, 0, false, 1, 65535⟩, ⟨22, 16, false, 0, 100⟩]⟩,
  -- CTLP_CYC_LO
  ⟨0x41000C, 1, 0x4, 1, 0x4, .rsn, 0x0, [], 0x0, []⟩,
  -- CTLP_CYC_HI
  ⟨0x410010, 1, 0x4, 1, 0x4, .ro, 0x0, [], 0x0, []⟩,
  -- CTLP_CNT
  ⟨0x410040, 7, 0x4, 1, 0x4, .ro, 0x0, [], 0x0, []⟩,
  -- CTLP_VAR
  ⟨0x410100, 32, 0x4, 1, 0x4, .rw, 0x0, [], 0xFFFFFFFF, []⟩,
  -- CTLP_GRP_g_CNT
  ⟨0x410200, 16, 0x10, 1, 0x4, .ro, 0x0, [], 0x0, []⟩,
  -- CTLP_GRP_g_FLT
  ⟨0x410204, 16, 0x10, 1, 0x4, .ro, 0x0, [], 0x0, []⟩,
  -- CTLP_GRP_g_PWR
  ⟨0x410208, 16, 0x10, 1, 0x4, .ro, 0x0, [], 0x0, []⟩,
  -- SER_s_CFG
  ⟨0x410C00, 4, 0x10, 1, 0x4, .rw, 0x0, [], 0xFFFFFF7F, [⟨3, 2, false, 0, 2⟩, ⟨23, 16, false, 1, 255⟩]⟩,
  -- SER_s_BAUD
  ⟨0x410C04, 4, 0x10, 1, 0x4, .rw, 0x2580, [], 0xFFFFF, [⟨19, 0, false, 1200, 921600⟩]⟩,
  -- SER_s_STAT
  ⟨0x410C08, 4, 0x10, 1, 0x4, .ro, 0x0, [], 0x0, []⟩]

/-- The registers of the CIPH block. -/
def ciphRows : List RegRow := [
  -- CIPH_STAT
  ⟨0x500000, 1, 0x4, 1, 0x4, .ro, 0x10F, [], 0x0, []⟩,
  -- CIPH_ALARM
  ⟨0x500004, 1, 0x4, 1, 0x4, .w1c, 0x0, [], 0x1F, []⟩,
  -- CIPH_RADIO_CFG
  ⟨0x500008, 1, 0x4, 1, 0x4, .rw, 0x0, [], 0xFFFF01FF, []⟩,
  -- CIPH_LREC_BASE_LO
  ⟨0x500010, 1, 0x4, 1, 0x4, .ro, 0x0, [], 0x0, []⟩,
  -- CIPH_LREC_BASE_HI
  ⟨0x500014, 1, 0x4, 1, 0x4, .ro, 0x0, [], 0x0, []⟩,
  -- CIPH_CNT
  ⟨0x500040, 7, 0x4, 1, 0x4, .ro, 0x0, [], 0x0, []⟩,
  -- CIPH_PAGE_p_CFG
  ⟨0x500100, 16, 0x8, 1, 0x4, .ro, 0x0, [], 0x0, []⟩,
  -- CIPH_PAGE_p_KCV
  ⟨0x500104, 16, 0x8, 1, 0x4, .ro, 0x0, [], 0x0, []⟩,
  -- CIPH_ENG_e_STAT
  ⟨0x500200, 5, 0x4, 1, 0x4, .ro, 0x0, [0x0, 0x0, 0x0, 0x0, 0x2], 0x0, []⟩]

/-- The registers of the DRAM block. -/
def dramRows : List RegRow := [
  -- DRAM_CFG
  ⟨0x510000, 1, 0x4, 1, 0x4, .ro, 0x0, [], 0x0, []⟩,
  -- DRAM_CTL
  ⟨0x510004, 1, 0x4, 1, 0x4, .rw, 0x4, [], 0x7, [⟨2, 0, false, 0, 4⟩]⟩,
  -- DRAM_STAT
  ⟨0x510008, 1, 0x4, 1, 0x4, .ro, 0x0, [], 0x0, []⟩,
  -- DRAM_PAGE_CTL
  ⟨0x51000C, 1, 0x4, 1, 0x4, .rw, 0x4000, [], 0xFF03, [⟨1, 0, false, 0, 2⟩, ⟨15, 8, false, 4, 255⟩]⟩,
  -- DRAM_ACT_CTL
  ⟨0x510010, 1, 0x4, 1, 0x4, .rw, 0x3E82000, [], 0xFFFFFFFF, [⟨15, 0, false, 256, 65535⟩, ⟨31, 16, false, 100, 10000⟩]⟩,
  -- DRAM_ACT_FLAG
  ⟨0x510014, 1, 0x4, 1, 0x4, .w1c, 0x0, [], 0x1F, []⟩,
  -- DRAM_TRN_CTL
  ⟨0x510018, 1, 0x4, 1, 0x4, .rw, 0x140064, [], 0xFFFFFF, [⟨15, 0, false, 10, 10000⟩, ⟨23, 16, false, 5, 100⟩]⟩,
  -- DRAM_SCRUB
  ⟨0x51001C, 1, 0x4, 1, 0x4, .rw, 0x18, [], 0xFF, [⟨7, 0, false, 1, 168⟩]⟩,
  -- DRAM_SPARE_STAT
  ⟨0x510020, 1, 0x4, 1, 0x4, .ro, 0x2020, [], 0x0, []⟩,
  -- DRAM_ERR_ADDR_LO
  ⟨0x510028, 1, 0x4, 1, 0x4, .rsn, 0x0, [], 0x0, []⟩,
  -- DRAM_ERR_ADDR_HI
  ⟨0x51002C, 1, 0x4, 1, 0x4, .ro, 0x0, [], 0x0, []⟩,
  -- DRAM_PORT_p_CFG
  ⟨0x510040, 5, 0x8, 1, 0x4, .rw, 0x0, [0x1810, 0x1820, 0x1808, 0x1808, 0x1840], 0x3FFF, [⟨7, 0, false, 1, 255⟩]⟩,
  -- DRAM_PORT_p_STAT
  ⟨0x510044, 5, 0x8, 1, 0x4, .ro, 0x0, [], 0x0, []⟩,
  -- DRAM_CNTk_LO
  ⟨0x510100, 11, 0x8, 1, 0x4, .rsn, 0x0, [], 0x0, []⟩,
  -- DRAM_CNTk_HI
  ⟨0x510104, 11, 0x8, 1, 0x4, .ro, 0x0, [], 0x0, []⟩,
  -- DRAM_REMAP
  ⟨0x510200, 2, 0x80, 32, 0x4, .ro, 0x0, [], 0x0, []⟩]

/-- The registers of the TMR block. -/
def tmrRows : List RegRow := [
  -- TMR_n_CTL
  ⟨0x520000, 16, 0x20, 1, 0x4, .rw, 0x0, [], 0x3FFFF, [⟨12, 11, false, 0, 2⟩]⟩,
  -- TMR_n_PERIOD
  ⟨0x520004, 16, 0x20, 1, 0x4, .rw, 0xFFFFFFFF, [], 0xFFFFFFFF, [⟨31, 0, false, 1, 4294967295⟩]⟩,
  -- TMR_n_PERIOD_ACT
  ⟨0x520008, 16, 0x20, 1, 0x4, .ro, 0xFFFFFFFF, [], 0x0, []⟩,
  -- TMR_n_CNT
  ⟨0x52000C, 16, 0x20, 1, 0x4, .rw, 0x0, [], 0xFFFFFFFF, []⟩,
  -- TMR_n_CMP
  ⟨0x520010, 16, 0x20, 1, 0x4, .rw, 0xFFFFFFFF, [], 0xFFFFFFFF, []⟩,
  -- TMR_n_EVT
  ⟨0x520014, 16, 0x20, 1, 0x4, .w1c, 0x0, [], 0x7, []⟩,
  -- TMR_n_PRE
  ⟨0x520018, 16, 0x20, 1, 0x4, .rw, 0x0, [], 0xFFFF, []⟩,
  -- TMR_CAP_c_CFG
  ⟨0x520200, 8, 0x10, 1, 0x4, .rw, 0x0, [], 0xFF, []⟩,
  -- TMR_CAP_c_STAT
  ⟨0x520204, 8, 0x10, 1, 0x4, .ro, 0x0, [], 0x0, []⟩,
  -- TMR_CAP_c_FLAG
  ⟨0x520208, 8, 0x10, 1, 0x4, .w1c, 0x0, [], 0x1, []⟩,
  -- TMR_GO
  ⟨0x520400, 1, 0x4, 1, 0x4, .wo, 0x0, [], 0xFFFF, []⟩,
  -- TMR_RUN
  ⟨0x520404, 1, 0x4, 1, 0x4, .ro, 0x0, [], 0x0, []⟩]

/-- The registers of the PWR block. -/
def pwrRows : List RegRow := [
  -- PWR_STATE
  ⟨0x600000, 1, 0x4, 1, 0x4, .ro, 0x0, [], 0x0, []⟩,
  -- PWR_CTL
  ⟨0x600004, 1, 0x4, 1, 0x4, .rw, 0x0, [], 0x1, []⟩,
  -- PWR_TRIM_CFG
  ⟨0x600008, 1, 0x4, 1, 0x4, .rw, 0x1FF, [], 0x1FF, []⟩,
  -- PWR_WAKE_EN
  ⟨0x60000C, 1, 0x4, 1, 0x4, .rw, 0x6F, [], 0xFF1F, []⟩,
  -- PWR_WAKE_SRC
  ⟨0x600010, 1, 0x4, 1, 0x4, .w1c, 0x0, [], 0xFFFFFF, []⟩,
  -- PWR_WAKE_ADDR
  ⟨0x600014, 1, 0x4, 1, 0x4, .rw, 0x64, [], 0x1FF, [⟨6, 0, false, 1, 126⟩]⟩,
  -- PWR_WAKE_CNT
  ⟨0x600018, 1, 0x4, 1, 0x4, .ro, 0x0, [], 0x0, []⟩,
  -- PWR_DOM_STAT
  ⟨0x60001C, 1, 0x4, 1, 0x4, .ro, 0x3FF, [], 0x0, []⟩,
  -- PWR_ISO_STAT
  ⟨0x600020, 1, 0x4, 1, 0x4, .ro, 0x0, [], 0x0, []⟩]

/-- The registers of the CLK block. -/
def clkRows : List RegRow := [
  -- CLK_SRC_STAT
  ⟨0x610000, 1, 0x4, 1, 0x4, .ro, 0x7, [], 0x0, []⟩,
  -- CLK_GATE_CTL
  ⟨0x610004, 1, 0x4, 1, 0x4, .rw, 0x7FFF, [], 0x7FFF, []⟩,
  -- CLK_GATE_STAT
  ⟨0x610008, 1, 0x4, 1, 0x4, .ro, 0x7FFF, [], 0x0, []⟩,
  -- CLK_PLL_STAT
  ⟨0x61000C, 1, 0x4, 1, 0x4, .ro, 0x3FF, [], 0x0, []⟩,
  -- CLK_SSC_g
  ⟨0x610010, 3, 0x4, 1, 0x4, .rw, 0x1E0000, [], 0x3F1FFF, [⟨12, 0, false, 0, 5000⟩, ⟨21, 16, false, 30, 63⟩]⟩,
  -- CLK_MON_CNT
  ⟨0x610020, 3, 0x4, 1, 0x4, .ro, 0x0, [], 0x0, []⟩,
  -- CLK_FAIL
  ⟨0x610030, 1, 0x4, 1, 0x4, .w1c, 0x0, [], 0xFF0F, []⟩]

/-- The registers of the DARN block. -/
def darnRows : List RegRow := [
  -- DARN_SVC
  ⟨0x700000, 1, 0x4, 1, 0x4, .ro, 0x0, [], 0x0, []⟩,
  -- DARN_STAT
  ⟨0x700004, 1, 0x4, 1, 0x4, .ro, 0x0, [], 0x0, []⟩,
  -- DARN_CLASS_k_CFG
  ⟨0x700010, 7, 0x4, 1, 0x4, .rw, 0x0, [0x1012810, 0x10A2810, 0x1012810, 0x1012810, 0x13C1808, 0x13C1808, 0x1000000], 0xFFFFFFFF, [⟨7, 0, false, 1, 128⟩, ⟨15, 8, false, 16, 254⟩, ⟨23, 16, false, 1, 255⟩, ⟨31, 24, false, 0, 8⟩]⟩,
  -- DARN_CLASS_k_STAT
  ⟨0x700030, 7, 0x4, 1, 0x4, .ro, 0x0, [0x848, 0x303, 0x210, 0x104, 0x2000, 0x200, 0x202], 0x0, []⟩,
  -- DARN_CNT
  ⟨0x700040, 4, 0x4, 1, 0x4, .ro, 0x0, [], 0x0, []⟩,
  -- DARN_WEAR_w
  ⟨0x700060, 5, 0x4, 1, 0x4, .ro, 0x0, [], 0x0, []⟩,
  -- DARN_WEAR_w_THR
  ⟨0x700080, 5, 0x4, 1, 0x4, .seal, 0x0, [0x15630, 0x2238, 0x13880, 0x2710, 0x38], 0xFFFFFFFF, []⟩]

/-- The rows of the block that holds an address (Table 24-1). -/
def rowsOf (a : Nat) : List RegRow :=
  match a / 0x10000 with
  | 0x0 => sysRows
  | 0x1 => chainRows
  | 0x2 => secRows
  | 0x10 => trxRows
  | 0x11 => trxRows
  | 0x12 => trxRows
  | 0x13 => searchRows
  | 0x14 => wmacRows
  | 0x15 => schedRows
  | 0x20 => emacRows
  | 0x21 => fwdRows
  | 0x22 => tmRows
  | 0x30 => timeRows
  | 0x31 => rtcRows
  | 0x40 => measRows
  | 0x41 => ctlpRows
  | 0x50 => ciphRows
  | 0x51 => dramRows
  | 0x52 => tmrRows
  | 0x60 => pwrRows
  | 0x61 => clkRows
  | 0x70 => darnRows
  | _ => []

/-- The register at an address, with its indexes; none where the address does not exist (R587). -/
def findReg (a : Nat) : Option (RegRow × Nat × Nat) :=
  (rowsOf a).findSome? fun r => (r.find? a).map fun ij => (r, ij.1, ij.2)

/-- Whether an address of the register space exists (R587, R588). -/
def regExists (a : Nat) : Bool := (findReg a).isSome

/-- The value a register holds after reset (the chapters' register tables). -/
def resetValue (a : Nat) : Word :=
  match findReg a with
  | some (r, i, j) => r.resetAt i j
  | none => 0

end Sys2Proof.Machine
end

