-- ==== Sys2Proof/Config.lean ====
section
/-! DEFINITION. What the manual leaves to the implementation or to chance, as constants without a body: no
proof can see their values. Each is named in the assumption log. -/

namespace Sys2Proof.Config

/-- The `n`-th draw of a random source of the device: the backoff draws of R197 and the SEC random source of
R493, R499 and R506. A draw is used modulo the range the rule states. (DESIGN CHOICE: log 10.) -/
opaque draw : Nat → Nat

/-- Whether an RSA-3072 signature over a digest verifies under a modulus (R109, R471, R494, R507).
(DESIGN CHOICE: log 104.) -/
opaque rsaVerify : (modulus digest signature : Bytes) → Bool

/-- Whether an SLH-DSA-SHA2-192s signature over a digest verifies under a public key. (DESIGN CHOICE: log 104.) -/
opaque slhVerify : (key digest signature : Bytes) → Bool

/-- The RSA-3072 signature of a digest under the attestation key of the pairs generated at a draw (R495).
(DESIGN CHOICE: log 104.) -/
opaque rsaSign : (draw : Nat) → (digest : Bytes) → Bytes

/-- The SLH-DSA-SHA2-192s signature of a digest under the attestation key of the pairs generated at a draw (R495).
(DESIGN CHOICE: log 104.) -/
opaque slhSign : (draw : Nat) → (digest : Bytes) → Bytes

/-- The public keys of the pairs generated at a draw: attestation modulus, SLH-DSA key, transport modulus (R493).
(DESIGN CHOICE: log 104.) -/
opaque publicKeys : (draw : Nat) → Bytes × Bytes × Bytes

/-- The RSA-OAEP plaintext of a ciphertext under the transport key generated at a draw, if it decodes (R497).
(DESIGN CHOICE: log 104.) -/
opaque oaepDecrypt : (draw : Nat) → (ciphertext : Bytes) → Option Bytes

/-- The authorities' public keys, whose digests mask ROM holds: RSA modulus and SLH-DSA key, by purpose
(0 firmware, 1 regulatory certificate, 2 manufacturing). (DESIGN CHOICE: log 104.) -/
opaque authority : (purpose : Nat) → Bytes × Bytes

/-- The converter's reading of the quadrature component in a metering window (the Hilbert filter of R367).
(DESIGN CHOICE: log 76.) -/
opaque quadrature : (voltage current : List Int) → Int

/-- The frequency a metering window gives, mHz, from its voltage samples (Table 13-1). (DESIGN CHOICE: log 76.) -/
opaque frequency : (voltage : List Int) → Int

/-- What a result register of a pair reads where the exact value does not fit its 32 bits. (DESIGN CHOICE: log 76.) -/
opaque overflow : (exact : Int) → Int

/-- What a quantity of a pair reads for a window in which it has no sample. (DESIGN CHOICE: log 76.) -/
opaque unmeasured : (pair quantity window : Nat) → Int

/-- The code a waveform capture holds for a sample that is missing. (DESIGN CHOICE: log 76.) -/
opaque missingSample : (input : Nat) → (instant : Int) → Int

/-- The rounding of a quotient that the manual does not state: one of the two integers beside it.
(DESIGN CHOICE: log 11.) -/
opaque roundsUp : (numerator denominator : Int) → Bool

/-- The correction of TIME_FREQ, 1/65,536 ppb, that the time function sets at a measurement: R314 names the
register and no rule states its servo. (DESIGN CHOICE: log 68.) -/
opaque servo : (measurement : Nat) → Int

/-- The clock identity that the time function sends (IEEE 1588; no rule of the manual states it).
(DESIGN CHOICE: log 70.) -/
opaque clockIdentity : Nat

/-- Accuracy, variance and time source of an Announce, and its clockClass in LOCKED and LOCKING, as the selected
master's data set has them. (DESIGN CHOICE: log 70.) -/
opaque clockQuality : (master : Bytes) → Nat

/-- The Ethernet, IP and UDP headers of a message of IEEE 1588 over UDP: addresses the manual does not state.
(DESIGN CHOICE: log 70.) -/
opaque udpHeaders : (transport port length : Nat) → Bytes

/-- The logical port on the receiving device that a unicast's Cordonnet header names (R273): no rule states how the
sender knows it. (DESIGN CHOICE: log 64.) -/
opaque remotePort : (device : Nat) → (destination : Bytes) → Nat

/-- The way that FWD_MAC_WRITE reports when it clears an entry that does not exist (Table 9-10).
(DESIGN CHOICE: log 64.) -/
opaque absentWay : (bucket : Nat) → Nat

/-- Which of the ports that hear a master the best master clock algorithm of IEEE 1588 takes (R322).
(DESIGN CHOICE: log 70.) -/
opaque bestMaster : (ports : List Nat) → Nat

/-- The sequence number in the MAC header of a broadcast frame: R191 numbers unicast frames only.
(DESIGN CHOICE: log 51.) -/
opaque broadcastSeq : (frame : Nat) → Nat

/-- The noise floor of a sub-band of a radio, dBm, as measured over a second (R169, Table 5-6).
(DESIGN CHOICE: log 47.) -/
opaque noiseFloor : (radio subband second : Nat) → Int

/-- The place of a channel's byte in its memory: (rank · 8 + bank) · 65,536 + row, modulo the rows there are.
(DESIGN CHOICE: log 84, 88.) -/
opaque dramRow : (channel address : Nat) → Nat

/-- The usable addresses at which firmware lays out the contexts and the link records (R228, R403).
(DESIGN CHOICE: log 84.) -/
opaque contextBase : Nat
opaque linkBase : Nat

/-- The frame of a downlink queue that lies at a usable address: client · 64 + place. (DESIGN CHOICE: log 84, 118.) -/
opaque queueFrame : (address : Nat) → Nat

/-- The sample of a waveform capture that lies at a usable address, in the order the samples are taken.
(DESIGN CHOICE: log 84.) -/
opaque captureSample : (address : Nat) → Nat

/-- An octet of the content of a chain control frame, whose format the manual does not state (R521).
(DESIGN CHOICE: log 26.) -/
opaque controlByte : ChainControl → (place : Nat) → Byte

/-- The evaluation time of a control cycle, µs (R373 bounds it by 120). (DESIGN CHOICE: log 79.) -/
opaque evaluationTime : (cycle : Nat) → Nat

/-- Whether the bank of a retired DRAM row still has repair capacity at a cold start (R422). (DESIGN CHOICE: log 88.) -/
opaque repairable : (row : Nat) → Bool

/-- Whether a read of an address that Table 21-11 gives both to DARN_CLASS_k_STAT and to DARN_CNT answers the counter.
(DESIGN CHOICE: log 116.) -/
opaque readsCounter : (address : Nat) → Bool

/-- What an octet of an erased sector, or of an empty status record, of the boot flash reads as.
(DESIGN CHOICE: log 101.) -/
opaque erased : Byte

/-- The factory defaults image in OTP (R480). (DESIGN CHOICE: log 101.) -/
opaque factoryImage : Bytes

/-- The severity byte of an event whose chapter states none: EVENTS_LOST and SESSION_CLOSED (R65).
(DESIGN CHOICE: log 5.) -/
opaque eventSeverity : (code : Nat) → Nat

end Sys2Proof.Config
end

