-- ==== Sys2Proof/Machine/State.lean ====
section
/-! DEFINITION. The state of the LD6430, as plain data: one structure for each part of the device, the sparse
register file, and the queue of commands that wait. -/

namespace Sys2Proof.Machine

/-- Why the machine stops. No command of a host stops it: every check that fails is a reply or a counted discard.
(DESIGN CHOICE: log 86.) -/
inductive Fault where
  /-- Raised by DRAM_ACCESS at or beyond the capacity that the start-up found, which the spec gives no effect. Safe: the
  machine stops where the hardware may go on. (DESIGN CHOICE: log 86.) -/
  | noDevice (address : Nat)
  deriving DecidableEq, Repr

/-- Why a command has no meaning. -/
inductive Refusal where
  /-- Raised by an arm of `exec` whose command has no meaning yet. Safe: the machine stops. -/
  | notModelled (mnemonic : String)
  deriving DecidableEq, Repr

/-- Sparse data by number: pairs with strictly rising keys. -/
abbrev Table (α : Type) := List (Nat × α)

/-- Memory: (address, byte) cells with strictly rising addresses, none equal to what an unlisted address reads as. -/
abbrev Memory := List Host.Cell

/-! ### The command path (chapter 2) -/

/-- A reply or an event before it is laid out as Table 2-2. -/
structure Reply where
  final : Bool
  event : Bool
  replayed : Bool
  forwarded : Bool
  tag : Nat
  code : Nat
  source : Nat
  session : Nat
  status : Nat
  result : Bytes
  deriving DecidableEq, Repr

/-- What a command that has started and not ended is waiting for. -/
inductive Work where
  /-- A contention frame (RADIO_SEND, FILET_SOUND). -/
  | frame (id : Nat)
  /-- A frame in a client's queue (CLIENT_SEND). -/
  | clientFrame (client id : Nat)
  /-- Calibrations (RADIO_CAL): the mask of the radios still to end, and that of the radios named · 8. -/
  | radioCal (radios : Nat)
  | certVerify
  | txnCommit
  /-- RTC_SET in mode 1. -/
  | rtcSet
  | waveCapture
  | fwActivate
  | cfgSave
  | cfgCommit
  | lifecycle (target : Nat)
  | attest
  /-- CTLP_PROGRAM_COMMIT. -/
  | programCommit
  /-- A cipher request, by its number (CIPHER_RUN). -/
  | cipher (id : Nat)
  /-- A write of TMR_GO that waits for its strobe edge. -/
  | tmrGo
  /-- A unit named by DARN_RETIRE, while its spare comes in. -/
  | retire (kind unit : Nat)
  /-- Forwarded to another device of the chain (R524). -/
  | forwarded (device : Nat)
  /-- A CANCEL whose tag still has to give its final reply (R60). -/
  | cancel (tag : Nat)
  /-- Run on every device (R67): the devices still to answer, and the statuses so far. -/
  | broadcast (waiting : List Nat) (statuses : Table Nat)
  deriving DecidableEq, Repr

/-- What a reply to a command needs of it. -/
structure Origin where
  session : Nat
  tag : Nat
  trailer : Nat
  opcode : Nat
  ep : Endpoint
  wantReply : Bool
  deriving DecidableEq, Repr

/-- A command that has started and whose final reply is not yet produced. -/
structure Outstanding where
  origin : Origin
  /-- Elapsed time of its start, and of the end of its timeout hint, ns. -/
  started : Nat
  deadline : Nat
  work : Work
  deriving DecidableEq, Repr

/-- The states of R70. -/
inductive TxnState where
  | none
  | opened
  | pending
  | applied
  deriving DecidableEq, Repr

/-- A staged entry (R69), its address without the device number. -/
structure TxnEntry where
  device : Nat
  address : Nat
  mask : Word
  value : Word
  deriving DecidableEq, Repr

/-- One register of a roll-back record (R79): its value before the commit. -/
structure RollbackEntry where
  address : Nat
  value : Word
  deriving DecidableEq, Repr

/-- A write by another session since TXN_BEGIN (R73). -/
structure ForeignWrite where
  device : Nat
  session : Nat
  address : Nat
  mask : Word
  deriving DecidableEq, Repr

/-- A session's transaction. -/
structure Txn where
  state : TxnState := .none
  id : Nat := 0
  entries : List TxnEntry := []
  timed : Bool := false
  /-- Network time of the commit, ns. -/
  instant : Nat := 0
  tag : Nat := 0
  /-- Devices armed or applied (TXN_STATUS). -/
  devices : Nat := 0
  /-- Devices of the chain that hold an armed share, those whose outcome is still to come, the first failure with its
  device, and that go has been sent (R528, R529). -/
  armed : List Nat := []
  waiting : List Nat := []
  failed : Option (Nat × Nat × Bytes) := none
  go : Bool := false
  /-- Cancelled after its arming deadline (R61). -/
  late : Bool := false
  record : List RollbackEntry := []
  /-- The token levels of shapers that the commit reset (R79): by node number of chapter 10, millibits. -/
  tokens : Table Int := []
  /-- A roll-back record is kept, and nothing has written its registers since (R80). -/
  exact : Bool := false
  foreign : List ForeignWrite := []
  deriving DecidableEq, Repr

/-- One session of R50. -/
structure Session where
  ep : Option Endpoint := none
  authenticated : Bool := false
  challenge : Option Bytes := none
  /-- Elapsed time by which SEC_AUTH must succeed, ns (R498). -/
  authDue : Option Nat := none
  /-- Elapsed time of its last command, ns. -/
  lastCommand : Nat := 0
  mask : Nat := 0
  outstanding : List Outstanding := []
  /-- The replay cache (R49), oldest first: tag, trailer, final reply. -/
  cache : List (Nat × Nat × Reply) := []
  /-- The event queue (R64), oldest first. -/
  events : List Reply := []
  /-- The next sequence number of Table 2-8. -/
  seq : Nat := 0
  lost : Nat := 0
  firstLost : Nat := 0
  /-- Finished replies of an SPI session that SPI_GET has still to read (R43), oldest first. -/
  held : List Reply := []
  txn : Txn := {}
  /-- The attestation report (R495). -/
  report : Bytes := []
  deriving DecidableEq, Repr

/-- The registers of a ring pair in the direct window (Table 2-3), and the replies between head and tail. -/
structure Ring where
  cmdBaseLo : Word := 0
  cmdBaseHi : Word := 0
  rplBaseLo : Word := 0
  rplBaseHi : Word := 0
  cfg : Word := 0
  cmdTail : Word := 0
  cmdHead : Word := 0
  rplTail : Word := 0
  rplHead : Word := 0
  irq : Word := 0
  slots : List Reply := []
  /-- Finished replies held while the reply ring is full (R39), oldest first. -/
  held : List Reply := []
  deriving DecidableEq, Repr

/-- The host port, the sessions and the readers' snapshots. -/
structure HostPort where
  sessions : List Session := List.replicate 4 {}
  rings : List Ring := List.replicate 4 {}
  /-- DW_FW_STATE. -/
  fwState : Nat := 0
  /-- SPI_STATUS bit 2. -/
  spiDiscard : Bool := false
  /-- Replies of closed sessions, still to be read by SPI_GET (R51). -/
  spiLeft : List Reply := []
  /-- MSI messages sent, by vector (R42). -/
  msi : List Nat := List.replicate 5 0
  /-- Commits armed by sessions that have closed since (R78). -/
  orphans : List (Nat × Txn) := []
  /-- Transaction identifiers given so far. -/
  txnIds : Nat := 0
  /-- The snapshots of R17, by requester · 2^24 + address. Requesters: sessions 0–3, processors 4 and 5, the
  control program engine 6, the darning engine 7. -/
  snaps : Table Word := []
  deriving DecidableEq, Repr

/-! ### Start-up and configuration (chapter 18) -/

/-- A status record (R472). -/
structure FwRecord where
  seq : Nat
  /-- 0 rejected, 1 trial, 2 confirmed. -/
  state : Nat
  trialBoots : Nat
  deriving DecidableEq, Repr

/-- A firmware slot of the boot flash. -/
structure FwSlot where
  record : Option FwRecord := none
  image : Bytes := []
  /-- Where the next FW_WRITE may begin (R474). -/
  next : Nat := 0
  erases : Nat := 0
  deriving DecidableEq, Repr

/-- A configuration area of the boot flash (R482). -/
structure CfgArea where
  image : Bytes := []
  retired : Bool := false
  erases : Nat := 0
  deriving DecidableEq, Repr

/-- A configuration image on its way into a role's area. -/
structure CfgWrite where
  role : Nat
  image : Bytes
  failures : Nat
  deriving DecidableEq, Repr

/-- A record of the darning log (Table 21-8). -/
structure LogRecord where
  seq : Nat
  seconds : Nat
  kind : Nat
  unitKind : Nat
  unit : Nat
  spare : Nat
  cause : Nat
  wear : List Nat
  deriving DecidableEq, Repr

/-- A copy of the sealed-settings area (Table 18-3). -/
structure SealedCopy where
  certificate : Bytes := []
  deviceCert : Bytes := []
  log : List LogRecord := []
  deriving DecidableEq, Repr

/-- A reset that is due (R466). -/
structure ResetPlan where
  cold : Bool
  hold : Bool
  cause : Nat
  /-- Elapsed time, ns. -/
  due : Nat
  deriving DecidableEq, Repr

/-- The boot flash and the start-up state. -/
structure Boot where
  slots : List FwSlot := List.replicate 2 {}
  areas : List CfgArea := List.replicate 4 {}
  sealedCopies : List SealedCopy := List.replicate 2 {}
  cfgStage : Memory := []
  writing : Option CfgWrite := none
  /-- The running configuration that a warm reset keeps in DRAM (R465). -/
  retained : Option Bytes := none
  reset : Option ResetPlan := none
  /-- A reset that has begun and whose start-up has not ended. -/
  starting : Option ResetPlan := none
  /-- Start-up halted (R473), or TESTMODE (R565). -/
  halted : Bool := false
  testmode : Bool := false
  /-- Elapsed time at which the watchdog expires, ns. -/
  watchdogDue : Nat := 0
  watchdogResets : Nat := 0
  confirmDue : Option Nat := none
  /-- Verified length and kind of a FW_ACTIVATE under way. -/
  activating : Option (Nat × Nat) := none
  /-- The status with which a record of the image being replayed has failed (R480). -/
  replayFault : Option Nat := none
  deriving DecidableEq, Repr

/-! ### Security (chapter 19) -/

/-- OTP, staging and debug state. -/
structure Sec where
  /-- SHA-384 digests of the debug authority's keys (R504). -/
  debugAuthority : Option (Bytes × Bytes) := none
  /-- The rollback records of R496, in the order programmed. -/
  rollback : List Nat := []
  /-- SEAL register values in OTP (R500). -/
  sealedValues : Option (Table Word) := none
  /-- The key pairs of R493, by the draw that generated them, and whether the private keys are held. -/
  keyPairs : Option Nat := none
  privateKeys : Bool := false
  transportKey : Option Bytes := none
  /-- The security staging buffer, 20,480 bytes (R513). -/
  stage : Memory := []
  nonce : Option Bytes := none
  /-- Elapsed time at which the nonce is void, ns. -/
  nonceDue : Nat := 0
  /-- Elapsed time at which the granted level ends, ns. -/
  levelDue : Option Nat := none
  /-- Control processors held halted by the debug port. -/
  debugHalted : List Nat := []
  /-- SEC_AUTH failures in the present second (Table 19-11), and that second of elapsed time. -/
  authFailures : Nat := 0
  authSecond : Option Nat := none
  /-- The body of the attestation report that is being signed (R495). -/
  attesting : Option Bytes := none
  /-- Any alarm since the cold start (Table 19-3). -/
  anyAlarm : Bool := false
  /-- The tamper latch of the backup domain (R502). -/
  backupTamper : Bool := false
  /-- A lifecycle transition whose fuses are still to be programmed (R491). -/
  transition : Option Nat := none
  deriving DecidableEq, Repr

/-! ### Chains (chapter 20) -/

/-- A frame of kind 2 or 3 that its neighbour has not acknowledged (R523). -/
structure HopFrame where
  port : Nat
  seq : Nat
  resent : Bool
  /-- Elapsed time at which it was last sent, ns. -/
  sent : Nat
  frame : Bytes
  deriving DecidableEq, Repr

/-- The chain as this device knows it. -/
structure Chain where
  /-- The identity held by each device number (R519). -/
  identities : Table Bytes := []
  /-- The head's own share of numbering: a device conflict, an overflow (CHAIN_ENUM byte 1). -/
  flags : Nat := 0
  /-- The next sequence of each port (kinds 2 and 3). -/
  seqs : List Nat := [0, 0]
  unacked : List HopFrame := []
  /-- The last 32 sequences accepted from each neighbour, newest first. -/
  accepted : List (List Nat) := [[], []]
  /-- The device numbers out of CRD_DN and out of CRD_UP, in hop order. -/
  down : List Nat := []
  up : List Nat := []
  /-- Events that wait for a path to the head (R526), and those dropped. -/
  waitingEvents : List Reply := []
  droppedEvents : Nat := 0
  /-- Devices that left the chain, with the elapsed time at which their tags end (R525). -/
  departed : Table Nat := []
  /-- Shares of other devices' transactions held here: session, instant, go received, entries. -/
  shares : List (Nat × Nat × Bool × List TxnEntry) := []
  /-- The roll-back records of shares applied here, by session. -/
  shareRecords : Table (List RollbackEntry) := []
  deriving DecidableEq, Repr

/-! ### Faults and spares (chapter 21) -/

/-- The score of a unit (R536). -/
structure Score where
  score : Nat := 0
  errors : Nat := 0
  deriving DecidableEq, Repr

/-- The state of a unit, as DARN_UNIT_READ gives it. -/
inductive UnitState where
  | serving
  | spare
  | retired
  | testing
  deriving DecidableEq, Repr

/-- A retirement with its bring-in. -/
structure BringIn where
  kind : Nat
  unit : Nat
  cause : Nat
  /-- The spare under test, once one is chosen. -/
  spare : Option Nat
  /-- Elapsed time of the decision, ns. -/
  decided : Nat
  deriving DecidableEq, Repr

/-- The darning engine. -/
structure Darn where
  /-- Scores, by the keys of `unitKey`. -/
  scores : Table Score := []
  /-- Unit states that differ from shipment, by the keys of `unitKey`. -/
  units : Table UnitState := []
  /-- The end of the leak period in progress by kind, elapsed ns. -/
  leaks : Table Nat := []
  /-- Bring-ins under way, one per class, and those that wait (R545), oldest first. -/
  active : List BringIn := []
  waiting : List BringIn := []
  /-- Rows most recently in error, newest first, by class (DARN_UNIT_READ of classes 4 and 5). -/
  dramRows : List Nat := []
  sramRows : List Nat := []
  /-- SRAM rows repaired, by macro (R539): spare rows used. -/
  sramUsed : Table Nat := []
  logSeq : Nat := 0
  /-- Which control processor serves each of the two sets of tasks (R548). -/
  taskOwner : List Nat := [0, 1]
  /-- The tasks of each processor at its last checkpoint: outstanding tags at that moment. -/
  checkpoints : List (List (Nat × Nat)) := [[], []]
  /-- Wear counters whose threshold has been reported (R550). -/
  wearReported : List Nat := []
  /-- DARN_CNT: transient errors, retirements, spares failing self-test, failovers. Table 21-11 gives the first three the
  addresses of DARN_CLASS_4_STAT to DARN_CLASS_6_STAT. -/
  counts : List Nat := [0, 0, 0, 0]
  deriving DecidableEq, Repr

/-! ### Network time (chapter 11) -/

/-- A pulse generator that runs on the values latched at its enable (R337). -/
structure Pulse where
  running : Bool := false
  /-- Network instants and lengths, ns. -/
  start : Nat := 0
  width : Nat := 0
  period : Nat := 0
  count : Nat := 0
  output : Nat := 0
  activeLow : Bool := false
  compat : Bool := false
  /-- A pulse is being driven. -/
  active : Bool := false
  emitted : Nat := 0
  /-- Network instant at which the last pulse began, moved with every step (R331). -/
  last : Option Int := none
  deriving DecidableEq, Repr

/-- The time base (R314) and the time function. (PRESUMED: log 122.) -/
structure TimeBase where
  /-- Network time in units of 2^-16 ns since its epoch. -/
  now : Nat := 0
  /-- What is left below that unit, and the slew that remains, both in 10^-9 of it. -/
  rest : Int := 0
  slew : Int := 0
  /-- Consecutive measurements in LOCKING with |c| ≤ 100 ns (Table 11-3). -/
  settled : Nat := 0
  /-- Elapsed time at which HOLDOVER or REFUSED was entered (R328). -/
  heldSince : Option Nat := none
  /-- Elapsed time at which LOCKED was entered, the time spent in it before, and the values of TIME_FREQ with the
  locked time at which each began (R328), newest first. -/
  lockedSince : Option Nat := none
  lockedNs : Nat := 0
  freqs : List (Nat × Int) := []
  utcOffset : Int := 0
  leap : Bool := false
  master : Bytes := [0, 0, 0, 0, 0, 0, 0, 0]
  /-- Ethernet ports on which a master is heard. -/
  masters : List Nat := []
  /-- The identity of the master heard on each port (R321). -/
  offers : Table Bytes := []
  /-- Sequence identifiers of the messages sent, by port · 4 + kind. -/
  sequences : Table Nat := []
  /-- Network instants of the last converter start and control cycle, moved with every step (R331). -/
  lastStart : Option Int := none
  lastCycle : Option Int := none
  /-- A step since the last converter start. -/
  stepped : Bool := false
  pulses : List Pulse := List.replicate 4 {}
  deriving DecidableEq, Repr

/-! ### Metering, outputs, capture and serial ports (chapters 13 and 16) -/

/-- What an output keeps beside its registers. -/
structure Output where
  /-- The index of its holder (R338). -/
  index : Nat := 0
  /-- Consecutive milliseconds of disagreement and agreement of the read-back (R382). -/
  differ : Nat := 0
  agree : Nat := 0
  /-- Held by its AON latch (R385), with the value it holds. -/
  held : Option Nat := none
  deriving DecidableEq, Repr

/-- One converter start: the instant, the code of each input sampled, flags of Table 13-2. -/
structure Sample where
  instant : Int
  codes : List (Option Int)
  flags : Nat
  deriving DecidableEq, Repr

/-- The constants of an input that apply in the present window (R370). -/
structure Calibration where
  scale : Nat := 0
  gain : Nat := 0x40000000
  offset : Int := 0
  deriving DecidableEq, Repr

/-- A waveform capture (R388). -/
structure Wave where
  inputs : Nat := 0
  length : Nat := 0
  start : Nat := 0
  flags : Nat := 0
  /-- Samples taken, oldest first: the codes of the inputs of the mask. -/
  taken : List (List Int) := []
  running : Bool := false
  deriving DecidableEq, Repr

/-- A capture entry (Table 16-2). -/
structure CapEntry where
  stamp : Nat
  count : Nat
  rising : Bool
  held : Bool
  deriving DecidableEq, Repr

/-- A capture input (R386, R435). -/
structure Capture where
  level : Bool := false
  /-- Network time of its last edge. -/
  lastEdge : Option Nat := none
  /-- Edges since the previous control cycle. -/
  edges : Nat := 0
  queue : List CapEntry := []
  /-- Edges dropped in the present second, and that second of elapsed time. -/
  drops : Nat := 0
  dropSecond : Option Nat := none
  deriving DecidableEq, Repr

/-- A serial port (R387). -/
structure Serial where
  rx : Bytes := []
  tx : Bytes := []
  /-- Elapsed time at which the character on the line began, ns. -/
  txSince : Nat := 0
  /-- Elapsed time of the last byte received. -/
  rxLast : Nat := 0
  overrun : Bool := false
  deriving DecidableEq, Repr

/-- A timer beside its registers: when its count register was right, and what waits. -/
structure Timer where
  /-- Elapsed time at which TMR_n_CNT held the count. -/
  since : Nat := 0
  /-- A buffered period (R428). -/
  waiting : Option Nat := none
  /-- Capture edges toward the next tick (Table 16-1). -/
  edges : Nat := 0
  /-- Period events since the last TMR_EXPIRED, its cause bits, and when that was raised (R437). -/
  periods : Nat := 0
  causes : Nat := 0
  raised : Option Nat := none
  /-- The level its output is at: active or not (R433). -/
  active : Bool := false
  /-- Named by a TMR_GO that waits for its strobe edge. -/
  armed : Bool := false
  deriving DecidableEq, Repr

/-- MEAS, its capture inputs, the serial ports and the timers. -/
structure Meas where
  outs : List Output := List.replicate 16 {}
  samples : List Sample := []
  /-- The interval in use, 10 ms units, and one that waits for its boundary (R366). -/
  interval : Nat := 10
  nextInterval : Option (Int × Nat) := none
  constants : List Calibration := List.replicate 18 {}
  /-- Writes of constants that wait for the next window boundary: instant, input, constants. -/
  constantWrites : List (Int × Nat × Calibration) := []
  /-- The previous window's mean P and Q of each pair (R368). -/
  meanP : List Int := List.replicate 9 0
  meanQ : List Int := List.replicate 9 0
  wave : Wave := {}
  caps : List Capture := List.replicate 8 {}
  serials : List Serial := List.replicate 4 {}
  timers : List Timer := List.replicate 16 {}
  /-- Elapsed time of the write of TMR_GO that waits. -/
  goWritten : Option Nat := none
  /-- Elapsed time at which held outputs go high-impedance (R385). -/
  holdDue : Option Nat := none
  deriving DecidableEq, Repr

/-! ### The control program (chapter 13) -/

/-- A rule's t, f and state (R376). -/
structure RuleState where
  t : Nat := 0
  f : Nat := 0
  on : Bool := false
  deriving DecidableEq, Repr

/-- A stored luminaire report (R372). -/
structure Report where
  payload : Bytes
  /-- Network time of its receipt, ns. -/
  received : Nat
  deriving DecidableEq, Repr

/-- The control program engine. -/
structure Control where
  /-- Rules of 24 bytes that are not all zero, by index. -/
  running : Table Bytes := []
  staging : Table Bytes := []
  states : Table RuleState := []
  messages : Table Bytes := []
  groups : Table Nat := []
  reports : Table Report := []
  /-- A program commit that waits, with its network instant (0 for the next cycle). -/
  commit : Option Nat := none
  /-- Cycles since run was set (Table 13-6). -/
  cycles : Nat := 0
  /-- Output writes of the cycle evaluated, and its trigger's network instant (R373). -/
  writes : Option (Table Nat × Nat) := none
  deriving DecidableEq, Repr

/-! ### The packet path (chapters 8 to 10) -/

/-- A queued copy of a frame in the packet buffer. -/
structure Copy where
  /-- The buffer whose cells it shares (R308). -/
  buffer : Nat
  /-- The frame as it leaves, without FCS. -/
  bytes : Bytes
  /-- The egress length of Table 10-2. -/
  length : Nat
  /-- 0 green, 1 yellow, 2 red. -/
  colour : Nat := 0
  /-- Elapsed time at which it was queued, ns. -/
  born : Nat := 0
  /-- Egress logical port (Table 9-1). -/
  port : Nat := 0
  vlan : Nat := 0
  /-- The Cordonnet kind and destination device of a copy for node 4 (Table 20-1). -/
  kind : Nat := 0
  device : Nat := 0
  /-- The destination logical port on the receiving device (Table 20-1). -/
  remote : Nat := 0xFFFF
  /-- What a copy of kind 3 says. -/
  control : Option ChainControl := none
  /-- The stamp identifier of a frame whose departure is stamped (R320). -/
  stamp : Option Nat := none
  /-- For a radio: the MAC type, and whether it asks for an acknowledgement and is secured. -/
  macType : Nat := 0
  ackReq : Bool := false
  secured : Bool := false
  /-- For the host: the ingress logical port, and the receive report of a radio frame (R287). -/
  ingress : Nat := 0x80
  report : Bytes := []
  deriving DecidableEq, Repr

/-- Cells of the packet buffer held by the copies of one frame. -/
structure Buffer where
  cells : Nat
  copies : Nat
  /-- The Ethernet port in whose ingress share they count (R309). -/
  ingress : Option Nat
  privileged : Bool
  deriving DecidableEq, Repr

/-- A shaper's tokens, millibits, at a microsecond of elapsed time (R300). -/
structure Tokens where
  level : Int := 0
  at_ : Nat := 0
  deriving DecidableEq, Repr

/-- The buckets and counts of a meter (R305). -/
structure Meter where
  tc : Int := 0
  te : Int := 0
  at_ : Nat := 0
  green : Nat := 0
  yellow : Nat := 0
  red : Nat := 0
  deriving DecidableEq, Repr

/-- What a node has done (TM_NODE_READ). -/
structure NodeCount where
  frames : Nat := 0
  bytes : Nat := 0
  drops : Nat := 0
  deriving DecidableEq, Repr

/-- Traffic management. Nodes are numbered: port node p as p, service node v as 0x1000 + v, subscriber s as
0x4000 + s, class queue q as 0x10000 + q. -/
structure Traffic where
  /-- Queues, oldest first, by the queue identifiers of R294 and R295. -/
  queues : Table (List Copy) := []
  buffers : Table Buffer := []
  nextBuffer : Nat := 0
  tokens : Table Tokens := []
  deficits : Table Int := []
  /-- x.cur[pr] of R302, by node · 4 + priority. -/
  current : Table Nat := []
  counts : Table NodeCount := []
  meters : Table Meter := []
  /-- Maps written by TM_MAP_WRITE, by logical port. -/
  maps : Table Nat := []
  /-- The counters of Table 10-11, by port node · 16 + counter. -/
  stats : Table Nat := []
  /-- Frames that a consumer still holds from its node (Table 10-1), by port node. -/
  held : Table Nat := []
  /-- TM_BUF_LOW and TM_MAP_FAULT: losses in the present second of elapsed time, and that second. -/
  lowDrops : Nat := 0
  mapFaults : Nat := 0
  lowSecond : Option Nat := none
  faultSecond : Option Nat := none
  deriving DecidableEq, Repr

/-- A frame that waits for its lookup (R274). -/
structure Inbound where
  /-- Ingress logical port. -/
  port : Nat
  bytes : Bytes
  /-- The receive report of a radio frame (R182), else empty. -/
  report : Bytes
  /-- The VLAN that FWD_FRAME_SEND names, 0 for none. -/
  vlan : Nat := 0
  buffer : Nat
  /-- Length on entry with FCS (R304). -/
  length : Nat
  /-- A boundary stamp (R318), network time. -/
  stamp : Nat := 0
  /-- A frame from a source that no entry knows (exception 7). -/
  unknown : Bool := false
  /-- A unicast or a flood from the chain (R273): the logical port, 0xFFFF for a flood. -/
  chainPort : Option Nat := none
  deriving DecidableEq, Repr

/-- The forwarding tables, entries as the bytes of Tables 9-4 to 9-11. -/
structure Forward where
  /-- MAC entries by bucket · 4 + way. -/
  mac : Table Bytes := []
  vlans : Table Bytes := [(1, [1, 0, 3, 0, 0xFF, 1, 0xF, 0, 0, 0, 0, 0, 0, 0, 0, 0])]
  routes : Table Bytes := []
  nextHops : Table Bytes := []
  acl : Table Bytes := []
  inbox : List Inbound := []
  /-- The firmware queue (R286): reason and frame. -/
  firmware : List (Nat × Bytes) := []
  /-- Frames admitted in the present second of network time, by reason, and that second. -/
  admitted : Table Nat := []
  second : Nat := 0
  learnSecond : Option Nat := none
  learnFull : Nat := 0
  deriving DecidableEq, Repr

/-- What an Ethernet port is doing beside its registers. -/
structure EthPort where
  /-- The frame on its transmit line, with FCS length. -/
  line : Option Copy := none
  /-- A PAUSE frame that takes the next opportunity (R254): its quanta. -/
  pauseOwed : Option Nat := none
  /-- The line carries a PAUSE frame. -/
  pauseOnLine : Bool := false
  /-- PAUSE is asserted toward the partner. -/
  pausing : Bool := false
  /-- Elapsed time at which synchronisation was gained or lost, ns. -/
  syncSince : Option Nat := none
  lossSince : Option Nat := none
  /-- Elapsed time at which a received pause ends, and that of the last PAUSE sent, ns. -/
  pausedUntil : Nat := 0
  pauseSent : Nat := 0
  /-- An electrical idle: 1 restart (R257), 2 rate change (R260), 3 a rate change that waits for the line. -/
  idle : Nat := 0
  /-- Elapsed time at which the idle began. -/
  idleSince : Nat := 0
  quietWindows : Nat := 0
  /-- The rate change under way: 0 lowered, 1 raised, 2 returning; and u of the deciding window. -/
  change : Option Nat := none
  deciding : Nat := 0
  /-- 1588 transmit stamps (R320): identifier, flags of Table 11-1, network time ns, fraction. -/
  stamps : List (Nat × Nat × Nat × Nat) := []
  /-- Stamps dropped in the present second, and that second of elapsed time. -/
  stampDrops : Nat := 0
  stampSecond : Option Nat := none
  deriving DecidableEq, Repr

/-! ### Scheduled access (chapter 7) -/

/-- A frame in a client's queue in DRAM (R25). -/
structure ClientFrame where
  id : Nat
  bytes : Bytes
  macType : Nat
  ackReq : Bool
  secured : Bool
  /-- The retry budget and the attempts made (R243). -/
  budget : Nat
  attempts : Nat
  /-- A step order that travels with it (R334), ns. -/
  step : Option Int
  /-- Network time of the first preamble symbol of its last attempt, ns. -/
  sentAt : Nat := 0
  /-- Its sequence and link counter with generation, from its first attempt on (R243, R404). -/
  seq : Option Nat := none
  counter : Option (Nat × Nat) := none
  /-- CLIENT_SEND's hint has elapsed, or it has been cancelled. -/
  stopping : Option Nat := none
  deriving DecidableEq, Repr

/-- The client contexts and their queues. -/
structure Schedule where
  /-- The 64 bytes of each context that is not all zero (Table 7-1). -/
  contexts : Table Bytes := []
  /-- The downlink queues, oldest first, by client. -/
  queues : Table (List ClientFrame) := []
  /-- Frame numbers given so far. -/
  frames : Nat := 0
  /-- Resident contexts, least recently prepared first, and those pinned (R230). -/
  resident : List Nat := []
  pinned : List Nat := []
  /-- Configurations of pinned clients that wait for the next fetch (R229): bytes 0 to 19. -/
  staged : Table Bytes := []
  /-- Occurrences, by client, whose context was lost from the resident store (R542): they are not scored. -/
  spoiled : List (Nat × Nat) := []
  deriving DecidableEq, Repr

/-! ### The real-time clock (chapter 12) -/

/-- The backup domain beside its registers. -/
structure Rtc where
  /-- Elapsed time at which RTC_SSEC held the prescaler, ns. -/
  since : Nat := 0
  /-- Elapsed time at which the periodic wake was at 0, ns. -/
  wakeSince : Nat := 0
  /-- The tick has stopped: the crystal is stopped where no RC oscillator runs (R358). -/
  stopped : Bool := false
  /-- The network instant of an RTC_SET in mode 1 that is in progress, ns. -/
  setInstant : Option Nat := none
  /-- It has been cancelled after its arming deadline (R356). -/
  cancelled : Bool := false
  /-- Elapsed times at which the requesters' calendar snapshots were taken (R350). -/
  snaps : Table Nat := []
  deriving DecidableEq, Repr

/-! ### Radios and the lane pool (chapters 3 to 5) -/

/-- A synthesiser (R86 to R88). -/
structure Synth where
  /-- The last frequency on which it declared lock, Hz. -/
  present : Option Nat := none
  /-- The frequency of the lock in progress, Hz. -/
  target : Option Nat := none
  /-- The lock is a hop: the synthesiser was locked on the target already (R86). -/
  hop : Bool := false
  /-- Elapsed time at which the lock began, ns, and the retries made. -/
  began : Nat := 0
  retries : Nat := 0
  deriving DecidableEq, Repr

/-- How far a transmission has come. -/
inductive TxPhase where
  /-- From the decision to the start of the ramp-up. -/
  | turnaround
  /-- The grant was absent at the sample, and the frame waits for it (R104). -/
  | granting
  /-- Ramp-up, symbols and ramp-down. -/
  | air
  /-- From the end of the last symbol to the end of the turnaround (R94). -/
  | tail
  deriving DecidableEq, Repr

/-- A transmission of a radio, from its decision on. -/
structure Transmission where
  /-- The frame: logical frame · 4 + member. -/
  frame : Nat
  phase : TxPhase
  /-- Elapsed times of the decision and of the first preamble symbol, planned or made, ns. -/
  decided : Nat
  first : Nat
  /-- Air time from the first preamble symbol to the last symbol, ns. -/
  airNs : Nat
  /-- The latest first preamble symbol of a scheduled frame (R98), elapsed ns. -/
  latest : Option Nat
  /-- 0 acknowledgement, 1 stitch frame, 2 time frame, 3 other (R103). -/
  cls : Nat
  /-- The band of the certificate that contains it (R110). -/
  band : Nat
  /-- The end of the wait for a grant, elapsed ns. -/
  grantBy : Nat
  /-- The body is complete: a secured frame waits for its cipher operation. -/
  ready : Bool
  /-- The body as sent, without the CRC-32. -/
  body : Bytes
  deriving DecidableEq, Repr

/-- The window of one occurrence of a client's stitch (R237, R238), network times in ns. -/
structure Window where
  client : Nat
  occurrence : Nat
  /-- The nominal start S, the predicted offset x and the guard G. -/
  start : Int
  x : Int
  guard : Int
  /-- The end of the stitch in device time. -/
  stitchEnd : Int
  /-- The window for the end of the sync word, and the opening of the held lane. -/
  opens : Int
  closes : Int
  laneOpens : Int
  /-- The channel of the occurrence (Table 6-10). -/
  chan : Nat
  /-- The start of the first frame of a device-first occurrence (R233). -/
  first : Option Int
  /-- Its first frame was the device's. -/
  led : Bool := false
  opened : Bool := false
  closed : Bool := false
  /-- An observation, a duplicate or an acknowledgement, with its offset; a sync word without a frame; a reason of
  R239 for no score. -/
  heard : Option Int := none
  sighted : Bool := false
  unscored : Bool := false
  /-- Downlink frames sent in the occurrence (R232). -/
  sent : Nat := 0
  /-- The device may send a downlink frame from this elapsed time on (R232). -/
  turn : Option Nat := none
  /-- The downlink frame whose acknowledgement window is open, and its close, elapsed ns. -/
  ackOf : Option (Nat × Nat) := none
  deriving DecidableEq, Repr

/-- One radio beside its registers. -/
structure Radio where
  synths : List Synth := [{}, {}]
  /-- Elapsed time at which the present state was entered or a new one requested, ns. -/
  since : Nat := 0
  /-- A lock or a calibration from SLEEP or OFF ends in IDLE. -/
  fromSleep : Bool := false
  /-- The frame for which the radio has left its centre (R84). -/
  retuneFor : Option Nat := none
  /-- Die temperature at the last calibration, 1/16 °C, and elapsed times of that calibration and of the raising of
  a pending one, ns. -/
  calTemp : Int := 0
  calAt : Nat := 0
  calRaised : Option Nat := none
  /-- A calibration starts when the frame or the lock in progress ends (R97, R99). -/
  calNext : Bool := false
  /-- The front-end module settings in force since the last change of state group (R101). -/
  femMap : Word := 0
  femTime : Word := 0x0A0A
  tx : Option Transmission := none
  /-- Elapsed time of the end of the last symbol sent. -/
  lastEnd : Option Nat := none
  /-- Prepared occurrences that have not ended, oldest first. -/
  windows : List Window := []
  /-- Detections starved, and occurrences skipped as late, since the last report (R185, R246). -/
  starved : Nat := 0
  skipped : Nat := 0
  deriving DecidableEq, Repr

/-- A reception on a lane. -/
structure Reception where
  detection : Detection
  /-- The slots of a merged set (R170). -/
  slots : List Nat
  /-- The detection that took the lane, and the end of the sync window, elapsed ns. -/
  began : Nat := 0
  syncDue : Nat
  /-- The lane was taken by capture, or through a hold. -/
  captured : Bool := false
  /-- The stamp is firmware's (R183). -/
  firmware : Bool := false
  held : Bool := false
  /-- It began on the narrow channel. -/
  narrow : Bool := false
  /-- The slot whose sync word was found, its end in elapsed ns, and its stamp in 2^-16 ns of network time. -/
  slot : Option Nat := none
  syncAt : Nat := 0
  stamp : Nat := 0
  /-- The header, once it has passed (Tables 4-5, 4-6; R147). -/
  header : Option Nat := none
  /-- The loading table of a Filet frame, as it was at its header (R158). -/
  table : Option Bytes := none
  /-- The profile slot's settings at the detection (R125). -/
  profile : Word := 0
  deriving DecidableEq, Repr

/-- What a lane is held for (R176, R199). -/
inductive Hold where
  /-- A client's window. -/
  | stitch (radio client : Nat)
  /-- The acknowledgement of a frame. -/
  | ack (radio frame : Nat)
  deriving DecidableEq, Repr

/-- The lanes. -/
structure Lanes where
  receptions : Table Reception := []
  holds : Table Hold := []
  /-- Elapsed times of the starts of self-tests. -/
  tests : Table Nat := []
  deriving DecidableEq, Repr

/-- The regulatory profile (R107 to R116). -/
structure Regulatory where
  /-- The body of the applied certificate; empty while none is applied. -/
  certificate : Bytes := []
  /-- The 20 KB staging buffer, and the certificate whose signatures are being checked. -/
  stage : Memory := []
  checking : Option Bytes := none
  /-- The duty bins of each band, µs, newest first, and the elapsed time at which the newest began. -/
  bins : Table (List Nat) := []
  binStart : Nat := 0
  /-- Bands whose use has passed the warning percentage (R115). -/
  high : List Nat := []
  deriving DecidableEq, Repr

/-- The loading records (R152), by peer · 4 + table: 0 receive, 1 transmit, 2 proposal, 3 previous receive. -/
structure Loading where
  tables : Table Bytes := []
  /-- Elapsed time at which each previous receive table was replaced. -/
  replaced : Table Nat := []
  /-- The second of elapsed time of the last LOADING_MISMATCH of each tag. -/
  mismatch : Table Nat := []
  deriving DecidableEq, Repr

/-! ### Medium access (chapter 6) -/

/-- The states of Table 6-2. -/
inductive Phase where
  | queued
  | backoff
  | listen
  | decide
  | air
  | ackWait
  /-- END_ATTEMPT, where a frame waits while its engine is disabled (R222). -/
  | ended
  /-- A copy that takes no further part. -/
  | out
  deriving DecidableEq, Repr

/-- One copy of an attempt, on one member or on the home channel. -/
structure AirCopy where
  member : Nat
  /-- Channel, Table 6-10 encoding. -/
  chan : Nat
  phase : Phase := .queued
  be : Nat := 0
  busy : Nat := 0
  /-- The end of the phase in elapsed ns, or what is left of it while the engine is disabled. -/
  due : Nat := 0
  /-- Waiting for receptions (R194): so far in the frame's attempts, ns, and since. -/
  waited : Nat := 0
  waitSince : Option Nat := none
  /-- The copy's last symbol has left without an acknowledgement asked for (R196); it was refused; it ended for want of a
  channel. -/
  sent : Bool := false
  refused : Option Nat := none
  noChannel : Bool := false
  deriving DecidableEq, Repr

/-- What a contention frame is for. -/
inductive Target where
  | peer (q : Nat)
  | broadcast (radio : Nat)
  /-- A sounding frame for a Filet peer (R159), with its symbols. -/
  | sounding (radio peer symbols : Nat)
  deriving DecidableEq, Repr

/-- An engine's settings when a frame entered QUEUED (R221): WMAC_n_CTL, _LBT, _BO and _ACK. -/
structure EngineSet where
  ctl : Word := 0
  lbt : Word := 0
  bo : Word := 0
  ack : Word := 0
  deriving DecidableEq, Repr

/-- A contention frame. -/
structure AirFrame where
  target : Target
  macType : Nat
  ackReq : Bool
  secured : Bool
  payload : Bytes
  /-- The port node it was taken from, and its buffer. -/
  node : Option Nat
  buffer : Option Nat
  /-- The plait it goes through. -/
  plait : Option Nat
  seq : Nat := 0
  started : Bool := false
  attempt : Nat := 1
  budget : Nat := 1
  /-- RADIO_SEND's hint has elapsed, or it has been cancelled: the frame stops at its next safe point. -/
  stopping : Option Nat := none
  reachedAir : Bool := false
  /-- The first attempt's link counter and generation (R404). -/
  counter : Option (Nat × Nat) := none
  /-- The member of the last attempt. -/
  last : Nat := 0xFF
  copies : List AirCopy := []
  /-- The settings of the three engines when it entered QUEUED. -/
  engines : List EngineSet := []
  deriving DecidableEq, Repr

/-- An immediate acknowledgement that is due (R202, R203). -/
structure AckFrame where
  radio : Nat
  chan : Nat
  /-- The acknowledged frame's header rate and uncoded bit. -/
  rate : Nat
  seq : Nat
  dest : Nat
  /-- The echoed plait header, top and bitmap. -/
  plait : Option (Bytes × Nat × Nat)
  /-- The end of the acknowledged frame's last symbol, elapsed ns. -/
  decided : Nat
  /-- It belongs to a stitch of this client. -/
  client : Option Nat
  deriving DecidableEq, Repr

/-- A frame held in a reorder buffer. -/
structure HeldFrame where
  accepted : Nat
  radio : Nat
  frame : Bytes
  report : Bytes
  deriving DecidableEq, Repr

/-- A plait beside its registers. -/
structure Plait where
  /-- The acceptance bitmap. -/
  map : Nat := 0
  held : Table HeldFrame := []
  /-- Elapsed time of the last frame received. -/
  heard : Nat := 0
  /-- Consecutive failures, members down, and members whose probe is due. -/
  fails : List Nat := [0, 0, 0, 0]
  down : List Nat := []
  probe : List Nat := []
  /-- delivered, dup_rx, behind_rx, late_rx, gap_skipped, copies_withdrawn. -/
  counts : List Nat := [0, 0, 0, 0, 0, 0]
  deriving DecidableEq, Repr

/-- The medium access engines. -/
structure Mac where
  frames : Table AirFrame := []
  acks : Table AckFrame := []
  plaits : Table Plait := []
  /-- Frames that failed without an acknowledgement in a row, by peer; 9 once reported (R218). -/
  failed : Table Nat := []
  /-- Elapsed time at which each peer's history was last refreshed. -/
  refreshed : Table Nat := []
  /-- Peers whose signal values, and links whose filtered offset, have a first value (R127, R217): peers as 4,096 + q,
  clients as c, Filet peers as 8,192 + i. -/
  signalled : List Nat := []
  tuned : List Nat := []
  /-- Frames delivered to firmware with their reports (R188, R189), oldest first: 0 management, 1 overheard,
  2 timing (for the time function). -/
  inbox : List (Nat × Bytes) := []
  deriving DecidableEq, Repr

/-! ### Cipher engines (chapter 14) -/

/-- What the output of a cipher operation is for. -/
inductive Purpose where
  /-- CIPHER_RUN. -/
  | run (id : Nat)
  /-- The transmission of a radio. -/
  | transmit (radio frame : Nat)
  /-- A received frame on its way to delivery: MAC frame and report, on a radio. -/
  | receive (radio : Nat) (frame report : Bytes)
  deriving DecidableEq, Repr

/-- A request (R394). -/
structure Request where
  purpose : Purpose
  identity : Nat
  page : Nat
  /-- 0 GCM, 1 CCM, 2 CTR, 3 CMAC. -/
  mode : Nat
  decrypt : Bool
  tagLen : Nat
  /-- The remote address of a link key (R401). -/
  link : Option Nat
  nonce : Bytes
  aad : Bytes
  data : Bytes
  tag : Bytes
  /-- Elapsed time at which it was queued, and its executions so far. -/
  queued : Nat
  executions : Nat := 0
  deriving DecidableEq, Repr

/-- An operation on an engine: the request, the key it began with, and whether an alarm has aborted it. -/
structure Operation where
  request : Request
  key : Bytes
  generation : Nat
  deriving DecidableEq, Repr

/-- A link record (Table 14-3). -/
structure LinkRecord where
  counter : Nat := 0
  generation : Nat := 0
  top : Nat := 0
  topGeneration : Nat := 0
  window : Nat := 0
  valid : Bool := false
  high : Bool := false
  /-- Marked void after an uncorrectable error: nothing is sent under this generation (R421). -/
  voided : Option Nat := none
  deriving DecidableEq, Repr

/-- The engines, the keys and the link records. -/
structure Cipher where
  /-- Keys by page. -/
  keys : Table Bytes := []
  /-- The four queues in order of priority, oldest first. -/
  queues : List (List Request) := List.replicate 4 []
  engines : Table Operation := []
  links : Table LinkRecord := []
  requests : Nat := 0
  /-- Elapsed time at which the previous page's hold ends. -/
  prevDue : Option Nat := none
  deriving DecidableEq, Repr

/-! ### DRAM (chapter 15) -/

/-- The DRAM controllers beside their registers. -/
structure Dram where
  cells : Memory := []
  /-- The 2-bit predictors of R419, by bank (channel · 16 + rank · 8 + bank), where they differ from 2. -/
  predictors : Table Nat := []
  /-- The row last activated in each bank, and the row that stands open with the elapsed time of its last access. -/
  last : Table Nat := []
  openRows : Table (Nat × Nat) := []
  /-- Activations in the present refresh window by port · 32 + bank, the elapsed time of the last one, and those of
  them that are throttled (R420). -/
  acts : Table Nat := []
  lastAct : Table Nat := []
  throttled : List Nat := []
  /-- Elapsed times at which the refresh window began and MR4 was last read. -/
  windowStart : Nat := 0
  mr4At : Nat := 0
  /-- Refreshes postponed, by channel · 2 + rank (R418). -/
  postponed : Table Nat := []
  /-- Elapsed time of the last reading of a rank's oscillator, and ranks whose re-centring is deferred (R415). -/
  driftAt : Table Nat := []
  deferred : List Nat := []
  /-- The next address of the patrol scrubber. -/
  scrub : Nat := 0
  /-- Lines of 64 bytes that hold the poison pattern of R422. -/
  poison : List Nat := []
  deriving DecidableEq, Repr

/-! ### Power and clocks (chapter 17) -/

/-- The power sequencer and the clock monitors, beside their registers. -/
structure Power where
  /-- Radios and ports kept in Trim (PWR_TRIM_CFG), as they were at the entry (R441). -/
  kept : Nat := 0x1FF
  /-- Exit sources that have fired since the low-power state was entered, bit by bit (R447). -/
  fired : Nat := 0
  /-- A low-power state being entered, its final reply still to come (R443). -/
  entering : Option Nat := none
  /-- Elapsed time of the first exit request since the low-power state was entered (R447). -/
  exitSince : Option Nat := none
  /-- Consecutive windows outside the limits, and consecutive good windows, of TCXO, crystal and RC (R456). -/
  failing : List Nat := [0, 0, 0]
  good : List Nat := [0, 0, 0]
  deriving DecidableEq, Repr

/-! ### Balls (chapter 22) -/

/-- Levels the device drives that no register holds. -/
structure Pins where
  /-- ALIVE_N driven low (R552). -/
  alive : Bool := false
  deriving DecidableEq, Repr

/-! ### The whole -/

/-- The whole device. -/
structure State where
  /-- The register file: every register that differs from its reset value, by address. -/
  regs : Table Word := []
  /-- Elapsed time since power was applied, ns. -/
  elapsed : Nat := 0
  time : TimeBase := {}
  eth : List EthPort := List.replicate 4 {}
  fwd : Forward := {}
  tm : Traffic := {}
  sched : Schedule := {}
  meas : Meas := {}
  ctl : Control := {}
  /-- How many free values have been drawn (the model's own field). -/
  draws : Nat := 0
  host : HostPort := {}
  boot : Boot := {}
  sec : Sec := {}
  chain : Chain := {}
  darn : Darn := {}
  rtc : Rtc := {}
  radios : List Radio := List.replicate 3 {}
  lanes : Lanes := {}
  rgl : Regulatory := {}
  loading : Loading := {}
  mac : Mac := {}
  cipher : Cipher := {}
  dram : Dram := {}
  power : Power := {}
  pins : Pins := {}
  /-- The commands that wait, first in, first out. -/
  pending : List Instr := []
  deriving DecidableEq, Repr

/-- The machine right after reset: every register at its reset value, nothing open, nothing waiting.
(DESIGN CHOICE: log 1; DEDUCED: log 9.) -/
def State.reset : State := {}

end Sys2Proof.Machine
end

