-- ==== Sys2Proof/Machine/Ops.lean ====
section
/-! DEFINITION. The named operations every meaning is written over: sparse tables and memories, bit fields,
octet strings, the register file and its counters, time, and the queues of the packet buffer that replies and
chain frames need. -/

namespace Sys2Proof.Machine

/-! ### Tables -/

/-- The entry at a key. -/
def Table.find {α : Type} : Table α → Nat → Option α
  | [], _ => none
  | (k, v) :: t, n => if k = n then some v else Table.find t n

/-- The table with a key set, keys strictly rising. -/
def Table.put {α : Type} : Table α → Nat → α → Table α
  | [], n, x => [(n, x)]
  | (k, v) :: t, n, x =>
    if n < k then (n, x) :: (k, v) :: t
    else if n = k then (n, x) :: t
    else (k, v) :: Table.put t n x

/-- The table without a key. -/
def Table.drop {α : Type} : Table α → Nat → Table α
  | [], _ => []
  | (k, v) :: t, n => if k = n then Table.drop t n else (k, v) :: Table.drop t n

/-- The table with its entry at a key changed, where it has one. -/
def Table.modify {α : Type} (t : Table α) (n : Nat) (f : α → α) : Table α :=
  t.map fun e => if e.1 = n then (e.1, f e.2) else e

/-- The entries that satisfy a test. -/
def Table.keep {α : Type} (t : Table α) (p : Nat → α → Bool) : Table α :=
  t.filter fun e => p e.1 e.2

/-- Keys strictly rise. -/
def Table.Sorted {α : Type} (t : Table α) : Prop := t.Pairwise fun a b => a.1 < b.1

/-- The element at an index changed. -/
def setAt {α : Type} (l : List α) (i : Nat) (f : α → α) : List α := l.modify i f

/-! ### Octets and bit fields -/

/-- `n` octets of a number, least significant first (R3). -/
def le : (n : Nat) → Nat → Bytes
  | 0, _ => []
  | n + 1, v => BitVec.ofNat 8 v :: le n (v / 256)

/-- `n` octets of a number, most significant first: the order of the network standards. -/
def be (n v : Nat) : Bytes := (le n v).reverse

/-- The number that octets spell, least significant first. -/
def ofLe : Bytes → Nat
  | [] => 0
  | b :: t => b.toNat + 256 * ofLe t

/-- `n` octets at an offset, zero beyond the end. -/
def slice (p : Bytes) (off n : Nat) : Bytes := (p.drop off).take n

/-- The little-endian number of `n` octets at an offset. -/
def num (p : Bytes) (off n : Nat) : Nat := ofLe (slice p off n)

/-- The big-endian number of `n` octets at an offset. -/
def numBe (p : Bytes) (off n : Nat) : Nat := ofLe (slice p off n).reverse

/-- A number read as a two's complement of `bits` bits. -/
def signed (bits v : Nat) : Int := if v % 2 ^ bits < 2 ^ (bits - 1) then (v % 2 ^ bits : Nat) else (v % 2 ^ bits : Nat) - (2 ^ bits : Nat)

/-- The two's complement of `bits` bits of an integer. -/
def unsigned (bits : Nat) (v : Int) : Nat := (v % (2 ^ bits : Nat)).toNat

/-- An integer limited to a range. -/
def clampInt (lo hi v : Int) : Int := max lo (min hi v)

/-- The octets with `n` of them replaced at an offset. -/
def patch (p : Bytes) (off : Nat) (new : Bytes) : Bytes := p.take off ++ new ++ p.drop (off + new.length)

/-- Octets cut or padded with zeros to a length. -/
def padTo (n : Nat) (p : Bytes) : Bytes := p.take n ++ List.replicate (n - p.length) 0

/-- Bits `[hi:lo]` of a number. -/
def bits (v hi lo : Nat) : Nat := v / 2 ^ lo % 2 ^ (hi + 1 - lo)

/-- Whether a bit of a number is set. -/
def bit (v i : Nat) : Bool := v / 2 ^ i % 2 = 1

/-- 1 for true. -/
def bitOf (b : Bool) : Nat := if b then 1 else 0

/-- A number with bits `[hi:lo]` replaced. -/
def withBits (v hi lo x : Nat) : Nat :=
  v - bits v hi lo * 2 ^ lo + x % 2 ^ (hi + 1 - lo) * 2 ^ lo

/-- Bits `[hi:lo]` of a register word. -/
def field (w : Word) (hi lo : Nat) : Nat := bits w.toNat hi lo

/-- Bits `[hi:lo]` of a register word, as a two's complement. -/
def fieldInt (w : Word) (hi lo : Nat) : Int := signed (hi + 1 - lo) (field w hi lo)

/-- A register word with bits `[hi:lo]` replaced. -/
def withField (w : Word) (hi lo x : Nat) : Word := BitVec.ofNat 32 (withBits w.toNat hi lo x)

/-- The word of a number. -/
abbrev word (n : Nat) : Word := BitVec.ofNat 32 n

/-- The indexes of the bits set among the first `n`. -/
def bitsSet (n v : Nat) : List Nat := (List.range n).filter fun i => bit v i

/-! ### Sparse memories -/

/-- The byte at an address; an unlisted address reads as `blank`. (DESIGN CHOICE: log 2.) -/
def Memory.read (m : Memory) (blank : Byte) (a : Nat) : Byte := (Table.find m a).getD blank

/-- The memory with a byte written, in its canonical form. -/
def Memory.write (m : Memory) (blank : Byte) (a : Nat) (b : Byte) : Memory :=
  if b = blank then Table.drop m a else Table.put m a b

/-- Consecutive bytes. -/
def Memory.readBytes (m : Memory) (blank : Byte) (a n : Nat) : Bytes :=
  (List.range n).map fun i => Memory.read m blank (a + i)

/-- The memory with consecutive bytes written. -/
def Memory.writeBytes (m : Memory) (blank : Byte) : Nat → Bytes → Memory
  | _, [] => m
  | a, b :: t => Memory.writeBytes (Memory.write m blank a b) blank (a + 1) t

/-- The canonical form: addresses strictly rise, and no entry equals what an unlisted address reads as.
(DESIGN CHOICE: log 118.) -/
def Memory.wf (m : Memory) (blank : Byte) : Bool :=
  m.all (fun c => c.2 != blank) && decide (m.Pairwise fun a b => a.1 < b.1)

/-! ### The register file -/

/-- The value of a register. -/
def State.reg (s : State) (a : Nat) : Word := (Table.find s.regs a).getD (resetValue a)

/-- The registers with one set: only what differs from reset is listed. (DESIGN CHOICE: log 118.) -/
def putReg (r : Table Word) (a : Nat) (w : Word) : Table Word :=
  if w = resetValue a then Table.drop r a else Table.put r a w

/-- A register set. -/
def State.setReg (s : State) (a : Nat) (w : Word) : State := { s with regs := putReg s.regs a w }

/-- A field of a register. -/
def State.fld (s : State) (a hi lo : Nat) : Nat := field (s.reg a) hi lo

/-- A signed field of a register. -/
def State.sfld (s : State) (a hi lo : Nat) : Int := fieldInt (s.reg a) hi lo

/-- A bit of a register. -/
def State.flag (s : State) (a i : Nat) : Bool := s.fld a i i = 1

/-- A field of a register set. -/
def State.setFld (s : State) (a hi lo x : Nat) : State := s.setReg a (withField (s.reg a) hi lo x)

/-- A bit of a register set to a truth value. -/
def State.setFlag (s : State) (a i : Nat) (b : Bool) : State := s.setFld a i i (bitOf b)

/-- A saturating counter in bits `[hi:lo]` advanced. -/
def State.bumpFld (s : State) (a hi lo : Nat) (n : Nat := 1) : State :=
  s.setFld a hi lo (min (s.fld a hi lo + n) (2 ^ (hi + 1 - lo) - 1))

/-- A 32-bit saturating counter advanced. -/
def State.bump (s : State) (a : Nat) (n : Nat := 1) : State := s.bumpFld a 31 0 n

/-- The 64-bit value whose low word lies at an address and whose high word follows it. -/
def State.reg64 (s : State) (a : Nat) : Nat := (s.reg a).toNat + 2 ^ 32 * (s.reg (a + 4)).toNat

/-- A 64-bit value set. -/
def State.setReg64 (s : State) (a v : Nat) : State :=
  (s.setReg a (word v)).setReg (a + 4) (word (v / 2 ^ 32))

/-- A 64-bit counter, modulo 2^64, advanced. -/
def State.bump64 (s : State) (a : Nat) (n : Nat := 1) : State := s.setReg64 a ((s.reg64 a + n) % 2 ^ 64)

/-! ### Time -/

/-- Network time in whole nanoseconds (R314). -/
def State.netNs (s : State) : Nat := s.time.now / 65536

/-- Network time, seconds. -/
def State.seconds (s : State) : Nat := s.netNs / 1000000000

/-- Network time, nanoseconds within the second. -/
def State.nanos (s : State) : Nat := s.netNs % 1000000000

/-- The islands in the order of PWR_DOM_STAT and Table 1-1. -/
inductive Island where
  | ctrl
  | pkt
  | trx0
  | trx1
  | trx2
  | lane
  | mem
  | meas
  | sec
  | link
  | aon
  deriving DecidableEq, Repr

/-- The number of an island in Table 1-1. -/
def Island.number : Island → Nat
  | .ctrl => 0
  | .pkt => 1
  | .trx0 => 2
  | .trx1 => 3
  | .trx2 => 4
  | .lane => 5
  | .mem => 6
  | .meas => 7
  | .sec => 8
  | .link => 9
  | .aon => 10

/-- The island of a radio. -/
def Island.trx : Nat → Island
  | 0 => .trx0
  | 1 => .trx1
  | _ => .trx2

/-- Whether an island is powered (PWR_DOM_STAT); AON always is. -/
def State.powered (s : State) (i : Island) : Bool := i == .aon || s.flag Reg.pwrDomStat i.number

/-- Whether the PLL of an island runs (Table 17-5): after a TCXO failure CTRL alone has a clock (R457); a PLL that is
unlocked while its gate is set has lost its lock (R459). -/
def State.clocked (s : State) (i : Island) : Bool :=
  let gated (gate pll : Nat) : Bool := s.flag Reg.clkPllStat pll || !s.flag Reg.clkGateCtl gate
  if i == .aon then true
  else if s.flag Reg.clkSrcStat 3 then i == .ctrl
  else
    match i with
    | .pkt => s.flag Reg.clkPllStat 1
    | .mem => s.flag Reg.clkPllStat 2
    | .sec => s.flag Reg.clkPllStat 3
    | .meas => s.flag Reg.clkPllStat 4
    | .link => gated 5 6
    | .ctrl => true
    | .aon => true
    | _ => gated 0 5

/-- Whether an island is powered and clocked. -/
def State.on (s : State) (i : Island) : Bool := s.powered i && s.clocked i

/-- 10^9: the sub-units of the time base's 2^-16 ns. -/
abbrev subUnit : Nat := 1000000000

/-- What the time base gains in `n` ns of elapsed time: nominal, TIME_FREQ and slew (R314, R317), in sub-units;
and the slew left. -/
def State.gain (s : State) (n : Nat) : Int × Int :=
  let most : Int := ((n * (65536000 * s.fld Reg.timeCtl 15 8) : Nat) : Int)
  let d := clampInt (-most) most s.time.slew
  (((n * (65536 * subUnit) : Nat) : Int) + (n : Int) * s.sfld Reg.timeFreq 31 0 + d, s.time.slew - d)

/-- Time passes, in nanoseconds: elapsed time, and the time base while PKT is powered (R316). (DESIGN CHOICE: log 8.) -/
def State.passNs (s : State) (n : Nat) : State :=
  if s.on .pkt then
    let (g, left) := s.gain n
    let total := s.time.rest + g
    { s with
      elapsed := s.elapsed + n
      time := { s.time with
        now := ((s.time.now : Int) + total / (subUnit : Int)).toNat, rest := total % (subUnit : Int), slew := left } }
  else { s with elapsed := s.elapsed + n }

/-- An event that occurs at a network instant: time reaches it, if it has not. (DESIGN CHOICE: log 8.) -/
def State.reach (s : State) (instantNs : Nat) : State :=
  if s.netNs < instantNs then
    let t := s.passNs (instantNs - s.netNs)
    { t with time := { t.time with now := 65536 * instantNs } }
  else s

/-- An event that occurs at an elapsed time: time reaches it, if it has not. (DESIGN CHOICE: log 8.) -/
def State.reachElapsed (s : State) (t : Nat) : State :=
  if s.elapsed < t then s.passNs (t - s.elapsed) else s

/-- The next draw of the random source, and the state after it. (DESIGN CHOICE: log 10.) -/
def State.draw (s : State) : Nat × State := (Config.draw s.draws, { s with draws := s.draws + 1 })

/-- `n` random octets. (DESIGN CHOICE: log 10.) -/
def State.drawBytes (s : State) (n : Nat) : Bytes × State :=
  ((List.range n).map fun i => BitVec.ofNat 8 (Config.draw (s.draws + i)), { s with draws := s.draws + n })

/-! ### Units (Table 21-1) -/

/-- The key of a unit: kind · 65,536 + number, DRAM rows beyond them all. -/
def unitKey (kind unit : Nat) : Nat := 65536 * (if kind = 4 then 11 else kind) + unit

/-- The state of a unit at shipment. -/
def shippedState (kind unit : Nat) : UnitState :=
  match kind with
  | 0 => if unit < 72 then .serving else .spare
  | 1 => if unit % 2 = 0 then .serving else .spare
  | 2 => if unit < 16 then .serving else .spare
  | 3 => if unit < 4 then .serving else .spare
  | 6 => if unit < 2 then .serving else .spare
  | _ => .serving

/-- The state of a unit. -/
def State.unitState (s : State) (kind unit : Nat) : UnitState :=
  (Table.find s.darn.units (unitKey kind unit)).getD (shippedState kind unit)

/-- Whether a spare class is exhausted (DARN_SVC). -/
def State.exhausted (s : State) (k : Nat) : Bool := s.flag Reg.darnSvc k

/-- OK, or OK_DEGRADED while a reason of Table 21-5 holds (R553). -/
def okUnless (degraded : Bool) : Nat := if degraded then 0x0040 else 0

/-! ### Cyclic redundancy checks -/

/-- One bit of a reflected CRC with a 32-bit polynomial. -/
def crcBit (poly c : Nat) : Nat := if c % 2 = 1 then Nat.xor (c / 2) poly else c / 2

/-- One octet of a reflected CRC. -/
def crcByte (poly c : Nat) (b : Byte) : Nat :=
  (List.range 8).foldl (fun x _ => crcBit poly x) (Nat.xor c b.toNat)

/-- A reflected CRC with initial value and final exclusive-or of ones. -/
def crc32With (poly : Nat) (p : Bytes) : Nat := Nat.xor (p.foldl (crcByte poly) 0xFFFFFFFF) 0xFFFFFFFF

/-- The CRC-32C of R37 (0x1EDC6F41 reflected). -/
def crc32c (p : Bytes) : Nat := crc32With 0x82F63B78 p

/-- The CRC-32 of IEEE 802.3 that R139 names (0x04C11DB7 reflected). -/
def crc32 (p : Bytes) : Nat := crc32With 0xEDB88320 p

/-! ### The packet buffer and its queues -/

/-- Cells of a frame of `n` bytes (R308). -/
def cellsOf (n : Nat) : Nat := (n + 255) / 256

/-- Free cells of the packet buffer (TM_BUF_STAT). -/
def State.freeCells (s : State) : Nat := s.fld Reg.tmBufStat 14 0

/-- Cells held by privileged queues. -/
def State.privCells (s : State) : Nat := s.fld Reg.tmBufStat 30 16

/-- Cells taken for a frame's first copy; the number of the buffer. -/
def State.takeCells (s : State) (cells : Nat) (ingress : Option Nat) (privileged : Bool) : Nat × State :=
  let id := s.tm.nextBuffer
  let s := { s with tm := { s.tm with
    nextBuffer := id + 1
    buffers := Table.put s.tm.buffers id ⟨cells, 0, ingress, privileged⟩ } }
  let s := s.setFld Reg.tmBufStat 14 0 (s.freeCells - cells)
  let s := if privileged then s.setFld Reg.tmBufStat 30 16 (s.privCells + cells) else s
  let s := match ingress with
    | some e => s.setFld (Reg.tmIngStat e) 14 0 (s.fld (Reg.tmIngStat e) 14 0 + cells)
    | none => s
  (id, s)

/-- The cells of a buffer given back (R308). -/
def State.freeBuffer (s : State) (id : Nat) : State :=
  match Table.find s.tm.buffers id with
  | none => s
  | some b =>
    let s := { s with tm := { s.tm with buffers := Table.drop s.tm.buffers id } }
    let s := s.setFld Reg.tmBufStat 14 0 (s.freeCells + b.cells)
    let s := if b.privileged then s.setFld Reg.tmBufStat 30 16 (s.privCells - b.cells) else s
    match b.ingress with
    | some e => s.setFld (Reg.tmIngStat e) 14 0 (s.fld (Reg.tmIngStat e) 14 0 - b.cells)
    | none => s

/-- One copy of a frame more in the buffer. -/
def State.addCopy (s : State) (id : Nat) : State :=
  { s with tm := { s.tm with buffers := Table.modify s.tm.buffers id fun b => { b with copies := b.copies + 1 } } }

/-- A copy has left: its cells are freed with the last one. -/
def State.dropCopy (s : State) (id : Nat) : State :=
  match Table.find s.tm.buffers id with
  | none => s
  | some b =>
    if b.copies ≤ 1 then s.freeBuffer id
    else { s with tm := { s.tm with buffers := Table.modify s.tm.buffers id fun b => { b with copies := b.copies - 1 } } }

/-- A queue, oldest first. -/
def State.queue (s : State) (q : Nat) : List Copy := (Table.find s.tm.queues q).getD []

/-- A queue set; an empty one is not listed. -/
def State.setQueue (s : State) (q : Nat) (l : List Copy) : State :=
  { s with tm := { s.tm with
    queues := match l with
      | [] => Table.drop s.tm.queues q
      | _ => Table.put s.tm.queues q l } }

/-- A counter of Table 10-11 advanced. -/
def State.tmCount (s : State) (node k : Nat) (n : Nat := 1) : State :=
  { s with tm := { s.tm with
    stats := Table.put s.tm.stats (node * 16 + k) (((Table.find s.tm.stats (node * 16 + k)).getD 0 + n) % 2 ^ 64) } }

/-- The cells of a copy's frame (R308). -/
def State.copyCells (s : State) (c : Copy) : Nat := ((Table.find s.tm.buffers c.buffer).map (·.cells)).getD 0

/-- The cells a queue's copies stand for. -/
def State.queueCells (s : State) (q : Nat) : Nat := ((s.queue q).map s.copyCells).sum

/-- A copy for a privileged queue: admitted or counted in drop_priv (R308, step 1). -/
def State.pushPrivileged (s : State) (node : Nat) (c : Copy) : State :=
  let cells := cellsOf c.bytes.length
  if s.queueCells node + cells ≤ s.fld (Reg.tmPortOvh node) 28 16 ∧ cells ≤ s.freeCells then
    let (id, s) := s.takeCells cells none true
    let s := s.addCopy id
    s.setQueue node (s.queue node ++ [{ c with buffer := id, born := s.elapsed }])
  else s.tmCount node 6

end Sys2Proof.Machine
end

