-- ==== Sys2Proof/Machine/Crypto.lean ====
section
/-! DEFINITION. The algorithms that the manual names by their published definitions: SHA-384 (FIPS 180-4), AES
(FIPS 197), its modes GCM, CCM, CTR and CMAC (R392), AES Key Wrap (RFC 3394, R399), and the link key of R401. -/

namespace Sys2Proof.Machine

/-- Two byte strings added bit by bit, as long as the shorter. -/
def xorBytes (a b : Bytes) : Bytes := List.zipWith (· ^^^ ·) a b

/-- Bytes filled up with zeros to a multiple of 16. -/
def pad16 (b : Bytes) : Bytes := padTo ((b.length + 15) / 16 * 16) b

/-- A byte string in blocks of `n`, the last one as long as it is. -/
def blocks (n : Nat) (b : Bytes) : List Bytes := (List.range ((b.length + n - 1) / n)).map fun i => slice b (n * i) n

/-! ### SHA-384 -/

/-- The round constants of SHA-384 (FIPS 180-4). -/
def shaConstants : List Nat :=
  [0x428a2f98d728ae22, 0x7137449123ef65cd, 0xb5c0fbcfec4d3b2f, 0xe9b5dba58189dbbc]
    ++ [0x3956c25bf348b538, 0x59f111f1b605d019, 0x923f82a4af194f9b, 0xab1c5ed5da6d8118]
    ++ [0xd807aa98a3030242, 0x12835b0145706fbe, 0x243185be4ee4b28c, 0x550c7dc3d5ffb4e2]
    ++ [0x72be5d74f27b896f, 0x80deb1fe3b1696b1, 0x9bdc06a725c71235, 0xc19bf174cf692694]
    ++ [0xe49b69c19ef14ad2, 0xefbe4786384f25e3, 0x0fc19dc68b8cd5b5, 0x240ca1cc77ac9c65]
    ++ [0x2de92c6f592b0275, 0x4a7484aa6ea6e483, 0x5cb0a9dcbd41fbd4, 0x76f988da831153b5]
    ++ [0x983e5152ee66dfab, 0xa831c66d2db43210, 0xb00327c898fb213f, 0xbf597fc7beef0ee4]
    ++ [0xc6e00bf33da88fc2, 0xd5a79147930aa725, 0x06ca6351e003826f, 0x142929670a0e6e70]
    ++ [0x27b70a8546d22ffc, 0x2e1b21385c26c926, 0x4d2c6dfc5ac42aed, 0x53380d139d95b3df]
    ++ [0x650a73548baf63de, 0x766a0abb3c77b2a8, 0x81c2c92e47edaee6, 0x92722c851482353b]
    ++ [0xa2bfe8a14cf10364, 0xa81a664bbc423001, 0xc24b8b70d0f89791, 0xc76c51a30654be30]
    ++ [0xd192e819d6ef5218, 0xd69906245565a910, 0xf40e35855771202a, 0x106aa07032bbd1b8]
    ++ [0x19a4c116b8d2d0c8, 0x1e376c085141ab53, 0x2748774cdf8eeb99, 0x34b0bcb5e19b48a8]
    ++ [0x391c0cb3c5c95a63, 0x4ed8aa4ae3418acb, 0x5b9cca4f7763e373, 0x682e6ff3d6b2b8a3]
    ++ [0x748f82ee5defb2fc, 0x78a5636f43172f60, 0x84c87814a1f0ab72, 0x8cc702081a6439ec]
    ++ [0x90befffa23631e28, 0xa4506cebde82bde9, 0xbef9a3f7b2c67915, 0xc67178f2e372532b]
    ++ [0xca273eceea26619c, 0xd186b8c721c0c207, 0xeada7dd6cde0eb1e, 0xf57d4f7fee6ed178]
    ++ [0x06f067aa72176fba, 0x0a637dc5a2c898a6, 0x113f9804bef90dae, 0x1b710b35131c471b]
    ++ [0x28db77f523047d84, 0x32caab7b40c72493, 0x3c9ebe0a15c9bebc, 0x431d67c49c100d4c]
    ++ [0x4cc5d4becb3e42b6, 0x597f299cfc657e2a, 0x5fcb6fab3ad6faec, 0x6c44198c4a475817]

/-- The initial hash value of SHA-384. -/
def shaStart : List Nat :=
  [0xcbbb9d5dc1059ed8, 0x629a292a367cd507, 0x9159015a3070dd17, 0x152fecd8f70e5939]
    ++ [0x67332667ffc00b31, 0x8eb44a8768581511, 0xdb0c2e0d64f98fa7, 0x47b5481dbefa4fa4]

/-- A 64-bit word turned right. -/
def turn (w : BitVec 64) (n : Nat) : BitVec 64 := w.rotateRight n

/-- The message schedule, newest word first, continued by `n` words. -/
def shaSchedule : Nat → List (BitVec 64) → List (BitVec 64)
  | 0, l => l
  | n + 1, l =>
    let a := l.getD 1 0
    let b := l.getD 14 0
    let s1 := turn a 19 ^^^ turn a 61 ^^^ (a >>> 6)
    let s0 := turn b 1 ^^^ turn b 8 ^^^ (b >>> 7)
    shaSchedule n ((s1 + l.getD 6 0 + s0 + l.getD 15 0) :: l)

/-- One round on the eight working words. -/
def shaRound (h : List (BitVec 64)) (kw : BitVec 64) : List (BitVec 64) :=
  let g (i : Nat) := h.getD i 0
  let t1 := g 7 + (turn (g 4) 14 ^^^ turn (g 4) 18 ^^^ turn (g 4) 41) + ((g 4 &&& g 5) ^^^ (~~~(g 4) &&& g 6)) + kw
  let t2 := (turn (g 0) 28 ^^^ turn (g 0) 34 ^^^ turn (g 0) 39) + ((g 0 &&& g 1) ^^^ (g 0 &&& g 2) ^^^ (g 1 &&& g 2))
  [t1 + t2, g 0, g 1, g 2, g 3 + t1, g 4, g 5, g 6]

/-- One block of 128 bytes. -/
def shaBlock (h : List (BitVec 64)) (b : Bytes) : List (BitVec 64) :=
  let first := (List.range 16).foldl (fun l i => BitVec.ofNat 64 (numBe b (8 * i) 8) :: l) []
  let w := (shaSchedule 64 first).reverse
  let kw := List.zipWith (fun (k : Nat) w => BitVec.ofNat 64 k + w) shaConstants w
  List.zipWith (· + ·) h (kw.foldl shaRound h)

/-- The SHA-384 digest of a byte string, 48 bytes. -/
def sha384 (m : Bytes) : Bytes :=
  let padded := m ++ [0x80] ++ List.replicate ((239 - m.length % 128) % 128) 0 ++ be 16 (8 * m.length)
  let h := (blocks 128 padded).foldl shaBlock (shaStart.map (BitVec.ofNat 64))
  (h.flatMap fun w => be 8 w.toNat).take 48

/-! ### AES -/

/-- The substitution box of AES (FIPS 197). -/
def sbox : List Nat :=
  [99, 124, 119, 123, 242, 107, 111, 197, 48, 1, 103, 43, 254, 215, 171, 118]
    ++ [202, 130, 201, 125, 250, 89, 71, 240, 173, 212, 162, 175, 156, 164, 114, 192]
    ++ [183, 253, 147, 38, 54, 63, 247, 204, 52, 165, 229, 241, 113, 216, 49, 21]
    ++ [4, 199, 35, 195, 24, 150, 5, 154, 7, 18, 128, 226, 235, 39, 178, 117]
    ++ [9, 131, 44, 26, 27, 110, 90, 160, 82, 59, 214, 179, 41, 227, 47, 132]
    ++ [83, 209, 0, 237, 32, 252, 177, 91, 106, 203, 190, 57, 74, 76, 88, 207]
    ++ [208, 239, 170, 251, 67, 77, 51, 133, 69, 249, 2, 127, 80, 60, 159, 168]
    ++ [81, 163, 64, 143, 146, 157, 56, 245, 188, 182, 218, 33, 16, 255, 243, 210]
    ++ [205, 12, 19, 236, 95, 151, 68, 23, 196, 167, 126, 61, 100, 93, 25, 115]
    ++ [96, 129, 79, 220, 34, 42, 144, 136, 70, 238, 184, 20, 222, 94, 11, 219]
    ++ [224, 50, 58, 10, 73, 6, 36, 92, 194, 211, 172, 98, 145, 149, 228, 121]
    ++ [231, 200, 55, 109, 141, 213, 78, 169, 108, 86, 244, 234, 101, 122, 174, 8]
    ++ [186, 120, 37, 46, 28, 166, 180, 198, 232, 221, 116, 31, 75, 189, 139, 138]
    ++ [112, 62, 181, 102, 72, 3, 246, 14, 97, 53, 87, 185, 134, 193, 29, 158]
    ++ [225, 248, 152, 17, 105, 217, 142, 148, 155, 30, 135, 233, 206, 85, 40, 223]
    ++ [140, 161, 137, 13, 191, 230, 66, 104, 65, 153, 45, 15, 176, 84, 187, 22]

/-- A byte substituted. -/
def subByte (b : Byte) : Byte := BitVec.ofNat 8 (sbox.getD b.toNat 0)

/-- A byte of the inverse substitution. -/
def invSubByte (b : Byte) : Byte := BitVec.ofNat 8 (sbox.idxOf b.toNat)

/-- Multiplication by x in the field of AES. -/
def xtime (b : Byte) : Byte := if b.msb then (b <<< 1) ^^^ 0x1B else b <<< 1

/-- Multiplication by a small constant in the field of AES. -/
def gmul (k : Nat) (b : Byte) : Byte :=
  let b2 := xtime b
  let b4 := xtime b2
  let b8 := xtime b4
  (if bit k 0 then b else 0) ^^^ (if bit k 1 then b2 else 0) ^^^ (if bit k 2 then b4 else 0) ^^^ (if bit k 3 then b8 else 0)

/-- The key schedule, newest word first, continued by `n` words from word `i` on. -/
def expandKey (nk : Nat) : Nat → Nat → Byte → List Bytes → List Bytes
  | 0, _, _, l => l
  | n + 1, i, rcon, l =>
    let last := l.getD 0 []
    let back := l.getD (nk - 1) []
    if i % nk = 0 then
      let t := ((last.drop 1 ++ last.take 1).map subByte)
      expandKey nk n (i + 1) (xtime rcon) (xorBytes back (xorBytes t [rcon, 0, 0, 0]) :: l)
    else if 6 < nk ∧ i % nk = 4 then expandKey nk n (i + 1) rcon (xorBytes back (last.map subByte) :: l)
    else expandKey nk n (i + 1) rcon (xorBytes back last :: l)

/-- The round keys of a key of 16 or 32 bytes. -/
def roundKeys (key : Bytes) : List Bytes :=
  let nk := key.length / 4
  let first := (List.range nk).foldl (fun l i => slice key (4 * i) 4 :: l) []
  let words := (expandKey nk (4 * (nk + 7) - nk) nk 1 first).reverse
  (List.range (nk + 7)).map fun r => ((words.drop (4 * r)).take 4).flatten

/-- Bytes of a block moved by rows: row `r` of column `c` comes from column `c + k · r`. -/
def moveRows (k : Nat) (b : Bytes) : Bytes :=
  (List.range 16).map fun i => b.getD (4 * ((i / 4 + k * (i % 4)) % 4) + i % 4) 0

/-- The columns of a block multiplied by a circulant matrix. -/
def mixColumns (m : List Nat) (b : Bytes) : Bytes :=
  (List.range 16).map fun i =>
    (List.range 4).foldl (fun x j => x ^^^ gmul (m.getD ((4 + j - i % 4) % 4) 0) (b.getD (4 * (i / 4) + j) 0)) 0

/-- A block encrypted under a key. -/
def aes (key block : Bytes) : Bytes :=
  match roundKeys key with
  | [] => block
  | k0 :: ks =>
    let mid := ks.dropLast.foldl (fun b k => xorBytes (mixColumns [2, 3, 1, 1] (moveRows 1 (b.map subByte))) k) (xorBytes block k0)
    xorBytes (moveRows 1 (mid.map subByte)) (ks.getLastD [])

/-- A block decrypted under a key. -/
def aesInverse (key block : Bytes) : Bytes :=
  match (roundKeys key).reverse with
  | [] => block
  | k0 :: ks =>
    let mid := ks.dropLast.foldl (fun b k => mixColumns [14, 11, 13, 9] (xorBytes ((moveRows 3 b).map invSubByte) k)) (xorBytes block k0)
    xorBytes ((moveRows 3 mid).map invSubByte) (ks.getLastD [])

/-! ### CTR and CMAC -/

/-- Data added to the key stream of counter blocks. -/
def stream (key : Bytes) (counter : Nat → Bytes) (data : Bytes) : Bytes :=
  ((blocks 16 data).zipIdx.map fun e => xorBytes e.1 (aes key (counter e.2))).flatten

/-- CTR (SP 800-38A): a 128-bit big-endian counter block. -/
def aesCtr (key start data : Bytes) : Bytes :=
  stream key (fun i => be 16 ((numBe start 0 16 + i) % 2 ^ 128)) data

/-- Multiplication by x in the field of CMAC. -/
def cmacDouble (n : Nat) : Nat := if 2 ^ 127 ≤ n then Nat.xor (2 * n % 2 ^ 128) 0x87 else 2 * n

/-- A CBC chain over whole blocks. -/
def cbcMac (key : Bytes) (data : Bytes) : Bytes :=
  (blocks 16 data).foldl (fun x b => aes key (xorBytes x b)) (List.replicate 16 0)

/-- CMAC (SP 800-38B), 16 bytes. -/
def cmac (key data : Bytes) : Bytes :=
  let l := numBe (aes key (List.replicate 16 0)) 0 16
  let k1 := cmacDouble l
  let whole := data.length % 16 = 0 ∧ data ≠ []
  let head := data.take ((data.length - 1) / 16 * 16)
  let tail := data.drop ((data.length - 1) / 16 * 16)
  let last := if whole then xorBytes tail (be 16 k1) else xorBytes (padTo 16 (tail ++ [0x80])) (be 16 (cmacDouble k1))
  cbcMac key (head ++ last)

/-- The check value of a key: the leftmost 24 bits of the CMAC of a message of no length (R397). -/
def checkValue (key : Bytes) : Nat := numBe (cmac key []) 0 3

/-! ### GCM and CCM -/

/-- The product in the field of GHASH, bit by bit from the left of `x`. -/
def ghashMul (x : Nat) : Nat → Nat → Nat → Nat
  | 0, z, _ => z
  | n + 1, z, v =>
    let z := if bit x n then Nat.xor z v else z
    ghashMul x n z (if v % 2 = 1 then Nat.xor (v / 2) (0xE1 * 2 ^ 120) else v / 2)

/-- GHASH over whole blocks. -/
def ghash (h : Nat) (data : Bytes) : Nat :=
  (blocks 16 data).foldl (fun y b => ghashMul (Nat.xor y (numBe b 0 16)) 128 0 h) 0

/-- The tag of GCM over a ciphertext (SP 800-38D), 16 bytes. -/
def gcmTag (key iv aad cipher : Bytes) : Bytes :=
  let h := numBe (aes key (List.replicate 16 0)) 0 16
  let s := ghash h (pad16 aad ++ pad16 cipher ++ be 8 (8 * aad.length) ++ be 8 (8 * cipher.length))
  xorBytes (be 16 s) (aes key (iv ++ be 4 1))

/-- The key stream of GCM on data. -/
def gcmStream (key iv data : Bytes) : Bytes := stream key (fun i => iv ++ be 4 (i + 2)) data

/-- The tag of CCM over a plaintext (SP 800-38C) of `m` bytes. -/
def ccmTag (key nonce aad plain : Bytes) (m : Nat) : Bytes :=
  let l := 15 - nonce.length
  let b0 := le 1 (64 * bitOf (aad ≠ []) + 8 * ((m - 2) / 2) + (l - 1)) ++ nonce ++ be l plain.length
  let a := if aad = [] then [] else pad16 (be 2 aad.length ++ aad)
  let t := cbcMac key (b0 ++ a ++ pad16 plain)
  (xorBytes t (aes key (le 1 (l - 1) ++ nonce ++ be l 0))).take m

/-- The key stream of CCM on data. -/
def ccmStream (key nonce data : Bytes) : Bytes :=
  let l := 15 - nonce.length
  stream key (fun i => le 1 (l - 1) ++ nonce ++ be l (i + 1)) data

/-! ### Key wrap and link keys -/

/-- One step of unwrapping: the register and the 64-bit blocks. -/
def unwrapStep (key : Bytes) (x : Bytes × List Bytes) (t i : Nat) : Bytes × List Bytes :=
  let b := aesInverse key (xorBytes x.1 (be 8 t) ++ x.2.getD i [])
  (b.take 8, setAt x.2 i fun _ => b.drop 8)

/-- AES Key Wrap undone (RFC 3394); none where its integrity check fails. -/
def unwrap (key wrapped : Bytes) : Option Bytes :=
  let n := wrapped.length / 8 - 1
  let start := (wrapped.take 8, blocks 8 (wrapped.drop 8))
  let out := (List.range (6 * n)).foldl (fun x k =>
    let t := 6 * n - k
    unwrapStep key x t ((t - 1) % n)) start
  if out.1 = List.replicate 8 0xA6 then some out.2.flatten else none

/-- The link key of R401. -/
def linkKey (pageKey : Bytes) (generation remote : Nat) : Bytes :=
  let n := pageKey.length / 16
  ((List.range n).map fun i => cmac pageKey (le 1 (i + 1) ++ [0x4C, 0x44, 0x4C, 0x4B, 0] ++ le 1 generation ++ le 2 remote
    ++ be 2 (8 * pageKey.length))).flatten

end Sys2Proof.Machine
end

