-- ==== Sys2Proof/Machine/Command.lean ====
section
/-! DEFINITION. The command path: replies and events on their way to the host, the sessions, and the checks of
Table 2-5 that every command passes before its own work. -/

namespace Sys2Proof.Machine

/-! ### Status codes (Table 2-13) -/

namespace Status

abbrev ok : Nat := 0x0000
abbrev accepted : Nat := 0x0001
abbrev completedAfterCancel : Nat := 0x0002
abbrev cancelled : Nat := 0x0003
abbrev badVersion : Nat := 0x0010
abbrev badCheck : Nat := 0x0011
abbrev badOpcode : Nat := 0x0012
abbrev lengthRange : Nat := 0x0013
abbrev paramRange : Nat := 0x0014
abbrev notPermitted : Nat := 0x0015
abbrev busy : Nat := 0x0016
abbrev resourceBusy : Nat := 0x0017
abbrev noSuchDevice : Nat := 0x0018
abbrev txnNone : Nat := 0x0020
abbrev txnFull : Nat := 0x0021
abbrev txnConflict : Nat := 0x0022
abbrev txnExpired : Nat := 0x0023
abbrev timeout : Nat := 0x0030
abbrev slotMissed : Nat := 0x0031
abbrev dutyLimit : Nat := 0x0032
abbrev regLocked : Nat := 0x0033
abbrev timeJumpRefused : Nat := 0x0034
abbrev dateInvalid : Nat := 0x0035
abbrev okDegraded : Nat := 0x0040
abbrev unitRetired : Nat := 0x0041
abbrev internalFault : Nat := 0x00FF

end Status

/-! ### Packets -/

/-- A reply or an event laid out as Table 2-2, with its trailer (R37). -/
def Reply.packet (r : Reply) : Bytes :=
  let flags := bitOf r.final + 2 * bitOf r.event + 4 * bitOf r.replayed + 8 * bitOf r.forwarded
  let body := [2, BitVec.ofNat 8 flags] ++ le 2 r.tag ++ le 2 r.code
    ++ [BitVec.ofNat 8 r.source, BitVec.ofNat 8 r.session] ++ le 2 r.result.length ++ le 2 0
    ++ le 2 r.status ++ le 2 0 ++ r.result
  body ++ le 4 (crc32c body)

/-- A command laid out as Table 2-1, with the trailer it came with. -/
def packetOf (c : Cmd) (opcode : Nat) (p : Bytes) : Bytes :=
  let flags := bitOf c.wantReply + 2 * bitOf c.inTxn + 4 * bitOf c.urgent + 8 * bitOf c.forward
  [2, BitVec.ofNat 8 flags] ++ le 2 c.tag ++ le 2 opcode ++ [BitVec.ofNat 8 c.target, BitVec.ofNat 8 c.session]
    ++ le 2 p.length ++ le 2 c.timeout ++ le 4 0 ++ p ++ le 4 c.trailer

/-- What a reply to a command needs of it. -/
def originOf (c : Cmd) (opcode : Nat) : Origin :=
  ⟨c.session, c.tag, c.trailer, opcode, c.ep, c.wantReply⟩

/-! ### The device and its sessions -/

/-- This device's number; 0 while it holds none (Table 2-16). -/
def State.device (s : State) : Nat :=
  if s.fld Reg.chainStat 7 0 = 0xFF then 0 else s.fld Reg.chainStat 7 0

/-- Whether the device holds a chain number (R519). -/
def State.numbered (s : State) : Bool := s.fld Reg.chainStat 7 0 != 0xFF

/-- Whether this device heads the chain (R517). -/
def State.head (s : State) : Bool := s.flag Reg.chainCtl 0

/-- Whether a device number is present: this one, or one the chain map shows (R519). -/
def State.present (s : State) (d : Nat) : Bool :=
  d == s.device || bit ((s.reg Reg.chainMapLo).toNat + 2 ^ 32 * (s.reg Reg.chainMapHi).toNat) d

/-- The other devices of the chain. -/
def State.others (s : State) : List Nat :=
  (List.range 64).filter fun d => s.present d && d != s.device

/-- A session's record. -/
def State.session (s : State) (n : Nat) : Session := s.host.sessions.getD n {}

/-- A session's record changed. -/
def State.modSession (s : State) (n : Nat) (f : Session → Session) : State :=
  { s with host := { s.host with sessions := setAt s.host.sessions n f } }

/-- A ring pair's registers. -/
def State.ring (s : State) (n : Nat) : Ring := s.host.rings.getD n {}

/-- A ring pair's registers changed. -/
def State.modRing (s : State) (n : Nat) (f : Ring → Ring) : State :=
  { s with host := { s.host with rings := setAt s.host.rings n f } }

/-- Whether a session is open. -/
def State.isOpen (s : State) (n : Nat) : Bool := (s.session n).ep.isSome

/-- The binding code of SYS_SESSION_STAT. -/
def bindingCode : Endpoint → Nat
  | .pcie _ => 1
  | .spi => 2
  | .inband .. => 3
  | .replay => 0
  | .chain _ => 0

/-- Whether two endpoints are the same one for R50: of an in-band endpoint, the MAC address and the VLAN. -/
def sameEndpoint : Endpoint → Endpoint → Bool
  | .pcie a, .pcie b => a == b
  | .spi, .spi => true
  | .inband m v _, .inband m' v' _ => m == m' && v == v'
  | .replay, .replay => true
  | .chain a, .chain b => a == b
  | _, _ => false

/-- Whether a session is bound to an endpoint. -/
def State.bound (s : State) (n : Nat) (ep : Endpoint) : Bool :=
  match (s.session n).ep with
  | some e => sameEndpoint e ep
  | none => false

/-- SYS_SESSION_STAT (Table 2-17). -/
def State.sessionStat (s : State) : Word :=
  word ((List.range 4).map fun n => (match (s.session n).ep with
    | some e => bindingCode e
    | none => 0) * 4 ^ n).sum

/-- SYS_SUMMARY and DW_SUMMARY (Table 2-16). -/
def State.summary (s : State) : Word :=
  let sessions := ((List.range 4).map fun n => bitOf (s.isOpen n) * 2 ^ n).sum
  let degraded := s.fld Reg.darnSvc 6 0 != 0
  word (bitOf s.pins.alive + 2 * bitOf (s.reg Reg.darnSvc != 0 || s.boot.halted)
    + 4 * bitOf (s.flag Reg.sysBootStat 6) + 8 * bitOf degraded + 16 * sessions
    + 256 * s.device + 2 ^ 14 * bitOf (!s.numbered))

/-- An MSI message sent (R42). -/
def State.msi (s : State) (v : Nat) : State :=
  { s with host := { s.host with msi := setAt s.host.msi v (· + 1) } }

/-- A change that may show in DW_SUMMARY, with the MSI vector 4 that signals it (R42). -/
def State.noteSummary (s old : State) : State := if s.summary = old.summary then s else s.msi 4

/-! ### Reply rings (R38 to R42) -/

/-- Whether a ring pair is enabled. -/
def Ring.enabled (r : Ring) : Bool := field r.cfg 8 8 = 1

/-- Slots of the reply ring. -/
def Ring.replySlots (r : Ring) : Nat := 2 ^ field r.cfg 7 4

/-- Replies between head and tail. -/
def Ring.used (r : Ring) : Nat := (65536 + r.rplTail.toNat - r.rplHead.toNat) % 65536

/-- Free slots of the reply ring. -/
def Ring.free (r : Ring) : Nat := r.replySlots - r.used

/-- Replies written to the ring, with its tail advanced and DW_IRQ_STAT[0] set (R38). -/
def Ring.write (r : Ring) (l : List Reply) : Ring :=
  match l with
  | [] => r
  | _ => { r with
      slots := r.slots ++ l
      rplTail := word ((r.rplTail.toNat + l.length) % 65536)
      irq := withField r.irq 0 0 1 }

/-- What a session holds for its ring, written as far as there is room: replies, then events (R39).
(DESIGN CHOICE: log 4.) -/
def State.pumpRing (s : State) (n ring : Nat) : State :=
  let r := s.ring ring
  if r.enabled then
    let e := s.session n
    let now := r.held.take r.free
    let ev := e.events.take (r.free - now.length)
    match now ++ ev with
    | [] => s
    | l =>
      let s := s.modRing ring fun r => { r.write l with held := r.held.drop now.length }
      let s := s.modSession n fun e => { e with events := e.events.drop ev.length }
      if field r.cfg 9 9 = 1 then s.msi ring else s
  else s

/-! ### The chain as a transport -/

/-- The port through which a device number is reached: 0 CRD_UP, 1 CRD_DN (R520). -/
def State.route (s : State) (d : Nat) : Nat :=
  if bit ((s.reg Reg.chainRouteLo).toNat + 2 ^ 32 * (s.reg Reg.chainRouteHi).toNat) d then 0 else 1

/-- Whether a Cordonnet port has its link. -/
def State.chainLink (s : State) (port : Nat) : Bool := s.flag (Reg.chainPortStat port) 1

/-- Content of kind 2 for another device, into the chain's privileged queue (Table 10-1). -/
def State.chainSend (s : State) (d : Nat) (content : Bytes) : State :=
  s.pushPrivileged 4 { buffer := 0, bytes := content, length := content.length + 16, port := 0x40 + d, kind := 2, device := d }

/-! ### Replies and events on their way -/

/-- The Ethernet frame, without FCS, that carries a packet to an in-band host (R45). -/
def State.inbandFrame (s : State) (mac : Bytes) (vlan port : Nat) (packet : Bytes) : Bytes :=
  let src := le 4 (s.reg (Reg.emacMacLo port)).toNat ++ le 2 (s.fld (Reg.emacMacHi port) 15 0)
  let tag := if vlan = 0 then [] else be 2 0x8100 ++ be 2 vlan
  padTo (max 60 (14 + tag.length + packet.length)) (mac ++ src ++ tag ++ be 2 0x88B5 ++ packet)

/-- A reply given to a transport on behalf of a session (R39, R43, R45, R51). -/
def State.deliver (s : State) (n : Nat) (ep : Endpoint) (r : Reply) : State :=
  match ep with
  | .pcie ring =>
    if (s.ring ring).enabled then (s.modRing ring fun x => { x with held := x.held ++ [r] }).pumpRing ring ring
    else s
  | .spi =>
    if (s.session n).ep = some .spi then s.modSession n fun e => { e with held := e.held ++ [r] }
    else { s with host := { s.host with spiLeft := s.host.spiLeft ++ [r] } }
  | .inband mac vlan port =>
    let f := s.inbandFrame mac vlan port r.packet
    s.pushPrivileged port { buffer := 0, bytes := f, length := f.length + 4, port := port }
  | .replay => s
  | .chain head => s.chainSend head { r with forwarded := true }.packet

/-- Maskable events may take the first 240 of the 256 entries (R64). -/
def eventRoom (severity : Nat) (l : List Reply) : Bool := l.length < (if severity = 3 then 256 else 240)

/-- The network time of an event that happens now, as Table 2-8 lays it out. -/
def State.eventTime (s : State) : Bytes := le 6 s.seconds ++ le 4 s.nanos

/-- An event raised to one open session, with its time: numbered, then queued or lost (Table 2-8, R63, R64).
(DESIGN CHOICE: log 23.) -/
def State.raiseTimed (s : State) (n code severity status source : Nat) (forwarded : Bool) (time body : Bytes) : State :=
  let e := s.session n
  match e.ep with
  | none => s
  | some ep =>
    if severity = 3 ∨ bit e.mask (code / 256) then
      let ev : Reply := { final := true, event := true, replayed := false, forwarded := forwarded, tag := 0, code := code, source := source, session := n, status := status, result := le 4 e.seq ++ time ++ le 1 severity ++ [0] ++ body }
      let s := s.modSession n fun e => { e with seq := (e.seq + 1) % 2 ^ 32 }
      match ep with
      | .inband mac vlan port =>
        let f := s.inbandFrame mac vlan port ev.packet
        s.pushPrivileged port { buffer := 0, bytes := f, length := f.length + 4, port := port }
      | _ =>
        if eventRoom severity e.events then
          let s := s.modSession n fun e => { e with events := e.events ++ [ev] }
          match ep with
          | .pcie ring => s.pumpRing n ring
          | _ => s
        else s.modSession n fun x => { x with
          lost := x.lost + 1, firstLost := if x.lost = 0 then e.seq else x.firstLost }
    else s

/-- An event of this moment raised to one open session. -/
def State.raiseTo (s : State) (n code severity status source : Nat) (forwarded : Bool) (body : Bytes) : State :=
  s.raiseTimed n code severity status source forwarded s.eventTime body

/-- An event raised to the sessions of this device (R63). -/
def State.raiseHere (s : State) (code severity status source : Nat) (forwarded : Bool) (time body : Bytes) : State :=
  (List.range 4).foldl (fun s n => s.raiseTimed n code severity status source forwarded time body) s

/-- An event of this device: raised here by a head or an unnumbered device, and at the head by any other
(R526). -/
def State.raise (s : State) (code severity : Nat) (body : Bytes) (status : Nat := Status.ok) : State :=
  if s.head ∨ ¬ s.numbered then s.raiseHere code severity status s.device false s.eventTime body
  else
    let ev : Reply := { final := true, event := true, replayed := false, forwarded := true, tag := 0, code := code, source := s.device, session := 0, status := status, result := le 4 0 ++ s.eventTime ++ le 1 severity ++ [0] ++ body }
    if s.chainLink (s.route 0) then s.chainSend 0 ev.packet
    else if s.chain.waitingEvents.length < 256 then
      { s with chain := { s.chain with waitingEvents := s.chain.waitingEvents ++ [ev] } }
    else { s with chain := { s.chain with droppedEvents := s.chain.droppedEvents + 1 } }

/-! ### Final replies -/

/-- The replay cache with a final reply added (R49). -/
def cacheAdd (l : List (Nat × Nat × Reply)) (tag trailer : Nat) (r : Reply) : List (Nat × Nat × Reply) :=
  let l := (l.filter fun e => e.1 != tag) ++ [(tag, trailer, r)]
  l.drop (l.length - 64)

/-- Whether a final status is suppressed when want-reply is clear (R57). -/
def quiet (status : Nat) : Bool := status = Status.ok || status = Status.okDegraded

/-- Whether a command came from the head, which needs its status whatever want-reply says (R524). -/
def fromHead : Endpoint → Bool
  | .chain _ => true
  | _ => false

/-- The final reply of a command: cached, and sent unless R57 says otherwise. -/
def State.reply (s : State) (o : Origin) (status : Nat) (result : Bytes) : State :=
  let r : Reply := { final := true, event := false, replayed := false, forwarded := false, tag := o.tag, code := o.opcode, source := s.device, session := o.session, status := status, result := result }
  let s := if s.bound o.session o.ep then
      s.modSession o.session fun e => { e with cache := cacheAdd e.cache o.tag o.trailer r }
    else s
  if !o.wantReply && quiet status && !fromHead o.ep then s else s.deliver o.session o.ep r

/-- The intermediate reply ACCEPTED (R57). -/
def State.acceptReply (s : State) (o : Origin) : State :=
  if o.wantReply then
    s.deliver o.session o.ep { final := false, event := false, replayed := false, forwarded := false, tag := o.tag, code := o.opcode, source := s.device, session := o.session, status := Status.accepted, result := [] }
  else s

/-- The statuses with which a check of Table 2-5 fails. -/
def checkStatuses : List Nat :=
  [Status.badVersion, Status.badCheck, Status.badOpcode, Status.lengthRange, Status.paramRange, Status.notPermitted, Status.busy,
    Status.resourceBusy, Status.noSuchDevice, Status.dutyLimit, Status.regLocked]

/-- A final reply that comes before its command has started, counted in SYS_CMD_ERR where it comes from a check of Table
2-5 (R47). -/
def State.refuse (s : State) (o : Origin) (status : Nat) (result : Bytes) : State :=
  (if checkStatuses.contains status then s.bump Reg.sysCmdErr else s).reply o status result

/-! ### Outstanding commands -/

/-- The commands of a session that have started and not ended, and that satisfy a test. -/
def State.outstandingOf (s : State) (p : Outstanding → Bool) : List Outstanding :=
  (List.range 4).flatMap fun n => (s.session n).outstanding.filter p

/-- The result of a broadcast (R67): the bitmap of the devices that ran the command, and 64 statuses. -/
def broadcastResult (statuses : Table Nat) : Bytes :=
  le 8 (((List.range 64).map fun d => bitOf (Table.find statuses d).isSome * 2 ^ d).sum)
    ++ (List.range 64).flatMap fun d => le 2 ((Table.find statuses d).getD 0xFFFF)

/-- The status of a broadcast: OK, or that of the lowest-numbered device that did not return OK. -/
def broadcastStatus (statuses : Table Nat) : Nat :=
  ((statuses.find? fun e => e.2 != Status.ok).map (·.2)).getD Status.ok

/-- Whether an outstanding command is a broadcast's collection of answers. -/
def Work.isBroadcast : Work → Bool
  | .broadcast .. => true
  | _ => false

/-- The CANCEL that waits for a tag gives its own reply, after the tag's (R60). -/
def State.answerCancel (s : State) (n tag : Nat) : State :=
  match (s.session n).outstanding.find? fun o => o.work == .cancel tag with
  | some o => (s.modSession n fun e => { e with outstanding := e.outstanding.filter (· != o) }).reply o.origin Status.ok [1]
  | none => s

/-- The status with which a command ends: one whose CANCEL waits for it, and that has not been stopped, completes after
the cancel (R60). -/
def State.endStatus (s : State) (n tag status : Nat) : Nat :=
  if status ≠ Status.cancelled ∧ (s.session n).outstanding.any fun o => o.work == .cancel tag then
    Status.completedAfterCancel
  else status

/-- The final reply of a command that has left the outstanding set, and that of the CANCEL that waited for it. -/
def State.conclude (s : State) (o : Origin) (status : Nat) (result : Bytes) : State :=
  (s.reply o (s.endStatus o.session o.tag status) result).answerCancel o.session o.tag

/-- One device's answer to a broadcast; the last one brings the final reply (R67, R527). -/
def State.answerBroadcast (s : State) (n tag d status : Nat) : State :=
  match (s.session n).outstanding.find? fun o => o.origin.tag == tag && o.work.isBroadcast with
  | some o =>
    match o.work with
    | .broadcast waiting statuses =>
      let statuses := Table.put statuses d status
      match waiting.filter (· != d) with
      | [] => (s.modSession n fun e => { e with
          outstanding := e.outstanding.filter fun x => x.origin.tag != tag }).conclude o.origin
            (broadcastStatus statuses) (broadcastResult statuses)
      | l => s.modSession n fun e => { e with
          outstanding := e.outstanding.map fun x => if x = o then { x with work := .broadcast l statuses } else x }
    | _ => s
  | none => s

/-- An outstanding command ended: taken from the set, and its final reply sent, or its status given to the
broadcast it is part of. -/
def State.finish (s : State) (o : Outstanding) (status : Nat) (result : Bytes) : State :=
  let n := o.origin.session
  let all := (s.session n).outstanding
  let s := s.modSession n fun e => { e with outstanding := e.outstanding.filter fun x => x != o }
  if all.any (fun x => x.origin.tag == o.origin.tag && x.work.isBroadcast) && !o.work.isBroadcast then
    s.answerBroadcast n o.origin.tag s.device status
  else s.conclude o.origin status result

/-- Every outstanding command whose work satisfies a test ended alike. -/
def State.finishWork (s : State) (p : Work → Bool) (status : Nat) (result : Bytes) : State :=
  (s.outstandingOf fun o => p o.work).foldl (fun s o => s.finish o status result) s

/-- The holder result of R592. -/
def holderOf (o : Outstanding) : Bytes := [0] ++ le 1 o.origin.session ++ le 2 o.origin.tag

/-- The first command outstanding that satisfies a test, as the holder R592 names. -/
def State.holder (s : State) (p : Outstanding → Bool) : Option Bytes :=
  (s.outstandingOf p).head?.map holderOf

/-- How many commands of a session are outstanding: those at work, and those whose reply a full ring holds. -/
def State.outstandingCount (s : State) (n : Nat) : Nat :=
  let e := s.session n
  e.outstanding.length + (match e.ep with
    | some (.pcie ring) => ((s.ring ring).held.filter fun r => r.final && r.session == n).length
    | _ => 0)

/-- Whether a tag is outstanding in a session (Table 2-5, step 6). -/
def State.tagOutstanding (s : State) (n tag : Nat) : Bool :=
  let e := s.session n
  e.outstanding.any (fun o => o.origin.tag == tag) ||
    (match e.ep with
      | some (.pcie ring) => (s.ring ring).held.any fun r => r.final && r.session == n && r.tag == tag
      | _ => false)

/-! ### The checks of Table 2-5 -/

/-- What a command does once it has passed step 11. -/
inductive Verdict where
  /-- A check of steps 12 to 14 failed. -/
  | fail (status : Nat) (result : Bytes)
  /-- The command started and ended. -/
  | done (s : State) (status : Nat) (result : Bytes)
  /-- The command started and goes on; `accepted` where it sends ACCEPTED (R57). -/
  | wait (s : State) (work : Work) (accepted : Bool)
  /-- The command started and ended, and has given its final reply itself. -/
  | ended (s : State) (status : Nat)

/-- What Table 2-5 needs to know of an opcode. -/
structure OpSpec where
  code : Nat
  /-- Default timeout hint, ms (Table 2-7). -/
  timeout : Nat := 1000
  /-- Step 9. -/
  defined : Bool := true
  /-- Permitted to session 0 only (R53). -/
  session0 : Bool := false
  /-- Lifecycle states that permit it. -/
  lifecycles : List Nat := [0, 1, 2, 3, 4]
  /-- Permitted on in-band sessions only (R513). -/
  inband : Bool := false
  /-- Refused with the in-transaction flag set. -/
  noTxn : Bool := false
  /-- Step 12. -/
  length : Bytes → Bool
  /-- Step 13. -/
  range : State → Bytes → Bool := fun _ _ => true

/-- The power state (Table 17-1). -/
def State.powerState (s : State) : Nat := s.fld Reg.pwrState 2 0

/-- The lifecycle state (Table 19-1). -/
def State.lifecycle (s : State) : Nat := s.fld Reg.secLifecycle 2 0

/-- Whether the endpoint can bring a command at all: the host port is on, and, after a TCXO failure, only the
quad SPI port carries commands (R443, R457). (DEDUCED: log 9.) -/
def State.portServes (s : State) (ep : Endpoint) : Bool :=
  (s.powerState ≤ 2) && !s.boot.testmode && s.boot.starting.isNone
    && (s.boot.halted || s.unitState 7 0 != .retired || s.unitState 7 1 != .retired) &&
    (match ep with
      | .spi => true
      | .replay => true
      | .inband .. => s.powerState ≤ 1 && !s.flag Reg.clkSrcStat 3
      | .chain _ => s.powerState ≤ 1 && !s.flag Reg.clkSrcStat 3
      | .pcie _ => !s.flag Reg.clkSrcStat 3)

/-- Step 10: the opcode permitted to this session in the present lifecycle and power state (R53, R446, R473,
R492, R498, R513). -/
def State.permits (s : State) (spec : OpSpec) (c : Cmd) : Bool :=
  (!spec.session0 || c.session == 0)
    && spec.lifecycles.contains s.lifecycle
    && (s.powerState != 2 || [0x00, 0x02, 0x31, 0x52, 0x60].contains (spec.code / 256))
    && (!spec.inband || (match c.ep with
        | .inband .. => true
        | _ => false))
    && (match c.ep with
        | .inband .. => (s.session c.session).authenticated || [0x0000, 0x0006, 0x041C].contains spec.code
        | _ => true)
    && (!s.boot.halted || (c.session == 0 && [0x0000, 0x0400, 0x0401, 0x0403].contains spec.code
        && (match c.ep with
          | .pcie _ => true
          | .spi => true
          | _ => false)))

/-- The end of a command's timeout hint (R59). -/
def State.deadline (s : State) (spec : OpSpec) (c : Cmd) : Nat :=
  s.elapsed + 1000000 * (if c.timeout = 0 then spec.timeout else c.timeout)

/-- A command added to its session's outstanding set. -/
def State.start (s : State) (spec : OpSpec) (c : Cmd) (w : Work) : State :=
  s.modSession c.session fun e => { e with
    outstanding := e.outstanding ++ [⟨originOf c spec.code, s.elapsed, s.deadline spec c, w⟩] }

/-- Steps 12 to 14 and the command's own work. (DEDUCED: log 13.) -/
def verdict (spec : OpSpec) (c : Cmd) (p : Bytes) (body : State → Verdict) (s : State) : Verdict :=
  if !spec.length p then .fail Status.lengthRange []
  else if !spec.range s p then .fail Status.paramRange []
  else if spec.noTxn && c.inTxn then .fail Status.notPermitted []
  else body s

/-- What a verdict leaves of the command. (DEDUCED: log 13.) -/
def State.settle (s : State) (spec : OpSpec) (c : Cmd) : Verdict → State
  | .fail status result => s.refuse (originOf c spec.code) status result
  | .done s' status result => s'.reply (originOf c spec.code) status result
  | .ended s' _ => s'
  | .wait s' w accepted =>
    let s' := s'.start spec c w
    if accepted then s'.acceptReply (originOf c spec.code) else s'

/-- Whether a command names another device than this one, or all. -/
def State.elsewhere (s : State) (c : Cmd) : Bool := c.target != s.device

/-- The status a verdict gives this device's slot of a broadcast. -/
def Verdict.status : Verdict → Nat
  | .fail status _ => status
  | .done _ status _ => status
  | .ended _ status => status
  | .wait .. => Status.ok

/-- The state a verdict leaves, replies apart. -/
def Verdict.state (s : State) : Verdict → State
  | .fail .. => s
  | .done s' .. => s'
  | .ended s' _ => s'
  | .wait s' .. => s'

/-- Steps 9 to 14, for a command that this device runs alone. -/
def State.runHere (s : State) (spec : OpSpec) (c : Cmd) (p : Bytes) (body : State → Verdict) : State :=
  if !spec.defined then s.refuse (originOf c spec.code) Status.badOpcode []
  else if !s.permits spec c then s.refuse (originOf c spec.code) Status.notPermitted []
  else if 32 ≤ s.outstandingCount c.session then s.refuse (originOf c spec.code) Status.busy []
  else s.settle spec c (verdict spec c p body s)

/-- A broadcast (R67, R527): run here, forwarded to every other device, one final reply. -/
def State.runAll (s : State) (spec : OpSpec) (c : Cmd) (p : Bytes) (body : State → Verdict) : State :=
  if !spec.defined then s.refuse (originOf c spec.code) Status.badOpcode []
  else if !s.permits spec c then s.refuse (originOf c spec.code) Status.notPermitted []
  else if 32 ≤ s.outstandingCount c.session then s.refuse (originOf c spec.code) Status.busy []
  else
    let others := s.others
    let v := verdict spec c p body s
    let s := others.foldl (fun s d => s.chainSend d (packetOf c spec.code p)) (v.state s)
    match v with
    | .wait _ w _ => (s.start spec c w).start spec c (.broadcast (s.device :: others) [])
    | _ =>
      let statuses : Table Nat := [(s.device, v.status)]
      match others with
      | [] => s.reply (originOf c spec.code) (broadcastStatus statuses) (broadcastResult statuses)
      | l => s.start spec c (.broadcast l statuses)

/-- A record of a configuration image that fails (R480). -/
def State.failReplay (s : State) (status : Nat) : State := { s with boot := { s.boot with replayFault := some status } }

/-- A record replayed under steps 10 to 14 (R478): no reply, and no outstanding command. -/
def State.runReplay (s : State) (spec : OpSpec) (c : Cmd) (p : Bytes) (body : State → Verdict) : State :=
  if !s.permits spec c then s.failReplay Status.notPermitted
  else
    match verdict spec c p body s with
    | .fail status _ => s.failReplay status
    | .done s' status _ => if quiet status then s' else s.failReplay status
    | .ended s' _ => s'
    | .wait s' _ _ => s'

/-- A packet of a bound session counted, and the session's idle time begun again (R52). -/
def State.counted (s : State) (c : Cmd) : State :=
  (s.bump64 Reg.sysCmdRxLo).modSession c.session fun e => { e with lastCommand := s.elapsed }

/-- The state in which steps 8 to 14 of Table 2-5 are made: the packet is counted, and an older entry of its tag has left
the replay cache (R49). (DEDUCED: log 14.) -/
def State.received (s : State) (c : Cmd) : State :=
  (s.counted c).modSession c.session fun e => { e with cache := e.cache.filter fun x => x.1 != c.tag }

/-- Steps 8 to 14 of Table 2-5. -/
def State.runAt (s : State) (spec : OpSpec) (c : Cmd) (p : Bytes) (body : State → Verdict) : State :=
  if c.target = 0xFF then
    if c.forward then s.runAll spec c p body
    else s.refuse (originOf c spec.code) Status.paramRange []
  else if s.elsewhere c then
    if !s.present c.target then s.refuse (originOf c spec.code) Status.noSuchDevice []
    else if !c.forward then s.refuse (originOf c spec.code) Status.paramRange []
    else (s.chainSend c.target (packetOf c spec.code p)).start spec c (.forwarded c.target)
  else s.runHere spec c p body

/-- The final reply that the replay cache holds for a command (Table 2-5, step 7). (DEDUCED: log 14.) -/
def State.cached (s : State) (c : Cmd) : Option Reply :=
  ((s.session c.session).cache.find? fun x => x.1 == c.tag && x.2.1 == c.trailer).map (·.2.2)

/-- A command from step 5 of Table 2-5 on. -/
def State.run (s : State) (spec : OpSpec) (c : Cmd) (p : Bytes) (body : State → Verdict) : State :=
  if c.ep = .replay then s.runReplay spec c p body
  else if !s.portServes c.ep then s
  else
    match c.ep with
    | .chain _ => s.runHere spec c p body
    | _ =>
      if !s.bound c.session c.ep then
        if spec.code = 0 then (s.bump64 Reg.sysCmdRxLo).runAt spec c p body
        else (s.bump64 Reg.sysCmdRxLo).refuse (originOf c spec.code) Status.notPermitted []
      else if s.tagOutstanding c.session c.tag then (s.counted c).bumpFld Reg.sysCmdDrop 31 16
      else
        match s.cached c with
        | some r =>
          if !c.wantReply && quiet r.status then s.counted c
          else (s.counted c).deliver c.session c.ep { r with replayed := true }
        | none => (s.received c).runAt spec c p body

/-- A hint counted from the network instant that a command names (R59): the command that this step started. -/
def State.hintAfter (s old : State) (c : Cmd) (w : Work) (instant : Nat) : State :=
  if (old.session c.session).outstanding.length < (s.session c.session).outstanding.length then
    s.modSession c.session fun e => { e with
      outstanding := e.outstanding.map fun o =>
        if o.origin.tag = c.tag ∧ o.work = w then { o with deadline := o.deadline + (instant - s.netNs) } else o }
  else s

/-! ### Closing a session (R51) -/

/-- Whether a transaction's commit is armed, so that closing the session leaves it (R51, R78). -/
def Txn.isPending (t : Txn) : Bool := t.state = .pending

/-- A session closed once the work of its commands has been dealt with, with the reason that SESSION_CLOSED reports (R51, R65). -/
def State.closeSession (s : State) (n reason : Nat) : State :=
  let e := s.session n
  match e.ep with
  | none => s
  | some ep =>
    let old := s
    let s := match ep with
      | .spi => { s with host := { s.host with spiLeft := s.host.spiLeft ++ e.held } }
      | _ => s
    let s := s.modSession n fun e => { e with
      ep := none, authenticated := false, challenge := none, authDue := none, cache := [], events := [], lost := 0
      report := []
      held := []
      outstanding := []
      txn := {} }
    let s := if e.txn.isPending then { s with host := { s.host with orphans := s.host.orphans ++ [(n, e.txn)] } } else s
    let s := if n ≠ 0 ∧ s.isOpen 0 then
        s.raiseTo 0 0x0002 (Config.eventSeverity 0x0002 % 3) Status.ok s.device false (le 1 n ++ le 1 reason)
      else s
    s.noteSummary old

end Sys2Proof.Machine
end

