-- ==== Sys2Proof/Machine/Outputs.lean ====
section
/-! DEFINITION. Outputs OUT0 to OUT15 (chapter 13): who holds them and what drives them; the pulse generators of
chapter 11 that drive them on the network-time grid. -/

namespace Sys2Proof.Machine

/-! ### Holders and drivers (R338, R380 to R383) -/

/-- Who holds an output: 0 none, 1 control program, 2 pulse generator, 3 timer (MEAS_OUT_k_VAL). -/
def State.holderCode (s : State) (k : Nat) : Nat := s.fld (Reg.outVal k) 18 17

/-- What an output keeps beside its registers. -/
def State.output (s : State) (k : Nat) : Output := s.meas.outs.getD k {}

/-- An output's record changed. -/
def State.modOutput (s : State) (k : Nat) (f : Output → Output) : State :=
  { s with meas := { s.meas with outs := setAt s.meas.outs k f } }

/-- The holder result of R338. -/
def State.holderResult (s : State) (k : Nat) : Bytes := le 1 (s.holderCode k - 1) ++ le 1 (s.output k).index

/-- The value that gives an output a level: a relay drive's 0 or 1, a PWM duty of 0 or 10,000 (R381). -/
def levelValue (k : Nat) (high : Bool) : Nat := if k < 8 then (if high then 10000 else 0) else bitOf high

/-- An output driven to a duty or a level; a change of level restarts its read-back count (R380 to R382). -/
def State.drive (s : State) (k v : Nat) : State :=
  let old := s.fld (Reg.outVal k) 16 0
  let s := (s.setFld (Reg.outVal k) 15 0 v).setFlag (Reg.outVal k) 16 true
  if old = 65536 + v % 65536 then s else s.modOutput k fun o => { o with differ := 0, agree := 0 }

/-- An output claimed (R338, R379, R434). (DEDUCED: log 80.) -/
def State.claim (s : State) (k code index : Nat) : State :=
  (s.setFld (Reg.outVal k) 18 17 code).modOutput k fun o => { o with index := index }

/-- An output released at its present level. (DEDUCED: log 80.) -/
def State.release (s : State) (k : Nat) : State :=
  ((s.setFld (Reg.outVal k) 18 17 0).setFlag (Reg.outStat k) 2 false).modOutput k fun o => { o with index := 0 }

/-- A duty or level that an output can take (Table 13-7). -/
def outValueOk (k v : Nat) : Bool := if k < 8 then decide (v ≤ 10000) else decide (v ≤ 1)

/-! ### Pulse generators (R337 to R340) -/

/-- A generator. -/
def State.pulse (s : State) (k : Nat) : Pulse := s.time.pulses.getD k {}

/-- A generator changed. -/
def State.modPulse (s : State) (k : Nat) (f : Pulse → Pulse) : State :=
  { s with time := { s.time with pulses := setAt s.time.pulses k f } }

/-- What a generator would run on, with a control word, from its registers (R337, R339). -/
def State.pulseLatch (s : State) (k : Nat) (ctl : Word) : Pulse :=
  let compat := field ctl 6 6 = 1
  let seconds := (s.reg (Reg.plsStartLo k)).toNat + 2 ^ 32 * s.fld (Reg.plsStartHi k) 15 0
  let ns := (s.reg (Reg.plsStartNs k)).toNat
  let w := (s.reg (Reg.plsWidth k)).toNat
  let p := (s.reg (Reg.plsPeriod k)).toNat
  { running := true
    start := 1000000000 * seconds + (if compat then 1000000 * ns else ns)
    width := if compat then 1000000 * w else w
    period := if compat then 10000000 * p else p
    count := field ctl 31 16
    output := field ctl 4 1
    activeLow := field ctl 5 5 = 1
    compat := compat }

/-- The conditions of R337 and R339 on a generator about to be enabled. -/
def State.pulseOk (s : State) (k : Nat) (g : Pulse) : Bool :=
  decide (1000 ≤ g.width) && decide (g.width < g.period) && decide (s.netNs < g.start)
    && (!g.compat || (decide ((s.reg (Reg.plsWidth k)).toNat < 65536) && decide ((s.reg (Reg.plsPeriod k)).toNat < 65536)
      && decide ((s.reg (Reg.plsStartNs k)).toNat < 1000)))
    && (g.compat || decide ((s.reg (Reg.plsStartNs k)).toNat < 1000000000))

/-- The check of a write of TIME_PLS_k_CTL (R337, R338). -/
def State.pulseCheck (s : State) (k : Nat) (old new : Word) : Option (Nat × Bytes) :=
  if field old 0 0 = 0 ∧ field new 0 0 = 1 then
    let g := s.pulseLatch k new
    if !s.pulseOk k g then some (Status.paramRange, [])
    else if s.holderCode g.output ≠ 0 then some (Status.resourceBusy, s.holderResult g.output)
    else none
  else none

/-- A generator at its inactive or active level. -/
def State.drivePulse (s : State) (g : Pulse) (active : Bool) : State :=
  s.drive g.output (levelValue g.output (active != g.activeLow))

/-- A generator ended: output inactive and released, enable and running clear. -/
def State.stopPulse (s : State) (k : Nat) : State :=
  let g := s.pulse k
  if g.running then
    let s := ((s.drivePulse g false).release g.output).modPulse k fun _ => {}
    (s.setFlag (Reg.plsCtl k) 0 false).setFlag (Reg.plsStat k) 0 false
  else s

/-- What a checked write of TIME_PLS_k_CTL does once its word is stored. -/
def State.pulseWritten (s : State) (k : Nat) (old new : Word) : State :=
  if field old 0 0 = 0 ∧ field new 0 0 = 1 then
    let g := s.pulseLatch k new
    let s := ((s.claim g.output 2 k).drivePulse g false).modPulse k fun _ => g
    s.setReg (Reg.plsStat k) 1
  else if field old 0 0 = 1 ∧ field new 0 0 = 0 then s.stopPulse k
  else s

/-- The first instant of a grid at or after a bound: instants phase + N × period, N ≥ 0. -/
def gridAfter (phase period : Nat) (bound : Int) : Nat :=
  if bound ≤ (phase : Int) then phase
  else phase + ((bound - (phase : Int)).toNat + period - 1) / period * period

/-- PULSE_EDGE: the next edge of a running generator. -/
def execPulseEdge (generator : Nat) (s : State) : Host.Outcome State Fault Refusal :=
  let g := s.pulse generator
  .next (
    if !g.running then s
    else if g.active then
      let s := s.reach (((g.last.getD 0) + (g.width : Int)).toNat)
      let s := (s.drivePulse g false).modPulse generator fun g => { g with active := false }
      if g.count ≠ 0 ∧ g.count ≤ g.emitted then
        (s.stopPulse generator).raise 0x3004 0 (le 1 generator ++ [0] ++ le 1 g.output)
      else s
    else
      let instant := match g.last with
        | none => g.start
        | some l => gridAfter g.start g.period (l + (g.period : Int) / 2)
      let s := s.reach instant
      let s := (s.drivePulse g true).modPulse generator fun g => { g with
        active := true, emitted := g.emitted + 1, last := some (max instant s.netNs : Nat) }
      s.bumpFld (Reg.plsStat generator) 31 16)

/-! ### Commands (R383) -/

/-- OUT_SET. -/
def outSetSpec : OpSpec where
  code := 0x4016
  length p := p.length == 4
  range _ p := decide (num p 0 1 < 16) && num p 1 1 == 0 && outValueOk (num p 0 1) (num p 2 2)

/-- OUT_OVERRIDE, session 0 only. -/
def outOverrideSpec : OpSpec where
  code := 0x4017
  session0 := true
  length p := p.length == 4
  range _ p := decide (num p 0 1 < 16) && decide (num p 1 1 < 2) && outValueOk (num p 0 1) (num p 2 2)

/-- OUT_SET drives an output that no one holds. -/
def execOutSet (c : Cmd) (p : Bytes) (s : State) : Host.Outcome State Fault Refusal :=
  .next (s.run outSetSpec c p fun s =>
    let k := num p 0 1
    if !s.on .meas then .fail Status.notPermitted []
    else if s.holderCode k ≠ 0 then .fail Status.resourceBusy (s.holderResult k)
    else .done (s.drive k (num p 2 2)) Status.ok [])

/-- OUT_OVERRIDE forces an output of the control program, or releases it. -/
def execOutOverride (c : Cmd) (p : Bytes) (s : State) : Host.Outcome State Fault Refusal :=
  .next (s.run outOverrideSpec c p fun s =>
    let k := num p 0 1
    let force := num p 1 1 = 1
    if !s.on .meas then .fail Status.notPermitted []
    else if force then
      match s.holderCode k with
      | 0 => .done (s.drive k (num p 2 2)) Status.ok []
      | 1 => .done ((s.drive k (num p 2 2)).setFlag (Reg.outStat k) 2 true) Status.ok []
      | _ => .fail Status.resourceBusy (s.holderResult k)
    else if s.flag (Reg.outStat k) 2 then .done (s.setFlag (Reg.outStat k) 2 false) Status.ok []
    else .done s Status.ok [])

end Sys2Proof.Machine
end

