-- ==== Sys2Proof/Machine/Time.lean ====
section
/-! DEFINITION. Network time (chapter 11): the states of Table 11-3, corrections, transmit stamps and the messages
of IEEE 1588. -/

namespace Sys2Proof.Machine

/-! ### States (R326 to R328) -/

/-- TIME_STATE.state: 0 FREE, 1 LOCKING, 2 LOCKED, 3 HOLDOVER, 4 REFUSED. -/
def State.timeState (s : State) : Nat := s.fld Reg.timeState 2 0

/-- FREE, HOLDOVER or REFUSED: the holdover flag of R328. -/
def State.unsure (s : State) : Bool := s.timeState != 1 && s.timeState != 2

/-- The source that TIME_CTL selects. -/
def State.timeSource (s : State) : Nat := s.fld Reg.timeCtl 1 0

/-- The slave port as commands and events give it, 0xFF for none. -/
def State.slavePort (s : State) : Nat := if s.fld Reg.timeState 7 4 = 0xF then 0xFF else s.fld Reg.timeState 7 4

/-- An integer quotient whose rounding the manual does not state: one of the two integers beside it.
(DEDUCED: log 12.) -/
def roundDiv (n : Int) (d : Nat) : Int :=
  let q := n / (d : Int)
  if n % (d : Int) = 0 then q else if Config.roundsUp n d then q + 1 else q

/-- Saturation to a signed width. -/
def saturate (bits : Nat) (v : Int) : Int := clampInt (-(2 ^ (bits - 1) : Nat)) ((2 ^ (bits - 1) : Nat) - 1) v

/-- Time spent in LOCKED so far, ns. -/
def State.lockedTime (s : State) : Nat :=
  s.time.lockedNs + (match s.time.lockedSince with
    | some t => s.elapsed - t
    | none => 0)

/-- The sum of TIME_FREQ over `[from, to)` of locked time, newest value first. -/
def freqSum : List (Nat × Int) → (start stop : Nat) → Int
  | [], _, _ => 0
  | (t, v) :: l, start, stop =>
    if start < stop then v * ((stop - max start t : Nat) : Int) + freqSum l start (min stop t) else 0

/-- The mean of TIME_FREQ over the last 64 s spent in LOCKED (R328). -/
def State.heldFreq (s : State) : Int :=
  let stop := s.lockedTime
  let start := stop - 64000000000
  if stop = start then s.sfld Reg.timeFreq 31 0 else roundDiv (freqSum s.time.freqs start stop) (stop - start)

/-- A value of TIME_FREQ set, and kept with the locked time at which it began. (DESIGN CHOICE: log 68.) -/
def State.setFreq (s : State) (v : Int) : State :=
  let s := s.setFld Reg.timeFreq 31 0 (unsigned 32 (saturate 32 v))
  if s.timeState = 2 then
    let keep := s.time.freqs.takeWhile fun e => s.lockedTime < 64000000000 + e.1
    let older := s.time.freqs.drop keep.length
    { s with time := { s.time with freqs := (s.lockedTime, v) :: keep ++ older.take 1 } }
  else s

/-- A change of time state, with TIME_STATE_CHANGED (R326, R328). -/
def State.toTimeState (s : State) (new : Nat) : State :=
  let old := s.timeState
  if old = new then s
  else
    let held := old = 3 ∨ old = 4
    let hold := new = 3 ∨ new = 4
    let s := if hold ∧ ¬ held then s.setFreq s.heldFreq else s
    let s := { s with time := { s.time with
      lockedNs := s.lockedTime
      lockedSince := if new = 2 then some s.elapsed else none
      heldSince := if hold then (if held then s.time.heldSince else some s.elapsed) else none
      settled := 0 } }
    let s := s.setFld Reg.timeState 2 0 new
    let s := if new = 2 then s.setFreq (s.sfld Reg.timeFreq 31 0) else s
    s.raise 0x3000 0 (le 1 old ++ le 1 new ++ le 1 s.timeSource ++ le 1 s.slavePort)

/-- The seconds in holdover of TIME_STATE and TIME_STATUS (R328). -/
def State.heldSeconds (s : State) : Nat :=
  match s.time.heldSince with
  | some t => (s.elapsed - t) / 1000000000
  | none => 0

/-- The source is lost (Table 11-3). -/
def State.loseSource (s : State) : State :=
  if s.timeState = 1 ∨ s.timeState = 2 ∨ s.timeState = 4 then s.toTimeState 3 else s

/-- The slave port set, 0xF for none. -/
def State.setSlave (s : State) (p : Nat) : State := s.setFld Reg.timeState 7 4 p

/-! ### Corrections (R317, R326, R327) -/

/-- The slew that absorbs a correction of `c` ns. -/
def slewOf (c : Int) : Int := c * ((65536 * subUnit : Nat) : Int)

/-- Slew that remains, ns (TIME_SLEW). -/
def State.slewLeft (s : State) : Int := s.time.slew.tdiv ((65536 * subUnit : Nat) : Int)

/-- Whether the time base can be moved by a correction (R326, R329). -/
def State.timeFits (s : State) (c : Int) : Bool :=
  decide (0 ≤ (s.netNs : Int) + c) && decide ((s.netNs : Int) + c < ((2 ^ 48 * 1000000000 : Nat) : Int))

/-- The refused correction, a signed 64-bit number. -/
def State.refused (s : State) : Int := signed 64 (s.reg64 Reg.timeRefusedLo)

/-- Entry to REFUSED, or a further refusal in it (R327). (DEDUCED: log 71.) -/
def State.refuseTime (s : State) (c : Int) : State :=
  let entering := s.timeState ≠ 4
  let s := (s.setReg64 Reg.timeRefusedLo (unsigned 64 (saturate 64 c))).setFlag Reg.timeFlags 0 true
  if entering then
    (s.toTimeState 4).raise 0x3001 1 (le 8 (unsigned 64 c) ++ le 1 s.slavePort ++ s.time.master)
  else s

/-- The time base moved by `d` ns at once; triggers keep their elapsed distance (R329, R331), and generators in
compatibility mode stop (R339). (DEDUCED: log 71.) -/
def State.stepTime (s : State) (d : Int) (cause : Nat) : State :=
  let shift := fun (t : Option Int) => t.map (· + d)
  let s := { s with time := { s.time with
    now := ((s.time.now : Int) + 65536 * d).toNat
    slew := 0
    lastStart := shift s.time.lastStart
    lastCycle := shift s.time.lastCycle
    stepped := true
    pulses := s.time.pulses.map fun (g : Pulse) => { g with last := shift g.last } } }
  let s := (s.setFlag Reg.timeFlags 1 true).raise 0x3002 1 (le 8 (unsigned 64 d) ++ le 1 cause)
  (List.range 4).foldl (fun s k =>
    let g := s.pulse k
    if g.running ∧ g.compat then (s.stopPulse k).raise 0x3004 0 (le 1 k ++ [1] ++ le 1 g.output) else s) s

/-- TIME_FREQ moved by the servo of the time function, at an accepted correction. (DESIGN CHOICE: log 68.) -/
def State.servo (s : State) : State :=
  let (n, s) := s.draw
  s.setFreq (Config.servo n)

/-- What a measurement comes to: accepted, refused by TIME_JUMP_LIM, or out of range (R326). -/
inductive Measured where
  | accepted
  | jump
  | range
  deriving DecidableEq, Repr

/-- A measurement with correction `c` (Table 11-3). The boolean says whether the time base was stepped.
(DEDUCED: log 71.) -/
def State.measure (s : State) (c : Int) : Measured × Bool × State :=
  let s := s.setFld Reg.timeOffset 31 0 (unsigned 32 (saturate 32 (-c)))
  if !s.timeFits c then (.range, false, s)
  else
    let within := c.natAbs ≤ s.fld Reg.timeJumpLim 29 0
    match s.timeState with
    | 0 => (.accepted, true, (s.stepTime c 0).toTimeState 1)
    | 1 =>
      if within then
        let s := ({ s with time := { s.time with slew := slewOf c, settled := if c.natAbs ≤ 100 then s.time.settled + 1 else 0 } }).servo
        (.accepted, false, if 8 ≤ s.time.settled then s.toTimeState 2 else s)
      else (.jump, false, s.refuseTime c)
    | 2 =>
      if within then (.accepted, false, ({ s with time := { s.time with slew := slewOf c } }).servo)
      else (.jump, false, s.refuseTime c)
    | _ =>
      if within then (.accepted, false, ({ s with time := { s.time with slew := slewOf c } }).toTimeState 1)
      else (.jump, false, s.refuseTime c)

/-- Whether a source is present (Table 11-3, TIME_FORCE_SET). -/
def State.sourcePresent (s : State) : Bool :=
  match s.timeSource with
  | 1 => s.fld Reg.timeState 7 4 != 0xF
  | 2 => s.numbered && !s.head && s.chainLink (s.route 0)
  | 3 => true
  | _ => false

/-- What a checked write of TIME_CTL does once its word is stored (R326). -/
def State.timeCtlWritten (s : State) (old new : Word) : State :=
  let a := field old 1 0
  let b := field new 1 0
  if a ≠ b ∧ a ≠ 0 then (s.setSlave 0xF).loseSource else s

/-! ### IEEE 1588 -/

/-- Whether IEEE 1588 is enabled on a port. -/
def State.ptpOn (s : State) (p : Nat) : Bool := s.flag (Reg.timePtpCfg p) 0

/-- ANNOUNCE_TIMEOUT: the master of a port is no longer heard. -/
def execAnnounceTimeout (port : Nat) (s : State) : Host.Outcome State Fault Refusal :=
  .next (
    if s.ptpOn port then
      let s := { s with time := { s.time with masters := s.time.masters.filter (· != port) } }
      if s.timeSource = 1 ∧ s.slavePort = port then (s.setSlave 0xF).loseSource else s
    else s)

/-- Whether a port's boundary stamper has been retired, so that the time function stamps its frames (R321). -/
def State.inFallback (s : State) (p : Nat) : Bool := s.unitState 8 p == .retired

/-- Whether a port in fallback may not be the slave port, as another port offers the same master (R321).
(PRESUMED: log 122.) -/
def State.notSlave (s : State) (p : Nat) : Bool :=
  s.inFallback p && s.time.masters.any fun q => q != p && !s.inFallback q
    && (Table.find s.time.offers q).isSome && Table.find s.time.offers q == Table.find s.time.offers p

/-- The slave port taken among ports on which a master is heard. (PRESUMED: log 122.) -/
def State.pickSlave (s : State) (heard : List Nat) : Option Nat :=
  let l := heard.filter fun q => !s.notSlave q
  l[Config.bestMaster l % l.length]?

/-- The port's asymmetry, ns. -/
def State.asymmetry (s : State) (p : Nat) : Int := s.sfld (Reg.timePtpAsym p) 31 0

/-- The stamp of a frame that passes a port's balls now (R318): ns and fraction. -/
def State.stampNow (s : State) (p : Nat) (transmit : Bool) : Nat × Nat :=
  let a := if transmit then -(s.asymmetry p) else s.asymmetry p
  (((s.netNs : Int) + a).toNat, s.time.now % 65536)

/-- An Ethernet port beside its registers. -/
def State.port (s : State) (p : Nat) : EthPort := s.eth.getD p {}

/-- An Ethernet port changed. -/
def State.modPort (s : State) (p : Nat) (f : EthPort → EthPort) : State := { s with eth := setAt s.eth p f }

/-- Seconds of elapsed time. -/
def State.elapsedSecond (s : State) : Nat := s.elapsed / 1000000000

/-- The stamp that firmware takes as the frame interrupt is taken, within 1 µs of the true instant (R321).
(DEDUCED: log 121.) -/
def State.firmwareStamp (s : State) (p : Nat) (transmit : Bool) : (Nat × Nat) × State :=
  let (d, s) := s.draw
  let ns := (s.stampNow p transmit).1
  ((((ns : Int) + (d % 2001 : Nat) - 1000).toNat, d / 2001 % 65536), s.setFlag Reg.timeFlags 3 true)

/-- The stamp of a frame of a port: by its boundary stamper, or, where that is retired or its stamp fails the check
against the time base, by firmware (R318, R321, Table 21-3); whether it was firmware. (DEDUCED: log 121.) -/
def State.stampFor (s : State) (p : Nat) (transmit fails : Bool) : (Nat × Nat) × Bool × State :=
  if fails || s.inFallback p then
    let (t, s) := s.firmwareStamp p transmit
    (t, true, s)
  else (s.stampNow p transmit, false, s)

/-- A transmit stamp taken (R319, R320). While the time function is the consumer it takes each at once.
(DEDUCED: log 121.) -/
def State.pushStamp (s : State) (p id : Nat) (t : Nat × Nat) (firmware : Bool) : State :=
  if s.ptpOn p then s
  else if (s.port p).stamps.length < 16 then
    let flags := bitOf firmware + 2 * bitOf s.unsure
    (s.modPort p fun e => { e with stamps := e.stamps ++ [(id, flags, t.1, t.2)] }).bumpFld (Reg.timeSqStat p) 4 0
  else
    let s := (s.bumpFld (Reg.timeSqStat p) 31 16).setFlag Reg.timeFlags 2 true
    s.modPort p fun e => { e with stampDrops := e.stampDrops + 1 }

/-- TIME_STAMP_OVERFLOW: stamps dropped are reported, at most once a second a port. -/
def execTimeStampOverflow (port : Nat) (s : State) : Host.Outcome State Fault Refusal :=
  .next (
    let e := s.port port
    if e.stampDrops = 0 ∨ e.stampSecond = some s.elapsedSecond then s
    else (s.modPort port fun e => { e with stampDrops := 0, stampSecond := some s.elapsedSecond }).raise 0x3003 1
      (le 1 port ++ le 4 e.stampDrops))

/-- The payload of a message of IEEE 1588-2019: 0 Sync, 1 Announce, 2 Delay_Req (Pdelay_Req peer-to-peer).
(PRESUMED: log 69.) -/
def State.ptpPayload (s : State) (p kind sequence : Nat) : Bytes :=
  let cfg := s.reg (Reg.timePtpCfg p)
  let clock := s.reg Reg.timePtpClock
  let peer := field cfg 4 4 = 1
  let type := match kind with
    | 0 => 0
    | 1 => 0xB
    | _ => if peer then 2 else 1
  let interval := match kind with
    | 0 => field cfg 11 8
    | 1 => field cfg 15 12
    | _ => field cfg 19 16
  let stamp := be 6 s.seconds ++ be 4 s.nanos
  let identity := be 8 Config.clockIdentity
  let own := s.unsure
  let quality := Config.clockQuality s.time.master
  let class_ := match s.timeState with
    | 0 => 248
    | 3 => field clock 31 24
    | 4 => field clock 31 24
    | _ => quality % 256
  let body := match kind with
    | 1 => stamp ++ be 2 (unsigned 16 s.time.utcOffset) ++ [0] ++ be 1 (field clock 15 8) ++ be 1 class_
        ++ be 1 (quality / 256) ++ be 2 (quality / 65536) ++ be 1 (field clock 23 16)
        ++ (if own then identity else s.time.master) ++ be 2 (if own then 0 else s.fld Reg.timeState 15 8 + 1)
        ++ be 1 (quality / 2 ^ 32)
    | _ => List.replicate (if type = 2 then 20 else 10) 0
  let two := kind = 0 ∧ field cfg 3 3 = 1
  [BitVec.ofNat 8 type, 0x12] ++ be 2 (34 + body.length) ++ be 1 (field clock 7 0) ++ [0]
    ++ [if two then 2 else 0, if kind = 1 ∧ s.time.leap then 1 else 0] ++ be 8 0 ++ be 4 0
    ++ identity ++ be 2 (p + 1) ++ be 2 sequence ++ [0] ++ be 1 (signed 4 interval % 256).toNat ++ body

/-- A message as an Ethernet frame without FCS, over the port's transport (Table 11-10). (PRESUMED: log 69.) -/
def State.ptpFrame (s : State) (p kind sequence : Nat) : Bytes :=
  let payload := s.ptpPayload p kind sequence
  let source := le 4 (s.reg (Reg.emacMacLo p)).toNat ++ le 2 (s.fld (Reg.emacMacHi p) 15 0)
  let peer := s.flag (Reg.timePtpCfg p) 4 && kind == 2
  let dest : Bytes := if peer then [0x01, 0x80, 0xC2, 0, 0, 0x0E] else [0x01, 0x1B, 0x19, 0, 0, 0]
  let f := match s.fld (Reg.timePtpCfg p) 6 5 with
    | 0 => dest ++ source ++ be 2 0x88F7 ++ payload
    | t => Config.udpHeaders t p payload.length ++ payload
  padTo (max 60 f.length) f

/-- PTP_MESSAGE_DUE: a message interval elapses, and the message enters the port's privileged queue (R322, R325).
(DEDUCED: log 73.) -/
def execPtpMessageDue (port kind : Nat) (s : State) : Host.Outcome State Fault Refusal :=
  .next (
    let slave := s.slavePort = port
    let master := s.flag (Reg.timePtpCfg port) 1 && !slave
    let due := match kind with
      | 0 => master
      | 1 => master
      | _ => slave || s.flag (Reg.timePtpCfg port) 4
    if s.ptpOn port && s.flag (Reg.emacStat port) 0 && due then
      let key := port * 4 + kind
      let sequence := (Table.find s.time.sequences key).getD 0
      let s := { s with time := { s.time with sequences := Table.put s.time.sequences key ((sequence + 1) % 65536) } }
      let f := s.ptpFrame port kind sequence
      s.pushPrivileged port { buffer := 0, bytes := f, length := f.length + 4, port := port, stamp := if kind = 1 then none else some sequence }
    else s)

/-! ### Commands (R342) -/

/-- TIME_STATUS. -/
def timeStatusSpec : OpSpec where
  code := 0x3001
  length p := p.isEmpty

/-- TIME_READ. -/
def timeReadSpec : OpSpec where
  code := 0x3002
  length p := p.isEmpty

/-- TIME_STAMP_READ. -/
def timeStampReadSpec : OpSpec where
  code := 0x3005
  length p := p.length == 2
  range _ p := decide (num p 0 1 < 4) && decide (1 ≤ num p 1 1) && decide (num p 1 1 ≤ 16)

/-- TIME_STATUS returns the time state, source and offsets. (DEDUCED: log 72.) -/
def execTimeStatus (c : Cmd) (p : Bytes) (s : State) : Host.Outcome State Fault Refusal :=
  .next (s.run timeStatusSpec c p fun s =>
    if !s.on .pkt then .fail Status.notPermitted []
    else .done s Status.ok (le 1 s.timeState ++ le 1 s.timeSource ++ le 1 s.slavePort ++ le 1 (s.fld Reg.timeState 15 8)
      ++ le 4 (s.reg Reg.timeOffset).toNat ++ le 4 (s.reg Reg.timeFreq).toNat ++ le 8 (s.reg64 Reg.timeRefusedLo)
      ++ le 2 (unsigned 16 s.time.utcOffset) ++ le 1 (bitOf s.time.leap) ++ [0] ++ s.time.master ++ le 4 s.heldSeconds))

/-- TIME_READ returns the network time and state. (DEDUCED: log 72.) -/
def execTimeRead (c : Cmd) (p : Bytes) (s : State) : Host.Outcome State Fault Refusal :=
  .next (s.run timeReadSpec c p fun s =>
    if !s.on .pkt then .fail Status.notPermitted []
    else .done s Status.ok (le 6 s.seconds ++ le 4 s.nanos ++ le 2 (s.time.now % 65536) ++ le 1 s.timeState))

/-- A transmit stamp entry (Table 11-1). -/
def stampEntry (e : Nat × Nat × Nat × Nat) : Bytes :=
  le 2 e.1 ++ le 1 e.2.1 ++ [0] ++ le 6 (e.2.2.1 / 1000000000) ++ le 4 (e.2.2.1 % 1000000000) ++ le 2 e.2.2.2

/-- TIME_STAMP_READ removes entries from a port's transmit stamp queue. -/
def execTimeStampRead (c : Cmd) (p : Bytes) (s : State) : Host.Outcome State Fault Refusal :=
  .next (s.run timeStampReadSpec c p fun s =>
    let port := num p 0 1
    let l := (s.port port).stamps.take (num p 1 1)
    let out := le 1 l.length ++ [0, 0, 0] ++ l.flatMap stampEntry
    let s := s.modPort port fun e => { e with stamps := e.stamps.drop l.length }
    .done (s.setFld (Reg.timeSqStat port) 4 0 ((s.port port).stamps.length)) Status.ok out)

end Sys2Proof.Machine
end

