-- ==== Sys2Proof/Machine/Wake.lean ====
section
/-! DEFINITION. Wake sources, the wake port, clock gates and the status commands of chapter 17. -/

namespace Sys2Proof.Machine

/-! ### Exit sources (R447) -/

/-- Doze or Standby, from which an exit source leaves. -/
def State.asleep (s : State) : Bool := s.powerState == 2 || s.powerState == 3

/-- Run or Trim. -/
def State.awake (s : State) : Bool := decide (s.powerState ≤ 1)

/-- An exit source fires: latched, and the exit requested, while its enable bit is set (R447). -/
def State.wakeSource (s : State) (bit_ : Nat) : State :=
  if (s.asleep || s.flag Reg.pwrState 3) && s.flag Reg.pwrWakeEn bit_ then
    let s := (s.setFlag Reg.pwrWakeSrc bit_ true).setFlag Reg.pwrState 3 true
    { s with power := { s.power with
        exitSince := s.power.exitSince <|> some s.elapsed, fired := Nat.lor s.power.fired (2 ^ bit_) } }
  else s

/-- CAPc fires as an exit source (Table 17-2). -/
def State.wakeCapture (s : State) (c : Nat) : State :=
  if s.flag Reg.pwrWakeEn (8 + c) && s.flag Reg.pwrWakeEn 4 && s.asleep then
    (s.setFlag Reg.pwrWakeSrc (16 + c) true).wakeSource 4
  else s

/-- WAKE_FRAME: a frame on the wake port (R450); one without its stop is discarded. -/
def execWakeFrame (address : Nat) (probe stop : Bool) (s : State) : Host.Outcome State Fault Refusal :=
  .next (
    if !stop || s.powerState == 4 then s
    else
      let matched := (s.flag Reg.pwrWakeAddr 7 && address == s.fld Reg.pwrWakeAddr 6 0)
        || (address == 0x7F && s.flag Reg.pwrWakeAddr 8)
      if !matched then s.bumpFld Reg.pwrWakeCnt 31 16
      else
        let s := s.bumpFld Reg.pwrWakeCnt 15 0
        if probe then s
        else
          let s := s.wakeSource 0
          if s.powerState ≤ 2 then s.raise 0x6002 0 (le 1 address ++ [0]) else s)

/-- HOST_WAKE_SIGNAL: the quad SPI chip-select is asserted. -/
def execHostWakeSignal (s : State) : Host.Outcome State Fault Refusal := .next (s.wakeSource 3)

/-! ### Clock gates (R453) -/

/-- The parent of a gate (Table 17-5). -/
def gateParent (b : Nat) : Option Nat :=
  if 1 ≤ b ∧ b ≤ 4 then some 0 else if b = 6 ∨ b = 7 then some 5 else if 9 ≤ b ∧ b ≤ 12 then some 8 else none

/-- Gates with the parents of those that are set. -/
def withParents (g : Nat) : Nat :=
  (bitsSet 15 g).foldl (fun g b => match gateParent b with
    | some p => Nat.lor g (2 ^ p)
    | none => g) g

/-- The gates set to a value; a PLL whose own gate changes locks, or stops (Table 17-5). (DEDUCED: log 91.) -/
def State.setGates (s : State) (g : Nat) : State :=
  let old := s.fld Reg.clkGateCtl 14 0
  let s := (s.setFld Reg.clkGateCtl 14 0 g).setFld Reg.clkGateStat 14 0 g
  [(0, 5), (5, 6), (8, 7), (14, 8)].foldl (fun (s : State) e =>
    if bit old e.1 = bit g e.1 then s else s.setFlag Reg.clkPllStat e.2 (bit g e.1)) s

/-- A gate set with its parent, because a request needs its clock. (DEDUCED: log 91.) -/
def State.needGate (s : State) (b : Nat) : State :=
  s.setGates (withParents (Nat.lor (s.fld Reg.clkGateCtl 14 0) (2 ^ b)))

/-- Whether a gate's unit is in use (Table 17-5). -/
def State.gateUsed (s : State) (b : Nat) : Bool :=
  match b with
  | 1 => s.fld (Reg.trxState 0) 3 0 != 0
  | 2 => s.fld (Reg.trxState 1) 3 0 != 0
  | 3 => s.fld (Reg.trxState 2) 3 0 != 0
  | 4 => (List.range 80).any fun l => !([0, 5, 6].contains (s.fld (Reg.laneStat l) 2 0))
  | 6 => s.flag Reg.chainCtl 8
  | 7 => s.flag Reg.chainCtl 9
  | 9 => s.flag (Reg.emacCtl 0) 0
  | 10 => s.flag (Reg.emacCtl 1) 0
  | 11 => s.flag (Reg.emacCtl 2) 0
  | 12 => s.flag (Reg.emacCtl 3) 0
  | 13 => s.flag Reg.measCtl 0 || (List.range 18).any fun i => s.fld (Reg.measInCfg i) 1 0 != 0
  | 14 => (List.range 4).any fun n => match (s.session n).ep with
    | some (.pcie _) => true
    | _ => false
  | _ => false

/-- The gates that a write of CLK_GATE_CTL leaves: those it names, and the parents of those it sets.
(DEDUCED: log 91.) -/
def gatesAfter (old new : Word) : Nat :=
  Nat.lor (field new 14 0) (withParents (((bitsSet 15 (field new 14 0)).filter fun b => !bit (field old 14 0) b).map fun b => 2 ^ b).sum)

/-- The check of a write of CLK_GATE_CTL. (DEDUCED: log 91.) -/
def State.gateCheck (s : State) (old new : Word) : Option (Nat × Bytes) :=
  let g := gatesAfter old new
  let cleared := (bitsSet 15 (field old 14 0)).filter fun b => !bit g b
  cleared.findSome? fun b =>
    if (List.range 15).any fun k => gateParent k == some b && bit g k then some (Status.resourceBusy, le 1 b ++ [0])
    else if s.gateUsed b then some (Status.resourceBusy, le 1 b ++ [1])
    else none

/-- What a checked write of CLK_GATE_CTL does. -/
def State.gatesWritten (s : State) (old new : Word) : State :=
  s.setGates (gatesAfter old new)

/-- The check of a write of CLK_SSC_g (R455). (DEDUCED: log 73.) -/
def State.spreadCheck (s : State) (g : Nat) (new : Word) : Option (Nat × Bytes) :=
  if field new 12 0 = 0 then none
  else if g = 1 then
    ((List.range 4).find? fun e => s.flag (Reg.timePtpCfg e) 0).map fun e => (Status.resourceBusy, [1] ++ le 1 e)
  else if g = 2 ∧ s.fld Reg.timeCtl 1 0 = 2 then some (Status.resourceBusy, [1, 0])
  else none

/-! ### Commands (R460) -/

/-- PWR_STATUS. -/
def pwrStatusSpec : OpSpec where
  code := 0x6000
  length p := p.isEmpty

/-- CLK_STATUS. -/
def clkStatusSpec : OpSpec where
  code := 0x6001
  length p := p.isEmpty

/-- PWR_STATUS returns the power state and wake registers. -/
def execPwrStatus (c : Cmd) (p : Bytes) (s : State) : Host.Outcome State Fault Refusal :=
  .next (s.run pwrStatusSpec c p fun s =>
    .done s Status.ok ([Reg.pwrState, Reg.pwrDomStat, Reg.pwrWakeSrc, Reg.pwrWakeCnt].flatMap fun a => le 4 (s.reg a).toNat))

/-- CLK_STATUS returns clock source, gate, PLL and monitor status. -/
def execClkStatus (c : Cmd) (p : Bytes) (s : State) : Host.Outcome State Fault Refusal :=
  .next (s.run clkStatusSpec c p fun s =>
    .done s Status.ok ([Reg.clkSrcStat, Reg.clkGateStat, Reg.clkPllStat, Reg.clkFail, Reg.clkMonCnt 0, Reg.clkMonCnt 1,
      Reg.clkMonCnt 2].flatMap fun a => le 4 (s.reg a).toNat))

end Sys2Proof.Machine
end

