-- ==== Sys2Proof/Machine/Timers.lean ====
section
/-! DEFINITION. Timers and capture queues (chapter 16). -/

namespace Sys2Proof.Machine

/-! ### Counting (R425 to R431) -/

/-- A timer beside its registers. -/
def State.timer (s : State) (n : Nat) : Timer := s.meas.timers.getD n {}

/-- A timer changed. -/
def State.modTimer (s : State) (n : Nat) (f : Timer → Timer) : State :=
  { s with meas := { s.meas with timers := setAt s.meas.timers n f } }

/-- Whether a debugger holds a control processor and the timer freezes with it (R431). -/
def State.timerFrozen (s : State) (n : Nat) : Bool :=
  decide (8 ≤ n) && s.flag (Reg.tmrCtl n) 2 && !s.sec.debugHalted.isEmpty

/-- Timers 0–7 count from the 32.768 kHz tick: in Doze and Standby, and after a TCXO failure (R429, R457). -/
def State.slowTick (s : State) : Bool := s.asleep || s.flag Reg.clkSrcStat 3

/-- Whether a timer's clock runs: 0–7 in every state but Backup, 8–15 in Run and Trim (R430, R445). -/
def State.timerClocked (s : State) (n : Nat) : Bool := if n < 8 then decide (s.powerState ≤ 3) else s.awake

/-- Whether a timer is counting. -/
def State.counting (s : State) (n : Nat) : Bool :=
  s.flag (Reg.tmrCtl n) 0 && s.timerClocked n && !s.timerFrozen n

/-- Whole microseconds accumulated by the 32.768 kHz tick at an elapsed time (R429). -/
def tickMicros (e : Nat) : Nat := 15625 * (32768 * e / 1000000000) / 512

/-- Ticks of a timer on its clock between two elapsed times. -/
def State.ticks (s : State) (n start stop : Nat) : Nat :=
  if n < 8 then (if s.slowTick then tickMicros stop - tickMicros start else stop / 1000 - start / 1000)
  else if s.flag (Reg.tmrCtl n) 5 then 0
  else if s.flag Reg.clkSrcStat 3 then (stop - start) * 3 / (125 * (s.fld (Reg.tmrPre n) 15 0 + 1))
  else (stop - start) * 4 / (5 * (s.fld (Reg.tmrPre n) 15 0 + 1))

/-- The elapsed time of the `k`-th tick after the count register was right. -/
def State.tickTime (s : State) (n k : Nat) : Nat :=
  let since := (s.timer n).since
  if n < 8 then
    if s.slowTick then (32767 + 1000000000 * ((15624 + (tickMicros since + k) * 512) / 15625)) / 32768
    else (since / 1000 + k) * 1000
  else if s.flag Reg.clkSrcStat 3 then since + (k * 125 * (s.fld (Reg.tmrPre n) 15 0 + 1) + 2) / 3
  else since + (k * 5 * (s.fld (Reg.tmrPre n) 15 0 + 1) + 3) / 4

/-- The active period of a timer. -/
def State.periodOf (s : State) (n : Nat) : Nat := (s.reg (Reg.tmrPeriodAct n)).toNat

/-- The count of a timer now (R425). -/
def State.count (s : State) (n : Nat) : Nat :=
  let c := (s.reg (Reg.tmrCnt n)).toNat
  if s.counting n then
    if c < s.periodOf n then min (c + s.ticks n (s.timer n).since s.elapsed) (s.periodOf n - 1) else c
  else c

/-- The count register brought up to now; a prescaled clock keeps its phase. (DEDUCED: log 90.) -/
def State.settleTimer (s : State) (n : Nat) : State :=
  let since := if 8 ≤ n ∧ s.counting n ∧ s.flag (Reg.tmrCtl n) 5 = false then s.tickTime n (s.count n - (s.reg (Reg.tmrCnt n)).toNat) else s.elapsed
  (s.setReg (Reg.tmrCnt n) (word (s.count n))).modTimer n fun t => { t with since := since }

/-- Every timer's count register brought up to now, before its clock changes. -/
def State.settleTimers (s : State) : State := (List.range 16).foldl (fun s n => s.settleTimer n) s

/-! ### Events and outputs (R433, R437) -/

/-- A timer's output at its active or inactive level. -/
def State.driveTimer (s : State) (n : Nat) (active : Bool) : State :=
  let ctl := s.reg (Reg.tmrCtl n)
  if field ctl 12 11 = 0 then s
  else
    let k := field ctl 16 13
    let s := s.modTimer n fun t => { t with active := active }
    s.drive k (levelValue k (active != (field ctl 17 17 == 1)))

/-- Event bits of a timer set, and TMR_EXPIRED raised at most once a millisecond; a period event in a low-power
state requests an exit where `wake` is set. -/
def State.timerEvent (s : State) (n causes : Nat) : State :=
  let s := s.setFld (Reg.tmrEvt n) 2 0 (Nat.lor (s.fld (Reg.tmrEvt n) 2 0) causes)
  let s := if bit causes 0 && n < 8 && s.flag (Reg.tmrCtl n) 3 then s.wakeSource 2 else s
  if s.flag (Reg.tmrCtl n) 4 then
    let t := s.timer n
    let periods := t.periods + bitOf (bit causes 0)
    let all := Nat.lor t.causes causes
    if (match t.raised with
      | some r => decide (s.elapsed < 1000000 + r)
      | none => false) then
      s.modTimer n fun t => { t with periods := periods, causes := all }
    else
      (s.modTimer n fun t => { t with periods := 0, causes := 0, raised := some s.elapsed }).raise 0x5200 0
        (le 1 n ++ le 1 all ++ le 4 periods)
  else s

/-- A compare event: mode 1 goes active, mode 2 toggles (R433). -/
def State.compareEvent (s : State) (n : Nat) : State :=
  let s := s.timerEvent n 2
  match s.fld (Reg.tmrCtl n) 12 11 with
  | 1 => s.driveTimer n true
  | 2 => s.driveTimer n (!(s.timer n).active)
  | _ => s

/-- A wrap to a count, with its period event (R425, R428); a short wrap gives no compare event. -/
def State.wrap (s : State) (n count : Nat) (short : Bool) : State :=
  let s := s.setReg (Reg.tmrCnt n) (word count)
  let s := match (s.timer n).waiting with
    | some p => (s.setReg (Reg.tmrPeriodAct n) (word p)).modTimer n fun t => { t with waiting := none }
    | none => s
  let s := s.timerEvent n (if short then 5 else 1)
  let cmp := (s.reg (Reg.tmrCmp n)).toNat
  if !short && decide (cmp ≤ count) && decide (cmp < s.periodOf n) then s.compareEvent n
  else if s.fld (Reg.tmrCtl n) 12 11 = 1 then s.driveTimer n false
  else s

/-- One tick of a timer that counts capture edges (Table 16-1). -/
def State.edgeTick (s : State) (n : Nat) : State :=
  let c := (s.reg (Reg.tmrCnt n)).toNat
  if s.periodOf n ≤ c + 1 then s.wrap n 0 (decide (s.periodOf n ≤ c))
  else
    let s := s.setReg (Reg.tmrCnt n) (word (c + 1))
    if (s.reg (Reg.tmrCmp n)).toNat = c + 1 then s.compareEvent n else s

/-- TIMER_WRAP: the count would reach its period. (DEDUCED: log 90.) -/
def execTimerWrap (timer : Nat) (s : State) : Host.Outcome State Fault Refusal :=
  .next (
    if !s.counting timer || s.flag (Reg.tmrCtl timer) 5 then s
    else
      let c := (s.reg (Reg.tmrCnt timer)).toNat
      let period := s.periodOf timer
      let short := decide (period ≤ c)
      let since := (s.timer timer).since
      let e := s.tickTime timer (if short then 1 else period - c)
      let s := s.reachElapsed e
      let count := if s.slowTick && !short then c + s.ticks timer since e - period else 0
      (s.modTimer timer fun t => { t with since := e }).wrap timer count short)

/-- TIMER_COMPARE: the count becomes CMP. (DEDUCED: log 90.) -/
def execTimerCompare (timer : Nat) (s : State) : Host.Outcome State Fault Refusal :=
  .next (
    let c := (s.reg (Reg.tmrCnt timer)).toNat
    let cmp := (s.reg (Reg.tmrCmp timer)).toNat
    if !s.counting timer || s.flag (Reg.tmrCtl timer) 5 || decide (cmp ≤ c) || decide (s.periodOf timer ≤ cmp) then s
    else
      let since := (s.timer timer).since
      let e := s.tickTime timer (cmp - c)
      let s := s.reachElapsed e
      let count := if s.slowTick then c + s.ticks timer since e else cmp
      ((s.modTimer timer fun t => { t with since := e }).setReg (Reg.tmrCnt timer) (word count)).compareEvent timer)

/-! ### Register writes (R425, R426, R428, R432, R434) -/

/-- The check of a write of TMR_n_CTL. -/
def State.timerCtlCheck (s : State) (n : Nat) (old new : Word) : Option (Nat × Bytes) :=
  let bad := if n < 8 then field new 5 5 == 1 || field new 2 2 == 1 else field new 3 3 == 1
  let edge := field new 10 9
  let tied := if field new 5 5 = 1 then edge == 0 else edge != 0
  if bad || tied then some (Status.paramRange, [])
  else
    let k := field new 16 13
    let mine := field old 12 11 != 0 && field old 16 13 == k
    if field new 12 11 ≠ 0 ∧ s.holderCode k ≠ 0 ∧ !mine then some (Status.resourceBusy, s.holderResult k)
    else none

/-- A timer's output returned to its inactive level and released (R434), under a control word. -/
def State.releaseTimer (s : State) (ctl : Word) : State :=
  if field ctl 12 11 = 0 then s
  else
    let k := field ctl 16 13
    (s.drive k (levelValue k (field ctl 17 17 == 1))).release k

/-- What a checked write of TMR_n_CTL does, the old word still stored. (DEDUCED: log 90.) -/
def State.timerCtlWritten (s : State) (n : Nat) (old new : Word) : State :=
  let s := s.settleTimer n
  let moved := field old 16 11 != field new 16 11
  let s := if moved then s.releaseTimer old else s
  let s := s.setReg (Reg.tmrCtl n) new
  let s := s.setFlag Reg.tmrRun n (field new 0 0 == 1)
  if field new 12 11 = 0 then s
  else
    let s := if moved then (s.claim (field new 16 13) 3 n).modTimer n fun t => { t with active := false } else s
    let active := field new 12 11 = 1 && decide ((s.reg (Reg.tmrCmp n)).toNat ≤ s.count n)
      && decide ((s.reg (Reg.tmrCmp n)).toNat < s.periodOf n)
    s.driveTimer n (if field new 12 11 = 1 then active else (s.timer n).active)

/-- What a write of TMR_n_PERIOD does (R428). (DEDUCED: log 90.) -/
def State.periodWritten (s : State) (n : Nat) (new : Word) : State :=
  let s := (s.settleTimer n).setReg (Reg.tmrPeriod n) new
  if s.flag (Reg.tmrCtl n) 1 then s.modTimer n fun t => { t with waiting := some new.toNat }
  else (s.setReg (Reg.tmrPeriodAct n) new).modTimer n fun t => { t with waiting := none }

/-- TMR_GO_RELEASE: at the first strobe edge 64 µs after the write, the timers named start together (R432).
(DEDUCED: log 90.) -/
def execTmrGoRelease (s : State) : Host.Outcome State Fault Refusal :=
  .next (match s.meas.goWritten with
    | none => s
    | some t =>
      let s := s.reachElapsed ((64000 + t + 999) / 1000 * 1000)
      let s := { s with meas := { s.meas with goWritten := none } }
      let s := (List.range 16).foldl (fun s n =>
        if (s.timer n).armed && !s.flag (Reg.tmrCtl n) 0 then
          let w := s.reg (Reg.tmrCtl n)
          (s.timerCtlWritten n w (withField w 0 0 1)).modTimer n fun t => { t with armed := false }
        else s.modTimer n fun t => { t with armed := false }) s
      s.finishWork (· == .tmrGo) Status.ok [])

/-! ### Capture (R386, R435, R436) -/

/-- A capture input. -/
def State.capture (s : State) (c : Nat) : Capture := s.meas.caps.getD c {}

/-- A capture input changed. -/
def State.modCapture (s : State) (c : Nat) (f : Capture → Capture) : State :=
  { s with meas := { s.meas with caps := setAt s.meas.caps c f } }

/-- Whether an edge is of a selected polarity: 1 rising, 2 falling, 3 both. -/
def edgeSelected (sel : Nat) (rising : Bool) : Bool := bit sel (if rising then 0 else 1)

/-- A selected edge placed in its queue, or dropped. -/
def State.captureStamp (s : State) (c : Nat) (rising : Bool) (stamp : Nat) : State :=
  let cfg := s.reg (Reg.tmrCapCfg c)
  if field cfg 0 0 = 0 ∨ !edgeSelected (field cfg 2 1) rising then s
  else if (s.capture c).queue.length < 4 then
    let e : CapEntry := { stamp := stamp, count := if field cfg 3 3 = 1 then s.count (field cfg 7 4) else 0, rising := rising, held := s.unsure }
    (s.modCapture c fun x => { x with queue := x.queue ++ [e] }).bumpFld (Reg.tmrCapStat c) 2 0
  else
    let s := (s.setFlag (Reg.tmrCapFlag c) 0 true).bumpFld (Reg.tmrCapStat c) 31 16
    let x := s.capture c
    if x.dropSecond = some s.elapsedSecond then s.modCapture c fun x => { x with drops := x.drops + 1 }
    else (s.modCapture c fun x => { x with drops := 1, dropSecond := some s.elapsedSecond }).raise 0x5201 1
      (le 1 c ++ le 4 1)

/-- CAPTURE_EDGE: a level has persisted for its debounce time, since network time `stamp`. -/
def execCaptureEdge (input : Nat) (level : Bool) (stamp : Nat) (s : State) : Host.Outcome State Fault Refusal :=
  .next (
    if (s.capture input).level = level then s
    else if s.on .meas then
      let s := s.reach (stamp + 10000 * s.fld (Reg.measCapCfg input) 7 0)
      let s := s.modCapture input fun x => { x with level := level, edges := x.edges + 1, lastEdge := some stamp }
      let s := s.captureStamp input level stamp
      let s := (List.range 8).foldl (fun s i =>
        let n := 8 + i
        let ctl := s.reg (Reg.tmrCtl n)
        if s.counting n && field ctl 5 5 = 1 && field ctl 8 6 = input && edgeSelected (field ctl 10 9) level then
          let e := (s.timer n).edges + 1
          if s.fld (Reg.tmrPre n) 15 0 < e then (s.modTimer n fun t => { t with edges := 0 }).edgeTick n
          else s.modTimer n fun t => { t with edges := e }
        else s) s
      s.wakeCapture input
    else (s.modCapture input fun x => { x with level := level }).wakeCapture input)

/-- TMR_CAPTURE_READ. -/
def tmrCaptureReadSpec : OpSpec where
  code := 0x5200
  length p := p.length == 4
  range _ p := decide (num p 0 1 < 8) && decide (1 ≤ num p 1 1) && decide (num p 1 1 ≤ 4) && num p 2 2 == 0

/-- A capture entry (Table 16-2). -/
def CapEntry.bytes (e : CapEntry) : Bytes :=
  le 6 (e.stamp / 1000000000) ++ le 4 (e.stamp % 1000000000) ++ le 4 e.count
    ++ le 1 (bitOf e.rising + 2 * bitOf e.held) ++ [0]

/-- TMR_CAPTURE_READ removes entries from a capture queue, oldest first. (DEDUCED: log 90.) -/
def execTmrCaptureRead (c : Cmd) (p : Bytes) (s : State) : Host.Outcome State Fault Refusal :=
  .next (s.run tmrCaptureReadSpec c p fun s =>
    let k := num p 0 1
    let l := (s.capture k).queue.take (num p 1 1)
    let out := le 1 l.length ++ le 1 (s.fld (Reg.tmrCapFlag k) 0 0) ++ [0, 0] ++ l.flatMap CapEntry.bytes
    let s := s.modCapture k fun x => { x with queue := x.queue.drop l.length }
    .done (s.setFld (Reg.tmrCapStat k) 2 0 (s.capture k).queue.length) Status.ok out)

end Sys2Proof.Machine
end

