-- ==== Sys2Proof/Machine/Traffic.lean ====
section
/-! DEFINITION. Traffic management (chapter 10): port nodes, the hierarchy, shapers, deficit round robin, meters,
admission, and the commands that read and map them. -/

namespace Sys2Proof.Machine

/-! ### Logical ports and port nodes -/

/-- The context of a client (Table 7-1). -/
def State.context (s : State) (c : Nat) : Bytes := (Table.find s.sched.contexts c).getD (List.replicate 64 0)

/-- Whether a client's context is valid. -/
def State.clientValid (s : State) (c : Nat) : Bool := bit (num (s.context c) 2 1) 0

/-- The radio of a client. -/
def State.clientRadio (s : State) (c : Nat) : Nat := bits (num (s.context c) 3 1) 1 0

/-- A peer's home channel (Table 6-10), from its configuration register. -/
def State.peerHome (s : State) (q : Nat) : Nat := s.fld (Reg.peerCfg q) 14 2 * 2

/-- Member `m` of a plait (Table 6-10). -/
def State.plaitMember (s : State) (p m : Nat) : Nat :=
  if m < 2 then s.fld (Reg.pltMemb01 p) (16 * m + 15) (16 * m)
  else s.fld (Reg.pltMemb23 p) (16 * (m - 2) + 15) (16 * (m - 2))

/-- The radio of a channel (Table 6-10). -/
def chanRadio (ch : Nat) : Nat := bits ch 2 1

/-- Whether a channel is the radio's Filet channel. -/
def chanFilet (ch : Nat) : Bool := bit ch 3

/-- The channel a frame for a peer is queued by: member 0 of its plait under via_plait, else its home (R293). -/
def State.peerChannel (s : State) (q : Nat) : Nat :=
  if s.flag (Reg.peerCfg q) 22 then s.plaitMember (s.fld (Reg.peerCfg q) 21 16) 0 else s.peerHome q

/-- Whether a number is a logical port that an entry or a command may name (R269). -/
def State.portExists (s : State) (p : Nat) : Bool :=
  p < 4 || (0x40 ≤ p && p < 0x80 && p != 0x40 + s.device) || p == 0x80 || p == 0x81
    || (0x1000 ≤ p && p < 0x2000) || (0x2000 ≤ p && p < 0x2200) || (0x2400 ≤ p && p < 0x2403)

/-- The port node of an egress logical port (R293). (DEDUCED: log 32.) -/
def State.portNode (s : State) (p : Nat) : Nat :=
  if p < 4 then p
  else if p < 0x80 then 4
  else if p = 0x80 then 5
  else if p = 0x81 then 6
  else if p < 0x2000 then 13 + s.clientRadio (p - 0x1000)
  else if p < 0x2400 then
    let ch := s.peerChannel (p - 0x2000)
    if chanFilet ch then 10 + chanRadio ch else 7 + chanRadio ch
  else 7 + (p - 0x2400)

/-- The service node above a subscriber. -/
def State.subParent (s : State) (sub : Nat) : Nat := s.fld (Reg.tmSubCfg sub) 8 0

/-- The port node above a service node. -/
def State.svcParent (s : State) (v : Nat) : Nat := s.fld (Reg.tmSvcCfg v) 3 0

/-- The port node a subscriber's path ends at (R297). -/
def State.subPort (s : State) (sub : Nat) : Nat := s.svcParent (s.subParent sub)

/-- The subscriber a logical port maps to (R297). -/
def State.mapOf (s : State) (p : Nat) : Nat := (Table.find s.tm.maps p).getD (s.portNode p)

/-! ### Shapers (R300) -/

/-- The keys of nodes in the tables of traffic management. -/
def svcKey (v : Nat) : Nat := 0x1000 + v

/-- The key of a subscriber. -/
def subKey (n : Nat) : Nat := 0x4000 + n

/-- The key of a class queue. -/
def queueKey (q : Nat) : Nat := 0x10000 + q

/-- The shaper register of a node. (DEDUCED: log 67.) -/
def shapeReg (k : Nat) : Nat :=
  if k < 0x1000 then Reg.tmPortShape k
  else if k < 0x4000 then Reg.tmSvcShape (k - 0x1000)
  else Reg.tmSubShape (k - 0x4000)

/-- The rate of a node, kbit/s; 0 unshaped. -/
def State.rate (s : State) (k : Nat) : Nat := s.fld (shapeReg k) 15 0 * 64

/-- The burst of a node, bytes. -/
def State.burst (s : State) (k : Nat) : Nat := s.fld (shapeReg k) 31 16 * 256

/-- The microseconds of the PKT clock. -/
def State.micros (s : State) : Nat := s.elapsed / 1000

/-- The tokens of a node now, millibits (R300). (DEDUCED: log 67.) -/
def State.tokensNow (s : State) (k : Nat) : Int :=
  let t := (Table.find s.tm.tokens k).getD {}
  if s.rate k = 0 then t.level
  else min ((s.burst k * 8000 : Nat) : Int) (t.level + ((s.rate k * (s.micros - t.at_) : Nat) : Int))

/-- The tokens of a node set at this microsecond. -/
def State.setTokens (s : State) (k : Nat) (v : Int) : State :=
  { s with tm := { s.tm with tokens := Table.put s.tm.tokens k ⟨v, s.micros⟩ } }

/-- A node is eligible while unshaped or its tokens are not negative. -/
def State.eligible (s : State) (k : Nat) : Bool := s.rate k == 0 || decide (0 ≤ s.tokensNow k)

/-- A shaped node charged for `a` bytes (R300). -/
def State.charge (s : State) (k a : Nat) : State :=
  if s.rate k = 0 then s
  else s.setTokens k (max (-((s.burst k + 9663) * 8000 : Nat)) (s.tokensNow k - (8000 * a : Nat)))

/-! ### Deficit round robin (R302, R303) -/

/-- A child that is ready: its key, priority, quantum and head. -/
structure Kid where
  key : Nat
  priority : Nat
  quantum : Nat
  head : Nat
  deriving DecidableEq, Repr

/-- The deficit of a queue or node. -/
def State.deficit (s : State) (k : Nat) : Int := (Table.find s.tm.deficits k).getD 0

/-- The deficit of a queue or node set. -/
def State.setDeficit (s : State) (k : Nat) (v : Int) : State :=
  { s with tm := { s.tm with
    deficits := if v = 0 then Table.drop s.tm.deficits k else Table.put s.tm.deficits k v } }

/-- The member after a key in index order, cyclically. -/
def nextKid (e : List Kid) (k : Nat) : Option Kid := (e.find? fun c => k < c.key) <|> e.head?

/-- The loop of pick: on to the next child until one's deficit covers its head. -/
def drrLoop (e : List Kid) : Nat → Kid → State → Kid × State
  | 0, c, s => (c, s)
  | n + 1, c, s =>
    if s.deficit c.key < (c.head : Int) then
      let c' := (nextKid e c.key).getD c
      drrLoop e n c' (s.setDeficit c'.key (s.deficit c'.key + (c'.quantum : Int)))
    else (c, s)

/-- pick over the ready children of one priority, with cur at `key`. -/
def drr (e : List Kid) (key : Nat) (s : State) : Option (Nat × State) :=
  let cur := Table.find s.tm.current key
  let start : Option (Kid × State) :=
    match cur.bind fun k => e.find? fun c => c.key == k with
    | some c => some (c, s)
    | none => (match cur with
        | some k => nextKid e k
        | none => e.head?).map fun c => (c, s.setDeficit c.key (s.deficit c.key + (c.quantum : Int)))
  start.map fun (c, s) =>
    let (c, s) := drrLoop e (64 * e.length) c s
    (c.key, { s with tm := { s.tm with current := Table.put s.tm.current key c.key } })

/-- pick(x): the highest priority that has a ready child, served by deficit round robin. -/
def pick (x : Nat) (kids : List Kid) (s : State) : Option (Nat × State) :=
  match [3, 2, 1, 0].find? fun pr => kids.any fun c => c.priority == pr with
  | some pr => drr (kids.filter fun c => c.priority == pr) (x * 4 + pr) s
  | none => none

/-- The subscribers with a class queue that is not empty, in order. -/
def State.busySubs (s : State) : List Nat :=
  ((s.tm.queues.filter fun e => 16 ≤ e.1).map fun e => (e.1 - 16) / 8).eraseDups

/-- The service nodes with such a subscriber, in order. -/
def State.busySvcs (s : State) : List Nat :=
  let l := (s.busySubs.map s.subParent).eraseDups
  (List.range 512).filter l.contains

/-- The overhead of a port node, signed bytes (R299). -/
def State.overhead (s : State) (p : Nat) : Int := s.sfld (Reg.tmPortOvh p) 7 0

/-- The accounted length of a forwarded copy at a port node (R299). -/
def State.accounted (s : State) (p : Nat) (c : Copy) : Nat := (max 1 ((c.length : Int) + s.overhead p)).toNat

/-- Priority and weight of a class (TM_CLASS_MAP). -/
def State.classMap (s : State) (c : Nat) : Nat × Nat :=
  let b := if c < 4 then s.fld Reg.tmClassMapLo (8 * c + 7) (8 * c) else s.fld Reg.tmClassMapHi (8 * (c - 4) + 7) (8 * (c - 4))
  (bits b 1 0, bits b 7 2)

/-- The class queues of a subscriber that are ready. -/
def State.queueKids (s : State) (p sub : Nat) : List Kid :=
  (List.range 8).filterMap fun c =>
    (s.queue (16 + 8 * sub + c)).head?.map fun f =>
      ⟨queueKey (16 + 8 * sub + c), (s.classMap c).1, (s.classMap c).2 * 256, s.accounted p f⟩

/-- The copy that pick would serve beneath a subscriber. -/
def State.subHead (s : State) (p sub : Nat) : Nat :=
  match pick (subKey sub) (s.queueKids p sub) s with
  | some (k, _) => (((s.queue (k - 0x10000)).head?).map (s.accounted p)).getD 0
  | none => 0

/-- The subscribers of a service node that are ready. -/
def State.subKids (s : State) (p v : Nat) : List Kid :=
  (s.busySubs.filter fun n => s.subParent n == v && s.eligible (subKey n)).map fun n =>
    ⟨subKey n, s.fld (Reg.tmSubCfg n) 10 9, s.fld (Reg.tmSubCfg n) 19 12 * 256, s.subHead p n⟩

/-- The copy that pick would serve beneath a service node. -/
def State.svcHead (s : State) (p v : Nat) : Nat :=
  match pick (svcKey v) (s.subKids p v) s with
  | some (k, s') => s'.subHead p (k - 0x4000)
  | none => 0

/-- The service nodes of a port node that are ready. -/
def State.svcKids (s : State) (p : Nat) : List Kid :=
  (s.busySvcs.filter fun v => s.svcParent v == p && s.eligible (svcKey v) && !(s.subKids p v).isEmpty).map fun v =>
    ⟨svcKey v, s.fld (Reg.tmSvcCfg v) 5 4, s.fld (Reg.tmSvcCfg v) 15 8 * 256, s.svcHead p v⟩

/-- What a node has served. -/
def State.countNode (s : State) (k a : Nat) : State :=
  { s with tm := { s.tm with
    counts := Table.put s.tm.counts k (let c := (Table.find s.tm.counts k).getD {}
      { c with frames := c.frames + 1, bytes := c.bytes + a }) } }

/-- A frame dropped at a subscriber. -/
def State.countDrop (s : State) (sub : Nat) : State :=
  { s with tm := { s.tm with
    counts := Table.put s.tm.counts (subKey sub) (let c := (Table.find s.tm.counts (subKey sub)).getD {}
      { c with drops := c.drops + 1 }) } }

/-- The queues of a port node: its privileged queue, then its class queues. -/
def State.nodeQueues (s : State) (p : Nat) : List Nat :=
  (s.tm.queues.map (·.1)).filter fun q => q == p || (16 ≤ q && s.subPort ((q - 16) / 8) == p)

/-- Frames of a queue taken out and their cells given back. -/
def State.discard (s : State) (l : List Copy) : State := l.foldl (fun s c => s.dropCopy c.buffer) s

/-- The deficits of a class queue, its subscriber and its service node are 0 while their backlog is empty (R303). -/
def State.emptied (s : State) (q : Nat) : State :=
  if q < 16 ∨ !(s.queue q).isEmpty then s
  else
    let n := (q - 16) / 8
    let v := s.subParent n
    let s := s.setDeficit (queueKey q) 0
    let s := if s.busySubs.contains n then s else s.setDeficit (subKey n) 0
    if s.busySvcs.contains v then s else s.setDeficit (svcKey v) 0

/-- Head frames of a port node older than age_max discarded (R310). -/
def State.ageQueues (s : State) (p : Nat) : State :=
  let age := s.fld (Reg.tmPortCfg p) 31 16
  if age = 0 then s
  else
    (s.nodeQueues p).foldl (fun s q =>
      let old := (s.queue q).takeWhile fun c => c.born + 1000000 * age < s.elapsed
      (((s.setQueue q ((s.queue q).drop old.length)).discard old).emptied q).tmCount p 8 old.length) s

/-- Every queue of a port node emptied, counted in flush_drop (R310, R443). -/
def State.flushNode (s : State) (p : Nat) : State :=
  (s.nodeQueues p).foldl (fun s q =>
    let l := s.queue q
    (((s.setQueue q []).discard l).emptied q).tmCount p 9 l.length) s

/-- One scheduling decision of a port node (R302): the copy served, if any. -/
def State.serveNode (s : State) (p : Nat) : Option (Copy × State) :=
  match s.queue p with
  | c :: l =>
    let s := (s.setQueue p l).charge p c.length
    some (c, ((s.tmCount p 1).tmCount p 2 c.length).countNode p c.length)
  | [] =>
    if !s.eligible p then none
    else
      (pick p (s.svcKids p) s).bind fun (v, s) =>
        (pick v (s.subKids p (v - 0x1000)) s).bind fun (n, s) =>
          (pick n (s.queueKids p (n - 0x4000)) s).bind fun (q, s) =>
            match s.queue (q - 0x10000) with
            | [] => none
            | c :: l =>
              let a := s.accounted p c
              let s := s.setQueue (q - 0x10000) l
              let s := [q, n, v].foldl (fun s k => s.setDeficit k (s.deficit k - (a : Int))) s
              let s := s.emptied (q - 0x10000)
              let s := [n, v, p].foldl (fun s k => (s.charge k a).countNode k a) s
              some (c, (s.tmCount p 1).tmCount p 2 a)

/-! ### Meters (R304 to R307) -/

/-- The register fields of a meter: rates in kbit/s and sizes in millibits. -/
def State.meterCir (s : State) (m : Nat) : Nat := s.fld (Reg.tmMtrRate m) 15 0 * 64

/-- The peak rate, kbit/s. -/
def State.meterPir (s : State) (m : Nat) : Nat := s.fld (Reg.tmMtrRate m) 31 16 * 64

/-- The committed burst, millibits. -/
def State.meterCbs (s : State) (m : Nat) : Nat := s.fld (Reg.tmMtrBurst m) 11 0 * 256 * 8000

/-- The excess or peak burst, millibits. -/
def State.meterEbs (s : State) (m : Nat) : Nat := s.fld (Reg.tmMtrBurst m) 27 16 * 256 * 8000

/-- A meter with its buckets refilled up to this microsecond (R305). (DEDUCED: log 67.) -/
def State.meterNow (s : State) (m : Nat) : Meter :=
  let t := (Table.find s.tm.meters m).getD {}
  let n := s.micros - t.at_
  let cbs : Int := (s.meterCbs m : Int)
  let ebs : Int := (s.meterEbs m : Int)
  if s.flag (Reg.tmMtrBurst m) 13 then
    { t with tc := min cbs (t.tc + (n * s.meterCir m : Nat)), te := min ebs (t.te + (n * s.meterPir m : Nat)), at_ := s.micros }
  else
    let tc := t.tc + (n * s.meterCir m : Nat)
    { t with tc := min cbs tc, te := if cbs < tc then min ebs (t.te + (tc - cbs)) else t.te, at_ := s.micros }

/-- The colour a meter gives a frame of `b` bytes (R305), 0 green, 1 yellow, 2 red. -/
def State.meterColour (s : State) (m b pre : Nat) : Nat × State :=
  if !s.flag (Reg.tmMtrBurst m) 12 then (pre, s)
  else
    let t := s.meterNow m
    let cost : Int := (8000 * b : Nat)
    let pre := if s.flag (Reg.tmMtrBurst m) 14 then pre else 0
    let (colour, t) : Nat × Meter :=
      if s.flag (Reg.tmMtrBurst m) 13 then
        if pre = 2 ∨ t.te < cost then (2, t)
        else if pre = 1 ∨ t.tc < cost then (1, { t with te := t.te - cost })
        else (0, { t with te := t.te - cost, tc := t.tc - cost })
      else if pre = 0 ∧ cost ≤ t.tc then (0, { t with tc := t.tc - cost })
      else if pre ≠ 2 ∧ cost ≤ t.te then (1, { t with te := t.te - cost })
      else (2, t)
    let t := match colour with
      | 0 => { t with green := t.green + 1 }
      | 1 => { t with yellow := t.yellow + 1 }
      | _ => { t with red := t.red + 1 }
    (colour, { s with tm := { s.tm with meters := Table.put s.tm.meters m t } })

/-! ### Admission (R308) -/

/-- The privileged reserve that is not in use. -/
def State.unusedReserve (s : State) : Nat := s.fld Reg.tmPrivRes 14 0 - s.privCells

/-- Seconds of elapsed time. -/
def State.elapsedSec (s : State) : Nat := s.elapsed / 1000000000

/-- A copy refused for want of cells, with TM_BUF_LOW at most once a second (R312). -/
def State.cellShort (s : State) (p : Nat) : State :=
  let s := s.tmCount p 11
  if s.tm.lowSecond = some s.elapsedSec then { s with tm := { s.tm with lowDrops := s.tm.lowDrops + 1 } }
  else ({ s with tm := { s.tm with lowSecond := some s.elapsedSec, lowDrops := 1 } }).raise 0x2200 1
    (le 2 s.freeCells ++ le 4 1)

/-- A copy placed under R297, with TM_MAP_FAULT at most once a second. -/
def State.mapFault (s : State) (p port sub : Nat) : State :=
  let s := s.tmCount p 10
  if s.tm.faultSecond = some s.elapsedSec then { s with tm := { s.tm with mapFaults := s.tm.mapFaults + 1 } }
  else ({ s with tm := { s.tm with faultSecond := some s.elapsedSec, mapFaults := 1 } }).raise 0x2201 1
    (le 2 port ++ le 2 sub ++ le 4 1)

/-- A copy admitted to its class queue, or counted as dropped (R308). The cells of its buffer are held since the
frame arrived, so the first copy fits when the unused reserve is still free. -/
def State.takeCopy (s : State) (port cls colour : Nat) (c : Copy) : State :=
  let p := s.portNode port
  let mapped := s.mapOf port
  let (sub, s) := if s.subPort mapped = p then (mapped, s) else (p, s.mapFault p port mapped)
  let q := 16 + 8 * sub + cls
  let cells := s.copyCells c
  let d := s.fld (Reg.tmSubCfg sub) 23 20
  let limit := match colour with
    | 0 => s.fld (Reg.tmDropGy d) 14 0
    | 1 => s.fld (Reg.tmDropGy d) 30 16
    | _ => s.fld (Reg.tmDropR d) 14 0
  let first := ((Table.find s.tm.buffers c.buffer).map (·.copies)).getD 0 = 0
  if limit < s.queueCells q + cells then ((s.tmCount p (3 + min colour 2)).countDrop sub)
  else if first ∧ s.freeCells < s.unusedReserve then ((s.tmCount p (3 + min colour 2)).countDrop sub).cellShort p
  else
    let s := (s.addCopy c.buffer).tmCount p 0
    s.setQueue q (s.queue q ++ [{ c with colour := colour, born := s.elapsed, port := port }])

/-! ### Commands (R311) -/

/-- TM_MAP_WRITE. -/
def tmMapWriteSpec : OpSpec where
  code := 0x2201
  noTxn := true
  length p := p.length == 4
  range s p := s.portExists (num p 0 2) && decide (num p 2 2 < 4096)
    && s.subPort (num p 2 2) == s.portNode (num p 0 2)

/-- TM_MAP_READ. -/
def tmMapReadSpec : OpSpec where
  code := 0x2202
  length p := p.length == 2
  range s p := s.portExists (num p 0 2)

/-- TM_NODE_READ. -/
def tmNodeReadSpec : OpSpec where
  code := 0x2203
  length p := p.length == 4
  range _ p := num p 1 1 == 0 && (match num p 0 1 with
    | 0 => decide (num p 2 2 < 4096)
    | 1 => decide (num p 2 2 < 512)
    | 2 => decide (num p 2 2 < 16)
    | _ => false)

/-- TM_METER_READ. -/
def tmMeterReadSpec : OpSpec where
  code := 0x2204
  length p := p.length == 2
  range _ p := decide (num p 0 2 < 2048)

/-- TM_STATS_READ. -/
def tmStatsReadSpec : OpSpec where
  code := 0x2205
  length p := p.length == 4
  range _ p := decide (num p 0 1 < 16) && num p 1 3 == 0

/-- The result of TM_NODE_READ (Table 10-4). -/
def State.nodeReport (s : State) (level i : Nat) : Bytes :=
  let key := match level with
    | 0 => subKey i
    | 1 => svcKey i
    | _ => i
  let cfg := match level with
    | 0 => s.reg (Reg.tmSubCfg i)
    | 1 => s.reg (Reg.tmSvcCfg i)
    | _ => s.reg (Reg.tmPortCfg i)
  let queues := (s.tm.queues.filter fun e => match level with
    | 0 => 16 ≤ e.1 && (e.1 - 16) / 8 == i
    | 1 => 16 ≤ e.1 && s.subParent ((e.1 - 16) / 8) == i
    | _ => e.1 == i || (16 ≤ e.1 && s.subPort ((e.1 - 16) / 8) == i)).map (·.2)
  let n := (Table.find s.tm.counts key).getD {}
  le 4 cfg.toNat ++ le 4 (s.reg (shapeReg key)).toNat ++ le 8 (unsigned 64 (s.tokensNow key))
    ++ le 4 (unsigned 32 (s.deficit key)) ++ le 4 ((queues.map List.length).sum)
    ++ le 4 ((queues.map fun l => (l.map s.copyCells).sum).sum)
    ++ le 8 n.frames ++ le 8 n.bytes ++ le 8 (if level = 0 then n.drops else 0)

/-- TM_MAP_WRITE maps a logical port to a subscriber (R297). -/
def execTmMapWrite (c : Cmd) (p : Bytes) (s : State) : Host.Outcome State Fault Refusal :=
  .next (s.run tmMapWriteSpec c p fun s =>
    .done { s with tm := { s.tm with maps := Table.put s.tm.maps (num p 0 2) (num p 2 2) } } Status.ok [])

/-- TM_MAP_READ returns a port's subscriber and port node. -/
def execTmMapRead (c : Cmd) (p : Bytes) (s : State) : Host.Outcome State Fault Refusal :=
  .next (s.run tmMapReadSpec c p fun s =>
    .done s Status.ok (le 2 (s.mapOf (num p 0 2)) ++ le 1 (s.portNode (num p 0 2))))

/-- TM_NODE_READ returns a node's configuration and state. -/
def execTmNodeRead (c : Cmd) (p : Bytes) (s : State) : Host.Outcome State Fault Refusal :=
  .next (s.run tmNodeReadSpec c p fun s => .done s Status.ok (s.nodeReport (num p 0 1) (num p 2 2)))

/-- TM_METER_READ returns a meter's settings, buckets and counts. -/
def execTmMeterRead (c : Cmd) (p : Bytes) (s : State) : Host.Outcome State Fault Refusal :=
  .next (s.run tmMeterReadSpec c p fun s =>
    let m := num p 0 2
    let t := s.meterNow m
    .done s Status.ok (le 4 (s.reg (Reg.tmMtrRate m)).toNat ++ le 4 (s.reg (Reg.tmMtrBurst m)).toNat
      ++ le 8 t.tc.toNat ++ le 8 t.te.toNat ++ le 8 t.green ++ le 8 t.yellow ++ le 8 t.red))

/-- TM_STATS_READ returns a port node's counters (Table 10-11). -/
def execTmStatsRead (c : Cmd) (p : Bytes) (s : State) : Host.Outcome State Fault Refusal :=
  .next (s.run tmStatsReadSpec c p fun s =>
    .done s Status.ok ((List.range 12).flatMap fun k => le 8 ((Table.find s.tm.stats (num p 0 1 * 16 + k)).getD 0)))

end Sys2Proof.Machine
end

