-- ==== Sys2Proof/Machine/Client.lean ====
section
/-! DEFINITION. Client contexts (chapter 7): their fields, their downlink queues, and what observations, steps and
predictions do to them. -/

namespace Sys2Proof.Machine

/-! ### Fields of Table 7-1 -/

/-- A context changed; one that is all zero is not listed. -/
def State.setContext (s : State) (c : Nat) (b : Bytes) : State :=
  { s with sched := { s.sched with
    contexts := if b.all (· == 0) then Table.drop s.sched.contexts c else Table.put s.sched.contexts c b } }

/-- An octet run of a context replaced. -/
def State.patchContext (s : State) (c off : Nat) (new : Bytes) : State := s.setContext c (patch (s.context c) off new)

/-- Bits `[hi:lo]` of an octet of a context replaced. -/
def State.setContextBits (s : State) (c off hi lo x : Nat) : State :=
  s.patchContext c off (le 1 (withBits (num (s.context c) off 1) hi lo x))

/-- The short address of a client. -/
def State.clientAddress (s : State) (c : Nat) : Nat := num (s.context c) 0 2

/-- 0 OFF, 1 SCHEDULED, 2 RETHREAD, 3 LOST. -/
def State.clientState (s : State) (c : Nat) : Nat := bits (num (s.context c) 2 1) 2 1

/-- The re-threading level. -/
def State.clientLevel (s : State) (c : Nat) : Nat := bits (num (s.context c) 2 1) 4 3

/-- ack_req of its downlink frames. -/
def State.clientAck (s : State) (c : Nat) : Bool := bit (num (s.context c) 2 1) 6

/-- retry_max. -/
def State.clientRetry (s : State) (c : Nat) : Nat := bits (num (s.context c) 3 1) 4 2

/-- The stitch length, ns. -/
def State.stitchNs (s : State) (c : Nat) : Nat := 250000 * num (s.context c) 7 1

/-- The start offset, ns. -/
def State.startNs (s : State) (c : Nat) : Nat := 250000 * num (s.context c) 8 3

/-- cl_listen, ns. -/
def State.listenNs (s : State) (c : Nat) : Nat := num (s.context c) 16 2 * 1000

/-- Observations taken. -/
def State.clientSamples (s : State) (c : Nat) : Nat := num (s.context c) 62 1

/-- A signed 32-bit field of a context. -/
def State.contextInt (s : State) (c off : Nat) : Int := signed 32 (num (s.context c) off 4)

/-- The clients whose contexts are valid. -/
def State.validClients (s : State) : List Nat := (s.sched.contexts.map (·.1)).filter s.clientValid

/-- A network time kept as seconds [31:0] and nanoseconds, read beside the present one, ns. -/
def State.recall (s : State) (b : Bytes) (off : Nat) : Int :=
  let lo := num b off 4
  let d := signed 32 ((lo + 2 ^ 32 - s.seconds % 2 ^ 32) % 2 ^ 32)
  1000000000 * ((s.seconds : Int) + d) + (num b (off + 4) 4 : Nat)

/-- A network time as seconds [31:0] and nanoseconds. -/
def stampBytes (t : Int) : Bytes :=
  let t := t.toNat
  le 4 (t / 1000000000) ++ le 4 (t % 1000000000)

/-- Rounded toward zero (R235). (DEDUCED: log 57.) -/
def quot (a : Int) (b : Nat) : Int := a.tdiv (b : Int)

/-- rp of R235: r once two samples are taken. (DEDUCED: log 57.) -/
def State.clientDrift (s : State) (c : Nat) : Int := if 2 ≤ s.clientSamples c then s.contextInt c 24 else 0

/-- x_pred at a network instant, ns (R236, R237): ppb × ns / 10^9. -/
def State.predicted (s : State) (c : Nat) (t : Int) : Int :=
  s.contextInt c 20 + roundDiv (s.clientDrift c * (t - s.recall (s.context c) 32)) 1000000000

/-- The prediction of R237 for a nominal start, limited to half the stitch. -/
def State.offsetAt (s : State) (c : Nat) (start : Int) : Int :=
  let half : Int := (s.stitchNs c / 2 : Nat)
  clampInt (-half) half (s.predicted c start)

/-- The guard of R237, ns. -/
def State.guardAt (s : State) (c : Nat) (start : Int) : Int :=
  let rg : Int := if 2 ≤ s.clientSamples c then ((s.contextInt c 24).natAbs : Int)
    else ((s.fld (Reg.schedDrift (s.clientRadio c)) 7 0 * 1000 : Nat) : Int)
  let dt := start - s.recall (s.context c) 32
  min ((num (s.context c) 14 2 * 1000 : Nat) + roundDiv (rg * dt) 1000000000 + ((num (s.context c) 28 4 : Nat) : Int))
    ((s.stitchNs c / 4 : Nat) : Int)

/-- An observation with offset `x` at network time `t` (R235). (DEDUCED: log 57.) -/
def State.observe (s : State) (c : Nat) (x t : Int) : State :=
  let n := s.clientSamples c
  let w := s.fld (Reg.schedDrift (s.clientRadio c)) 11 8
  let e := x - s.predicted c t
  let tObs := s.recall (s.context c) 44
  let later := decide (1000000000 ≤ t - tObs)
  let s :=
    if n = 0 ∨ later then
      let s :=
        if 1 ≤ n ∧ later then
          let m := quot (1000000000 * (x - s.contextInt c 40 + s.contextInt c 52)) (t - tObs).toNat
          let r := s.contextInt c 24
          s.patchContext c 24 (le 4 (unsigned 32 (if n = 1 then m else r + quot (m - r) (2 ^ w))))
        else s
      let s := (s.patchContext c 40 (le 4 (unsigned 32 x))).patchContext c 44 (stampBytes t)
      (s.patchContext c 52 (le 4 0)).patchContext c 62 (le 1 (min (n + 1) 255))
    else s
  let s :=
    if 2 ≤ s.clientSamples c then
      let j : Int := (num (s.context c) 28 4 : Nat)
      s.patchContext c 28 (le 4 (j + quot ((e.natAbs : Int) - j) 8).toNat)
    else s
  (s.patchContext c 20 (le 4 (unsigned 32 x))).patchContext c 32 (stampBytes t)

/-- A step of `d` ns that a client has acknowledged, made at network time `t` (R236). -/
def State.stepClient (s : State) (c : Nat) (d t : Int) : State :=
  let x := s.predicted c t - d
  ((s.patchContext c 20 (le 4 (unsigned 32 x))).patchContext c 32 (stampBytes t)).patchContext c 52
    (le 4 (unsigned 32 (s.contextInt c 52 + d)))

/-- Every valid context moved with a forced step of network time (R236). The old times are read before the step,
so this runs before the base moves. -/
def State.stepContexts (s : State) (d : Int) : State :=
  s.validClients.foldl (fun s c =>
    let b := s.context c
    let tRef := s.recall b 32
    let tObs := s.recall b 44
    let s := s.patchContext c 20 (le 4 (unsigned 32 (s.contextInt c 20 + d)))
    let s := s.patchContext c 52 (le 4 (unsigned 32 (s.contextInt c 52 - d)))
    (s.patchContext c 32 (stampBytes (tRef + d))).patchContext c 44 (stampBytes (tObs + d))) s

/-! ### Downlink queues (R246) -/

/-- A client's downlink queue, oldest first. -/
def State.clientQueue (s : State) (c : Nat) : List ClientFrame := (Table.find s.sched.queues c).getD []

/-- A client's queue set, with its length in the context. -/
def State.setClientQueue (s : State) (c : Nat) (l : List ClientFrame) : State :=
  let s := { s with sched := { s.sched with
    queues := match l with
      | [] => Table.drop s.sched.queues c
      | _ => Table.put s.sched.queues c l } }
  s.patchContext c 63 (le 1 l.length)

/-- A frame number. -/
def State.newFrame (s : State) : Nat × State :=
  (s.sched.frames, { s with sched := { s.sched with frames := s.sched.frames + 1 } })

/-- Whether a client's queue holds q_max frames. -/
def State.clientFull (s : State) (c : Nat) : Bool := decide (s.fld Reg.schedGlbCtl 6 0 ≤ (s.clientQueue c).length)

/-- A frame at the end of a client's queue. -/
def State.queueClient (s : State) (c : Nat) (f : ClientFrame) : State := s.setClientQueue c (s.clientQueue c ++ [f])

/-- A forwarded frame or a message for a client: queued, or refused and counted in q_drop (R246, R378). -/
def State.forwardClient (s : State) (c : Nat) (payload : Bytes) (macType : Nat) (secured : Bool) : State :=
  if s.clientFull c then s.bump (Reg.schedCnt (s.clientRadio c) 12)
  else
    let (id, s) := s.newFrame
    s.queueClient c { id := id, bytes := payload, macType := macType, ackReq := s.clientAck c, secured := secured, budget := s.clientRetry c, attempts := 0, step := none }

/-- The head frame of a client is in the air, or its acknowledgement window is open. -/
def State.inFlight (s : State) (c id : Nat) : Bool :=
  s.radios.any fun r => (r.windows.any fun w => w.client == c && w.ackOf.isSome)
    || (match r.tx with
      | some t => t.frame == id * 4 && t.phase != .tail
      | none => false)

/-- A step order ahead of a client's other frames, unless one is already queued (R333, R334). (DEDUCED: log 57.) -/
def State.orderStep (s : State) (c : Nat) (d : Int) : State :=
  if (s.clientQueue c).any fun f => f.step.isSome then s
  else
    let (id, s) := s.newFrame
    let f : ClientFrame := { id := id, bytes := List.replicate 20 0, macType := 3, ackReq := true, secured := false, budget := s.clientRetry c, attempts := 0, step := some d }
    match s.clientQueue c with
    | [] => s.setClientQueue c [f]
    | h :: l => s.setClientQueue c (if s.inFlight c h.id then h :: f :: l else f :: h :: l)

/-! ### Re-threading (R239 to R241) -/

/-- State and level of a client. -/
def State.setThread (s : State) (c st level : Nat) : State :=
  (s.setContextBits c 2 2 1 st).setContextBits c 2 4 3 level

/-- An occurrence heard (R240). (DEDUCED: log 54.) -/
def State.heard (s : State) (c : Nat) (x : Int) : State :=
  let n := s.clientRadio c
  let level := s.clientLevel c
  let s := ((s.bump (Reg.schedCnt n 0)).bump (Reg.schedCnt n 1)).setThread c 1 0
  if level = 0 then s
  else (s.bump (Reg.schedCnt n 7)).raise 0x1401 0 (le 2 c ++ le 1 n ++ le 1 level ++ le 4 (unsigned 32 x))

/-- An occurrence missed (R239 to R241). (DEDUCED: log 58.) -/
def State.missed (s : State) (c : Nat) : State :=
  let n := s.clientRadio c
  let s := (s.bump (Reg.schedCnt n 0)).bump (Reg.schedCnt n 2)
  if s.clientSamples c = 0 then s
  else
    match s.clientLevel c with
    | 0 => (s.setThread c 2 1).bump (Reg.schedCnt n 6)
    | 1 => s.setThread c 2 2
    | 2 => s.setThread c 2 3
    | _ =>
      let s := (s.setThread c 3 3).bump (Reg.schedCnt n 8)
      s.raise 0x1400 1 (le 2 c ++ le 1 n ++ le 2 (s.clientAddress c) ++ slice (s.context c) 32 4
        ++ le 1 (s.clientQueue c).length)

end Sys2Proof.Machine
end

