-- ==== Sys2Proof/Machine/Forward.lean ====
section
/-! DEFINITION. Forwarding (chapter 9): the tables and their commands, and the lookup of Table 9-2 on one frame. -/

namespace Sys2Proof.Machine

/-! ### Counters and tables -/

/-- A counter of Table 9-15 advanced. -/
def State.fwdCount (s : State) (k : Nat) (n : Nat := 1) : State := s.bump64 (Reg.fwdCntLo k) n

/-- The bucket of a key (R277). -/
def macBucket (mac : Bytes) (vlan : Nat) : Nat := crc32 (mac ++ le 2 vlan) % 4096

/-- Whether a MAC entry is the valid one of a key. (DEDUCED: log 65.) -/
def macIs (mac : Bytes) (vlan : Nat) (e : Bytes) : Bool :=
  bit (num e 8 1) 0 && e.take 6 == mac && num e 6 2 % 4096 == vlan

/-- The MAC entry of a key, with its place. -/
def State.macFind (s : State) (mac : Bytes) (vlan : Nat) : Option (Nat × Bytes) :=
  let b := macBucket mac vlan
  (List.range 4).findSome? fun w => match Table.find s.fwd.mac (4 * b + w) with
    | some e => if macIs mac vlan e then some (4 * b + w, e) else none
    | none => none

/-- A free way of a bucket. -/
def State.macFree (s : State) (b : Nat) : Option Nat :=
  (List.range 4).find? fun w => (Table.find s.fwd.mac (4 * b + w)).isNone

/-- The MAC table with an entry set. -/
def State.setMac (s : State) (k : Nat) (e : Bytes) : State := { s with fwd := { s.fwd with mac := Table.put s.fwd.mac k e } }

/-- Dynamic MAC entries that satisfy a test removed; how many there were (R280). -/
def State.dropMac (s : State) (p : Bytes → Bool) : Nat × State :=
  let gone := s.fwd.mac.filter fun e => !bit (num e.2 8 1) 1 && p e.2
  (gone.length, { s with fwd := { s.fwd with mac := Table.keep s.fwd.mac fun _ e => bit (num e 8 1) 1 || !p e } })

/-- The dynamic entries of a logical port removed (R280). -/
def State.forgetPort (s : State) (port : Nat) : State := (s.dropMac fun e => num e 10 2 == port).2

/-- The entry of a VLAN, all 0 where none was written. -/
def State.vlan (s : State) (v : Nat) : Bytes := (Table.find s.fwd.vlans v).getD (List.replicate 16 0)

/-- Whether a VLAN has a valid entry. -/
def State.vlanValid (s : State) (v : Nat) : Bool := bit (num (s.vlan v) 2 1) 0

/-- Whether a member bit of a VLAN is set: 0–3 ETH, 4 chain, 5 host, 6–8 TRX (Table 9-11). -/
def State.vlanMember (s : State) (v b : Nat) : Bool := s.vlanValid v && bit (num (s.vlan v) 4 2) b

/-- The radio of a radio port. -/
def State.radioOf (s : State) (p : Nat) : Nat :=
  if p < 0x2000 then s.clientRadio (p - 0x1000)
  else if p < 0x2400 then chanRadio (s.peerChannel (p - 0x2000))
  else p - 0x2400

/-- Whether a logical port is a radio's. -/
def isRadio (p : Nat) : Bool := decide (0x1000 ≤ p)

/-- Whether a logical port is a chain device's. -/
def isChain (p : Nat) : Bool := decide (0x40 ≤ p) && decide (p < 0x80)

/-- The member bit of a logical port. -/
def State.memberBit (s : State) (p : Nat) : Nat :=
  if p < 4 then p else if isChain p then 4 else if p = 0x80 then 5 else if isRadio p then 6 + s.radioOf p else 15

/-- Whether a port is a member of a VLAN; firmware belongs to every one. -/
def State.isMember (s : State) (v p : Nat) : Bool := p == 0x81 || s.vlanMember v (s.memberBit p)

/-- Whether a peer entry is valid (WMAC_PEER_CFG). -/
def State.peerValid (s : State) (q : Nat) : Bool := s.flag (Reg.peerCfg q) 0

/-- Whether a port can be reached: a valid client or peer, a link that is up, a device that is present (R280). -/
def State.portReachable (s : State) (p : Nat) : Bool :=
  if p < 4 then s.flag (Reg.emacStat p) 0
  else if isChain p then s.present (p - 0x40)
  else if 0x1000 ≤ p ∧ p < 0x2000 then s.clientValid (p - 0x1000)
  else if 0x2000 ≤ p ∧ p < 0x2400 then s.peerValid (p - 0x2000)
  else true

/-! ### Frames -/

/-- A frame taken apart: addresses, outer tag, and EtherType with payload. -/
structure Frame where
  dst : Bytes
  src : Bytes
  tag : Option Nat
  body : Bytes
  deriving DecidableEq, Repr

/-- A frame without FCS taken apart. -/
def frameOf (b : Bytes) : Frame :=
  if numBe b 12 2 = 0x8100 then ⟨b.take 6, slice b 6 6, some (numBe b 14 2), b.drop 16⟩
  else ⟨b.take 6, slice b 6 6, none, b.drop 12⟩

/-- A frame put together. -/
def Frame.bytes (f : Frame) : Bytes :=
  f.dst ++ f.src ++ (match f.tag with
    | some t => be 2 0x8100 ++ be 2 t
    | none => []) ++ f.body

/-- The EtherType after the outer tag. -/
def Frame.type (f : Frame) : Nat := numBe f.body 0 2

/-- Whether an address is a group address. -/
def isGroup (mac : Bytes) : Bool := bit (num mac 0 1) 0

/-- The router's address. -/
def State.routerMac (s : State) : Bytes := le 4 (s.reg Reg.fwdRtrMacLo).toNat ++ le 2 (s.fld Reg.fwdRtrMacHi 15 0)

/-- The Internet checksum of octets. -/
def inetSum (b : Bytes) : Nat :=
  let total := ((List.range ((b.length + 1) / 2)).map fun i => numBe (padTo (b.length + 1) b) (2 * i) 2).sum
  let once := total % 65536 + total / 65536
  let twice := once % 65536 + once / 65536
  65535 - twice

/-- UDP ports of a frame over IPv4 or IPv6. -/
def Frame.udpPorts (f : Frame) : Option (Nat × Nat) :=
  let l3 := f.body.drop 2
  if f.type = 0x0800 ∧ num l3 9 1 = 17 then
    let h := num l3 0 1 % 16 * 4
    some (numBe l3 h 2, numBe l3 (h + 2) 2)
  else if f.type = 0x86DD ∧ num l3 6 1 = 17 then some (numBe l3 40 2, numBe l3 42 2)
  else none

/-- Whether a frame is of IEEE 1588 (Table 9-3). -/
def Frame.isPtp (f : Frame) : Bool :=
  f.type == 0x88F7 || (match f.udpPorts with
    | some (_, d) => d == 319 || d == 320
    | none => false)

/-- A frame for its lookup. -/
def State.pushInbound (s : State) (f : Inbound) : State := { s with fwd := { s.fwd with inbox := s.fwd.inbox ++ [f] } }

/-- A frame from a radio, the chain or the host enters the packet buffer and waits for its lookup; without room it
is lost, and the boolean is false. -/
def State.enter (s : State) (port vlan : Nat) (bytes report : Bytes) (chainPort : Option Nat := none) : Bool × State :=
  let cells := cellsOf bytes.length
  if s.freeCells < cells then (false, s)
  else
    let (id, s) := s.takeCells cells none false
    (true, s.pushInbound { port := port, bytes := bytes, report := report, vlan := vlan, buffer := id, length := bytes.length + 4, chainPort := chainPort })

/-- A radio data frame enters forwarding, or is dropped (R271). -/
def State.enterRadio (s : State) (port : Nat) (payload report : Bytes) : State :=
  if payload.length < 14 then s.fwdCount 17
  else if numBe payload 12 2 = 0x8100 then s.fwdCount 18
  else (s.enter port 0 payload report).2

/-! ### Delivery to the host and to firmware (R286, R287) -/

/-- The event FWD_FRAME_TO_HOST. (DEDUCED: log 66.) -/
def State.toHost (s : State) (reason : Nat) (f : Inbound) (vlan : Nat) (bytes : Bytes) : State :=
  (s.fwdCount 5).raise 0x2100 0 (le 1 reason ++ le 1 (bitOf (decide (4020 < bytes.length)) + 2 * bitOf (!f.report.isEmpty))
    ++ le 2 f.port ++ le 2 vlan ++ le 2 bytes.length ++ padTo 32 f.report ++ bytes.take 4020)

/-- A frame for the firmware queue. (DEDUCED: log 66.) -/
def State.toFirmware (s : State) (reason : Nat) (bytes : Bytes) : State :=
  if s.fwd.firmware.length < 256 then
    ({ s with fwd := { s.fwd with firmware := s.fwd.firmware ++ [(reason, bytes)] } }).fwdCount 4
  else s.fwdCount 23

/-- Frames admitted for a reason in this second of network time. -/
def State.admittedNow (s : State) (r : Nat) : Nat :=
  if s.fwd.second = s.seconds then (Table.find s.fwd.admitted r).getD 0 else 0

/-- A frame trapped for a reason of Table 9-8 (R286): whether the lookup goes on, whether the frame was dropped. -/
def State.trap (s : State) (r : Nat) (f : Inbound) (vlan : Nat) : Bool × Bool × State :=
  let cfg := s.reg (Reg.fwdExcCfg r)
  match field cfg 1 0 with
  | 0 => (false, true, s)
  | 3 => (true, false, s)
  | d =>
    let n := s.admittedNow r
    if field cfg 31 16 ≠ 0 ∧ field cfg 31 16 ≤ n then (false, true, s.fwdCount 22)
    else
      let old := if s.fwd.second = s.seconds then s.fwd.admitted else []
      let s := { s with fwd := { s.fwd with admitted := Table.put old r (n + 1), second := s.seconds } }
      let s := s.bump (Reg.fwdExcCnt r)
      (false, false, if d = 1 then s.toFirmware r (f.bytes ++ f.report) else s.toHost r f vlan f.bytes)

/-! ### Source learning (R279) -/

/-- The learn bit of an ingress port. -/
def State.learns (s : State) (p : Nat) : Bool :=
  if p < 4 then s.flag (Reg.fwdPortCfg p) 12
  else if isChain p then s.flag Reg.fwdChainCfg 12
  else if p = 0x80 then s.flag Reg.fwdHostCfg 12
  else s.flag (Reg.fwdRadioCfg (s.radioOf p)) 12

/-- FWD_LEARN_FULL at most once a second. -/
def State.learnFull (s : State) (b : Nat) : State :=
  let s := s.fwdCount 9
  if s.fwd.learnSecond = some s.elapsedSec then { s with fwd := { s.fwd with learnFull := s.fwd.learnFull + 1 } }
  else ({ s with fwd := { s.fwd with learnSecond := some s.elapsedSec, learnFull := 1 } }).raise 0x2101 1 (le 2 b ++ le 4 1)

/-- A MAC entry made by learning. -/
def learnedEntry (mac : Bytes) (vlan port seen : Nat) : Bytes := mac ++ le 2 vlan ++ [1, 0] ++ le 2 port ++ le 4 seen

/-- A frame's source learned; false where a static entry on another port drops the frame. -/
def State.learn (s : State) (src : Bytes) (vlan port : Nat) : Bool × State :=
  if !(s.flag Reg.fwdCtl 1 && s.learns port && bit (num (s.vlan vlan) 2 1) 1) || isGroup src then (true, s)
  else
    match s.macFind src vlan with
    | none =>
      let b := macBucket src vlan
      match s.macFree b with
      | some w => (true, (s.setMac (4 * b + w) (learnedEntry src vlan port s.seconds)).fwdCount 8)
      | none => (true, s.learnFull b)
    | some (k, e) =>
      let seen := patch e 12 (le 4 s.seconds)
      if num e 10 2 = port then (true, s.setMac k seen)
      else if bit (num e 8 1) 1 then (false, s.fwdCount 11)
      else (true, (s.setMac k (patch seen 10 (le 2 port))).fwdCount 10)

/-! ### Bridging (R276) -/

/-- The number used inside the model for the one flood copy to the chain. (DEDUCED: log 66.) -/
abbrev chainFlood : Nat := 0x3F

/-- The flood of a frame over its VLAN's members. (DEDUCED: log 66.) -/
def State.flood (s : State) (f : Frame) (vlan ingress : Nat) (fromChain : Bool) : List Nat × State :=
  let wired := (List.range 4).filter fun e => s.vlanMember vlan e && e != ingress
  let chain := if s.vlanMember vlan 4 && !fromChain && !s.others.isEmpty then [chainFlood] else []
  let host := if s.vlanMember vlan 5 && ingress != 0x80 then [0x80] else []
  let radios := (List.range 3).filter fun n => s.vlanMember vlan (6 + n)
  if isGroup f.dst then
    (wired ++ chain ++ host ++ (if bit (num (s.vlan vlan) 2 1) 3 then radios.map (0x2400 + ·) else []), s.fwdCount 3)
  else (wired ++ chain ++ host, (s.fwdCount 3).fwdCount 20 radios.length)

/-- The bridging decision: the egress ports, none where the frame was dropped. -/
def State.bridge (s : State) (f : Frame) (vlan ingress : Nat) (fromChain : Bool) : Option (List Nat) × State :=
  match s.macFind f.dst vlan with
  | some (_, e) =>
    if bit (num e 8 1) 2 then (none, s.fwdCount 24)
    else if isGroup f.dst then
      let (l, s) := s.flood f vlan ingress fromChain
      (some l, s)
    else
      let p := num e 10 2
      if p = ingress then (none, s.fwdCount 24)
      else if !s.portReachable p then (none, s.fwdCount 21)
      else (some [p], s.fwdCount 1)
  | none =>
    let (l, s) := s.flood f vlan ingress fromChain
    (some l, s)

/-! ### Sizes (R251, R272) -/

/-- Whether any member of a plait, or a channel, has the GFSK limit. -/
def State.radioLimit (s : State) (p : Nat) : Nat :=
  if p < 0x2000 then 2035
  else if p < 0x2400 then
    let q := p - 0x2000
    if s.flag (Reg.peerCfg q) 22 then
      let plait := s.fld (Reg.peerCfg q) 21 16
      let gfsk := (List.range 4).any fun m => bit (s.plaitMember plait m) 0 && !chanFilet (s.plaitMember plait m)
      (if gfsk then 2035 else 8179) - 2
    else if chanFilet (s.peerHome q) then 8179 else 2035
  else if chanFilet (s.fld (Reg.fwdRadioCfg (p - 0x2400)) 31 16) then 8179 else 2035

/-- Whether a port's VLAN map leaves its copies untagged. -/
def State.untagged (s : State) (vlan e : Nat) : Bool := bit (num (s.vlan vlan) 6 1) e

/-- A frame without its tag. -/
def Frame.bare (f : Frame) : Bytes := f.dst ++ f.src ++ f.body

/-- Whether a frame fits its egress port (exception 6). (DEDUCED: log 60.) -/
def State.fits (s : State) (f : Frame) (p vlan : Nat) : Bool :=
  if p < 4 then decide (max 60 (f.bare.length + (if s.untagged vlan p then 0 else 4)) + 4 ≤ s.fld (Reg.emacMaxlen p) 13 0)
  else if isRadio p then decide (f.bare.length ≤ s.radioLimit p)
  else true

/-! ### Routing (R281 to R283) -/

/-- The first `n` bits of octets. -/
def prefixOf (b : Bytes) (n : Nat) : Nat := (ofLe b.reverse) / 2 ^ (8 * b.length - n)

/-- Whether a prefix entry covers an address of its family. -/
def routeCovers (e : Bytes) (v6 : Bool) (dst : Bytes) : Bool :=
  bit (num e 0 1) 0 && (bit (num e 0 1) 1 == v6)
    && (let n := num e 1 1
        let a := slice e 4 (if v6 then 16 else 4)
        decide (n ≤ 8 * a.length) && prefixOf a n == prefixOf dst n)

/-- The longest prefix that covers an address. -/
def State.route4or6 (s : State) (v6 : Bool) (dst : Bytes) : Option Bytes :=
  (s.fwd.routes.filter fun e => routeCovers e.2 v6 dst).foldl (fun best e => match best with
    | none => some e.2
    | some b => if num b 1 1 < num e.2 1 1 then some e.2 else some b) none

/-- What routing makes of a frame. -/
inductive Routed where
  | drop
  | trap (reason : Nat)
  | forward (port vlan : Nat) (frame : Frame)
  deriving DecidableEq, Repr

/-- An IP header with its hop count reduced by one (R281). -/
def hopDown (v6 : Bool) (l3 : Bytes) : Bytes :=
  if v6 then patch l3 7 (le 1 (num l3 7 1 - 1))
  else
    let h := patch (patch l3 8 (le 1 (num l3 8 1 - 1))) 10 [0, 0]
    patch h 10 (be 2 (inetSum (h.take (num h 0 1 % 16 * 4))))

/-- A next hop that nothing has written: discard, since FWD_L3_STAT counts none that is not (Table 9-13).
(DEDUCED: log 65.) -/
def blankHop : Bytes := 2 :: List.replicate 15 0

/-- The next hop of a routed frame applied (Table 9-6). (DEDUCED: log 65.) -/
def State.nextHop (s : State) (f : Frame) (v6 : Bool) (nh : Bytes) : Routed × State :=
  match num nh 0 1 with
  | 1 => (.trap 8, s)
  | 2 => (.drop, s.fwdCount 25)
  | 3 => (.trap 4, s)
  | _ =>
    let p := num nh 2 2
    let vlan := num nh 4 2 % 4096
    let g : Frame := { f with dst := slice nh 6 6, src := s.routerMac, body := be 2 f.type ++ hopDown v6 (f.body.drop 2) }
    if !s.portReachable p then (.drop, s.fwdCount 21)
    else if !s.fits g p vlan then (.trap 6, s)
    else (.forward p vlan g, s.fwdCount 2)

/-- The routing of a frame; `plain` skips exception 3, whose disposition was to forward. -/
def State.routeFrame (s : State) (f : Frame) (plain : Bool) : Routed × State :=
  let l3 := f.body.drop 2
  let v6 := f.type == 0x86DD
  let ihl := num l3 0 1 % 16
  let bad := if v6 then num l3 0 1 / 16 != 6 || decide (l3.length < 40)
    else num l3 0 1 / 16 != 4 || decide (ihl < 5) || decide (l3.length < ihl * 4) || inetSum (l3.take (ihl * 4)) != 0
  if bad then (.drop, s.fwdCount 14)
  else if !plain && (if v6 then num l3 6 1 == 0 else decide (5 < ihl)) then (.trap 3, s)
  else if (if v6 then num l3 7 1 else num l3 8 1) ≤ 1 then (.trap 2, s)
  else
    match s.route4or6 v6 (if v6 then slice l3 24 16 else slice l3 16 4) with
    | none => (.trap 5, s.fwdCount 13)
    | some e =>
      match Table.find s.fwd.nextHops (num e 2 2) with
      | some nh => s.nextHop f v6 nh
      | none => s.nextHop f v6 blankHop

/-! ### Access control (R284, R285) -/

/-- Whether an access-control entry matches a frame. -/
def aclMatches (e : Bytes) (f : Frame) (ingress vlan : Nat) : Bool :=
  let flags := num e 0 1
  let l3 := f.body.drop 2
  let v4 := f.type == 0x0800
  let v6 := f.type == 0x86DD
  let family := bits flags 2 1
  let protocol := if v4 then num l3 9 1 else num l3 6 1
  let dscp := if v4 then num l3 1 1 / 4 else numBe l3 0 2 / 64 % 64
  let l4 := if v4 then num l3 0 1 % 16 * 4 else 40
  let ports := protocol == 6 || protocol == 17
  let masked := fun off (v : Nat) => Nat.land (Nat.xor v (num e off 2)) (num e (off + 2) 2) == 0
  let addr := fun (lenOff off at4 at6 : Nat) =>
    let n := num e lenOff 1
    n == 0 || (v4 && family != 2 && prefixOf (slice e off 4) n == prefixOf (slice l3 at4 4) n)
      || (v6 && family != 1 && prefixOf (slice e off 16) n == prefixOf (slice l3 at6 16) n)
  let range := fun (off v : Nat) => decide (num e off 2 ≤ v) && decide (v ≤ num e (off + 2) 2)
  bit flags 0
    && (match family with
      | 0 => true
      | 1 => v4
      | 2 => v6
      | _ => !v4 && !v6)
    && (!bit flags 3 || slice e 16 6 == f.src)
    && (!bit flags 4 || slice e 22 6 == f.dst)
    && (!bit flags 5 || ((v4 || v6) && num e 3 1 == protocol))
    && (!bit flags 6 || ((v4 || v6) && num e 28 1 % 64 == dscp))
    && masked 4 ingress && masked 8 vlan && masked 12 f.type
    && addr 1 40 12 8 && addr 2 56 16 24
    && (!((v4 || v6) && ports) || (range 32 (numBe l3 l4 2) && range 36 (numBe l3 (l4 + 2) 2)))

/-- The lowest-numbered entry that matches. -/
def State.aclFind (s : State) (f : Frame) (ingress vlan : Nat) : Option (Nat × Bytes) :=
  s.fwd.acl.find? fun e => aclMatches e.2 f ingress vlan

/-! ### Egress (R272, R273, R288) -/

/-- The copies a frame has in the packet buffer. -/
def State.copiesOf (s : State) (id : Nat) : Nat := ((Table.find s.tm.buffers id).map (·.copies)).getD 0

/-- A copy on its way to traffic management. -/
structure Egress where
  buffer : Nat
  vlan : Nat
  cls : Nat
  colour : Nat
  /-- PCP and DEI of a tag. -/
  mark : Nat
  stamp : Option Nat := none
  /-- Where the frame came in, and its receive report. -/
  ingress : Nat := 0x80
  report : Bytes := []
  deriving DecidableEq, Repr

/-- The Ethernet copy of a frame: tagged as the VLAN says, padded to the least length (R288, R307). -/
def State.wiredCopy (s : State) (f : Frame) (p : Nat) (g : Egress) : Copy :=
  let dei := if s.flag (Reg.tmPortCfg p) 1 && g.colour != 0 then Nat.lor g.mark 1 else g.mark
  let t : Option Nat := if s.untagged g.vlan p then none else some (dei * 4096 + g.vlan)
  let b := ({ f with tag := t } : Frame).bytes
  let b := padTo (max 60 b.length) b
  { buffer := g.buffer, bytes := b, length := b.length + 4, port := p, vlan := g.vlan, stamp := g.stamp }

/-- Step 7 of Table 9-2 for one port of the egress set. -/
def State.egress (s : State) (f : Frame) (g : Egress) (p : Nat) : State :=
  if p < 4 then
    if !s.vlanMember g.vlan p then s.fwdCount 7
    else s.takeCopy p g.cls g.colour (s.wiredCopy f p g)
  else if p = chainFlood ∨ isChain p then
    if !s.vlanMember g.vlan 4 then s.fwdCount 7
    else
      let b := f.bare
      let flood := p == chainFlood
      s.takeCopy p g.cls g.colour { buffer := g.buffer, bytes := b, length := b.length + 16, port := p, vlan := g.vlan, kind := if flood then 1 else 0, device := if flood then 0xFF else p - 0x40, remote := if flood then 0xFFFF else Config.remotePort (p - 0x40) f.dst % 65536 }
  else if p = 0x80 ∨ p = 0x81 then
    if p = 0x80 ∧ !s.vlanMember g.vlan 5 then s.fwdCount 7
    else
      let b := f.bytes
      s.takeCopy p g.cls g.colour { buffer := g.buffer, bytes := b, length := b.length, port := p, vlan := g.vlan, ingress := g.ingress, report := g.report }
  else
    let n := s.radioOf p
    let b := f.bare
    if !(s.vlanMember g.vlan (6 + n) && s.fld (Reg.fwdRadioCfg n) 11 0 == g.vlan) then s.fwdCount 7
    else if 0x2400 ≤ p ∧ !s.flag (Reg.fwdRadioCfg n) 16 then s.fwdCount 20
    else if s.radioLimit p < b.length then s.fwdCount 19
    else
      let secure := s.flag (Reg.fwdRadioCfg n) 13
      let viaPlait := decide (0x2000 ≤ p) && decide (p < 0x2400) && s.flag (Reg.peerCfg (p - 0x2000)) 22
      let ack := if p < 0x2000 then s.clientAck (p - 0x1000) else if p < 0x2400 then s.flag (Reg.peerCfg (p - 0x2000)) 1 else false
      s.takeCopy p g.cls g.colour { buffer := g.buffer, bytes := b, length := 8 + (if viaPlait then 2 else 0) + b.length + 4, port := p, vlan := g.vlan, ackReq := ack, secured := secure }

/-- The whole of step 7: a copy for each port; a frame of which nothing is queued gives its cells back.
(DEDUCED: log 66.) -/
def State.egressAll (s : State) (f : Frame) (g : Egress) (ports : List Nat) : State :=
  let s := ports.foldl (fun s p => s.egress f g p) s
  if s.copiesOf g.buffer = 0 then s.freeBuffer g.buffer else s

/-! ### The lookup (Table 9-2) -/

/-- Step 1: the VLAN of a frame, none where it fails. -/
def State.ingressVlan (s : State) (i : Inbound) (f : Frame) : Option Nat :=
  let tagged := match f.tag with
    | some t => if t % 4096 = 0 then none else some (t % 4096)
    | none => none
  let v : Option Nat :=
    if i.port < 4 then
      match tagged with
      | some v => if s.flag (Reg.fwdPortCfg i.port) 14 then some v else none
      | none => if s.flag (Reg.fwdPortCfg i.port) 13 then some (s.fld (Reg.fwdPortCfg i.port) 11 0) else none
    else if isChain i.port then some i.vlan
    else if i.port = 0x80 then
      some (if i.vlan ≠ 0 then i.vlan else tagged.getD (s.fld Reg.fwdHostCfg 11 0))
    else some (s.fld (Reg.fwdRadioCfg (s.radioOf i.port)) 11 0)
  v.bind fun v => if s.isMember v i.port then some v else none

/-- A luminaire report stored for its client (R371, R372). -/
def State.intakeReport (s : State) (port : Nat) (payload : Bytes) : State :=
  let s := s.bump (Reg.ctlpCnt 1)
  if payload.length < 16 ∨ num payload 0 1 ≠ 1 ∨ num payload 1 1 ≠ 0 then s.bump (Reg.ctlpCnt 2)
  else if ¬ (0x1000 ≤ port ∧ port < 0x2000) then s.bump (Reg.ctlpCnt 3)
  else
    { s with ctl := { s.ctl with reports := Table.put s.ctl.reports (port - 0x1000) ⟨payload.take 16, s.netNs⟩ } }

/-- A message of IEEE 1588 taken by the time function: an Announce tells of a master (R322). -/
def State.intakePtp (s : State) (port : Nat) (f : Frame) : State :=
  let l3 := f.body.drop 2
  let msg := if f.type = 0x88F7 then l3 else if f.type = 0x0800 then l3.drop (num l3 0 1 % 16 * 4 + 8) else l3.drop 48
  if num msg 0 1 % 16 = 0xB ∧ s.flag (Reg.timePtpCfg port) 2 ∧ num msg 4 1 = s.fld Reg.timePtpClock 7 0 then
    { s with time := { s.time with
      masters := port :: s.time.masters.filter (· != port), offers := Table.put s.time.offers port (slice msg 53 8) } }
  else s

/-- Whether a frame is addressed to a link-local group address (reason 0). -/
def isLinkLocal (dst : Bytes) : Bool :=
  dst.take 5 == [0x01, 0x80, 0xC2, 0x00, 0x00] && decide (num dst 5 1 < 16)

/-- Whether a frame is an ARP or ICMPv6 neighbour message addressed to the router (reason 1). -/
def State.isNeighbour (s : State) (f : Frame) : Bool :=
  f.dst == s.routerMac && (f.type == 0x0806
    || (f.type == 0x86DD && num f.body 8 1 == 58 && (num f.body 42 1 == 135 || num f.body 42 1 == 136)))

/-- Steps 5 to 7, for a frame whose egress set step 4 gave. (DEDUCED: log 63.) -/
def State.finishLookup (s : State) (i : Inbound) (src : Bytes) (inVlan : Nat) (f : Frame) (vlan : Nat) (ports : List Nat) : State :=
  let wire := decide (i.port < 4)
  let mark := match (frameOf i.bytes).tag with
    | some t => if wire then t / 4096 else 0
    | none => 0
  let hit := s.aclFind f i.port vlan
  let s := match hit with
    | some (k, _) => s.bump64 (Reg.fwdAclHitLo k)
    | none => s
  let e := (hit.map (·.2)).getD (patch (List.replicate 96 0) 76 [0xFF, 0xFF])
  let set := num e 73 1
  let free := fun (s : State) => s.freeBuffer i.buffer
  match num e 72 1 with
  | 1 => free (s.fwdCount 15)
  | 4 => free (s.trap 9 i vlan).2.2
  | action =>
    let s := if action = 3 then (s.trap 9 i vlan).2.2 else s
    let (ports, s) := if action = 2 then ([num e 74 2], s.fwdCount 16) else (ports, s)
    let (kept, s) := s.learn src inVlan i.port
    if !kept then free s
    else
      let cls := if bit set 0 then bits set 3 1 else mark / 2
      let pre := if bit set 4 then bits set 6 5 else 0
      let m := num e 76 2
      let (colour, s) := if m < 2048 then s.meterColour m i.length pre else (pre, s)
      if m < 2048 ∧ colour = 2 ∧ s.flag (Reg.tmMtrBurst m) 15 ∧ s.flag (Reg.tmMtrBurst m) 12 then
        free (match ports with
          | p :: _ => s.tmCount (s.portNode p) 7
          | [] => s)
      else s.egressAll f { buffer := i.buffer, vlan := vlan, cls := cls, colour := colour, mark := mark, ingress := i.port, report := i.report } ports

/-- Step 4, with the exceptions of routing, and what follows. (DEDUCED: log 63.) -/
def State.decideFrame (s : State) (i : Inbound) (f : Frame) (vlan : Nat) : State :=
  let free := fun (s : State) => s.freeBuffer i.buffer
  let learnTrapped := fun (dropped : Bool) (s : State) => free (if dropped then s else (s.learn f.src vlan i.port).2)
  let bridged := fun (s : State) => match s.bridge f vlan i.port (isChain i.port) with
    | (some l, s) => s.finishLookup i f.src vlan f vlan l
    | (none, s) => free s
  let routed := fun (plain : Bool) (s : State) => s.routeFrame f plain
  if f.dst == s.routerMac && bit (num (s.vlan vlan) 2 1) 2 && s.flag Reg.fwdCtl 2 && (f.type == 0x0800 || f.type == 0x86DD) then
    match routed false s with
    | (.drop, s) => free s
    | (.forward p v g, s) => s.finishLookup i f.src vlan g v [p]
    | (.trap r, s) =>
      match s.trap r i vlan with
      | (true, _, s) =>
        match routed true s with
        | (.forward p v g, s) => s.finishLookup i f.src vlan g v [p]
        | (.trap r, s) =>
          let (_, dropped, s) := s.trap r i vlan
          learnTrapped dropped s
        | (.drop, s) => free s
      | (false, dropped, s) => learnTrapped dropped s
  else bridged s

/-- Steps 2 and 3, and what follows. (DEDUCED: log 63.) -/
def State.trapFrame (s : State) (i : Inbound) (f : Frame) (vlan : Nat) : State :=
  let free := fun (s : State) => s.freeBuffer i.buffer
  if i.port < 4 ∧ f.isPtp ∧ s.ptpOn i.port then
    free ((s.intakePtp i.port f).learn f.src vlan i.port).2
  else
    let report := isRadio i.port && f.type == 0x88B6
    let s := if report then s.intakeReport i.port (f.body.drop 2) else s
    if report && !s.flag Reg.fwdCtl 3 then free (s.learn f.src vlan i.port).2
    else if !s.flag Reg.fwdCtl 0 then free s
    else
      let reason : Option Nat := if isLinkLocal f.dst then some 0 else if s.isNeighbour f then some 1 else none
      match reason with
      | some r =>
        match s.trap r i vlan with
        | (true, _, s) => s.decideFrame i f vlan
        | (false, dropped, s) => free (if dropped then s else (s.learn f.src vlan i.port).2)
      | none => s.decideFrame i f vlan

/-- The lookup of one frame. (DEDUCED: log 63.) -/
def State.lookup (s : State) (i : Inbound) : State :=
  let s := s.fwdCount 0
  let f := frameOf i.bytes
  match i.chainPort with
  | some p =>
    let g : Egress := { buffer := i.buffer, vlan := i.vlan, cls := 0, colour := 0, mark := 0, ingress := i.port }
    if p = 0xFFFF then
      if !s.vlanValid i.vlan then (s.fwdCount 6).freeBuffer i.buffer
      else
        let (kept, s) := s.learn f.src i.vlan i.port
        if !kept then s.freeBuffer i.buffer
        else
          let (l, s) := s.flood f i.vlan i.port true
          s.egressAll f g l
    else if s.portExists p && !isChain p then s.egressAll f g [p]
    else (s.fwdCount 21).freeBuffer i.buffer
  | none =>
    if i.unknown then
      (s.trap 7 i (s.fld (Reg.fwdRadioCfg (s.radioOf i.port)) 11 0)).2.2.freeBuffer i.buffer
    else
      match s.ingressVlan i f with
      | none => (s.fwdCount 6).freeBuffer i.buffer
      | some v => s.trapFrame i f v

/-- MAC_AGE_SCAN: once a second, dynamic entries older than the age are removed (R280). (DEDUCED: log 65.) -/
def execMacAgeScan (s : State) : Host.Outcome State Fault Refusal :=
  .next (
    let age := s.fld Reg.fwdAge 19 0
    if age = 0 ∨ !s.awake then s
    else
      let (n, s) := s.dropMac fun e => decide (age ≤ (s.seconds + 2 ^ 32 - num e 12 4) % 2 ^ 32)
      s.fwdCount 12 n)

/-! ### Commands (R289) -/

/-- A VLAN identifier that an entry may name. -/
def vlanOk (v : Nat) : Bool := decide (1 ≤ v) && decide (v ≤ 4094)

/-- FWD_MAC_WRITE. -/
def fwdMacWriteSpec : OpSpec where
  code := 0x2101
  noTxn := true
  length p := p.length == 16
  range s p := vlanOk (num p 6 2) && decide (num p 8 1 < 8) && num p 9 1 == 0
    && (bit (num p 8 1) 2 || s.portExists (num p 10 2))

/-- FWD_MAC_READ. -/
def fwdMacReadSpec : OpSpec where
  code := 0x2102
  length p := p.length == 8
  range _ p := vlanOk (num p 6 2)

/-- FWD_MAC_FLUSH. -/
def fwdMacFlushSpec : OpSpec where
  code := 0x2103
  noTxn := true
  length p := p.length == 4
  range s p := (num p 0 2 == 0xFFFF || s.portExists (num p 0 2)) && (num p 2 2 == 0 || vlanOk (num p 2 2))

/-- FWD_VLAN_WRITE. -/
def fwdVlanWriteSpec : OpSpec where
  code := 0x2104
  noTxn := true
  length p := p.length == 16
  range _ p := vlanOk (num p 0 2) && decide (num p 2 1 < 16) && num p 3 1 == 0 && decide (num p 4 2 < 512)
    && decide (num p 6 1 < 16) && (p.drop 7).all (· == 0)

/-- FWD_VLAN_READ. -/
def fwdVlanReadSpec : OpSpec where
  code := 0x2105
  length p := p.length == 2
  range _ p := vlanOk (num p 0 2)

/-- FWD_ROUTE_WRITE. -/
def fwdRouteWriteSpec : OpSpec where
  code := 0x2106
  noTxn := true
  length p := p.length == 24
  range _ p :=
    let e := p.drop 4
    let v6 := bit (num e 0 1) 1
    let n := num e 1 1
    decide (num p 0 2 < 8192) && num p 2 2 == 0 && decide (num e 0 1 < 4) && decide (n ≤ if v6 then 128 else 32)
      && decide (num e 2 2 < 4096)
      && decide (ofLe (slice e 4 (if v6 then 16 else 4)).reverse % 2 ^ ((if v6 then 128 else 32) - n) = 0)
      && (v6 || (e.drop 8).all (· == 0))

/-- FWD_NH_WRITE. -/
def fwdNhWriteSpec : OpSpec where
  code := 0x2107
  noTxn := true
  length p := p.length == 20
  range s p :=
    let e := p.drop 4
    decide (num p 0 2 < 4096) && num p 2 2 == 0 && decide (num e 0 1 < 4) && num e 1 1 == 0
      && s.portExists (num e 2 2) && decide (num e 4 2 < 4096) && num e 12 4 == 0

/-- FWD_ACL_WRITE. -/
def fwdAclWriteSpec : OpSpec where
  code := 0x2108
  noTxn := true
  length p := p.length == 100
  range s p :=
    let e := p.drop 4
    let most := if bits (num e 0 1) 2 1 = 1 then 32 else 128
    decide (num p 0 2 < 2048) && num p 2 2 == 0 && decide (num e 0 1 < 128) && decide (num e 1 1 ≤ most)
      && decide (num e 2 1 ≤ most) && decide (num e 8 2 < 4096) && decide (num e 28 1 < 64) && num e 29 3 == 0
      && decide (num e 32 2 ≤ num e 34 2) && decide (num e 36 2 ≤ num e 38 2) && decide (num e 72 1 ≤ 4)
      && decide (num e 73 1 < 128) && decide (bits (num e 73 1) 6 5 ≤ 2)
      && (num e 72 1 != 2 || s.portExists (num e 74 2))
      && (decide (num e 76 2 < 2048) || num e 76 2 == 0xFFFF) && (e.drop 78).all (· == 0)

/-- FWD_TABLE_READ. -/
def fwdTableReadSpec : OpSpec where
  code := 0x2109
  length p := p.length == 4
  range _ p := num p 1 1 == 0 && (match num p 0 1 with
    | 0 => decide (num p 2 2 < 8192)
    | 1 => decide (num p 2 2 < 4096)
    | 2 => decide (num p 2 2 < 2048)
    | _ => false)

/-- FWD_FRAME_SEND. -/
def fwdFrameSendSpec : OpSpec where
  code := 0x210A
  length p := decide (22 ≤ p.length) && decide (p.length ≤ 4076)
  range s p := decide (num p 0 1 < 2) && num p 1 1 == 0 && num p 6 2 == 0
    && (if num p 0 1 = 1 then s.portExists (num p 2 2) else num p 4 2 == 0 || vlanOk (num p 4 2))

/-- TIME_FRAME_SEND, session 0 only. -/
def timeFrameSendSpec : OpSpec where
  code := 0x3006
  session0 := true
  length p := decide (18 ≤ p.length) && decide (p.length ≤ 4076)
  range _ p := decide (num p 0 1 < 4) && num p 1 1 == 0

/-- The way of a bucket for a key: its own, a free one, the dynamic one least recently seen (R278). -/
def State.macWay (s : State) (mac : Bytes) (vlan : Nat) : Option Nat :=
  let b := macBucket mac vlan
  let oldest := (List.range 4).foldl (fun best w => match Table.find s.fwd.mac (4 * b + w) with
    | some e =>
      if bit (num e 8 1) 1 then best
      else (match best with
        | none => some (w, num e 12 4)
        | some (w', t) => if num e 12 4 < t then some (w, num e 12 4) else some (w', t))
    | none => best) (none : Option (Nat × Nat))
  ((s.macFind mac vlan).map fun k => k.1 % 4) <|> s.macFree b <|> oldest.map (·.1)

/-- FWD_MAC_WRITE writes a MAC entry into a way of its bucket. (DEDUCED: log 65.) -/
def execFwdMacWrite (c : Cmd) (p : Bytes) (s : State) : Host.Outcome State Fault Refusal :=
  .next (s.run fwdMacWriteSpec c p fun s =>
    let mac := p.take 6
    let vlan := num p 6 2
    let b := macBucket mac vlan
    if bit (num p 8 1) 0 then
      match s.macWay mac vlan with
      | some w => .done (s.setMac (4 * b + w) (patch p 12 (le 4 s.seconds))) Status.ok (le 2 b ++ le 1 w)
      | none => .fail Status.resourceBusy (le 2 b)
    else
      match s.macFind mac vlan with
      | some (k, _) => .done { s with fwd := { s.fwd with mac := Table.drop s.fwd.mac k } } Status.ok (le 2 b ++ le 1 (k % 4))
      | none => .done s Status.ok (le 2 b ++ le 1 (Config.absentWay b)))

/-- FWD_MAC_READ returns a MAC entry by key. -/
def execFwdMacRead (c : Cmd) (p : Bytes) (s : State) : Host.Outcome State Fault Refusal :=
  .next (s.run fwdMacReadSpec c p fun s =>
    .done s Status.ok (((s.macFind (p.take 6) (num p 6 2)).map (·.2)).getD (List.replicate 16 0)))

/-- FWD_MAC_FLUSH removes dynamic entries by port and VLAN. -/
def execFwdMacFlush (c : Cmd) (p : Bytes) (s : State) : Host.Outcome State Fault Refusal :=
  .next (s.run fwdMacFlushSpec c p fun s =>
    let (n, s) := s.dropMac fun e => (num p 0 2 == 0xFFFF || num e 10 2 == num p 0 2) && (num p 2 2 == 0 || num e 6 2 % 4096 == num p 2 2)
    .done s Status.ok (le 2 n))

/-- FWD_VLAN_WRITE writes a VLAN entry. -/
def execFwdVlanWrite (c : Cmd) (p : Bytes) (s : State) : Host.Outcome State Fault Refusal :=
  .next (s.run fwdVlanWriteSpec c p fun s =>
    .done { s with fwd := { s.fwd with vlans := Table.put s.fwd.vlans (num p 0 2) p } } Status.ok [])

/-- FWD_VLAN_READ returns a VLAN entry. -/
def execFwdVlanRead (c : Cmd) (p : Bytes) (s : State) : Host.Outcome State Fault Refusal :=
  .next (s.run fwdVlanReadSpec c p fun s => .done s Status.ok (s.vlan (num p 0 2)))

/-- Another valid prefix entry with the same family, length and prefix (R282). -/
def State.routeTwin (s : State) (i : Nat) (e : Bytes) : Option Nat :=
  if bit (num e 0 1) 0 then
    (s.fwd.routes.find? fun x => x.1 != i && bit (num x.2 0 1) 0 && bit (num x.2 0 1) 1 == bit (num e 0 1) 1
      && num x.2 1 1 == num e 1 1 && x.2.drop 4 == e.drop 4).map (·.1)
  else none

/-- FWD_ROUTE_WRITE writes a prefix entry, refusing duplicates. -/
def execFwdRouteWrite (c : Cmd) (p : Bytes) (s : State) : Host.Outcome State Fault Refusal :=
  .next (s.run fwdRouteWriteSpec c p fun s =>
    match s.routeTwin (num p 0 2) (p.drop 4) with
    | some k => .fail Status.resourceBusy (le 2 k)
    | none => .done { s with fwd := { s.fwd with routes := Table.put s.fwd.routes (num p 0 2) (p.drop 4) } } Status.ok [])

/-- FWD_NH_WRITE writes a next-hop entry. -/
def execFwdNhWrite (c : Cmd) (p : Bytes) (s : State) : Host.Outcome State Fault Refusal :=
  .next (s.run fwdNhWriteSpec c p fun s =>
    .done { s with fwd := { s.fwd with nextHops := Table.put s.fwd.nextHops (num p 0 2) (p.drop 4) } } Status.ok [])

/-- FWD_ACL_WRITE writes an access-control entry and zeroes its hit counter. -/
def execFwdAclWrite (c : Cmd) (p : Bytes) (s : State) : Host.Outcome State Fault Refusal :=
  .next (s.run fwdAclWriteSpec c p fun s =>
    .done (({ s with fwd := { s.fwd with acl := Table.put s.fwd.acl (num p 0 2) (p.drop 4) } }).setReg64
      (Reg.fwdAclHitLo (num p 0 2)) 0) Status.ok [])

/-- FWD_TABLE_READ returns a prefix, next-hop or access-control entry. -/
def execFwdTableRead (c : Cmd) (p : Bytes) (s : State) : Host.Outcome State Fault Refusal :=
  .next (s.run fwdTableReadSpec c p fun s =>
    let i := num p 2 2
    .done s Status.ok (match num p 0 1 with
      | 0 => (Table.find s.fwd.routes i).getD (List.replicate 20 0)
      | 1 => (Table.find s.fwd.nextHops i).getD blankHop
      | _ => (Table.find s.fwd.acl i).getD (List.replicate 96 0)))

/-- A frame sent straight to a port: steps 1 to 6 are skipped (R289, R342). -/
def State.sendDirect (s : State) (bytes : Bytes) (port : Nat) (stamp : Option Nat) : Option State :=
  let cells := cellsOf bytes.length
  if s.freeCells < cells then none
  else
    let (id, s) := s.takeCells cells none false
    let f := frameOf bytes
    let vlan := match f.tag with
      | some t => if t % 4096 = 0 then s.fld Reg.fwdHostCfg 11 0 else t % 4096
      | none => s.fld Reg.fwdHostCfg 11 0
    let mark := (f.tag.map (· / 4096)).getD 0
    some (s.egressAll f { buffer := id, vlan := vlan, cls := 0, colour := 0, mark := mark, stamp := stamp } [port])

/-- FWD_FRAME_SEND injects a host frame through the lookup or straight to a port. -/
def execFwdFrameSend (c : Cmd) (p : Bytes) (s : State) : Host.Outcome State Fault Refusal :=
  .next (s.run fwdFrameSendSpec c p fun s =>
    if num p 0 1 = 1 then
      if c.session ≠ 0 then .fail Status.notPermitted []
      else
        match s.sendDirect (p.drop 8) (num p 2 2) none with
        | some s => .done s Status.ok []
        | none => .fail Status.resourceBusy []
    else
      match s.enter 0x80 (num p 4 2) (p.drop 8) [] with
      | (true, s) => .done s Status.ok []
      | (false, _) => .fail Status.resourceBusy [])

/-- TIME_FRAME_SEND sends a frame straight on a port with a stamp identifier (R342). -/
def execTimeFrameSend (c : Cmd) (p : Bytes) (s : State) : Host.Outcome State Fault Refusal :=
  .next (s.run timeFrameSendSpec c p fun s =>
    let port := num p 0 1
    if s.ptpOn port then .fail Status.resourceBusy ([1] ++ le 1 port)
    else
      match s.sendDirect (p.drop 4) port (some (num p 2 2)) with
      | some s => .done s Status.ok []
      | none => .fail Status.resourceBusy [])

end Sys2Proof.Machine
end

