-- ==== Sys2Proof/Machine/Ethernet.lean ====
section
/-! DEFINITION. The Ethernet ports (chapter 8): receive checks, counters, PAUSE, link state, rate lowering. -/

namespace Sys2Proof.Machine

/-! ### Counters (R262 to R264) -/

/-- Counter `k` of port `n` advanced; a change of its bit 63 sets its half bit. -/
def State.emacCount (s : State) (n k : Nat) (amount : Nat := 1) : State :=
  let old := s.reg64 (Reg.emacCntLo n k)
  let new := (old + amount) % 2 ^ 64
  let s := s.setReg64 (Reg.emacCntLo n k) new
  if bit old 63 = bit new 63 then s
  else
    let (stat, mask, b) := if k < 32 then (Reg.emacHalfStatLo n, Reg.emacHalfMaskLo n, k)
      else (Reg.emacHalfStatHi n, Reg.emacHalfMaskHi n, k - 32)
    let s := s.setFlag stat b true
    if s.flag mask b then s.raise 0x2003 0 (le 1 n ++ le 1 k ++ le 1 (bitOf (bit new 63))) else s

/-- The size bin of a length: 0 for 64 octets to 8 for 4,096 and above (Table 8-7). -/
def sizeBin (n : Nat) : Nat :=
  if n ≤ 64 then 0 else if n ≤ 127 then 1 else if n ≤ 255 then 2 else if n ≤ 511 then 3 else if n ≤ 1023 then 4
  else if n ≤ 1518 then 5 else if n ≤ 2047 then 6 else if n ≤ 4095 then 7 else 8

/-- 0 unicast, 1 multicast, 2 broadcast. -/
def castOf (dst : Bytes) : Nat :=
  if dst == List.replicate 6 0xFF then 2 else if isGroup dst then 1 else 0

/-- The counters of a good received frame (R263). (DEDUCED: log 60.) -/
def State.countGood (s : State) (n length : Nat) (f : Frame) (pause : Bool) : State :=
  let s := ((s.emacCount n 0 length).emacCount n 2).emacCount n (3 + castOf f.dst)
  let s := if f.tag.isSome then s.emacCount n 6 else s
  let s := if pause then s.emacCount n 7 else s
  s.emacCount n (8 + sizeBin length)

/-- The counters of a transmitted frame. -/
def State.countSent (s : State) (n : Nat) (c : Copy) (pause : Bool) : State :=
  let f := frameOf c.bytes
  let s := ((s.emacCount n 26 c.length).emacCount n 27).emacCount n (28 + castOf f.dst)
  let s := if f.tag.isSome then s.emacCount n 31 else s
  let s := if pause then s.emacCount n 32 else s
  s.emacCount n (33 + sizeBin c.length)

/-! ### Port state -/

/-- Whether the port is enabled. -/
def State.ethOn (s : State) (p : Nat) : Bool := s.flag (Reg.emacCtl p) 0

/-- Whether its link is up. -/
def State.linkOn (s : State) (p : Nat) : Bool := s.flag (Reg.emacStat p) 0

/-- `n` × 512 bit times at the port's present rate, ns (R253). -/
def State.bitTimes (s : State) (p n : Nat) : Nat := if s.flag (Reg.emacStat p) 1 then n * 2048 / 10 else n * 512

/-- Whether a port can begin a frame: link up, line free, no received pause and no rate change. -/
def State.lineFree (s : State) (p : Nat) : Bool :=
  s.ethOn p && s.linkOn p && (s.port p).line.isNone && !s.flag (Reg.emacStat p) 5 && (s.port p).idle == 0
    && !s.flag (Reg.emacStat p) 7

/-! ### PAUSE (R253, R254) -/

/-- A PAUSE frame without FCS. -/
def State.pauseFrame (s : State) (p quanta : Nat) : Bytes :=
  padTo 60 ([0x01, 0x80, 0xC2, 0x00, 0x00, 0x01] ++ le 4 (s.reg (Reg.emacMacLo p)).toNat
    ++ le 2 (s.fld (Reg.emacMacHi p) 15 0) ++ be 2 0x8808 ++ be 2 1 ++ be 2 quanta)

/-- An owed PAUSE frame takes the transmit opportunity. (DEDUCED: log 61.) -/
def State.startPause (s : State) (p : Nat) : State :=
  match (s.port p).pauseOwed with
  | some q =>
    if s.lineFree p then
      let c : Copy := { buffer := 0, bytes := s.pauseFrame p q, length := 64, port := p }
      s.modPort p fun e => { e with line := some c, pauseOnLine := true, pauseOwed := none, pauseSent := s.elapsed }
    else s
  | none => s

/-- The ingress share of a port held against its limit: a PAUSE asked for, or ended. (DEDUCED: log 61.) -/
def State.pauseCheck (s : State) (p : Nat) : State :=
  let share := s.fld (Reg.tmIngStat p) 14 0
  let limit := s.fld (Reg.tmIng p) 14 0
  let e := s.port p
  if !(s.ethOn p && s.flag (Reg.emacCtl p) 4) then s
  else if !e.pausing && decide (3 * limit < 4 * share) then
    (s.modPort p fun e => { e with pausing := true, pauseOwed := some 0xFFFF }).startPause p
  else if e.pausing && decide (2 * share < limit) then
    (s.modPort p fun e => { e with pausing := false, pauseOwed := some 0 }).startPause p
  else s.startPause p

/-- The same for every port. -/
def State.pauseAll (s : State) : State := (List.range 4).foldl (fun s p => s.pauseCheck p) s

/-- PAUSE_EXPIRY: a received pause time runs out, and transmission resumes. -/
def execPauseExpiry (port : Nat) (s : State) : Host.Outcome State Fault Refusal :=
  .next (
    if s.flag (Reg.emacStat port) 5 then
      ((s.reachElapsed (s.port port).pausedUntil).setFlag (Reg.emacStat port) 5 false).startPause port
    else s)

/-- PAUSE_REPEAT: while the share stays above half, the PAUSE is repeated. (DEDUCED: log 61.) -/
def execPauseRepeat (port : Nat) (s : State) : Host.Outcome State Fault Refusal :=
  .next (
    if (s.port port).pausing && decide (s.fld (Reg.tmIng port) 14 0 < 2 * s.fld (Reg.tmIngStat port) 14 0) then
      let s := s.reachElapsed ((s.port port).pauseSent + s.bitTimes port 0x8000)
      (s.modPort port fun e => { e with pauseOwed := some 0xFFFF }).startPause port
    else s)

/-! ### Receive (Table 8-1, R45, R250 to R253, R309) -/

/-- Whether the FCS of a frame is right. -/
def fcsOk (f : Bytes) : Bool := decide (4 ≤ f.length) && ofLe (f.drop (f.length - 4)) == crc32 (f.take (f.length - 4))

/-- Whether an EtherType 0x88B5 frame is accepted on a port (R45). -/
def State.inbandAccepts (s : State) (p : Nat) (f : Frame) : Bool :=
  s.flag Reg.sysInbandCtl 16 && s.flag Reg.sysInbandCtl p
    && (match f.tag with
      | some t => t % 4096
      | none => 0) == s.fld Reg.sysInbandCtl 15 4

/-- The counter of the first check of Table 8-1 that a frame fails. (DEDUCED: log 60.) -/
def State.rxFails (s : State) (p : Nat) (frame : Bytes) (codeError : Bool) : Option Nat :=
  let n := frame.length
  let f := frameOf frame
  let data := f.body.length - 6
  let type := f.type
  if codeError then some 22
  else if 9600 < n then some 21
  else if s.fld (Reg.emacMaxlen p) 13 0 < n then some 20
  else if n < 64 then some (if fcsOk frame then 18 else 19)
  else if !fcsOk frame then some 17
  else if type ≤ 1500 ∧ ¬ (type = data ∨ (n = 64 ∧ type ≤ data)) then some 23
  else if (1500 < type && decide (type ≤ 1535)) || isGroup f.src
      || (type == 0x8808 && (numBe f.body 2 2 != 1 || !s.flag (Reg.emacCtl p) 3))
      || (type == 0x88B5 && !s.inbandAccepts p f) then some 24
  else if s.freeCells < cellsOf n ∨ s.fld (Reg.tmIng p) 14 0 < s.fld (Reg.tmIngStat p) 14 0 + cellsOf n then some 25
  else none

/-- A received PAUSE obeyed. (DEDUCED: log 61.) -/
def State.obeyPause (s : State) (p quanta : Nat) : State :=
  let s := s.modPort p fun e => { e with pausedUntil := s.elapsed + s.bitTimes p quanta }
  s.setFlag (Reg.emacStat p) 5 (quanta != 0)

/-- A whole frame received on a port: the state after its checks and counters, and, of an in-band command frame,
the source address, the VLAN and the payload. `fails` says that its stamp fails the check. -/
def State.ethReceive (s : State) (p : Nat) (frame : Bytes) (codeError fails : Bool) : Option (Bytes × Nat × Bytes) × State :=
  if !(s.on .pkt && s.ethOn p && s.linkOn p) then (none, s)
  else
    let n := frame.length
    let fail := s.rxFails p frame codeError
    let s := s.emacCount p 1 (min n 9601)
    match fail with
    | some k => (none, s.emacCount p k)
    | none =>
      let f := frameOf frame
      let body := frame.take (n - 4)
      let pause := f.type == 0x8808
      let s := s.countGood p n f pause
      if pause then (none, (s.obeyPause p (numBe f.body 4 2)).startPause p)
      else if f.type = 0x88B5 then
        let g := frameOf body
        (some (g.src, (match g.tag with
          | some t => t % 4096
          | none => 0), g.body.drop 2), s)
      else
        let (id, s) := s.takeCells (cellsOf n) (some p) false
        let (t, _, s) := if f.isPtp then s.stampFor p false fails else (s.stampNow p false, false, s)
        let s := s.pushInbound { port := p, bytes := body, report := [], buffer := id, length := n, stamp := t.1 }
        (none, s.pauseAll)

/-! ### Link state (R255 to R257) -/

/-- The frame on the line is lost (R256). (DEDUCED: log 62.) -/
def State.loseLine (s : State) (p : Nat) : State :=
  match (s.port p).line with
  | none => s
  | some c =>
    let s := s.emacCount p 42
    let s := if (s.port p).pauseOnLine then s else s.dropCopy c.buffer
    s.modPort p fun e => { e with line := none, pauseOnLine := false }

/-- The time function loses a port's link (Table 11-3). -/
def State.loseMaster (s : State) (p : Nat) : State :=
  let left := s.time.masters.filter (· != p)
  let s := { s with time := { s.time with masters := left } }
  if s.timeSource = 1 ∧ s.slavePort = p then
    match s.pickSlave left with
    | none => (s.setSlave 0xF).loseSource
    | some m => s.setSlave m
  else s

/-- A port's link goes down: what is on the line, its queues under down_flush, its MAC entries, its master
(R256, R280, R310). (DEDUCED: log 62.) -/
def State.linkLost (s : State) (p : Nat) : State :=
  let s := (s.setFlag (Reg.emacStat p) 0 false).setFlag (Reg.emacStat p) 2 false
  let s := s.loseLine p
  let s := if s.flag (Reg.tmPortCfg p) 0 then s.flushNode p else s
  ((s.forgetPort p).loseMaster p).pauseAll

/-- EMAC_LINK_DOWN. -/
def State.raiseLinkDown (s : State) (p reason : Nat) : State := s.raise 0x2001 1 (le 1 p ++ le 1 reason)

/-- The transmitter at electrical idle. (DEDUCED: log 62.) -/
def State.goIdle (s : State) (p kind : Nat) : State := s.modPort p fun e => { e with idle := kind, idleSince := s.elapsed }

/-- PCS_SYNC_CHANGE: a port's PCS gains or loses code-group synchronisation. -/
def execPcsSyncChange (port : Nat) (sync : Bool) (s : State) : Host.Outcome State Fault Refusal :=
  .next (
    if !(s.awake && s.on .pkt && s.ethOn port) || s.flag (Reg.emacStat port) 3 == sync then s
    else
      (s.setFlag (Reg.emacStat port) 3 sync).modPort port fun e => { e with
        syncSince := if sync then some s.elapsed else none
        lossSince := if sync then none else some s.elapsed })

/-- LINK_UP: after 1 ms of synchronisation, and auto-negotiation where used, the link comes up. -/
def execLinkUp (port : Nat) (partner : Option Nat) (s : State) : Host.Outcome State Fault Refusal :=
  .next (
    let e := s.port port
    let an := s.flag (Reg.emacCtl port) 2
    match e.syncSince with
    | some t =>
      if !(s.awake && s.on .pkt && s.ethOn port) || s.linkOn port || e.idle != 0 || (an && partner.isNone) then s
      else
        let s := s.reachElapsed (1000000 + t)
        let s := ((s.setFlag (Reg.emacStat port) 0 true).setFlag (Reg.emacStat port) 2 an).setFlag (Reg.emacStat port) 4 false
        let speed := s.fld (Reg.emacStat port) 1 1
        let s := match e.change with
          | some cause =>
            let s := s.setFlag (Reg.emacStat port) 7 false
            let s := if cause = 2 then s.setFlag (Reg.emacCtl port) 5 false else s
            let s := (s.bumpFld (Reg.emacRateStat port) 15 0).modPort port fun e => { e with change := none, quietWindows := 0 }
            s.raise 0x2002 0 (le 1 port ++ le 1 speed ++ le 1 cause ++ le 1 e.deciding)
          | none => s.raise 0x2000 0 (le 1 port ++ le 1 speed ++ le 1 (if an then partner.getD 0 else 0))
        s.startPause port
    | none => s)

/-- LINK_DOWN: a loss that lasted link_hold takes the link down: 0 synchronisation, 1 auto-negotiation restart or
remote fault. (DEDUCED: log 62.) -/
def execLinkDown (port reason : Nat) (remoteFault : Bool) (s : State) : Host.Outcome State Fault Refusal :=
  .next (
    let e := s.port port
    let hold := 1000000 * s.fld (Reg.emacCtl port) 25 16
    if !s.linkOn port || s.flag (Reg.emacStat port) 7 then s
    else
      match reason, e.lossSince with
      | 0, some t => ((s.reachElapsed (t + hold)).linkLost port).raiseLinkDown port 0
      | 1, _ =>
        if s.flag (Reg.emacCtl port) 2 then
          ((s.setFlag (Reg.emacStat port) 4 remoteFault).linkLost port).raiseLinkDown port 1
        else s
      | _, _ => s)

/-- RESTART_IDLE_END: the 2 ms idle of a link restart ends, and the port switches setting (R257). -/
def execRestartIdleEnd (port : Nat) (s : State) : Host.Outcome State Fault Refusal :=
  .next (
    if (s.port port).idle = 1 then
      let s := s.reachElapsed (2000000 + (s.port port).idleSince)
      (s.setFlag (Reg.emacStat port) 1 (s.flag (Reg.emacCtl port) 1)).modPort port fun e => { e with idle := 0 }
    else s)

/-! ### Registers with an effect (R257, R261, R323) -/

/-- The check of a write of EMAC_n_CTL, beyond the ranges of its fields. -/
def State.emacCtlCheck (s : State) (p : Nat) (new : Word) : Option (Nat × Bytes) :=
  let fast := field new 1 1 = 1
  if field new 2 2 = 1 ∧ fast then some (Status.paramRange, [])
  else if field new 5 5 = 1 ∧ ¬ fast then some (Status.paramRange, [])
  else if field new 5 5 = 1 ∧ s.ptpOn p then some (Status.resourceBusy, [1] ++ le 1 p)
  else none

/-- What a checked write of EMAC_n_CTL does, once its word is stored. -/
def State.emacCtlWritten (s : State) (p : Nat) (old new : Word) : State :=
  let was := field old 0 0 = 1
  let now := field new 0 0 = 1
  let s := if field new 4 4 = 0 then s.modPort p fun e => { e with pausing := false, pauseOwed := none } else s
  let s := if field new 5 5 = 0 then s.modPort p fun e => { e with quietWindows := 0 } else s
  if ¬ was ∧ now then
    (s.needGate (9 + p)).setFlag (Reg.emacStat p) 1 (field new 1 1 = 1)
  else if was ∧ ¬ now then
    let up := s.linkOn p
    let s := s.linkLost p
    let s := s.setFld (Reg.emacStat p) 7 0 0
    let s := s.modPort p fun e => { e with idle := 0, change := none, syncSince := none, lossSince := none, quietWindows := 0, pausing := false, pauseOwed := none }
    if up then s.raiseLinkDown p 2 else s
  else if was ∧ now ∧ (field old 1 1 ≠ field new 1 1 ∨ field old 2 2 ≠ field new 2 2) then
    let s := s.linkLost p
    let s := (s.setFlag (Reg.emacStat p) 6 false).setFlag (Reg.emacStat p) 7 false
    let s := s.modPort p fun e => { e with change := none, quietWindows := 0 }
    (s.goIdle p 1).raiseLinkDown p 3
  else s

/-- The check of a write of TIME_PTP_e_CFG (R261, R323, R455). (DEDUCED: log 73.) -/
def State.ptpCheck (s : State) (p : Nat) (old new : Word) : Option (Nat × Bytes) :=
  if field old 0 0 = 0 ∧ field new 0 0 = 1 then
    if s.flag (Reg.emacCtl p) 5 then some (Status.resourceBusy, [2] ++ le 1 p)
    else if s.fld (Reg.clkSsc 1) 12 0 ≠ 0 then some (Status.resourceBusy, [3] ++ le 1 p)
    else none
  else none

/-- What a checked write of TIME_PTP_e_CFG does, once its word is stored. -/
def State.ptpWritten (s : State) (p : Nat) (new : Word) : State :=
  let on := field new 0 0 = 1
  let s := s.setFlag (Reg.emacStat p) 8 on
  if on then s else s.loseMaster p

/-! ### Rate lowering (R258 to R260) -/

/-- A rate change begins: 0 lowering, 1 raising, 2 returning. -/
def State.changeRate (s : State) (p cause u : Nat) : State :=
  let s := (s.setFlag (Reg.emacStat p) 7 true).modPort p fun e => { e with
    change := some cause, deciding := u, quietWindows := 0 }
  match (s.port p).line with
  | none => (s.linkLost p).goIdle p 2
  | some _ => s.modPort p fun e => { e with idle := 3 }

/-- RATE_WINDOW_END: a utilisation window ends, and the port may lower or raise its rate. (DEDUCED: log 62.) -/
def execRateWindowEnd (port percent : Nat) (s : State) : Host.Outcome State Fault Refusal :=
  .next (
    if !(s.on .pkt && s.ethOn port && s.linkOn port) || s.flag (Reg.emacStat port) 7 then s
    else
      let s := s.setFld (Reg.emacRateStat port) 23 16 (min percent 255)
      let rate := s.reg (Reg.emacRate port)
      if !(s.flag (Reg.emacCtl port) 5 && s.flag (Reg.emacCtl port) 1) then s
      else if s.flag (Reg.emacStat port) 1 then
        if percent < field rate 7 0 then
          let s := s.modPort port fun e => { e with quietWindows := e.quietWindows + 1 }
          if field rate 27 16 ≤ (s.port port).quietWindows then s.changeRate port 0 percent else s
        else s.modPort port fun e => { e with quietWindows := 0 }
      else if field rate 15 8 < percent then s.changeRate port 1 percent
      else s)

/-- RATE_IDLE_END: the electrical idle of a rate change ends, and the SerDes switches rate. -/
def execRateIdleEnd (port : Nat) (s : State) : Host.Outcome State Fault Refusal :=
  .next (
    if (s.port port).idle = 2 then
      let s := s.reachElapsed (2000000 + (s.port port).idleSince)
      let fast := !s.flag (Reg.emacStat port) 1
      ((s.setFlag (Reg.emacStat port) 1 fast).setFlag (Reg.emacStat port) 6 (!fast)).modPort port fun e => { e with idle := 0 }
    else s)

/-- RATE_RETRAIN_TIMEOUT: a link not up within 500 ms of a rate change returns to the former rate, or goes down.
(DEDUCED: log 62.) -/
def execRateRetrainTimeout (port : Nat) (s : State) : Host.Outcome State Fault Refusal :=
  .next (
    let e := s.port port
    match e.change with
    | none => s
    | some cause =>
      if s.linkOn port || e.idle != 0 then s
      else
        let s := s.reachElapsed (500000000 + e.idleSince)
        if cause = 2 then
          let s := (s.setFlag (Reg.emacStat port) 7 false).setFlag (Reg.emacCtl port) 5 false
          (s.modPort port fun e => { e with change := none }).raiseLinkDown port 0
        else s.changeRate port 2 e.deciding)

/-! ### The transmit line -/

/-- ETH_TX_END: a frame finishes on a port's transmit line, and the port is free again. -/
def execEthTxEnd (port : Nat) (s : State) : Host.Outcome State Fault Refusal :=
  .next (
    match (s.port port).line with
    | none => s
    | some c =>
      let pause := (s.port port).pauseOnLine
      let s := s.countSent port c pause
      let s := if pause then s else s.dropCopy c.buffer
      let s := s.modPort port fun e => { e with line := none, pauseOnLine := false }
      let s := if (s.port port).idle = 3 then (s.linkLost port).goIdle port 2 else s
      s.pauseAll)

/-- The packet engine decides the oldest frame that waits. -/
def State.decideNext (s : State) : State :=
  match s.fwd.inbox with
  | [] => s
  | i :: l => if s.awake then (({ s with fwd := { s.fwd with inbox := l } }).lookup i).pauseAll else s

/-- The oldest frame that waits has a cell that cannot be read: it is dropped, in flush_drop of its port's node (R542).
(DEDUCED: log 120.) -/
def State.loseNext (s : State) : State :=
  match s.fwd.inbox with
  | [] => s
  | i :: l =>
    if s.awake then
      ((({ s with fwd := { s.fwd with inbox := l } } : State).tmCount (s.portNode i.port) 9).freeBuffer i.buffer).pauseAll
    else s

/-! ### Commands (R265) -/

/-- EMAC_STATS_READ. -/
def emacStatsReadSpec : OpSpec where
  code := 0x2001
  length p := p.length == 4
  range _ p := decide (num p 0 1 < 4) && num p 1 3 == 0

/-- EMAC_STATS_READ returns all counters of a port, copied in one cycle. -/
def execEmacStatsRead (c : Cmd) (p : Bytes) (s : State) : Host.Outcome State Fault Refusal :=
  .next (s.run emacStatsReadSpec c p fun s =>
    let n := num p 0 1
    .done s Status.ok (le 4 (s.reg (Reg.emacStat n)).toNat
      ++ (List.range 44).flatMap fun k => le 8 (s.reg64 (Reg.emacCntLo n k))))

end Sys2Proof.Machine
end

