-- ==== Sys2Proof/Machine/Meas.lean ====
section
/-! DEFINITION. Feeder metering (chapter 13): inputs and converters, windows and their quantities, waveform capture
and relay read-back. -/

namespace Sys2Proof.Machine

/-! ### Inputs and converters (R363, R365) -/

/-- The type of an input: 0 unused, 1 voltage, 2 current. -/
def State.inputType (s : State) (i : Nat) : Nat := s.fld (Reg.measInCfg i) 1 0

/-- Inputs enabled. -/
def State.inputsOn (s : State) : List Nat := (List.range 18).filter fun i => s.inputType i != 0

/-- The converter channel of an input. -/
def State.channelOf (s : State) (i : Nat) : Nat := s.fld (Reg.measInCfg i) 12 8

/-- Converter channels in service that serve no input, in order. -/
def State.idleChannels (s : State) : List Nat :=
  (List.range 18).filter fun c => s.unitState 2 c == .serving && !(s.inputsOn.any fun i => s.channelOf i == c)

/-- An enabled input routed to the lowest idle channel in service, or left unsampled (R363, R365). -/
def State.routeInput (s : State) (i : Nat) : State :=
  match s.idleChannels with
  | c :: _ => (s.setFld (Reg.measInCfg i) 12 8 c).setFlag (Reg.measInCfg i) 13 false
  | [] => (s.setFld (Reg.measInCfg i) 12 8 0x1F).setFlag (Reg.measInCfg i) 13 true

/-- The check of a write of MEAS_IN_i_CFG (R363). -/
def State.inputCheck (s : State) (old new : Word) : Option (Nat × Bytes) :=
  let serving := s.fld Reg.measStat 4 0
  if field old 1 0 = 0 ∧ field new 1 0 ≠ 0 ∧ serving < s.inputsOn.length + 1 then
    some (Status.resourceBusy, le 1 serving ++ le 1 s.inputsOn.length)
  else none

/-- What a checked write of MEAS_IN_i_CFG does, the old word still stored. -/
def State.inputWritten (s : State) (i : Nat) (old new : Word) : State :=
  let s := s.setFld (Reg.measInCfg i) 1 0 (field new 1 0)
  if field old 1 0 = 0 ∧ field new 1 0 ≠ 0 then (s.needGate 13).routeInput i
  else if field old 1 0 ≠ 0 ∧ field new 1 0 = 0 then
    let s := (s.setFld (Reg.measInCfg i) 12 8 0x1F).setFlag (Reg.measInCfg i) 13 false
    match s.inputsOn.find? fun k => s.flag (Reg.measInCfg k) 13 with
    | some k => s.routeInput k
    | none => s
  else s

/-- A pair is metered (R364). -/
def State.metered (s : State) (f : Nat) : Bool := s.inputType (2 * f) == 1 && s.inputType (2 * f + 1) == 2

/-! ### Samples (R330, R364) -/

/-- The code that an input delivers at a start: none while it is unsampled or its channel is being replaced. -/
def State.codeOf (s : State) (i : Nat) (code : Int) : Option Int :=
  if s.inputType i = 0 ∨ s.flag (Reg.measInCfg i) 13 ∨ s.unitState 2 (s.channelOf i) ≠ .serving then none
  else some (clampInt (-8388607) 8388607 code)

/-- The waveform capture takes a sample (R388). -/
def Wave.take (w : Wave) (x : Sample) : Wave :=
  if w.running && decide ((w.start : Int) ≤ x.instant) && decide (w.taken.length < w.length) then
    let inputs := bitsSet 18 w.inputs
    let row := inputs.map fun i => ((x.codes.getD i none).getD (Config.missingSample i x.instant))
    let missing := inputs.any fun i => (x.codes.getD i none).isNone
    let past := inputs.any fun i => match x.codes.getD i none with
      | some c => decide (8388607 ≤ c.natAbs)
      | none => false
    { w with
      taken := w.taken ++ [row]
      flags := Nat.lor w.flags (Nat.lor x.flags (4 * bitOf missing + 16 * bitOf past)) }
  else w

/-- Whether MEAS samples at the starts of its converters. -/
def State.sampling (s : State) : Bool := s.on .meas && s.awake && s.flag Reg.measCtl 0

/-- The next grid instant arrives, and MEAS samples every enabled input; a channel that fails its check gives no sample
(Table 21-1). -/
def State.startConverters (s : State) (samples : List Int) (failing : List Nat) : State :=
  let bound : Int := match s.time.lastStart with
    | some t => 62500 + t
    | none => s.netNs
  let instant := gridAfter (s.fld Reg.timeConvPhase 16 0) 125000 bound
  let s := s.reach instant
  let x : Sample := {
    instant := instant
    codes := (List.range 18).map fun i => if failing.contains (s.channelOf i) then none else s.codeOf i (samples.getD i 0)
    flags := bitOf s.unsure + 2 * bitOf s.time.stepped }
  { s with
    time := { s.time with lastStart := some (instant : Int), stepped := false }
    meas := { s.meas with samples := s.meas.samples ++ [x], wave := s.meas.wave.take x } }

/-! ### Windows (R366 to R368) -/

/-- A root whose rounding the manual does not state: √(n/d). (DESIGN CHOICE: log 11.) -/
def roundRoot (n d : Nat) : Nat :=
  let q := Nat.sqrt (n / d)
  if q * q * d = n then q else if Config.roundsUp n d then q + 1 else q

/-- A result register's value: the exact value where it fits. -/
def resultValue (v : Int) : Int := if saturate 32 v = v then v else Config.overflow v

/-- What a window gives a pair. -/
structure PairResult where
  quantities : List Int
  flags : Nat
  present : Nat
  total : Nat
  deriving DecidableEq, Repr

/-- The samples of a pair that are present, offsets subtracted. -/
def pairCodes (xs : List Sample) (f : Nat) (cv ci : Calibration) : List (Int × Int) :=
  xs.filterMap fun x => match x.codes.getD (2 * f) none, x.codes.getD (2 * f + 1) none with
    | some v, some i => some (v - cv.offset, i - ci.offset)
    | _, _ => none

/-- The quantities of Table 13-1 over the samples of a window. -/
def pairResult (xs : List Sample) (window f : Nat) (cv ci : Calibration) : PairResult :=
  let l := pairCodes xs f cv ci
  let n := l.length
  let a := cv.gain * cv.scale
  let b := ci.gain * ci.scale
  let sumSq := fun (g : Int × Int → Int) => (l.map fun e => (g e * g e).toNat).sum
  let peak := fun (g : Int × Int → Int) => (l.map fun e => (g e).natAbs).foldl max 0
  let vrms := roundRoot (sumSq (·.1) * (a * a)) (n * 2 ^ 106)
  let irms := roundRoot (1000000 * (sumSq (·.2) * (b * b))) (n * 2 ^ 106)
  let p := roundDiv ((l.map fun e => e.1 * e.2).sum * ((a * b : Nat) : Int)) (n * 2 ^ 106 * 1000)
  let q := roundDiv (Config.quadrature (l.map (·.1)) (l.map (·.2)) * ((a * b : Nat) : Int)) (2 ^ 106 * 1000)
  let va := roundDiv ((vrms * irms : Nat) : Int) 1000000
  let pf := if va = 0 then 0 else roundDiv (10000 * p) va.toNat
  let low := vrms * 20 < cv.scale
  let values : List Int := [vrms, irms, p, q, va, pf, if low then 0 else Config.frequency (l.map (·.1)),
    roundDiv ((peak (·.1) * a : Nat) : Int) (2 ^ 53), roundDiv ((peak (·.2) * b * 1000 : Nat) : Int) (2 ^ 53)]
  let past := xs.any fun x => [2 * f, 2 * f + 1].any fun i => match x.codes.getD i none with
    | some c => decide (8388607 ≤ c.natAbs)
    | none => false
  let missing := n != xs.length
  let flags := xs.foldl (fun m x => Nat.lor m x.flags) 0
  { quantities := if n = 0 then (List.range 9).map (Config.unmeasured f · window) else values.map resultValue
    flags := flags + 4 * bitOf missing + 8 * bitOf missing + 16 * bitOf past + 32 * bitOf low
    present := n
    total := xs.length }

/-- The constants that apply to a window that begins at an instant: the writes up to it (R370). -/
def State.applyConstants (s : State) (start : Int) : State :=
  let due := s.meas.constantWrites.filter fun w => decide (w.1 ≤ start)
  { s with meas := { s.meas with
    constants := due.foldl (fun l w => setAt l w.2.1 fun _ => w.2.2) s.meas.constants
    constantWrites := s.meas.constantWrites.filter fun w => !decide (w.1 ≤ start) } }

/-- The mean that counts for energy, missing samples replaced (R368). -/
def energyMean (mean previous : Int) (present total : Nat) : Int :=
  if total ≤ 2 * present then mean
  else roundDiv (mean * (present : Int) + previous * ((total - present : Nat) : Int)) total

/-- Energy of `micros` of a power, in µJ or µvar·s, added to an accumulator. -/
def State.addEnergy (s : State) (f e : Nat) (power : Int) (micros : Nat) : State :=
  if 0 < power then
    let a := Reg.measELo f e
    s.setReg64 a (((s.reg64 a : Int) + roundDiv (power * (micros : Int)) 1000).toNat % 2 ^ 64)
  else s

/-- The energies of a pair advanced by one window (R367). -/
def State.pairEnergy (s : State) (f : Nat) (r : PairResult) (micros : Nat) : State :=
  let mp := s.meas.meanP.getD f 0
  let mq := s.meas.meanQ.getD f 0
  let p0 := if r.present = 0 then mp else r.quantities.getD 2 0
  let q0 := if r.present = 0 then mq else r.quantities.getD 3 0
  let p := energyMean p0 mp r.present r.total
  let q := energyMean q0 mq r.present r.total
  let s := (((s.addEnergy f 0 p micros).addEnergy f 1 (-p) micros).addEnergy f 2 q micros).addEnergy f 3 (-q) micros
  { s with meas := { s.meas with meanP := setAt s.meas.meanP f fun _ => p0, meanQ := setAt s.meas.meanQ f fun _ => q0 } }

/-- One pair's window published. (DEDUCED: log 77.) -/
def State.publishPair (s : State) (xs : List Sample) (window micros f : Nat) : State :=
  if !s.metered f then s
  else
    let r := pairResult xs window f (s.meas.constants.getD (2 * f) {}) (s.meas.constants.getD (2 * f + 1) {})
    let s := s.setReg (Reg.measWin f) (word window)
    let s := (List.range 9).foldl (fun s q => s.setReg (Reg.measQ f q) (word (unsigned 32 (r.quantities.getD q 0)))) s
    let s := s.setFld (Reg.measFlags f) 5 0 r.flags
    let s := if bit r.flags 2 then (s.bump (Reg.measCnt 1)).bump (Reg.measCnt 3) (r.total - r.present) else s
    let s := if bit r.flags 3 then s.bump (Reg.measCnt 2) else s
    let s := if bit r.flags 4 then s.bump (Reg.measCnt 4) else s
    s.pairEnergy f r micros

/-- Samples between the last old window and the first of a new interval: energy, and no window (R366).
(DEDUCED: log 77.) -/
def State.absorbGap (s : State) : State :=
  match s.meas.nextInterval, s.meas.samples with
  | some (b, i), x :: _ =>
    let period : Int := (10000000 * s.meas.interval : Nat)
    if b < (x.instant / period + 1) * period then
      let gap := s.meas.samples.takeWhile fun x => decide (x.instant < b)
      let s := s.applyConstants x.instant
      let s := (List.range 9).foldl (fun (s : State) f =>
        if s.metered f && !gap.isEmpty then
          s.pairEnergy f (pairResult gap 0 f (s.meas.constants.getD (2 * f) {}) (s.meas.constants.getD (2 * f + 1) {})) (gap.length * 125)
        else s) s
      { s with meas := { s.meas with samples := s.meas.samples.drop gap.length, interval := i, nextInterval := none } }
    else s
  | _, _ => s

/-- METER_WINDOW_PUBLISH: a window's results, 200 µs after its end. (DEDUCED: log 77.) -/
def execMeterWindowPublish (s : State) : Host.Outcome State Fault Refusal :=
  .next (
    let s := s.absorbGap
    match s.meas.samples with
    | [] => s
    | x :: _ =>
      let period := 10000000 * s.meas.interval
      let n := (x.instant / (period : Int)).toNat
      let xs := s.meas.samples.takeWhile fun y => decide (y.instant / (period : Int) = (n : Int))
      let s := s.reach (200000 + (n + 1) * period)
      let s := s.applyConstants (n * period : Nat)
      let s := { s with meas := { s.meas with samples := s.meas.samples.drop xs.length } }
      ((List.range 9).foldl (fun s f => s.publishPair xs n (period / 1000) f) s).bump (Reg.measCnt 0))

/-- What a checked write of MEAS_CTL does (R366). -/
def State.measCtlWritten (s : State) (old new : Word) : State :=
  let s := s.setReg Reg.measCtl new
  let i := field new 15 8
  let s := if field old 15 8 ≠ i then
      let period := 10000000 * i
      { s with meas := { s.meas with nextInterval := some (((s.netNs / period + 1) * period : Nat), i) } }
    else s
  if field old 0 0 = 0 ∧ field new 0 0 = 1 then
    let s := s.needGate 13
    { s with meas := { s.meas with samples := [], interval := i, nextInterval := none } }
  else s

/-- What a write of a constant of an input does: it waits for the next window boundary (R370). (DEDUCED: log 77.) -/
def State.constantWritten (s : State) (i : Nat) : State :=
  let c : Calibration := { scale := (s.reg (Reg.measInFs i)).toNat, gain := (s.reg (Reg.measInGain i)).toNat, offset := s.sfld (Reg.measInOfs i) 23 0 }
  { s with meas := { s.meas with constantWrites := s.meas.constantWrites ++ [((s.netNs : Int), i, c)] } }

/-! ### Relay read-back (R382) -/

/-- OUT_READBACK_CHECK: the level at a relay-drive ball is read back. -/
def execOutReadbackCheck (output : Nat) (level : Bool) (s : State) : Host.Outcome State Fault Refusal :=
  .next (
    if output < 8 || 16 ≤ output || !s.on .meas || !s.flag (Reg.outVal output) 16 then s
    else
      let s := s.setFlag (Reg.outStat output) 0 level
      let expected := s.flag (Reg.outVal output) 0 != s.flag (Reg.outCfg output) 26
      let ms := s.fld (Reg.outCfg output) 25 16
      let s := s.modOutput output fun o =>
        if level = expected then { o with agree := o.agree + 1, differ := 0 } else { o with differ := o.differ + 1, agree := 0 }
      let mismatch := s.flag (Reg.outStat output) 1
      if !mismatch && decide (ms ≤ (s.output output).differ) then
        (s.setFlag (Reg.outStat output) 1 true).raise 0x4001 1
          (le 1 output ++ le 1 (s.fld (Reg.outVal output) 0 0) ++ le 1 (bitOf level))
      else if mismatch && decide (ms ≤ (s.output output).agree) then s.setFlag (Reg.outStat output) 1 false
      else s)

/-! ### Commands (R388) -/

/-- MEAS_READ. -/
def measReadSpec : OpSpec where
  code := 0x4001
  length p := p.length == 1
  range _ p := decide (num p 0 1 < 9)

/-- MEAS_WAVE_CAPTURE. -/
def measWaveCaptureSpec : OpSpec where
  code := 0x4002
  length p := p.length == 18
  range s p := num p 0 3 != 0 && decide (num p 0 3 < 2 ^ 18) && num p 3 1 == 0 && decide (1 ≤ num p 4 4)
    && decide (num p 4 4 ≤ 65536) && decide (num p 4 4 * (bitsSet 18 (num p 0 3)).length ≤ 524288)
    && decide (num p 14 4 < 1000000000)
    && (1000000000 * num p 8 6 + num p 14 4) % 125000 == s.fld Reg.timeConvPhase 16 0 % 125000

/-- MEAS_WAVE_READ. -/
def measWaveReadSpec : OpSpec where
  code := 0x4003
  length p := p.length == 8
  range s p := decide (num p 0 1 < 18) && num p 1 1 == 0 && decide (1 ≤ num p 6 2) && decide (num p 6 2 ≤ 1019)
    && bit s.meas.wave.inputs (num p 0 1) && decide (num p 2 4 + num p 6 2 ≤ s.meas.wave.taken.length)

/-- The 19 words of a pair's snapshot; a pair that is not metered reads 0 (R364, R390). -/
def State.pairWords (s : State) (f : Nat) : List Word :=
  (List.range 19).map fun k => if s.metered f then s.reg (Reg.measWin f + 4 * k) else 0

/-- MEAS_READ returns a pair's window results as one snapshot. -/
def execMeasRead (c : Cmd) (p : Bytes) (s : State) : Host.Outcome State Fault Refusal :=
  .next (s.run measReadSpec c p fun s =>
    if !s.on .meas then .fail Status.notPermitted []
    else .done s Status.ok ((s.pairWords (num p 0 1)).flatMap fun w => le 4 w.toNat))

/-- Whether an outstanding command is a waveform capture. -/
def Work.isWave : Work → Bool
  | .waveCapture => true
  | _ => false

/-- MEAS_WAVE_CAPTURE starts a waveform capture to DRAM. -/
def execMeasWaveCapture (c : Cmd) (p : Bytes) (s : State) : Host.Outcome State Fault Refusal :=
  .next (s.run measWaveCaptureSpec c p fun s =>
    match s.holder fun o => o.work.isWave with
    | some h => .fail Status.resourceBusy h
    | none =>
      if !(s.on .meas && s.on .mem) then .fail Status.notPermitted []
      else
        let w : Wave := { inputs := num p 0 3, length := num p 4 4, start := 1000000000 * num p 8 6 + num p 14 4, running := true }
        .wait { s with meas := { s.meas with wave := w } } .waveCapture true)

/-- MEAS_WAVE_DONE: the last sample of a capture has been taken. -/
def execMeasWaveDone (s : State) : Host.Outcome State Fault Refusal :=
  .next (
    let w := s.meas.wave
    if w.running && decide (w.length ≤ w.taken.length) then
      let s := { s with meas := { s.meas with wave := { w with running := false } } }
      let s := s.finishWork Work.isWave (okUnless (s.exhausted 4 || s.flag Reg.darnSvc 14)) (le 4 w.taken.length)
      s.raise 0x4006 0 (le 3 w.inputs ++ le 4 w.taken.length ++ le 1 w.flags)
    else s)

/-- MEAS_WAVE_READ returns captured samples. -/
def execMeasWaveRead (c : Cmd) (p : Bytes) (s : State) : Host.Outcome State Fault Refusal :=
  .next (s.run measWaveReadSpec c p fun s =>
    let w := s.meas.wave
    let k := ((bitsSet 18 w.inputs).filter (· < num p 0 1)).length
    .done s Status.ok (((w.taken.drop (num p 2 4)).take (num p 6 2)).flatMap fun row => le 4 (unsigned 32 (row.getD k 0))))

end Sys2Proof.Machine
end

