-- ==== Sys2Proof/Machine/Rtc.lean ====
section
/-! DEFINITION. The real-time clock and its backup domain (chapter 12). -/

namespace Sys2Proof.Machine

/-! ### The calendar (R348) -/

/-- Whether a year is a leap year. -/
def leapYear (y : Nat) : Bool := decide (y % 4 = 0) && (decide (y % 100 ≠ 0) || decide (y % 400 = 0))

/-- Days of a month. -/
def monthDays (y m : Nat) : Nat :=
  if m = 2 then (if leapYear y then 29 else 28) else if m = 4 ∨ m = 6 ∨ m = 9 ∨ m = 11 then 30 else 31

/-- Whether a date is a real one in range (R352). -/
def dateOk (y m d : Nat) : Bool :=
  decide (2000 ≤ y) && decide (y ≤ 2399) && decide (1 ≤ m) && decide (m ≤ 12) && decide (1 ≤ d) && decide (d ≤ monthDays y m)

/-- Whether a time of day is valid (R352). -/
def timeOk (h m sec : Nat) : Bool := decide (h ≤ 23) && decide (m ≤ 59) && decide (sec ≤ 59)

/-- Day of the year, 1 to 366. -/
def yearDay (y m d : Nat) : Nat := ((List.range (m - 1)).map fun k => monthDays y (k + 1)).sum + d

/-- Days since 2000-01-01. -/
def dayNumber (y m d : Nat) : Nat :=
  let n := y - 2000
  365 * n + (n + 3) / 4 - (n + 99) / 100 + (n + 399) / 400 + yearDay y m d - 1

/-- Weekday of a date, 0 Sunday; 2000-01-01 is a Saturday. -/
def weekday (y m d : Nat) : Nat := (dayNumber y m d + 6) % 7

/-! ### Counting -/

/-- Whether the RTC is halted. (DEDUCED: log 74.) -/
def State.rtcHalted (s : State) : Bool := s.flag Reg.rtcCtl 0

/-- The prescaler now. -/
def State.ssec (s : State) : Nat :=
  let c := (s.reg Reg.rtcSsec).toNat
  if s.rtcHalted || s.rtc.stopped then c else min 32767 (c + 32768 * (s.elapsed - s.rtc.since) / 1000000000)

/-- The prescaler brought up to now. -/
def State.settleRtc (s : State) : State :=
  let s := s.setReg Reg.rtcSsec (word s.ssec)
  { s with rtc := { s.rtc with since := s.elapsed } }

/-- N of the periodic wake. -/
def State.wakeN (s : State) : Nat := s.fld Reg.rtcWake 23 0 + 1

/-- RTC_WAKE_CNT now. -/
def State.wakeUnits (s : State) : Nat :=
  if s.flag Reg.rtcCtl 1 && !s.rtc.stopped then min (s.wakeN - 1) ((s.elapsed - s.rtc.wakeSince) / 3906250)
  else (s.reg Reg.rtcWakeCnt).toNat

/-- The date set, with its weekday. (DEDUCED: log 74.) -/
def State.setDate (s : State) (y m d : Nat) : State :=
  ((s.setReg Reg.rtcDay (word (d + 256 * weekday y m d))).setReg Reg.rtcMon (word m)).setReg Reg.rtcYear (word y)

/-- The time of day set. -/
def State.setTime (s : State) (h m sec : Nat) : State :=
  ((s.setReg Reg.rtcHour (word h)).setReg Reg.rtcMin (word m)).setReg Reg.rtcSec (word sec)

/-- The calendar's year, month and day. -/
def State.date (s : State) : Nat × Nat × Nat := ((s.reg Reg.rtcYear).toNat, (s.reg Reg.rtcMon).toNat, s.fld Reg.rtcDay 4 0)

/-- The calendar's hour, minute and second. -/
def State.timeOfDay (s : State) : Nat × Nat × Nat :=
  ((s.reg Reg.rtcHour).toNat, (s.reg Reg.rtcMin).toNat, (s.reg Reg.rtcSec).toNat)

/-- The calendar one day on; it wraps after 2399-12-31 (R349). -/
def State.nextDay (s : State) : State :=
  let (y, m, d) := s.date
  if d < monthDays y m then s.setDate y m (d + 1)
  else if m < 12 then s.setDate y (m + 1) 1
  else if y < 2399 then s.setDate (y + 1) 1 1
  else ((s.setDate 2000 1 1).setFlag Reg.rtcEvt 2 true).raise 0x3101 0 []

/-- The calendar one second on. (DEDUCED: log 74.) -/
def State.nextSecond (s : State) : State :=
  let (h, m, sec) := s.timeOfDay
  if sec < 59 then s.setTime h m (sec + 1)
  else if m < 59 then s.setTime h (m + 1) 0
  else if h < 23 then s.setTime (h + 1) 0 0
  else (s.setTime 0 0 0).nextDay

/-- RTC_SECOND: the prescaler completes 32,768 cycles. -/
def execRtcSecond (s : State) : Host.Outcome State Fault Refusal :=
  .next (
    if s.rtcHalted || s.rtc.stopped then s
    else
      let e := s.rtc.since + (32767 + 1000000000 * (32768 - (s.reg Reg.rtcSsec).toNat)) / 32768
      let s := (s.reachElapsed e).setReg Reg.rtcSsec 0
      ({ s with rtc := { s.rtc with since := e } }).nextSecond)

/-! ### The supplies (R346, R357) -/

/-- VBAT_SWITCHOVER: the backup domain switches to VBAT, with the stamp of R357. -/
def execVbatSwitchover (s : State) : Host.Outcome State Fault Refusal :=
  .next (
    if s.flag Reg.rtcStat 1 then s
    else
      let s := s.setFlag Reg.rtcStat 1 true
      if s.flag Reg.rtcEvt 0 then s
      else
        let (h, m, sec) := s.timeOfDay
        let (y, mo, d) := s.date
        let s := s.setReg Reg.rtcBkpStampT (word (sec + m * 2 ^ 8 + h * 2 ^ 16 + s.ssec / 128 * 2 ^ 24))
        let s := s.setReg Reg.rtcBkpStampD (word (d + mo * 2 ^ 8 + y * 2 ^ 16 + 2 ^ 30 + bitOf s.rtcHalted * 2 ^ 31))
        s.setFlag Reg.rtcEvt 0 true)

/-- VDDIO_RETURN: the backup domain switches back. -/
def execVddioReturn (s : State) : Host.Outcome State Fault Refusal := .next (s.setFlag Reg.rtcStat 1 false)

/-! ### The oscillator (R358, R458) -/

/-- The tick stops: prescaler and periodic wake stand still (R358). (DEDUCED: log 75.) -/
def State.stopTick (s : State) : State :=
  let s := (s.setReg Reg.rtcWakeCnt (word s.wakeUnits)).settleRtc
  { s with rtc := { s.rtc with stopped := true } }

/-- The tick runs again, and the time it stood still is not counted. -/
def State.startTick (s : State) : State :=
  if s.rtc.stopped then
    { s with rtc := { s.rtc with
        stopped := false, since := s.elapsed, wakeSince := s.elapsed - 3906250 * (s.reg Reg.rtcWakeCnt).toNat } }
  else s

/-- The crystal has failed: detected with the tick passing to the RC oscillator where it runs. (DEDUCED: log 75.) -/
def State.crystalFails (s : State) (count : Nat) : State :=
  if !s.flag Reg.clkSrcStat 1 then s
  else
    let s := (s.setFlag Reg.rtcStat 0 true).setFlag Reg.clkSrcStat 1 false
    if s.powerState ≤ 2 then
      let s := if s.flag Reg.clkSrcStat 2 then s.setFlag Reg.clkSrcStat 4 true else s.stopTick
      let s := s.setFlag Reg.clkFail 1 true
      let s := s.raise 0x6001 3 ([1, 0] ++ le 4 count)
      s.raise 0x3100 1 (le 1 s.powerState)
    else
      let s := s.stopTick
      if s.powerState = 3 then s.wakeSource 6 else s

/-- RTC_OSC_STOP: the oscillator gives no edge for 1 ms. (DEDUCED: log 75.) -/
def execRtcOscStop (s : State) : Host.Outcome State Fault Refusal := .next (s.crystalFails (s.fld (Reg.clkMonCnt 1) 15 0))

/-! ### The periodic wake (R359) -/

/-- RTC_PERIODIC_WAKE: the periodic wake fires. -/
def execRtcPeriodicWake (s : State) : Host.Outcome State Fault Refusal :=
  .next (
    if !s.flag Reg.rtcCtl 1 || s.rtc.stopped then s
    else
      let e := s.rtc.wakeSince + 3906250 * s.wakeN
      let s := s.reachElapsed e
      let s := ({ s with rtc := { s.rtc with wakeSince := e } }).setFlag Reg.rtcEvt 1 true
      if s.awake then (if s.flag Reg.rtcCtl 2 then s.raise 0x3102 0 (le 4 s.wakeN) else s) else s.wakeSource 1)

/-! ### Register writes (R351 to R355, R359) -/

/-- The holder of an RTC_SET in progress (R356). -/
def State.rtcHolder (s : State) : Option Bytes := s.holder fun o => o.work == .rtcSet

/-- Whether wake_evt and N agree (R359). -/
def wakeOk (ctl wake : Word) : Bool := field ctl 2 2 == 0 || decide (256 ≤ field wake 23 0 + 1)

/-- A check that RTC_SET makes fail. (DEDUCED: log 74.) -/
def State.rtcFree (s : State) (then_ : Option (Nat × Bytes)) : Option (Nat × Bytes) :=
  match s.rtcHolder with
  | some h => some (Status.resourceBusy, h)
  | none => then_

/-- The value check of a write of RTC_TIME_W, also made at staging (R355). -/
def timeWOk (new : Word) : Bool := timeOk (field new 20 16) (field new 13 8) (field new 5 0)

/-- The value check of a write of RTC_DATE_W. -/
def dateWOk (new : Word) : Bool := dateOk (field new 27 16) (field new 11 8) (field new 4 0)

/-- The check of a write of RTC_TIME_W, with halt as it is when the write applies. -/
def State.timeWCheck (s : State) (new : Word) : Option (Nat × Bytes) :=
  s.rtcFree (if !s.rtcHalted then some (Status.notPermitted, []) else if !timeWOk new then some (Status.dateInvalid, []) else none)

/-- The check of a write of RTC_DATE_W. -/
def State.dateWCheck (s : State) (new : Word) : Option (Nat × Bytes) :=
  s.rtcFree (if !s.rtcHalted then some (Status.notPermitted, []) else if !dateWOk new then some (Status.dateInvalid, []) else none)

/-- What a checked write of RTC_TIME_W does (R354). -/
def State.timeWWritten (s : State) (new : Word) : State :=
  (s.setTime (field new 20 16) (field new 13 8) (field new 5 0)).setFlag Reg.rtcStat 0 false

/-- What a checked write of RTC_DATE_W does. -/
def State.dateWWritten (s : State) (new : Word) : State := s.setDate (field new 27 16) (field new 11 8) (field new 4 0)

/-- What a checked write of RTC_CTL does, the old word still stored (R353, R359). -/
def State.rtcCtlWritten (s : State) (old new : Word) : State :=
  let s := s.setReg Reg.rtcWakeCnt (word s.wakeUnits)
  let s := s.settleRtc
  let s := s.setReg Reg.rtcCtl new
  let s := s.setFlag Reg.rtcStat 2 (field new 0 0 = 1)
  let s := if field old 0 0 = 1 ∧ field new 0 0 = 0 then s.setReg Reg.rtcSsec 0 else s
  if field old 1 1 = 0 ∧ field new 1 1 = 1 then
    ({ s with rtc := { s.rtc with wakeSince := s.elapsed } }).setReg Reg.rtcWakeCnt 0
  else s

/-- What a checked write of RTC_WAKE does, once its word is stored. -/
def State.rtcWakeWritten (s : State) : State :=
  ({ s with rtc := { s.rtc with wakeSince := s.elapsed } }).setReg Reg.rtcWakeCnt 0

/-! ### Snapshots (R350) -/

/-- The registers of the calendar snapshot. -/
def calendarRegs : List Nat := [Reg.rtcSec, Reg.rtcSsec, Reg.rtcMin, Reg.rtcHour, Reg.rtcDay, Reg.rtcMon, Reg.rtcYear]

/-- A requester's calendar snapshot ended. -/
def State.dropCalendar (s : State) (requester : Nat) : State :=
  { s with
    host := { s.host with snaps := Table.keep s.host.snaps fun k _ => !(k / 2 ^ 24 == requester && calendarRegs.contains (k % 2 ^ 24)) }
    rtc := { s.rtc with snaps := Table.drop s.rtc.snaps requester } }

/-- CALENDAR_SNAPSHOT_EXPIRY: a snapshot ends 2 ms after it was taken. -/
def execCalendarSnapshotExpiry (requester : Nat) (s : State) : Host.Outcome State Fault Refusal :=
  .next (match Table.find s.rtc.snaps requester with
    | some t => (s.reachElapsed (2000000 + t)).dropCalendar requester
    | none => s)

/-! ### Commands (R356, R360) -/

/-- RTC_SET. -/
def rtcSetSpec : OpSpec where
  code := 0x3100
  length p := p.length == 22
  range _ p := decide (num p 0 1 < 2) && num p 1 1 == 0 && num p 9 3 == 0 && (num p 0 1 == 0 || decide (num p 18 4 < 1000000000))

/-- RTC_READ. -/
def rtcReadSpec : OpSpec where
  code := 0x3101
  length p := p.isEmpty

/-- RTC_SET halts the RTC, writes the date and time, and releases it at once or at an instant. (DEDUCED: log 74.) -/
def execRtcSet (c : Cmd) (p : Bytes) (s : State) : Host.Outcome State Fault Refusal :=
  let out := s.run rtcSetSpec c p fun s =>
    match s.rtcHolder with
    | some h => .fail Status.resourceBusy h
    | none =>
      let instant := 1000000000 * num p 12 6 + num p 18 4
      let timed := num p 0 1 = 1
      if !(dateOk (num p 2 2) (num p 4 1) (num p 5 1) && timeOk (num p 6 1) (num p 7 1) (num p 8 1)) then .fail Status.dateInvalid []
      else if timed ∧ instant ≤ 1000000 + s.netNs then .fail Status.txnExpired []
      else if timed ∧ 86400000000000 + s.netNs < instant then .fail Status.paramRange []
      else
        let ctl := s.reg Reg.rtcCtl
        let s := s.rtcCtlWritten ctl (withField ctl 0 0 1)
        let s := (s.setDate (num p 2 2) (num p 4 1) (num p 5 1)).setTime (num p 6 1) (num p 7 1) (num p 8 1)
        let s := s.setFlag Reg.rtcStat 0 false
        if timed then
          let s := s.setFlag Reg.rtcStat 3 true
          .wait { s with rtc := { s.rtc with setInstant := some instant, cancelled := false } } .rtcSet true
        else .done (s.rtcCtlWritten (withField ctl 0 0 1) (withField ctl 0 0 0)) Status.ok []
  .next (if num p 0 1 = 1 then out.hintAfter s c .rtcSet (1000000000 * num p 12 6 + num p 18 4) else out)

/-- The release of an RTC_SET in mode 1, with its final reply. -/
def State.releaseRtc (s : State) (status : Nat) : State :=
  let ctl := s.reg Reg.rtcCtl
  let s := (s.rtcCtlWritten ctl (withField ctl 0 0 0)).setFlag Reg.rtcStat 3 false
  let s := { s with rtc := { s.rtc with setInstant := none, cancelled := false } }
  s.finishWork (· == .rtcSet) status []

/-- RTC_READ returns one consistent calendar copy. (DEDUCED: log 74.) -/
def execRtcRead (c : Cmd) (p : Bytes) (s : State) : Host.Outcome State Fault Refusal :=
  .next (s.run rtcReadSpec c p fun s =>
    let (y, m, d) := s.date
    let (h, mi, sec) := s.timeOfDay
    .done s Status.ok (le 2 y ++ le 1 m ++ le 1 d ++ le 1 (s.fld Reg.rtcDay 10 8) ++ le 1 h ++ le 1 mi ++ le 1 sec
      ++ le 2 s.ssec ++ le 1 (s.fld Reg.rtcStat 7 0) ++ [0]))

end Sys2Proof.Machine
end

