-- ==== Sys2Proof/Machine/Ctlp.lean ====
section
/-! DEFINITION. The control program, luminaire reports and the serial ports (chapter 13). -/

namespace Sys2Proof.Machine

/-! ### Rules (R374 to R377) -/

/-- Whether a selector names an operand of Table 13-6. -/
def selectorOk (x : Nat) : Bool :=
  let i := bits x 11 0
  match bits x 15 12 with
  | 0 => i == 0
  | 1 => decide (i / 16 ≤ 8) && decide (i % 16 ≤ 8)
  | 2 => decide (i < 64)
  | 3 => decide (i < 32) && decide (i % 4 < 3)
  | 4 => decide (i < 4)
  | 5 => decide (i < 32)
  | 6 => decide (i < 32)
  | 7 => decide (i < 256)
  | _ => false

/-- Whether a message destination is one of Table 13-5. -/
def destinationOk (d : Nat) : Bool :=
  decide (d < 4096) || (decide (0xF000 ≤ d) && decide (d ≤ 0xF00F)) || (decide (0xF100 ≤ d) && decide (d ≤ 0xF102))

/-- Whether a rule is valid. -/
def ruleValid (r : Bytes) : Bool := bit (num r 0 1) 0

/-- act_mode of a rule. -/
def ruleMode (r : Bytes) : Nat := bits (num r 0 1) 5 4

/-- The action of a rule (Table 13-7). -/
def actionOk (r : Bytes) : Bool :=
  let target := num r 13 1
  match num r 12 1 with
  | 1 => decide (target < 16) && outValueOk target (num r 14 2) && (ruleMode r != 2 || outValueOk target (num r 16 2))
  | 2 => decide (target < 32)
  | 3 => decide (target < 32)
  | 4 => decide (target < 64) && destinationOk (num r 18 2)
  | k => decide (k ≤ 6)

/-- The check of a rule as it is written; of one whose valid bit is clear only the reserved bits. -/
def ruleOk (r : Bytes) : Bool :=
  bits (num r 0 1) 7 6 == 0 && num r 20 4 == 0
    && (!ruleValid r || (bits (num r 0 1) 3 2 != 3 && ruleMode r != 3 && decide (num r 1 1 ≤ 6)
      && selectorOk (num r 2 2) && selectorOk (num r 4 2) && num r 6 1 != 0 && num r 7 1 != 0 && actionOk r))

/-- A rule of a bank. -/
def ruleAt (bank : Table Bytes) (k : Nat) : Bytes := (Table.find bank k).getD (List.replicate 24 0)

/-- A bank with a rule set. -/
def setRule (bank : Table Bytes) (k : Nat) (r : Bytes) : Table Bytes :=
  if r.all (· == 0) then Table.drop bank k else Table.put bank k r

/-- The outputs that kind 1 actions of a bank's valid rules name. -/
def namedOutputs (bank : Table Bytes) : List Nat :=
  (List.range 16).filter fun k => bank.any fun r => ruleValid r.2 && num r.2 12 1 == 1 && num r.2 13 1 == k

/-! ### Groups (R372) -/

/-- The stored report of a client while it is fresh. -/
def State.freshReport (s : State) (c : Nat) : Option Report :=
  (Table.find s.ctl.reports c).filter fun r => decide (s.netNs < r.received + 1000000000 * s.fld Reg.ctlpRptCfg 15 0)

/-- What a group shows. -/
structure GroupView where
  members : Nat
  fresh : Nat
  faults : Nat
  power : Int
  stale : Bool
  deriving DecidableEq, Repr

/-- The members of a group, in ascending order. -/
def State.groupMembers (s : State) (g : Nat) : List Nat := (s.ctl.groups.filter fun e => e.2 == g).map (·.1)

/-- A group as the intake keeps it. -/
def State.group (s : State) (g : Nat) : GroupView :=
  let members := s.groupMembers g
  let reports := members.filterMap s.freshReport
  { members := members.length
    fresh := reports.length
    faults := (reports.filter fun r => bits (num r.payload 2 2) 2 1 != 0).length
    power := saturate 32 (((reports.map fun r => num r.payload 4 2 * 100).sum : Nat) : Int)
    stale := decide (reports.length < (members.length * s.fld Reg.ctlpRptCfg 22 16 + 99) / 100) }

/-! ### Operands (R375) -/

/-- The value of an operand, and whether it is stale. -/
def State.operand (s : State) (r : Bytes) (states : Table RuleState) (edges : List Nat) (x : Nat) : Int × Bool :=
  let i := bits x 11 0
  match bits x 15 12 with
  | 1 =>
    let f := i / 16
    if s.metered f then (s.sfld (Reg.measQ f (i % 16)) 31 0, s.flag (Reg.measFlags f) 3) else (0, true)
  | 2 =>
    let g := s.group (i / 4)
    (match i % 4 with
      | 0 => (g.power, g.stale)
      | 1 => ((g.fresh : Int), false)
      | 2 => ((g.members : Int) - (g.fresh : Int), false)
      | _ => ((g.faults : Int), false))
  | 3 =>
    let c := s.capture (i / 4)
    (match i % 4 with
      | 0 => ((bitOf c.level : Nat), false)
      | 1 => (((edges.getD (i / 4) 0 : Nat) : Int), false)
      | _ => (match c.lastEdge with
        | some t => (min 0x7FFFFFFF (((s.netNs : Int) - (t : Int)) / 1000000), false)
        | none => (0x7FFFFFFF, false)))
  | 4 =>
    let (h, m, sec) := s.timeOfDay
    let (y, mo, d) := s.date
    let v : Nat := match i with
      | 0 => h * 3600 + m * 60 + sec
      | 1 => s.fld Reg.rtcDay 10 8
      | 2 => yearDay y mo d
      | _ => s.ctl.cycles
    ((v : Int), s.flag Reg.rtcStat 0)
  | 5 => if i % 2 = 0 then ((s.fld (Reg.outVal (i / 2)) 15 0 : Nat), false) else ((s.fld (Reg.outStat (i / 2)) 0 0 : Nat), false)
  | 6 => (s.sfld (Reg.ctlpVar i) 31 0, false)
  | 7 => ((bitOf ((Table.find states i).getD {}).on : Nat), false)
  | _ => (signed 32 (num r 8 4), false)

/-- A comparison of Table 13-5. -/
def compare_ (op : Nat) (a b : Int) : Bool :=
  match op with
  | 0 => true
  | 1 => decide (a = b)
  | 2 => decide (a ≠ b)
  | 3 => decide (a < b)
  | 4 => decide (a ≤ b)
  | 5 => decide (b < a)
  | _ => decide (b ≤ a)

/-! ### Actions (R377, R378) -/

/-- A cycle under way. -/
structure Cycle where
  state : State
  writes : Table Nat
  copies : Nat
  past : Bool

/-- One copy of a message queued, within the 256 of a cycle. -/
def Cycle.queue (y : Cycle) (f : State → State) : Cycle :=
  if 256 ≤ y.copies then { y with state := y.state.bump (Reg.ctlpCnt 5) }
  else { y with state := (f y.state).bump (Reg.ctlpCnt 4), copies := y.copies + 1 }

/-- A message for a client: queued where its queue has room, else counted in q_drop (R246). -/
def Cycle.toClient (y : Cycle) (frame : Bytes) (c : Nat) : Cycle :=
  if !y.state.clientValid c then y
  else
    let secured := y.state.flag (Reg.fwdRadioCfg (y.state.clientRadio c)) 13
    if y.copies < 256 ∧ y.state.clientFull c then { y with state := y.state.forwardClient c frame 0 secured }
    else y.queue fun s => s.forwardClient c frame 0 secured

/-- A message for a radio's broadcast port, as R272 sends one. -/
def State.toBroadcast (s : State) (frame : Bytes) (n : Nat) : State :=
  let cells := cellsOf frame.length
  if s.freeCells < cells then s.cellShort (7 + n)
  else
    let (id, s) := s.takeCells cells none false
    s.egressAll (frameOf frame) { buffer := id, vlan := s.fld (Reg.fwdRadioCfg n) 11 0, cls := 0, colour := 0, mark := 0 } [0x2400 + n]

/-- A message sent. -/
def Cycle.send (y : Cycle) (m dest : Nat) : Cycle :=
  match Table.find y.state.ctl.messages m with
  | none => y
  | some frame =>
    if dest < 0x1000 then y.toClient frame dest
    else if dest < 0xF100 then (y.state.groupMembers (dest - 0xF000)).foldl (fun y c => y.toClient frame c) y
    else y.queue fun s => s.toBroadcast frame (dest - 0xF100)

/-- A variable set. -/
def Cycle.setVar (y : Cycle) (v : Nat) (x : Int) : Cycle :=
  { y with state := y.state.setReg (Reg.ctlpVar v) (word (unsigned 32 x)) }

/-- The action of a rule with a value; `clear` for its else value. -/
def Cycle.act (y : Cycle) (k : Nat) (r : Bytes) (value : Nat) (clear : Bool) (a b : Int) : Cycle :=
  let target := num r 13 1
  match num r 12 1 with
  | 1 => { y with writes := Table.put y.writes target value }
  | 2 => y.setVar target (signed 16 value)
  | 3 => y.setVar target (saturate 32 (y.state.sfld (Reg.ctlpVar target) 31 0 + signed 16 value))
  | 4 => y.send target (num r 18 2)
  | 5 =>
    let body := le 1 k ++ le 1 (bitOf clear) ++ le 2 value ++ le 4 (unsigned 32 a) ++ le 4 (unsigned 32 b)
    { y with state := y.state.raise 0x4002 0 body }
  | 6 => { y with past := true }
  | _ => y

/-- One rule evaluated (R376). (DEDUCED: log 78.) -/
def Cycle.eval (y : Cycle) (edges : List Nat) (k : Nat) (r : Bytes) : Cycle :=
  if y.past || !ruleValid r then y
  else
    let s := y.state
    let x := (Table.find s.ctl.states k).getD {}
    let (a, sa) := s.operand r s.ctl.states edges (num r 2 2)
    let (b, sb) := s.operand r s.ctl.states edges (num r 4 2)
    let c := if sa || sb then (match bits (num r 0 1) 3 2 with
        | 0 => false
        | 1 => true
        | _ => x.on)
      else if bit (num r 0 1) 1 then compare_ (num r 1 1) (saturate 32 (a - b)) (signed 32 (num r 8 4))
      else compare_ (num r 1 1) a b
    let t := if c then min (x.t + 1) 255 else 0
    let f := if c then 0 else min (x.f + 1) 255
    let on := if x.on then !decide (num r 7 1 ≤ f) else decide (num r 6 1 ≤ t)
    let y := { y with state := { s with ctl := { s.ctl with states := Table.put s.ctl.states k ⟨t, f, on⟩ } } }
    let value := num r 14 2
    match ruleMode r with
    | 0 => if on then y.act k r value false a b else y
    | m =>
      if on ∧ ¬ x.on then y.act k r value false a b
      else if m = 2 ∧ x.on ∧ ¬ on then y.act k r (num r 16 2) true a b
      else y

/-! ### The cycle (R373, R379, R385) -/

/-- Whether an outstanding command is a program commit. -/
def Work.isProgram : Work → Bool
  | .programCommit => true
  | _ => false

/-- The holder that stands against a claim of the staging bank's outputs. (DEDUCED: log 78.) -/
def State.programBusy (s : State) : Option Bytes :=
  ((namedOutputs s.ctl.staging).find? fun k => decide (2 ≤ s.holderCode k)).map s.holderResult

/-- A pending program commit made at a trigger. (DEDUCED: log 78.) -/
def State.swapProgram (s : State) : State :=
  let s := { s with ctl := { s.ctl with commit := none } }
  let s := s.setFlag Reg.ctlpStat 9 false
  match s.programBusy with
  | some h => s.finishWork Work.isProgram Status.resourceBusy h
  | none =>
    let named := namedOutputs s.ctl.staging
    let s := (List.range 16).foldl (fun (s : State) k =>
      if named.contains k then (if s.holderCode k = 0 then s.claim k 1 0 else s)
      else if s.holderCode k = 1 then s.release k else s) s
    let s := { s with ctl := { s.ctl with running := s.ctl.staging, states := [] } }
    let s := s.setFld Reg.ctlpStat 8 0 (s.ctl.running.filter fun r => ruleValid r.2).length
    s.finishWork Work.isProgram Status.ok []

/-- Held outputs pass back to MEAS at their held levels (R385). (DEDUCED: log 80.) -/
def State.endHold (s : State) : State :=
  match s.meas.holdDue with
  | none => s
  | some _ =>
    let named := namedOutputs s.ctl.running
    let s := (List.range 16).foldl (fun (s : State) k =>
      match (s.output k).held with
      | some v =>
        let s := (s.drive k v).modOutput k fun o => { o with held := none }
        if named.contains k ∧ s.holderCode k = 0 then s.claim k 1 0 else s
      | none => s) s
    { s with meas := { s.meas with holdDue := none } }

/-- CONTROL_CYCLE: the trigger of a control cycle. -/
def execControlCycle (s : State) : Host.Outcome State Fault Refusal :=
  .next (
    if !(s.on .ctrl && s.on .meas && s.awake) || s.boot.halted || s.ctl.writes.isSome then s
    else
      let period := 1000000 * s.fld Reg.timeCycCfg 9 0
      let bound : Int := match s.time.lastCycle with
        | some t => t + (period / 2 : Nat)
        | none => s.netNs
      let instant := gridAfter (1000000 * s.fld Reg.timeCycCfg 25 16) period bound
      let s := s.reach instant
      let s := { s with time := { s.time with lastCycle := some (instant : Int) } }
      let s := s.bump64 Reg.ctlpCycLo
      let run := s.flag Reg.ctlpCtl 0
      let s := match s.ctl.commit with
        | some t => if !run || decide (t ≤ instant) then s.swapProgram else s
        | none => s
      let edges := (List.range 8).map fun c => (s.capture c).edges
      let s := (List.range 8).foldl (fun (s : State) c => s.modCapture c fun x => { x with edges := 0 }) s
      if !run then s
      else
        let s := s.endHold
        let y := s.ctl.running.foldl (fun (y : Cycle) r => y.eval edges r.1 r.2) ⟨s, [], 0, false⟩
        let s := y.state
        let s := s.setFld Reg.ctlpStat 31 16 (Config.evaluationTime (s.reg64 Reg.ctlpCycLo) % 121)
        { s with ctl := { s.ctl with cycles := (s.ctl.cycles + 1) % 2 ^ 31, writes := some (y.writes, instant) } })

/-- CYCLE_OUTPUT_APPLY: at trigger plus 200 µs the writes of the cycle take effect together, or the cycle is
skipped. (DESIGN CHOICE: log 79.) -/
def execCycleOutputApply (evaluated : Bool) (s : State) : Host.Outcome State Fault Refusal :=
  .next (match s.ctl.writes with
    | none => s
    | some (writes, trigger) =>
      let s := s.reach (200000 + trigger)
      let s := { s with ctl := { s.ctl with writes := none } }
      if evaluated then
        writes.foldl (fun (s : State) w =>
          if s.holderCode w.1 ≠ 1 then s
          else if s.flag (Reg.outStat w.1) 2 then s.bump (Reg.ctlpCnt 6)
          else s.drive w.1 w.2) s
      else (s.bump (Reg.ctlpCnt 0)).raise 0x4004 1 (le 4 (s.reg Reg.ctlpCycLo).toNat))

/-- REPORT_AGE_EXPIRY: a stored report becomes stale. -/
def execReportAgeExpiry (client : Nat) (s : State) : Host.Outcome State Fault Refusal :=
  .next (match Table.find s.ctl.reports client with
    | some r => s.reach (r.received + 1000000000 * s.fld Reg.ctlpRptCfg 15 0)
    | none => s)

/-- OUT_HOLD_EXPIRY: held outputs not passed back in time go high-impedance. -/
def execOutHoldExpiry (s : State) : Host.Outcome State Fault Refusal :=
  .next (match s.meas.holdDue with
    | none => s
    | some t =>
      let s := s.reachElapsed t
      let held := (List.range 16).filter fun k => (s.output k).held.isSome
      let s := held.foldl (fun (s : State) k => (s.modOutput k fun o => { o with held := none }).setFlag (Reg.outVal k) 16 false) s
      let s := { s with meas := { s.meas with holdDue := none } }
      s.raise 0x4003 1 (le 2 ((held.map fun k => 2 ^ k).sum)))

/-! ### Serial ports (R387) -/

/-- A serial port. -/
def State.serial (s : State) (p : Nat) : Serial := s.meas.serials.getD p {}

/-- A serial port changed. -/
def State.modSerial (s : State) (p : Nat) (f : Serial → Serial) : State :=
  { s with meas := { s.meas with serials := setAt s.meas.serials p f } }

/-- Bits of a character on the line. -/
def State.charBits (s : State) (p : Nat) : Nat :=
  let cfg := s.reg (Reg.serCfg p)
  1 + (if field cfg 1 1 = 1 then 8 else 7) + (if field cfg 3 2 = 0 then 0 else 1) + (if field cfg 4 4 = 1 then 2 else 1)

/-- Characters sent since the line was last looked at. -/
def State.charsSent (s : State) (p : Nat) : Nat :=
  if s.flag (Reg.serCfg p) 0 then
    min (s.serial p).tx.length ((s.elapsed - (s.serial p).txSince) * s.fld (Reg.serBaud p) 19 0 / (1000000000 * s.charBits p))
  else 0

/-- A port's transmit buffer brought up to now. -/
def State.drainSerial (s : State) (p : Nat) : State :=
  let n := s.charsSent p
  let left := (s.serial p).tx.drop n
  s.modSerial p fun e => { e with
    tx := left
    txSince := if left.isEmpty then s.elapsed else e.txSince + 1000000000 * (n * s.charBits p) / s.fld (Reg.serBaud p) 19 0 }

/-- SER_RX_BYTE: a UART receives a byte into its buffer, or drops it on overrun. (DEDUCED: log 81.) -/
def execSerRxByte (port : Nat) (byte : Byte) (s : State) : Host.Outcome State Fault Refusal :=
  .next (
    let cfg := s.reg (Reg.serCfg port)
    let s := s.drainSerial port
    let deaf := field cfg 5 5 = 1 && field cfg 6 6 = 0 && !(s.serial port).tx.isEmpty
    if field cfg 0 0 = 0 || deaf || !s.awake then s
    else if 512 ≤ (s.serial port).rx.length then
      (s.modSerial port fun e => { e with overrun := true, rxLast := s.elapsed }).bumpFld (Reg.serStat port) 31 21
    else
      let b : Byte := if field cfg 1 1 = 1 then byte else byte &&& 0x7F
      let s := s.modSerial port fun e => { e with rx := e.rx ++ [b], rxLast := s.elapsed }
      s.setFld (Reg.serStat port) 9 0 (s.serial port).rx.length)

/-- SER_RX: after idle character times, or with 256 bytes waiting, the received bytes are raised. (DEDUCED: log 81.) -/
def execSerRx (port : Nat) (s : State) : Host.Outcome State Fault Refusal :=
  .next (
    let e := s.serial port
    if e.rx.isEmpty then s
    else
      let s := if 256 ≤ e.rx.length then s
        else s.reachElapsed (e.rxLast + 1000000000 * (s.fld (Reg.serCfg port) 23 16 * s.charBits port) / s.fld (Reg.serBaud port) 19 0)
      let s := (s.modSerial port fun e => { e with rx := [], overrun := false }).setFld (Reg.serStat port) 9 0 0
      s.raise 0x4005 0 (le 1 port ++ le 2 e.rx.length ++ le 1 (bitOf e.overrun) ++ e.rx))

/-! ### Commands (R388) -/

/-- CTLP_PROGRAM_WRITE. -/
def ctlpProgramWriteSpec : OpSpec where
  code := 0x4010
  length p := decide (4 ≤ p.length) && p.length == 4 + 24 * num p 1 1
  range _ p := decide (1 ≤ num p 1 1) && decide (num p 1 1 ≤ 128) && num p 2 2 == 0 && decide (num p 0 1 + num p 1 1 ≤ 256)

/-- CTLP_PROGRAM_COMMIT. -/
def ctlpProgramCommitSpec : OpSpec where
  code := 0x4011
  length p := p.length == 14
  range _ p := decide (num p 0 1 < 2) && num p 1 3 == 0 && (num p 0 1 == 0 || decide (num p 10 4 < 1000000000))

/-- CTLP_PROGRAM_READ. -/
def ctlpProgramReadSpec : OpSpec where
  code := 0x4012
  length p := p.length == 3
  range _ p := decide (num p 0 1 < 2) && decide (1 ≤ num p 2 1) && decide (num p 2 1 ≤ 128) && decide (num p 1 1 + num p 2 1 ≤ 256)

/-- CTLP_MSG_WRITE. -/
def ctlpMsgWriteSpec : OpSpec where
  code := 0x4013
  length p := decide (2 ≤ p.length) && p.length == 2 + num p 1 1
  range _ p := decide (num p 0 1 < 64) && (num p 1 1 == 0 || (decide (14 ≤ num p 1 1) && decide (num p 1 1 ≤ 64)))

/-- CTLP_GROUP_WRITE. -/
def ctlpGroupWriteSpec : OpSpec where
  code := 0x4014
  length p := decide (4 ≤ p.length) && p.length == 4 + num p 2 2
  range _ p := decide (1 ≤ num p 2 2) && decide (num p 2 2 ≤ 4072) && decide (num p 0 2 + num p 2 2 ≤ 4096)
    && (p.drop 4).all fun g => decide (g.toNat < 16) || g == 0xFF

/-- CTLP_REPORT_READ. -/
def ctlpReportReadSpec : OpSpec where
  code := 0x4015
  length p := p.length == 2
  range _ p := decide (num p 0 2 < 4096)

/-- SER_WRITE. -/
def serWriteSpec : OpSpec where
  code := 0x4018
  length p := decide (5 ≤ p.length) && decide (p.length ≤ 516)
  range _ p := decide (num p 0 1 < 4) && num p 1 3 == 0

/-- SER_READ. -/
def serReadSpec : OpSpec where
  code := 0x4019
  length p := p.length == 4
  range _ p := decide (num p 0 1 < 4) && num p 1 1 == 0 && decide (1 ≤ num p 2 2) && decide (num p 2 2 ≤ 512)

/-- CTLP_PROGRAM_WRITE checks rules and writes them into the staging bank. -/
def execCtlpProgramWrite (c : Cmd) (p : Bytes) (s : State) : Host.Outcome State Fault Refusal :=
  .next (s.run ctlpProgramWriteSpec c p fun s =>
    let first := num p 0 1
    let l := List.range (num p 1 1)
    match l.find? fun i => !ruleOk (slice p (4 + 24 * i) 24) with
    | some i => .fail Status.paramRange (le 1 (first + i))
    | none => .done { s with ctl := { s.ctl with
        staging := l.foldl (fun t i => setRule t (first + i) (slice p (4 + 24 * i) 24)) s.ctl.staging } } Status.ok [])

/-- CTLP_PROGRAM_COMMIT schedules the bank swap at the next or a given cycle. (DEDUCED: log 78.) -/
def execCtlpProgramCommit (c : Cmd) (p : Bytes) (s : State) : Host.Outcome State Fault Refusal :=
  .next (s.run ctlpProgramCommitSpec c p fun s =>
    let instant := 1000000000 * num p 4 6 + num p 10 4
    match s.holder fun o => o.work.isProgram with
    | some h => .fail Status.resourceBusy h
    | none =>
      if num p 0 1 = 1 ∧ instant < s.netNs then .fail Status.txnExpired []
      else
        match s.programBusy with
        | some h => .fail Status.resourceBusy h
        | none =>
          .wait ({ s with ctl := { s.ctl with commit := some (if num p 0 1 = 1 then instant else 0) } }.setFlag Reg.ctlpStat 9 true)
            .programCommit false)

/-- CTLP_PROGRAM_READ returns rules of a bank. -/
def execCtlpProgramRead (c : Cmd) (p : Bytes) (s : State) : Host.Outcome State Fault Refusal :=
  .next (s.run ctlpProgramReadSpec c p fun s =>
    let bank := if num p 0 1 = 0 then s.ctl.running else s.ctl.staging
    .done s Status.ok ((List.range (num p 2 1)).flatMap fun i => ruleAt bank (num p 1 1 + i)))

/-- CTLP_MSG_WRITE writes or clears a message table entry. -/
def execCtlpMsgWrite (c : Cmd) (p : Bytes) (s : State) : Host.Outcome State Fault Refusal :=
  .next (s.run ctlpMsgWriteSpec c p fun s =>
    .done { s with ctl := { s.ctl with
      messages := if num p 1 1 = 0 then Table.drop s.ctl.messages (num p 0 1) else Table.put s.ctl.messages (num p 0 1) (p.drop 2) } }
      Status.ok [])

/-- CTLP_GROUP_WRITE assigns clients to report groups. -/
def execCtlpGroupWrite (c : Cmd) (p : Bytes) (s : State) : Host.Outcome State Fault Refusal :=
  .next (s.run ctlpGroupWriteSpec c p fun s =>
    .done { s with ctl := { s.ctl with
      groups := (List.range (num p 2 2)).foldl (fun t i =>
        let g := num p (4 + i) 1
        if g = 0xFF then Table.drop t (num p 0 2 + i) else Table.put t (num p 0 2 + i) g) s.ctl.groups } } Status.ok [])

/-- CTLP_REPORT_READ returns a client's stored report. -/
def execCtlpReportRead (c : Cmd) (p : Bytes) (s : State) : Host.Outcome State Fault Refusal :=
  .next (s.run ctlpReportReadSpec c p fun s =>
    let k := num p 0 2
    let (payload, t) := match Table.find s.ctl.reports k with
      | some r => (r.payload, r.received)
      | none => (List.replicate 16 0, 0)
    .done s Status.ok (payload ++ le 6 (t / 1000000000) ++ le 4 (t % 1000000000) ++ le 1 (bitOf (s.freshReport k).isSome)
      ++ le 1 ((Table.find s.ctl.groups k).getD 0xFF)))

/-- SER_WRITE queues bytes for a UART transmit buffer; an RS-485 port is for session 0 only. -/
def execSerWrite (c : Cmd) (p : Bytes) (s : State) : Host.Outcome State Fault Refusal :=
  .next (s.run serWriteSpec c p fun s =>
    let k := num p 0 1
    if s.flag (Reg.serCfg k) 5 ∧ c.session ≠ 0 then .fail Status.notPermitted []
    else
      let s := s.drainSerial k
      let taken := (p.drop 4).take (512 - (s.serial k).tx.length)
      .done (s.modSerial k fun e => { e with tx := e.tx ++ taken }) Status.ok (le 2 taken.length))

/-- SER_READ returns waiting received bytes. (DEDUCED: log 81.) -/
def execSerRead (c : Cmd) (p : Bytes) (s : State) : Host.Outcome State Fault Refusal :=
  .next (s.run serReadSpec c p fun s =>
    let k := num p 0 1
    let out := (s.serial k).rx.take (num p 2 2)
    let s := s.modSerial k fun e => { e with rx := e.rx.drop out.length }
    .done (s.setFld (Reg.serStat k) 9 0 (s.serial k).rx.length) Status.ok out)

end Sys2Proof.Machine
end

