-- ==== Sys2Proof/Machine/RadioBase.lean ====
section
/-! DEFINITION. What the radio chapters share: a radio's state and synthesisers, channels and the bands they occupy,
air times, the regulatory profile with its duty bins, and the lanes of the pool. -/

namespace Sys2Proof.Machine

/-! ### A radio (R91) -/

/-- A radio's record. -/
def State.radio (s : State) (n : Nat) : Radio := s.radios.getD n {}

/-- A radio's record changed. -/
def State.modRadio (s : State) (n : Nat) (f : Radio → Radio) : State := { s with radios := setAt s.radios n f }

/-- The present state of a radio: a code of Table 3-2. -/
def State.trx (s : State) (n : Nat) : Nat := s.fld (Reg.trxState n) 3 0

/-- The requested state of a radio. -/
def State.trxReq (s : State) (n : Nat) : Nat := s.fld (Reg.trxStateCtl n) 3 0

/-- The on-air synthesiser: 0 A, 1 B. -/
def State.onAir (s : State) (n : Nat) : Nat := s.fld (Reg.trxState n) 8 8

/-- A radio out of service (R90). -/
def State.radioOut (s : State) (n : Nat) : Bool := s.flag (Reg.trxState n) 11

/-- A radio with one synthesiser retired (R89). -/
def State.single (s : State) (n : Nat) : Bool := s.flag (Reg.trxState n) 10

/-- Whether a radio is receiving. -/
def State.receiving (s : State) (n : Nat) : Bool := s.trx n == 5 || s.trx n == 6

/-- The state group whose pattern the front-end module lines carry (R100): 0 OFF and SLEEP, 1 IDLE, SYNTH and CAL,
2 receive, 3 TX. -/
def trxGroup (st : Nat) : Nat := if st ≤ 1 then 0 else if st ≤ 4 then 1 else if st ≤ 6 then 2 else 3

/-- A radio's state entered; a change of state group takes the front-end module settings (R101). -/
def State.setTrx (s : State) (n st : Nat) : State :=
  let group := trxGroup (s.trx n)
  let s := (s.setFld (Reg.trxState n) 3 0 st).modRadio n fun r => { r with since := s.elapsed }
  if group = trxGroup st then s
  else s.modRadio n fun r => { r with femMap := s.reg (Reg.trxFemMap n), femTime := s.reg (Reg.trxFemTime n) }

/-- The lines FEMn_C0 to FEMn_C3 at this instant (R100). (DEDUCED: log 43.) -/
def State.femLines (s : State) (n : Nat) : Nat :=
  let r := s.radio n
  let pattern (group : Nat) : Nat := field r.femMap (4 * group + 3) (4 * group)
  let rest := pattern (trxGroup (if s.trx n = 7 then s.trxReq n else s.trx n))
  match r.tx with
  | none => rest
  | some t =>
    let lead := field r.femTime 7 0 * 1000
    let lag := field r.femTime 15 8 * 1000
    if t.phase = .granting then pattern 3
    else if t.first ≤ s.elapsed + 8000 + lead ∧ s.elapsed < t.first + t.airNs + 8000 + lag then pattern 3
    else rest

/-! ### Synthesisers (R86, R87) -/

/-- A synthesiser of a radio: 0 A, 1 B. -/
def State.synth (s : State) (n k : Nat) : Synth := (s.radio n).synths.getD k {}

/-- A synthesiser changed. -/
def State.modSynth (s : State) (n k : Nat) (f : Synth → Synth) : State :=
  s.modRadio n fun r => { r with synths := setAt r.synths k f }

/-- Whether a synthesiser has been retired. -/
def State.synthRetired (s : State) (n k : Nat) : Bool := s.unitState 1 (2 * n + k) == .retired

/-- The frequency on which the on-air synthesiser is locked. -/
def State.centre (s : State) (n : Nat) : Option Nat := (s.synth n (s.onAir n)).present

/-- TRXn_SYN_FREQ. -/
def State.synFreq (s : State) (n : Nat) : Nat := (s.reg (Reg.trxSynFreq n)).toNat

/-- The tuning ranges of R82. -/
def tunable (f : Nat) : Bool :=
  (decide (410000000 ≤ f) && decide (f ≤ 1060000000)) || (decide (2400000000 ≤ f) && decide (f ≤ 2500000000))

/-- The tuning range of a frequency: 0 or 1. -/
def tuningRange (f : Nat) : Nat := if f ≤ 1060000000 then 0 else 1

/-- The lock time of Table 3-1 for a step, ns (R87); 4 µs for a hop (R86). -/
def lockNs (hop : Bool) (present : Option Nat) (target : Nat) : Nat :=
  if hop then 4000
  else
    match present with
    | none => 160000
    | some f =>
      if tuningRange f ≠ tuningRange target then 160000
      else if max f target - min f target ≤ 12800000 then 60000
      else 110000

/-- The lock time of the lock in progress of a synthesiser. -/
def Synth.lockTime (y : Synth) : Nat := lockNs y.hop y.present (y.target.getD 0)

/-- A synthesiser begins to lock. -/
def State.startLock (s : State) (n k f : Nat) (hop : Bool := false) : State :=
  s.modSynth n k fun y => { y with target := some f, hop := hop, began := s.elapsed, retries := 0 }

/-- Whether the hop synthesiser may be used (R86, R89). -/
def State.hopping (s : State) (n : Nat) : Bool := s.flag (Reg.trxSynCtl n) 0 && !s.single n

/-- The hop synthesiser begins to lock on TRXn_HOP_FREQ where it is to (R86). (DEDUCED: log 39.) -/
def State.startHop (s : State) (n : Nat) : State :=
  let f := (s.reg (Reg.trxHopFreq n)).toNat
  let k := 1 - s.onAir n
  let s := s.setFlag (Reg.trxState n) 9 false
  if s.hopping n && f != 0 && decide (2 ≤ s.trx n) then s.startLock n k f
  else s.modSynth n k fun y => { y with target := none }

/-- A retune of the on-air frequency: by the hop synthesiser when it is locked on the value, through SYNTH in either
case (R85, R86). (DEDUCED: log 39.) -/
def State.retune (s : State) (n f : Nat) : State :=
  if s.flag (Reg.trxState n) 9 && (s.synth n (1 - s.onAir n)).present == some f then
    let s := (s.setFld (Reg.trxState n) 8 8 (1 - s.onAir n)).setTrx n 3
    (s.startLock n (s.onAir n) f true).startHop n
  else (s.setTrx n 3).startLock n (s.onAir n) f

/-! ### Channels (Table 6-10, R134, R168) -/

/-- The slot of a channel. -/
def chanSlot (ch : Nat) : Nat := bits ch 6 4

/-- Whether a channel is the narrow channel. -/
def chanNarrow (ch : Nat) : Bool := bit ch 7

/-- The sub-band of a channel. -/
def chanSub (ch : Nat) : Nat := bits ch 13 8

/-- Whether a channel names a sub-band. -/
def chanWide (ch : Nat) : Bool := !chanFilet ch && !chanNarrow ch

/-- A profile slot's settings. -/
def State.profile (s : State) (n k : Nat) : Word := s.reg (Reg.profCfg n k)

/-- The bit rate of a rate code, kbit/s (Table 4-1). (PRESUMED: log 44.) -/
def bitRate (code : Nat) : Nat := [50, 100, 150, 200, 300, 400, 600].getD code 50

/-- Bits per symbol of a rate code. -/
def bitsPerSymbol (code : Nat) : Nat := if 5 ≤ code then 2 else 1

/-- The symbol rate of a rate code, ksym/s. -/
def symbolRate (code : Nat) : Nat := bitRate code / bitsPerSymbol code

/-- The occupied band of a slot's settings, Hz (Table 4-1). -/
def occupied (cfg : Word) : Nat :=
  1000 * (if field cfg 4 4 = 0 then [75, 150, 225, 300, 450, 500, 750] else [100, 200, 300, 400, 600, 800, 1200]).getD
    (field cfg 3 1) 75

/-- The occupied band of a Filet channel, Hz (R130). -/
def filetBand (width : Nat) : Nat := if width = 1 then 1884375 else 946875

/-- The occupied band of a channel, Hz. -/
def State.chanBand (s : State) (ch : Nat) : Nat :=
  let n := chanRadio ch
  if chanFilet ch then filetBand (s.fld (Reg.filetCfg n) 1 1) else occupied (s.profile n (chanSlot ch))

/-- The nominal carrier of a channel, Hz. -/
def State.carrier (s : State) (ch : Nat) : Int :=
  let n := chanRadio ch
  let f : Int := s.synFreq n
  if chanFilet ch then f + 200000 * s.sfld (Reg.filetCfg n) 15 8
  else if chanNarrow ch then f
  else f + 100000 * (2 * (chanSub ch : Int) - 63)

/-- The centre of a sub-band, Hz (R168). -/
def State.subCentre (s : State) (n sub : Nat) : Int := (s.synFreq n : Int) + 100000 * (2 * (sub : Int) - 63)

/-- Hypothesis (sub-band, slot) is active (R169). -/
def State.hypothesis (s : State) (n sub k : Nat) : Bool :=
  let enabled := if sub < 32 then s.flag (Reg.searchSbEnLo n) sub else s.flag (Reg.searchSbEnHi n) (sub - 32)
  let cfg := s.profile n k
  let c := s.subCentre n sub
  let half : Int := (occupied cfg / 2 : Nat)
  let f : Int := s.synFreq n
  let within (lo hi : Int) : Bool := decide (lo ≤ c - half) && decide (c + half ≤ hi)
  enabled && field cfg 0 0 == 1 && within (f - 6400000) (6400000 + f)
    && (within 410000000 1060000000 || within 2400000000 2500000000)

/-- SEARCH_n_SB_ACT: the sub-bands with an active hypothesis (R169, R83). -/
def State.activeSubs (s : State) (n : Nat) : Nat :=
  ((List.range 64).map fun sub => bitOf ((List.range 8).any fun k => s.hypothesis n sub k) * 2 ^ sub).sum

/-! ### Air times (R142 to R145, R593) -/

/-- Input and output bits of a puncturing period (Table 4-3). -/
def puncture (rate : Nat) : Nat × Nat := [(1, 2), (2, 3), (3, 4), (5, 6)].getD rate (1, 2)

/-- N_body of a coded GFSK body (R142). -/
def codedBits (rate len : Nat) : Nat :=
  let (k, n) := puncture rate
  8 * ((n * ((8 * len + 6 + k - 1) / k) + 7) / 8)

/-- The time of a number of bits at a bit rate in kbit/s, ns, rounded up. -/
def bitsNs (n rate : Nat) : Nat := (1000000 * n + rate - 1) / rate

/-- Whether a slot sends SUN-FSK frames (R146). (PRESUMED: log 44.) -/
def isSun (cfg : Word) : Bool := field cfg 5 5 = 1

/-- The coded bits of PHR and PSDU of a SUN-FSK frame: the lengths of IEEE 802.15.4, with two tail and padding octets
under FEC. (PRESUMED: log 44.) -/
def sunBits (fec : Bool) (len : Nat) : Nat :=
  if fec then 2 * (16 + 8 * len + 3 + 13 - 8 * ((2 + len) % 2)) else 16 + 8 * len

/-- Symbols of preamble and sync word, or SFD (R593). -/
def syncSymbols (cfg : Word) : Nat := 8 * field cfg 13 9 + (if isSun cfg then 16 else 32)

/-- The preamble and sync time of a channel, ns (R593). -/
def State.syncNs (s : State) (ch : Nat) : Nat :=
  if chanFilet ch then 240000
  else
    let cfg := s.profile (chanRadio ch) (chanSlot ch)
    bitsNs (syncSymbols cfg) (symbolRate (field cfg 3 1))

/-- The time from the end of the sync word or SFD to the last body symbol, ns: native at a code rate, coded or not;
SUN-FSK with or without FEC. -/
def bodyNs (cfg : Word) (rate : Nat) (uncoded fec : Bool) (len : Nat) : Nat :=
  let r := field cfg 3 1
  if isSun cfg then bitsNs (sunBits fec len) (bitRate r)
  else bitsNs (80 + (if uncoded then 8 * len else codedBits rate len)) (bitRate r)

/-- Data bits per Filet symbol (R144): N_CBPS × rate. -/
def dataBits (ncbps rate : Nat) : Nat :=
  let (k, n) := puncture rate
  ncbps * k / n

/-- The air time of a Filet data frame, ns (R143, R144). -/
def filetNs (len ndbps : Nat) : Nat := 120000 * (3 + (8 * len + 6 + ndbps - 1) / ndbps)

/-- N_CBPS of the default loading (Table 4-6). -/
def defaultCbps (width : Nat) : Nat := if width = 1 then 384 else 192

/-- A loading table of a Filet peer: 0 receive, 1 transmit, 2 proposal, 3 previous receive. -/
def State.loadTable (s : State) (peer half : Nat) : Bytes :=
  (Table.find s.loading.tables (peer * 4 + half)).getD (List.replicate 128 0)

/-- Whether a loading table is valid. -/
def tableValid (t : Bytes) : Bool := bit (num t 0 1) 0

/-- The transmit table a Filet data frame to a peer would use (R154). -/
def State.transmitTable (s : State) (n : Nat) (peer : Option Nat) : Option Bytes :=
  match peer with
  | none => none
  | some i =>
    let t := s.loadTable i 1
    if tableValid t && bits (num t 0 1) 1 1 == s.fld (Reg.filetCfg n) 1 1 then some t else none

/-- The air time of a frame of length L on a channel, ns: for a Filet channel under the transmit table of a peer. -/
def State.airNs (s : State) (ch len : Nat) (filetPeer : Option Nat) : Nat :=
  let n := chanRadio ch
  if chanFilet ch then
    let w := s.fld (Reg.filetCfg n) 1 1
    match s.transmitTable n filetPeer with
    | some t => filetNs len (dataBits (num t 4 2) (bits (num t 0 1) 3 2))
    | none => filetNs len (dataBits (defaultCbps w) (s.fld (Reg.filetCfg n) 3 2))
  else
    let cfg := s.profile n (chanSlot ch)
    s.syncNs ch + bodyNs cfg (field cfg 7 6) (field cfg 8 8 == 1) (s.flag (Reg.profSun n (chanSlot ch)) 2) len

/-- The air time of an acknowledgement on a channel at a given rate and coding, ns (R202). -/
def State.ackNs (s : State) (ch len rate : Nat) (uncoded : Bool) : Nat :=
  let n := chanRadio ch
  if chanFilet ch then filetNs len (dataBits (defaultCbps (s.fld (Reg.filetCfg n) 1 1)) rate)
  else
    let cfg := s.profile n (chanSlot ch)
    s.syncNs ch + bodyNs cfg rate uncoded (s.flag (Reg.profSun n (chanSlot ch)) 2) len

/-- The header rate at which a channel sends by default. -/
def State.chanRate (s : State) (ch : Nat) : Nat :=
  let n := chanRadio ch
  if chanFilet ch then s.fld (Reg.filetCfg n) 3 2 else field (s.profile n (chanSlot ch)) 7 6

/-- Whether a channel sends uncoded by default. -/
def State.chanUncoded (s : State) (ch : Nat) : Bool :=
  !chanFilet ch && field (s.profile (chanRadio ch) (chanSlot ch)) 8 8 == 1

/-- L of a MAC frame: MAC header, plait header, payload, security, CRC-32 (R187, R402). (PRESUMED: log 44.) -/
def macLength (plait secured : Bool) (payload : Nat) : Nat :=
  8 + (if plait then 2 else 0) + payload + (if secured then 12 else 0) + 4

/-- The longest L of a channel's family (R151). -/
def familyMax (ch : Nat) : Nat := if chanFilet ch then 8191 else 2047

/-! ### The regulatory profile (R107 to R116) -/

/-- Whether a certificate is applied. -/
def State.licensed (s : State) : Bool := s.flag Reg.rglCertStat 0

/-- Bands of the applied certificate. -/
def State.bandCount (s : State) : Nat := num s.rgl.certificate 10 2

/-- The entry of band `b` of a certificate body (Table 3-5). -/
def bandEntry (cert : Bytes) (b : Nat) : Bytes := slice cert (64 + 160 * b) 160

/-- Edges in units of 5 × 10^-9 Hz, in which a shift in 0.01 ppm is exact. -/
abbrev edgeUnit : Int := 200000000

/-- The band occupied around a carrier shifted by an offset in 0.01 ppm, low and high edge (R124, R128). -/
def edges (carrier : Int) (offset : Int) (width : Nat) : Int × Int :=
  let c := edgeUnit * carrier + 2 * carrier * offset
  (c - edgeUnit / 2 * width, c + edgeUnit / 2 * width)

/-- The edges of a certificate's band. -/
def bandEdges (e : Bytes) : Int × Int :=
  let lo : Int := edgeUnit * 1000 * (num e 0 4 : Nat)
  (lo, lo + 200000 * edgeUnit * (num e 4 2 : Nat))

/-- The band that contains a span wholly (R110). -/
def State.bandOf (s : State) (span : Int × Int) : Option Nat :=
  if s.licensed then
    (List.range s.bandCount).find? fun b =>
      let e := bandEdges (bandEntry s.rgl.certificate b)
      decide (e.1 ≤ span.1) && decide (span.2 ≤ e.2)
  else none

/-- Whether every 200 kHz cell of a band that a span overlaps is permitted (R110). -/
def cellsPermitted (e : Bytes) (span : Int × Int) : Bool :=
  (List.range (num e 4 2)).all fun c =>
    let lo := (bandEdges e).1 + 200000 * edgeUnit * (c : Int)
    let overlaps := decide (span.1 < lo + 200000 * edgeUnit) && decide (lo < span.2)
    !overlaps || bit (num e (32 + c / 8) 1) (c % 8)

/-- The power limit of a band for a radio, 0.25 dBm (R102, R110). -/
def State.powerLimit (s : State) (b n : Nat) : Int :=
  min 64 (signed 16 (num (bandEntry s.rgl.certificate b) 6 2) - signed 8 (num s.rgl.certificate (28 + n) 1))

/-- TRXn_TX_PWR, 0.25 dBm. -/
def State.txPower (s : State) (n : Nat) : Int := s.sfld (Reg.trxTxPwr n) 7 0

/-- The band that contains TRXn_SYN_FREQ (R110, R193). -/
def State.bandAt (s : State) (f : Nat) : Option Nat := s.bandOf (edgeUnit * (f : Int), edgeUnit * (f : Int))

/-- The duty limit of a band, µs, where it has one (Table 3-5). -/
def State.dutyLimit (s : State) (b : Nat) : Option Nat :=
  let d := num (bandEntry s.rgl.certificate b) 8 4
  if d < 3600000000 then some d else none

/-- The duty bins of a band, newest first. -/
def State.dutyBins (s : State) (b : Nat) : List Nat := (Table.find s.rgl.bins b).getD []

/-- The duty used in a band (R112). -/
def State.dutyUsed (s : State) (b : Nat) : Nat := (s.dutyBins b).sum

/-- The bins of a band set, with TRX0_RGL_DUTY_USED. -/
def State.setBins (s : State) (b : Nat) (l : List Nat) : State :=
  let s := { s with rgl := { s.rgl with bins := if l.all (· == 0) then Table.drop s.rgl.bins b else Table.put s.rgl.bins b l } }
  s.setReg (Reg.rglDutyUsed b) (word (s.dutyUsed b))

/-- DUTY_HIGH as the duty used stands (R115). -/
def State.dutyWatch (s : State) (b : Nat) : State :=
  match s.dutyLimit b with
  | none => s
  | some limit =>
    let warn := s.fld Reg.rglDutyWarn 7 0
    let used := s.dutyUsed b
    if s.rgl.high.contains b then
      if used * 100 < limit * (warn - 5) then { s with rgl := { s.rgl with high := s.rgl.high.filter (· != b) } } else s
    else if limit * warn < used * 100 then
      ({ s with rgl := { s.rgl with high := s.rgl.high ++ [b] } }).raise 0x1001 1 (le 1 b ++ le 4 used ++ le 4 limit)
    else s

/-- Microseconds of `[a, e)` that lie in the bin `j` before the newest; of the newest what is left of `total`.
(DEDUCED: log 42.) -/
def State.dutyShare (s : State) (a e j : Nat) : Nat :=
  let hi := s.rgl.binStart - 1000000000 * (j - 1)
  let lo := s.rgl.binStart - 1000000000 * j
  (min e hi - max a lo) / 1000

/-- A transmission that radiated from `a` to `e`, elapsed ns, charged to a band (R112). (DEDUCED: log 42.) -/
def State.chargeDuty (s : State) (b a e : Nat) : State :=
  let total := (e - a + 999) / 1000
  let older := [1, 2].map fun j => s.dutyShare a e j
  let l := s.dutyBins b
  let l := l ++ List.replicate (3 - l.length) 0
  let newest := total - older.sum
  let l := (l.getD 0 0 + newest) :: (l.getD 1 0 + older.getD 0 0) :: (l.getD 2 0 + older.getD 1 0) :: l.drop 3
  (s.setBins b l).dutyWatch b

/-- Whether a projected air time fits the duty of a band (R113), ns of radiation. (DEDUCED: log 42.) -/
def State.dutyFits (s : State) (b radiatedNs : Nat) : Bool :=
  match s.dutyLimit b with
  | none => true
  | some limit => decide (s.dutyUsed b + (radiatedNs + 999) / 1000 ≤ limit)

/-! ### The lane pool (R172 to R176) -/

/-- The state of a lane (Table 5-8). -/
def State.laneState (s : State) (l : Nat) : Nat := s.fld (Reg.laneStat l) 2 0

/-- Lanes held by a radio. -/
def State.heldBy (s : State) (n : Nat) : Nat := s.fld Reg.poolHeld (8 * n + 7) (8 * n)

/-- The reservation of a radio; 0 for one out of service (R178). (DEDUCED: log 117.) -/
def State.reserved (s : State) (n : Nat) : Nat := if s.radioOut n then 0 else s.fld Reg.poolRes (8 * n + 7) (8 * n)

/-- The cap of a radio; 0 for one out of service (R178). -/
def State.laneCap (s : State) (n : Nat) : Nat := if s.radioOut n then 0 else s.fld Reg.poolCap (8 * n + 7) (8 * n)

/-- Free lanes of the pool. -/
def State.freeLanes (s : State) : Nat := s.fld Reg.poolStat 15 8

/-- Lanes in service. -/
def State.lanesServing (s : State) : Nat := s.fld Reg.poolStat 7 0

/-- allowed(n) of R172. -/
def State.allowed (s : State) (n : Nat) : Bool :=
  let unused := (((List.range 3).filter (· != n)).map fun m => s.reserved m - s.heldBy m).sum
  if s.heldBy n < s.reserved n then decide (0 < s.freeLanes)
  else decide (s.heldBy n < s.laneCap n) && decide (unused < s.freeLanes)

/-- The lowest-numbered free lane. -/
def State.freeLane (s : State) : Option Nat := (List.range 80).find? fun l => s.laneState l == 0

/-- The reception on a lane. -/
def State.reception (s : State) (l : Nat) : Option Reception := Table.find s.lanes.receptions l

/-- Receptions and holds changed. -/
def State.setReception (s : State) (l : Nat) (r : Reception) : State :=
  { s with lanes := { s.lanes with receptions := Table.put s.lanes.receptions l r } }

/-- A lane taken from the free lanes for a radio, with its status word. -/
def State.takeLane (s : State) (l n : Nat) (w : Word) : State :=
  let s := s.setReg (Reg.laneStat l) w
  let s := s.setFld Reg.poolStat 15 8 (s.freeLanes - 1)
  s.setFld Reg.poolHeld (8 * n + 7) (8 * n) (s.heldBy n + 1)

/-- A lane released to the pool (R175), or let go by a lane that leaves service. -/
def State.releaseLane (s : State) (l : Nat) : State :=
  let st := s.laneState l
  if st = 0 ∨ st = 4 ∨ st = 5 ∨ st = 6 then s
  else
    let n := s.fld (Reg.laneStat l) 4 3
    let s := s.setReg (Reg.laneStat l) 0
    let s := s.setFld Reg.poolStat 15 8 (s.freeLanes + 1)
    let s := s.setFld Reg.poolHeld (8 * n + 7) (8 * n) (s.heldBy n - 1)
    { s with lanes := { s.lanes with
        receptions := Table.drop s.lanes.receptions l, holds := Table.drop s.lanes.holds l } }

/-- The receptions on a radio, with their lanes. -/
def State.receptionsOn (s : State) (n : Nat) : Table Reception :=
  s.lanes.receptions.filter fun e => e.2.detection.radio == n

/-- The window of a radio that is open. -/
def State.openWindow (s : State) (n : Nat) : Option Window := (s.radio n).windows.find? fun w => w.opened && !w.closed

/-- The occurrence whose stitch a radio is in: prepared and opened. -/
def State.stitch (s : State) (n : Nat) : Option Window := (s.radio n).windows.find? fun w => w.opened

/-- A prepared occurrence changed. -/
def State.modWindow (s : State) (n client : Nat) (f : Window → Window) : State :=
  s.modRadio n fun r => { r with windows := r.windows.map fun w => if w.client = client then f w else w }

/-- Whether a detection lies on a window's channel and slot (R176). -/
def onChannel (d : Detection) (ch : Nat) : Bool :=
  if chanFilet ch then d.filet
  else !d.filet && d.slot == chanSlot ch && (chanNarrow ch || d.subband == chanSub ch)

/-- A reception inside a window ended, so that the occurrence is not scored as missed (R239). -/
def State.spoilWindow (s : State) (n : Nat) (d : Detection) : State :=
  match s.openWindow n with
  | none => s
  | some w => if onChannel d w.chan then s.modWindow n w.client fun w => { w with unscored := true } else s

/-- Every reception on a radio ended, each counted in a TRXn counter, and its lane released. (DEDUCED: log 38.) -/
def State.cutReceptions (s : State) (n : Nat) (counter : Option Nat) (spoils : Bool) : State :=
  (s.receptionsOn n).foldl (fun (s : State) e =>
    let s := if spoils then s.spoilWindow n e.2.detection else s
    let s := match counter with
      | some k => s.bump (Reg.trxCnt n k)
      | none => s
    s.releaseLane e.1) s

/-- The lanes held for a radio released (R85). (DEDUCED: log 38.) -/
def State.releaseHolds (s : State) (n : Nat) : State :=
  (s.lanes.holds.filter fun e => match e.2 with
    | .stitch r _ => r == n
    | .ack r _ => r == n).foldl (fun (s : State) e => s.releaseLane e.1) s

/-- A lane held under allowed(n), and whether one was (R176, R199). -/
def State.holdLane (s : State) (n : Nat) (h : Hold) : Bool × State :=
  if s.allowed n then
    match s.freeLane with
    | some l =>
      let s := s.takeLane l n (word (32768 + (7 + 8 * n + 32 * 63)))
      (true, { s with lanes := { s.lanes with holds := Table.put s.lanes.holds l h } })
    | none => (false, s)
  else (false, s)

/-- The lane held for a purpose. -/
def State.heldLane (s : State) (h : Hold) : Option Nat := (s.lanes.holds.find? fun e => e.2 == h).map (·.1)

/-- The hold of a purpose released where it is still unused; whether it was. -/
def State.dropHold (s : State) (h : Hold) : Bool × State :=
  match s.heldLane h with
  | some l => (true, s.releaseLane l)
  | none => (false, s)

/-! ### Calibration and the way to a requested state (R92, R96) -/

/-- A full calibration starts. (DEDUCED: log 40.) -/
def State.startCal (s : State) (n : Nat) : State :=
  let s := (s.cutReceptions n none false).releaseHolds n
  let s := (s.setFlag (Reg.trxCalStat n) 1 true).setFlag (Reg.trxCalStat n) 2 false
  let s := (s.setTrx n 4).setFlag (Reg.trxState n) 9 false
  s.modRadio n fun r => { r with
    calRaised := none, calNext := false, synths := r.synths.map fun y => { y with target := none } }

/-- A radio goes to OFF: calibration and present frequencies are lost. -/
def State.trxOff (s : State) (n : Nat) : State :=
  let s := ((s.cutReceptions n none false).releaseHolds n).setTrx n 0
  let s := (s.setFld (Reg.trxCalStat n) 2 0 0).setFlag (Reg.trxState n) 9 false
  s.modRadio n fun r => { r with synths := [{}, {}], calRaised := none, calNext := false, retuneFor := none, tx := none }

/-- What a radio does once it is locked and nothing is in the air: a calibration or a retune that waits, then the
requested state. -/
def State.settleTrx (s : State) (n : Nat) (next : Nat) : State :=
  if (s.radio n).calNext then s.startCal n
  else if s.synFreq n ≠ 0 ∧ s.centre n ≠ some (s.synFreq n) ∧ (s.radio n).retuneFor = none then s.retune n (s.synFreq n)
  else s.setTrx n next

/-- The state a radio takes after a lock, a calibration or a transmission. -/
def State.restState (s : State) (n : Nat) : Nat :=
  let q := s.trxReq n
  if q = 5 ∨ q = 6 then q else 2

end Sys2Proof.Machine
end

