-- ==== Sys2Proof/Machine/Mac.lean ====
section
/-! DEFINITION. Contention frames (chapter 6): their attempts, backoff, outcomes and retries, the members of plaits,
and what an acknowledgement resolves. -/

namespace Sys2Proof.Machine

/-! ### Engines and frames -/

/-- Whether the medium access engine of a radio is enabled (R222). -/
def State.macOn (s : State) (n : Nat) : Bool := s.flag (Reg.wmacCtl n) 0

/-- The engines' settings, as a frame that enters QUEUED takes them (R221). (DEDUCED: log 50.) -/
def State.engineSets (s : State) : List EngineSet :=
  (List.range 3).map fun n => ⟨s.reg (Reg.wmacCtl n), s.reg (Reg.wmacLbt n), s.reg (Reg.wmacBo n), s.reg (Reg.wmacAck n)⟩

/-- The settings of a radio's engine that a frame runs under. -/
def AirFrame.set (f : AirFrame) (n : Nat) : EngineSet := f.engines.getD n {}

/-- A logical frame. -/
def State.frame (s : State) (id : Nat) : Option AirFrame := Table.find s.mac.frames id

/-- A logical frame changed. -/
def State.modFrame (s : State) (id : Nat) (f : AirFrame → AirFrame) : State :=
  { s with mac := { s.mac with frames := Table.modify s.mac.frames id f } }

/-- A copy of a frame changed. -/
def State.modCopy (s : State) (id m : Nat) (f : AirCopy → AirCopy) : State :=
  s.modFrame id fun x => { x with copies := x.copies.map fun c => if c.member = m then f c else c }

/-- A copy by its number: frame · 4 + member. -/
def State.copy (s : State) (x : Nat) : Option (AirFrame × AirCopy) :=
  (s.frame (x / 4)).bind fun f => (f.copies.find? fun c => c.member == x % 4).map fun c => (f, c)

/-- The peer of a frame. -/
def AirFrame.peer (f : AirFrame) : Option Nat :=
  match f.target with
  | .peer q => some q
  | _ => none

/-- The radio that carries a frame, apart from the members of a plait. -/
def AirFrame.radio (s : State) (f : AirFrame) : Nat :=
  match f.target with
  | .peer q => chanRadio (s.peerHome q)
  | .broadcast n => n
  | .sounding n _ _ => n

/-- The Filet peer whose transmit table a frame to a peer uses (R154). -/
def State.filetPeer (s : State) (q : Nat) : Nat := s.fld (Reg.peerAddr q) 23 16

/-- The short address of a peer. -/
def State.peerAddress (s : State) (q : Nat) : Nat := s.fld (Reg.peerAddr q) 15 0

/-- A counter of Table 6-12 of the peer of a frame. -/
def State.countPeer (s : State) (f : AirFrame) (j : Nat) : State :=
  match f.peer with
  | some q => s.bump (Reg.peerCnt q j)
  | none => s

/-- L of a frame on one of its channels. -/
def AirFrame.len (f : AirFrame) : Nat := macLength f.plait.isSome f.secured f.payload.length

/-- The air time of a frame on a channel, ns. -/
def State.frameNs (s : State) (f : AirFrame) (ch : Nat) : Nat :=
  match f.target with
  | .sounding _ _ symbols => 120000 * (3 + symbols)
  | .peer q => s.airNs ch f.len (some (s.filetPeer q))
  | .broadcast _ => s.airNs ch f.len none

/-! ### Listen-before-talk (R193) -/

/-- The unshifted band of a channel. -/
def State.chanEdges (s : State) (ch : Nat) : Int × Int := edges (s.carrier ch) 0 (s.chanBand ch)

/-- The certificate's threshold, dBm, and listen time, µs, of a band that requires listening (R111). -/
def State.bandListen (s : State) (b : Option Nat) : Option (Int × Nat) :=
  b.bind fun b =>
    let e := bandEntry s.rgl.certificate b
    if num e 12 1 = 1 then some (signed 8 (num e 13 1), num e 14 2) else none

/-- The effective threshold and listen time, ns, of a channel under settings, where listen-before-talk applies. -/
def State.listenFor (s : State) (lbt : Word) (ch : Nat) : Option (Int × Nat) :=
  let thr := fieldInt lbt 15 8
  let listen := field lbt 31 16
  match s.bandListen (s.bandOf (s.chanEdges ch)) with
  | some (t, m) => some (min thr t, max listen m * 1000)
  | none => if field lbt 0 0 = 1 then some (thr, listen * 1000) else none

/-! ### The retry budget (R200) -/

/-- c_i of R200 on one channel, doubled, ns. -/
def State.attemptCost (s : State) (f : AirFrame) (ch i : Nat) : Nat :=
  let n := chanRadio ch
  let e := f.set n
  let be := min (field e.bo 19 16 + i - 1) (field e.bo 23 20)
  let listen := ((s.listenFor e.lbt ch).map (·.2)).getD 0
  let ackLen := if f.plait.isSome then 24 else 12
  2 * listen + field e.bo 15 0 * 1000 * (2 ^ be - 1)
    + 2 * (100000 + s.frameNs f ch + s.ackNs ch ackLen (s.chanRate ch) (s.chanUncoded ch) + field e.ack 7 0 * 1000)

/-- The channels of a frame: its home, or the members of its plait (R190). -/
def State.frameChans (s : State) (f : AirFrame) : List (Nat × Nat) :=
  match f.plait with
  | some p => ((List.range 4).map fun m => (m, s.plaitMember p m)).filter fun e => bit e.2 0
  | none =>
    match f.target with
    | .peer q => [(0, s.peerHome q)]
    | .broadcast _ => (f.copies.map fun c => (0, c.chan))
    | .sounding n _ _ => [(0, 8 + 2 * n)]

/-- The retry limit of a frame: the peer's, or the radio's (R200). -/
def State.retryLimit (s : State) (f : AirFrame) : Nat :=
  match f.peer with
  | some q =>
    let r := s.fld (Reg.peerCfg q) 25 23
    if r = 0 then field (f.set (chanRadio (((s.frameChans f).head?.map (·.2)).getD 0))).ack 18 16 else r
  | none => 1

/-- The largest a with E(a) ≤ H / 2, at least 1; H in ns. -/
def State.budgetFor (s : State) (f : AirFrame) (hint : Option Nat) : Nat :=
  let limit := s.retryLimit f
  match hint with
  | none => limit
  | some h =>
    let costs := (List.range limit).map fun i =>
      (((s.frameChans f).map fun e => s.attemptCost f e.2 (i + 1)).foldl max 0)
    max 1 ((List.range (limit + 1)).filter fun a => decide ((costs.take a).sum ≤ h)).length.pred

/-! ### Backoff (R197, R222) -/

/-- The end of a wait that begins now, or what is left of it while the engine is disabled. -/
def State.waitEnd (s : State) (n ns : Nat) : Nat := if s.macOn n then s.elapsed + ns else ns

/-- A copy enters BACKOFF: slots drawn afresh. -/
def State.enterBackoff (s : State) (id m : Nat) : State :=
  match s.copy (id * 4 + m) with
  | none => s
  | some (f, c) =>
    let n := chanRadio c.chan
    let (v, s) := s.draw
    let slots := v % 2 ^ c.be
    s.modCopy id m fun c => { c with
      phase := .backoff, due := s.waitEnd n (slots * field (f.set n).bo 15 0 * 1000) }

/-- The members of a plait that may carry a new attempt: up, or probed, or all when every one is down; radios whose
engine is enabled (R212, R222). (DEDUCED: log 49.) -/
def State.attemptMembers (s : State) (f : AirFrame) (p : Nat) : List (Nat × Nat) :=
  let all := (s.frameChans f).filter fun e => s.macOn (chanRadio e.2)
  let x := (Table.find s.mac.plaits p).getD {}
  let refused := (f.copies.filter fun c => c.refused.isSome).map (·.member)
  let all := all.filter fun e => !refused.contains e.1
  let up := all.filter fun e => !x.down.contains e.1
  if up.isEmpty then all
  else if f.attempt = 1 then all.filter fun e => !x.down.contains e.1 || x.probe.contains e.1
  else up

/-- What is queued on a radio ahead of a new copy, ns: the judgement of R210. -/
def State.backlog (s : State) (n : Nat) : Nat :=
  let air := match (s.radio n).tx with
    | some t => 100000 + (t.first + t.airNs) - s.elapsed
    | none => 0
  air + ((s.mac.frames.flatMap fun e => (e.2.copies.filter fun c =>
      chanRadio c.chan == n && [Phase.backoff, Phase.listen, Phase.decide].contains c.phase).map fun c =>
        s.frameNs e.2 c.chan + (if s.macOn n then c.due - s.elapsed else 0))).sum

/-- The member of a split attempt: the earliest start, then another than the last, then the lowest index (R210).
(DEDUCED: log 49.) -/
def State.splitMember (s : State) (f : AirFrame) (l : List (Nat × Nat)) : List (Nat × Nat) :=
  let best := l.foldl (fun (b : Option (Nat × Nat × Nat)) e =>
    let cost := (s.backlog (chanRadio e.2)) * 2 + bitOf (e.1 == f.last)
    match b with
    | none => some (cost, e.1, e.2)
    | some x => if cost < x.1 then some (cost, e.1, e.2) else b) none
  match best with
  | some x => [(x.2.1, x.2.2)]
  | none => []

/-- How long a frame has waited for receptions before its next copy on a member: the wait of its last copy there, or of
its last copies (R194). -/
def AirFrame.waitedOn (f : AirFrame) (m : Nat) : Nat :=
  match f.copies.find? fun c => c.member == m with
  | some c => c.waited
  | none => (f.copies.map (·.waited)).foldl max 0

/-- An attempt begins: its copies enter BACKOFF (R196, R209, R210). A frame without a member to carry it waits. -/
def State.startAttempt (s : State) (id : Nat) : State :=
  match s.frame id with
  | none => s
  | some f =>
    let chans := match f.plait with
      | none => s.frameChans f
      | some p =>
        let l := s.attemptMembers f p
        if s.flag (Reg.pltCfg p) 1 then s.splitMember f l else l
    let fresh := chans.map fun e =>
      let e' := f.set (chanRadio e.2)
      ({ member := e.1, chan := e.2, waited := f.waitedOn e.1, be := min (field e'.bo 19 16 + f.attempt - 1) (field e'.bo 23 20) } : AirCopy)
    let kept := f.copies.filter fun c => c.refused.isSome
    let s := s.modFrame id fun x => { x with copies := kept ++ fresh }
    let s := match f.plait with
      | some p =>
        { s with mac := { s.mac with plaits := Table.modify s.mac.plaits p fun x => { x with
            probe := x.probe.filter fun m => !(chans.map (·.1)).contains m } } }
      | none => s
    fresh.foldl (fun (s : State) c => s.enterBackoff id c.member) s

/-! ### Plait members (R212) -/

/-- A plait's record. -/
def State.plait (s : State) (p : Nat) : Plait := (Table.find s.mac.plaits p).getD {}

/-- A plait's record changed. -/
def State.modPlait (s : State) (p : Nat) (f : Plait → Plait) : State :=
  { s with mac := { s.mac with plaits := Table.put s.mac.plaits p (f (s.plait p)) } }

/-- A counter of PLAIT_READ advanced. -/
def State.countPlait (s : State) (p k : Nat) (n : Nat := 1) : State :=
  s.modPlait p fun x => { x with counts := setAt x.counts k fun v => min (v + n) 0xFFFFFFFF }

/-- The members of a plait that are in use. -/
def State.plaitMembers (s : State) (p : Nat) : List Nat := (List.range 4).filter fun m => bit (s.plaitMember p m) 0

/-- WMAC_PLT_TX members up. (DEDUCED: log 49.) -/
def State.showMembers (s : State) (p : Nat) : State :=
  s.setFld (Reg.pltTx p) 27 24 (((s.plaitMembers p).filter fun m => !(s.plait p).down.contains m).map fun m => 2 ^ m).sum

/-- A copy or an attempt on a member ended without a matching acknowledgement. -/
def State.memberFailed (s : State) (p m : Nat) : State :=
  let n := (s.plait p).fails.getD m 0 + 1
  let s := s.modPlait p fun x => { x with fails := setAt x.fails m fun _ => n }
  if s.fld (Reg.pltTime p) 15 12 ≤ n ∧ !(s.plait p).down.contains m then
    let s := (s.modPlait p fun x => { x with down := x.down ++ [m] }).showMembers p
    s.raise 0x1300 1 (le 1 p ++ le 1 m ++ le 1 (chanRadio (s.plaitMember p m)) ++ le 2 n)
  else s

/-- A matching acknowledgement on a member. -/
def State.memberHeard (s : State) (p m : Nat) : State :=
  let s := s.modPlait p fun x => { x with fails := setAt x.fails m fun _ => 0 }
  if (s.plait p).down.contains m then
    let s := (s.modPlait p fun x => { x with down := x.down.filter (· != m), probe := x.probe.filter (· != m) }).showMembers p
    s.raise 0x1301 0 (le 1 p ++ le 1 m ++ le 1 (chanRadio (s.plaitMember p m)))
  else s

/-! ### The end of a frame -/

/-- Unresolved frames of a plait. -/
def State.unresolved (s : State) (p : Nat) : Table AirFrame :=
  s.mac.frames.filter fun e => e.2.started && e.2.plait == some p

/-- WMAC_PLT_TX unresolved. -/
def State.showUnresolved (s : State) (p : Nat) : State := s.setFld (Reg.pltTx p) 22 16 (s.unresolved p).length

/-- The node of a frame has one frame less in the engine, and its cells are given back. (DEDUCED: log 53.) -/
def State.letGo (s : State) (f : AirFrame) : State :=
  let s := match f.buffer with
    | some b => s.dropCopy b
    | none => s
  match f.node with
  | some p => { s with tm := { s.tm with held := Table.put s.tm.held p ((Table.find s.tm.held p).getD 0 - 1) } }
  | none => s

/-- A radio in IDLE that entered a receive state to listen goes back when no frame needs it any more (R193). -/
def State.leaveListen (s : State) (n : Nat) : State :=
  if s.trxReq n = 2 ∧ s.receiving n ∧ !(s.mac.frames.any fun e => e.2.copies.any fun c =>
      chanRadio c.chan == n && [Phase.backoff, Phase.listen, Phase.decide, Phase.air, Phase.ackWait].contains c.phase) then
    s.setTrx n 2
  else s

/-- A failure without an acknowledgement in a row of a peer (R218). -/
def State.peerFailed (s : State) (q radio : Nat) : State :=
  let n := (Table.find s.mac.failed q).getD 0 + 1
  let s := { s with mac := { s.mac with failed := Table.put s.mac.failed q (min n 9) } }
  if n = 8 then s.raise 0x1302 1 (le 2 q ++ le 1 radio ++ [8]) else s

/-- A frame resolved or given up: counters, its place in the node, its command's reply (R196, R219). An outcome is a
code of RADIO_SEND's result; without one the frame ends with a status alone. (DEDUCED: log 50.) -/
def State.endFrame (s : State) (id : Nat) (status : Nat) (outcome : Option Nat) (radio stamp : Nat) : State :=
  match s.frame id with
  | none => s
  | some f =>
    let s := { s with mac := { s.mac with frames := Table.drop s.mac.frames id } }
    let s := s.letGo f
    let s := match f.plait with
      | some p => s.showUnresolved p
      | none => s
    let s := match outcome with
      | some 0 =>
        let s := (s.bump (Reg.wmacCnt radio 2)).countPeer f 2
        match f.peer with
        | some q => { s with mac := { s.mac with failed := Table.drop s.mac.failed q } }
        | none => s
      | some 1 => s
      | some _ =>
        let s := (s.bump (Reg.wmacCnt radio 3)).countPeer f 3
        match f.peer with
        | some q => s.peerFailed q radio
        | none => s
      | none => s.countPeer f 3
    let s := f.copies.foldl (fun (s : State) c => s.leaveListen (chanRadio c.chan)) s
    let ns := stamp / 65536
    let result := match f.target with
      | .sounding .. => []
      | _ => le 1 (outcome.getD 2) ++ le 1 f.attempt ++ le 1 (if f.plait.isSome then f.last else 0xFF) ++ le 1 f.budget
          ++ le 6 (ns / 1000000000) ++ le 4 (ns % 1000000000)
    s.finishWork (· == .frame id) (f.stopping.getD status) result

/-- Every copy of an attempt has ended: the next attempt, or the frame's end (Table 6-2, R201, R209).
(DEDUCED: log 50.) -/
def State.attemptOver (s : State) (id : Nat) : State :=
  match s.frame id with
  | none => s
  | some f =>
    let radio := ((f.copies.head?).map fun c => chanRadio c.chan).getD 0
    let ended := f.copies.filter fun c => c.phase == .ended
    match ended with
    | [] => s.endFrame id (((f.copies.getLast?).bind (·.refused)).getD Status.notPermitted) none radio 0
    | _ =>
      if f.stopping.isSome then s.endFrame id Status.ok (some 2) radio 0
      else if f.attempt < f.budget && f.ackReq then
        (s.modFrame id fun x => { x with attempt := x.attempt + 1 }).startAttempt id
      else if ended.all (·.noChannel) then s.endFrame id Status.ok (some 3) radio 0
      else if ended.any (·.sent) then s.endFrame id Status.ok (some 1) radio 0
      else s.endFrame id Status.ok (some 2) radio 0

/-- Whether every copy of a frame has ended, on engines that are enabled (R222). (DEDUCED: log 50.) -/
def State.allEnded (s : State) (f : AirFrame) : Bool :=
  f.copies.all fun c => c.phase == .out || (c.phase == .ended && s.macOn (chanRadio c.chan))

/-- A copy reaches END_ATTEMPT. -/
def State.copyEnded (s : State) (id m : Nat) (noChannel : Bool) : State :=
  let s := s.modCopy id m fun c => { c with phase := .ended, noChannel := noChannel }
  match s.frame id with
  | none => s
  | some f =>
    let s := match f.plait with
      | some p =>
        if f.ackReq && (f.copies.any fun c => c.member == m && s.macOn (chanRadio c.chan)) then s.memberFailed p m else s
      | none => s
    if s.allEnded f then s.attemptOver id else s

/-- A copy is refused with a status: it takes no further part in its frame (R209); the frame fails when no copy is
left. -/
def State.copyRefused (s : State) (id m status : Nat) : State :=
  let s := s.modCopy id m fun c => { c with phase := .out, refused := some status }
  match s.frame id with
  | none => s
  | some f =>
    let s := if status = Status.dutyLimit then s.countPeer f 8 else s
    if s.allEnded f then s.attemptOver id else s

/-- A frame acknowledged on a radio; copies that have not reached AIR are withdrawn (R209). -/
def State.frameAcked (s : State) (id radio member stamp : Nat) : State :=
  match s.frame id with
  | none => s
  | some f =>
    let waiting := (f.copies.filter fun c => [Phase.queued, Phase.backoff, Phase.listen, Phase.decide].contains c.phase).length
    let s := f.copies.foldl (fun (s : State) c => (s.dropHold (.ack (chanRadio c.chan) (id * 4 + c.member))).2) s
    let s := match f.plait with
      | some p => s.countPlait p 5 waiting
      | none => s
    let s := s.modFrame id fun x => { x with last := member }
    s.endFrame id Status.ok (some 0) radio stamp

/-! ### Steps of Table 6-2 -/

/-- Whether a frame is at the head of its queue with nothing unresolved before it (R191, R208). -/
def State.mayStart (s : State) (id : Nat) (f : AirFrame) : Bool :=
  let earlier := s.mac.frames.filter fun e => e.1 < id
  match f.plait with
  | some p =>
    let open_ := s.unresolved p
    let oldest := ((open_.head?).map (·.2.seq)).getD (s.fld (Reg.pltTx p) 11 0)
    !(earlier.any fun e => e.2.plait == some p && !e.2.started)
      && decide ((s.fld (Reg.pltTx p) 11 0 + 4096 - oldest) % 4096 < 64)
      && (s.frameChans f).any fun e => s.macOn (chanRadio e.2)
  | none =>
    s.macOn (f.radio s) &&
      (match f.target with
        | .peer q => !(s.mac.frames.any fun e => e.2.target == .peer q && e.2.plait.isNone && e.2.started)
            && !(earlier.any fun e => e.2.target == .peer q && e.2.plait.isNone)
        | _ => true)

/-- QUEUE_HEAD: the frame takes its sequence and enters BACKOFF with a = 1 (R196). -/
def execQueueHead (frame : Nat) (s : State) : Host.Outcome State Fault Refusal :=
  .next (match s.frame frame with
    | none => s
    | some f =>
      if f.started || !s.mayStart frame f then s
      else
        let (seq, s) := match f.plait with
          | some p =>
            let q := s.fld (Reg.pltTx p) 11 0
            (q, s.setFld (Reg.pltTx p) 11 0 ((q + 1) % 4096))
          | none =>
            match f.target with
            | .peer q =>
              let v := s.fld (Reg.peerSeq q) 11 0
              (v, s.setFld (Reg.peerSeq q) 11 0 ((v + 1) % 4096))
            | _ => (Config.broadcastSeq frame % 4096, s)
        let s := s.modFrame frame fun x => { x with started := true, seq := seq }
        let s := match f.plait with
          | some p => s.showUnresolved p
          | none => s
        s.startAttempt frame)

/-- A safe point of R201: a frame that is to stop ends here. -/
def State.safePoint (s : State) (x : Nat) (f : AirFrame) (then_ : State → State) : State :=
  if f.stopping.isSome then s.copyEnded (x / 4) (x % 4) false else then_ s

/-- The state a radio in IDLE enters to listen on a channel (R193). -/
def State.enterListen (s : State) (n ch : Nat) : State := if s.trx n = 2 then s.setTrx n (if chanNarrow ch then 5 else 6) else s

/-- BACKOFF_EXPIRY: to LISTEN, or to DECIDE where listen-before-talk does not apply. -/
def execBackoffExpiry (frame : Nat) (s : State) : Host.Outcome State Fault Refusal :=
  .next (match s.copy frame with
    | none => s
    | some (f, c) =>
      let n := chanRadio c.chan
      if c.phase != .backoff || !s.macOn n then s
      else
        (s.reachElapsed c.due).safePoint frame f fun s =>
          match s.listenFor (f.set n).lbt c.chan with
          | none => s.modCopy (frame / 4) (frame % 4) fun c => { c with phase := .decide, due := s.elapsed }
          | some (_, ns) =>
            let extra := if s.trx n = 2 then 20000 else 0
            let s := s.enterListen n c.chan
            s.modCopy (frame / 4) (frame % 4) fun c => { c with phase := .listen, due := s.elapsed + extra + ns })

/-- A reception past its sync word with a carrier inside a channel's band (R193). -/
def State.receptionIn (s : State) (ch : Nat) : Bool :=
  let e := s.chanEdges ch
  (s.receptionsOn (chanRadio ch)).any fun r => r.2.slot.isSome
    && decide (e.1 ≤ edgeUnit * (r.2.detection.carrier : Int)) && decide (edgeUnit * (r.2.detection.carrier : Int) ≤ e.2)

/-- LISTEN_DONE: clear to DECIDE; busy to BACKOFF, or to the end of the attempt past cca_max. -/
def execListenDone (frame : Nat) (busy : Bool) (s : State) : Host.Outcome State Fault Refusal :=
  .next (match s.copy frame with
    | none => s
    | some (f, c) =>
      let n := chanRadio c.chan
      if c.phase != .listen || !s.macOn n then s
      else
        (s.reachElapsed c.due).safePoint frame f fun s =>
          if !busy && !s.receptionIn c.chan then
            s.modCopy (frame / 4) (frame % 4) fun c => { c with phase := .decide, due := s.elapsed }
          else
            let s := s.bump (Reg.wmacCnt n 4)
            let s := s.modCopy (frame / 4) (frame % 4) fun c => { c with
              busy := c.busy + 1, be := min (c.be + 1) (field (f.set n).bo 23 20) }
            if field (f.set n).ctl 15 8 < c.busy + 1 then
              ((s.bump (Reg.wmacCnt n 5)).countPeer f 7).copyEnded (frame / 4) (frame % 4) true
            else s.enterBackoff (frame / 4) (frame % 4))

/-- Receptions on a radio in DECODE or FLUSH. -/
def State.decoding (s : State) (n : Nat) : Bool := (s.receptionsOn n).any fun e => [2, 3].contains (s.laneState e.1)

/-- What is left of the defer_rx allowance of a copy, ns (R194). -/
def State.deferLeft (s : State) (f : AirFrame) (c : AirCopy) : Nat :=
  let limit := field (f.set (chanRadio c.chan)).ctl 31 16 * 1000
  limit - (c.waited + (match c.waitSince with
    | some t => s.elapsed - t
    | none => 0))

/-- DEFER_RX_EXPIRY: the allowance is spent, and the frame goes at its next clear listen. -/
def execDeferRxExpiry (frame : Nat) (s : State) : Host.Outcome State Fault Refusal :=
  .next (match s.copy frame with
    | none => s
    | some (f, c) =>
      let n := chanRadio c.chan
      if c.phase != .decide || c.waitSince.isNone then s
      else
        let s := s.passNs (s.deferLeft f c)
        let s := s.modCopy (frame / 4) (frame % 4) fun c => { c with
          waited := max c.waited (field (f.set n).ctl 31 16 * 1000), waitSince := none }
        match s.listenFor (f.set n).lbt c.chan with
        | none => s
        | some (_, ns) => s.modCopy (frame / 4) (frame % 4) fun c => { c with phase := .listen, due := s.elapsed + ns })

/-- ACK_WINDOW_CLOSE: the window closes unmatched, unless a reception whose sync word ended inside it still gives its
result (R198). -/
def State.ackPending (s : State) (n ch due : Nat) : Bool :=
  (s.receptionsOn n).any fun e => e.2.slot.isSome && decide (e.2.syncAt ≤ due) && onChannel e.2.detection ch

/-! ### New frames -/

/-- A contention frame enters QUEUED (R190, R200). -/
def State.queueFrame (s : State) (f : AirFrame) (hint : Option Nat) (chan : Nat) : Nat × State :=
  let (id, s) := s.newFrame
  let f := { f with engines := s.engineSets, copies := [{ member := 0, chan := chan }] }
  let f := { f with budget := s.budgetFor f hint }
  let s := { s with mac := { s.mac with frames := Table.put s.mac.frames id f } }
  let s := match f.peer with
    | some _ => (s.bump (Reg.wmacCnt (chanRadio chan) 0)).countPeer f 0
    | none => s
  (id, s)

/-- A frame to a peer, through its plait under via_plait while that is active (R207). -/
def State.plaitOf (s : State) (q : Nat) : Option Nat :=
  let p := s.fld (Reg.peerCfg q) 21 16
  if s.flag (Reg.peerCfg q) 22 && s.flag (Reg.pltCfg p) 0 && s.fld (Reg.pltCfg p) 16 8 == q then some p else none

/-- A unicast frame to a peer. -/
def State.sendPeer (s : State) (q : Nat) (macType : Nat) (ackReq secured : Bool) (payload : Bytes) (node buffer : Option Nat) (hint : Option Nat) : Nat × State :=
  let p := s.plaitOf q
  let ch := match p with
    | some p => s.plaitMember p 0
    | none => s.peerHome q
  s.queueFrame { target := .peer q, macType := macType, ackReq := ackReq, secured := secured, payload := payload, node := node, buffer := buffer, plait := p } hint ch

/-- A broadcast frame on a channel: one attempt, no acknowledgement (R196). -/
def State.sendBroadcast (s : State) (ch : Nat) (macType : Nat) (secured : Bool) (payload : Bytes) (node buffer : Option Nat) : Nat × State :=
  s.queueFrame { target := .broadcast (chanRadio ch), macType := macType, ackReq := false, secured := secured, payload := payload, node := node, buffer := buffer, plait := none } none ch

/-! ### The engine enable (R222) -/

/-- WMAC_n_CTL.enable changes: timers of its frames are held or resumed, and frames that wait at END_ATTEMPT go on. -/
def State.macSwitched (s : State) (n : Nat) (old : Word) : State :=
  let was := field old 0 0 = 1
  let now := s.macOn n
  if was = now then s
  else
    let move (c : AirCopy) : AirCopy :=
      if chanRadio c.chan = n ∧ (c.phase = .backoff ∨ c.phase = .listen) then
        { c with due := if now then c.due + s.elapsed else c.due - s.elapsed }
      else c
    let s := { s with mac := { s.mac with frames := s.mac.frames.map fun e => (e.1, { e.2 with copies := e.2.copies.map move }) } }
    if now then
      s.mac.frames.foldl (fun (s : State) e =>
        if e.2.started && (e.2.copies.any fun c => c.phase == .ended) && s.allEnded e.2 then s.attemptOver e.1
        else if e.2.started && e.2.copies.isEmpty then s.startAttempt e.1 else s) s
    else s

end Sys2Proof.Machine
end

