-- ==== Sys2Proof/Machine/Tx.lean ====
section
/-! DEFINITION. Transmission (chapters 3, 6, 7 and 14): what a frame is on the air, the checks of its decision, the
coexistence interface, duty, and the end of a frame. -/

namespace Sys2Proof.Machine

/-! ### Client frames and their ends (R232, R243, R244) -/

/-- The frame at the head of a client's queue changed. -/
def State.modClientHead (s : State) (c : Nat) (f : ClientFrame → ClientFrame) : State :=
  match s.clientQueue c with
  | [] => s
  | h :: l => s.setClientQueue c (f h :: l)

/-- Attempts of the head frame in bytes 56 and 57 of the context. -/
def State.showAttempts (s : State) (c : Nat) : State :=
  let a := ((s.clientQueue c).head?.map (·.attempts)).getD 0
  s.patchContext c 56 (le 2 (withBits (num (s.context c) 56 2) 14 12 a))

/-- The code of TIME_CLIENT_STEP, whose result is the outcome alone (Table 11-7). -/
abbrev clientStepCode : Nat := 0x3007

/-- The head frame of a client resolved or given up, with the reply of its command (R245). (DEDUCED: log 56.) -/
def State.endClientFrame (s : State) (c status outcome : Nat) : State :=
  match s.clientQueue c with
  | [] => s
  | f :: l =>
    let s := (s.setClientQueue c l).showAttempts c
    let result := le 1 outcome ++ le 1 f.attempts ++ le 1 f.budget ++ [0] ++ le 6 (f.sentAt / 1000000000) ++ le 4 (f.sentAt % 1000000000)
    (s.outstandingOf fun o => o.work == .clientFrame c f.id).foldl (fun (s : State) o =>
      s.finish o (f.stopping.getD status) (if o.origin.opcode = clientStepCode then le 1 outcome else result)) s

/-- The air time of the head frame of a client on a channel, ns. -/
def State.clientNs (s : State) (f : ClientFrame) (ch : Nat) : Nat :=
  s.airNs ch (macLength false f.secured f.bytes.length) none

/-- The network time of an elapsed instant near the present. -/
def State.netAt (s : State) (e : Nat) : Int := (s.netNs : Int) + (e : Int) - (s.elapsed : Int)

/-- The elapsed time of a network instant near the present. -/
def State.elapsedAt (s : State) (t : Int) : Nat := ((s.elapsed : Int) + t - (s.netNs : Int)).toNat

/-- The device's turn in a stitch, from an elapsed instant on: the head frame is offered if it, the turnaround and the
client's acknowledgement end before the stitch does, and is deferred otherwise (R232). (DEDUCED: log 59.) -/
def State.offerDownlink (s : State) (n c from_ : Nat) : State :=
  match (s.radio n).windows.find? fun w => w.client == c with
  | none => s
  | some w =>
    match s.clientQueue c with
    | [] => s.modWindow n c fun w => { w with turn := none }
    | f :: _ =>
      if num (s.context c) 11 1 ≤ w.sent then s.modWindow n c fun w => { w with turn := none }
      else
        let stop := 100000 + from_ + s.clientNs f w.chan
          + (if f.ackReq then 100000 + s.ackNs w.chan 12 (s.chanRate w.chan) (s.chanUncoded w.chan) else 0)
        if s.netAt stop ≤ w.stitchEnd then s.modWindow n c fun w => { w with turn := some from_ }
        else (s.modWindow n c fun w => { w with turn := none }).bump (Reg.schedCnt n 11)

/-- An attempt of the head frame of a client failed: retried, or dropped when its attempts are used up (R243). -/
def State.clientFailed (s : State) (n c : Nat) : State :=
  match s.clientQueue c with
  | [] => s
  | f :: _ =>
    if f.stopping.isSome then s.endClientFrame c Status.ok 2
    else if f.budget ≤ f.attempts then (s.bump (Reg.schedCnt n 10)).endClientFrame c Status.ok 2
    else s

/-- A refused attempt ends the frame with its status (R93, R98, R243). -/
def State.clientRefused (s : State) (n c status : Nat) : State :=
  (s.modWindow n c fun w => { w with first := none, turn := none }).endClientFrame c status 2

/-! ### What a frame is on the air -/

/-- A frame as its radio sees it at the decision. -/
structure Shot where
  chan : Nat
  /-- 0 acknowledgement, 1 stitch frame, 2 time frame, 3 other (R103). -/
  cls : Nat
  airNs : Nat
  /-- The filtered offset of its addressee, 0.01 ppm (R128). -/
  offset : Int
  unicast : Bool
  contention : Bool
  /-- The stitch start and the latest first symbol, elapsed ns (R98). -/
  start : Option Nat
  latest : Option Nat
  /-- The instant from which the turnaround counts, elapsed ns. -/
  decided : Nat
  secured : Bool
  /-- Link record and remote address (R401, R403). -/
  link : Nat
  remote : Nat
  counter : Option (Nat × Nat)
  header : Bytes
  payload : Bytes
  /-- The step of a timing frame (Table 11-4): kind and step. -/
  timing : Option (Nat × Int)

/-- The MAC header (Table 6-1). -/
def macHeader (type : Nat) (ackReq plait secured : Bool) (attempt seq dest src : Nat) : Bytes :=
  le 2 (type + 8 * bitOf ackReq + 16 * bitOf (decide (1 < attempt)) + 32 * bitOf plait + 64 * bitOf secured
    + 128 * ((attempt - 1) % 7)) ++ le 2 seq ++ le 2 dest ++ le 2 src

/-- A radio's short address. -/
def State.macAddress (s : State) (n : Nat) : Nat := s.fld (Reg.wmacAddr n) 15 0

/-- The filtered offset of a peer on a channel (R127). -/
def State.peerOffset (s : State) (q ch : Nat) : Int :=
  if chanFilet ch then signed 16 (num (s.loadTable (s.filetPeer q) 1) 104 2) else s.sfld (Reg.peerAfc q) 15 0

/-- A copy of a contention frame on the air. -/
def State.copyShot (s : State) (f : AirFrame) (c : AirCopy) : Shot :=
  let n := chanRadio c.chan
  let (dest, link, offset) : Nat × Nat × Int := match f.target with
    | .peer q => (s.peerAddress q, 4096 + q, s.peerOffset q c.chan)
    | .broadcast n => (0xFFFF, 4608 + n, 0)
    | .sounding _ i _ => (0, 0, signed 16 (num (s.loadTable i 1) 104 2))
  let sounding := match f.target with
    | .sounding .. => true
    | _ => false
  let plaitHeader := match f.plait with
    | some p => le 1 (p + 64 * c.member) ++ [0]
    | none => []
  { chan := c.chan
    cls := if f.macType = 3 then 2 else 3
    airNs := s.frameNs f c.chan
    offset := offset
    unicast := dest != 0xFFFF && !sounding
    contention := true
    start := none
    latest := none
    decided := s.elapsed
    secured := f.secured
    link := link
    remote := dest
    counter := f.counter
    header := if sounding then []
      else macHeader f.macType f.ackReq f.plait.isSome f.secured f.attempt f.seq dest (s.macAddress n) ++ plaitHeader
    payload := f.payload
    timing := if f.macType = 3 then some (0, 0) else none }

/-- An acknowledgement on the air (R203). -/
def State.ackShot (s : State) (a : AckFrame) : Shot :=
  let tail := match a.plait with
    | some (h, top, map) => h ++ le 2 top ++ le 8 map
    | none => []
  { chan := a.chan
    cls := 0
    airNs := s.ackNs a.chan (if a.plait.isSome then 24 else 12) (a.rate % 4) (decide (4 ≤ a.rate))
    offset := 0
    unicast := true
    contention := a.client.isNone
    start := none
    latest := none
    decided := a.decided
    secured := false
    link := 0
    remote := a.dest
    counter := none
    header := macHeader 1 false a.plait.isSome false 1 a.seq a.dest (s.macAddress a.radio) ++ tail
    payload := []
    timing := none }

/-- The head frame of a client on the air, in its window (R232, R233). (DEDUCED: log 59.) -/
def State.clientShot (s : State) (w : Window) (f : ClientFrame) : Shot :=
  let c := w.client
  let n := chanRadio w.chan
  let start := w.first.map s.elapsedAt
  let seq := f.seq.getD (num (s.context c) 56 2 % 4096)
  { chan := w.chan
    cls := if f.macType = 3 then 2 else 1
    airNs := s.clientNs f w.chan
    offset := signed 16 (num (s.context c) 60 2)
    unicast := true
    contention := false
    start := start
    latest := start.map (· + num (s.context c) 12 2 * 1000)
    decided := match w.turn with
      | some t => t
      | none => s.elapsed
    secured := f.secured
    link := c
    remote := s.clientAddress c
    counter := f.counter
    header := macHeader f.macType f.ackReq false f.secured (f.attempts + 1) seq (s.clientAddress c) (s.macAddress n)
    payload := f.bytes
    timing := f.step.map fun d => (1, d) }

/-- The occurrence in which a client's head frame may be sent on a radio. (DEDUCED: log 59.) -/
def State.clientTurn (s : State) (n x : Nat) : Option (Window × ClientFrame) :=
  ((s.radio n).windows.find? fun w => (w.turn.isSome || w.first.isSome) && w.ackOf.isNone
      && ((s.clientQueue w.client).head?.map fun f => f.id * 4) == some x).bind fun w =>
    (s.clientQueue w.client).head?.map fun f => (w, f)

/-- A frame that waits for its decision on a radio. -/
def State.shot (s : State) (n x : Nat) : Option Shot :=
  match s.copy x with
  | some (f, c) => if c.phase = .decide ∧ chanRadio c.chan = n then some (s.copyShot f c) else none
  | none =>
    match Table.find s.mac.acks (x / 4) with
    | some a => if a.radio = n then some (s.ackShot a) else none
    | none => (s.clientTurn n x).map fun e => s.clientShot e.1 e.2

/-! ### Refusals -/

/-- A frame refused at or after its decision with a status; `unsent` counts an acknowledgement in ack_unsent. -/
def State.refuseShot (s : State) (n x status : Nat) (unsent : Bool) : State :=
  match s.copy x with
  | some _ => s.copyRefused (x / 4) (x % 4) status
  | none =>
    match Table.find s.mac.acks (x / 4) with
    | some _ =>
      let s := { s with mac := { s.mac with acks := Table.drop s.mac.acks (x / 4) } }
      if unsent then s.bump (Reg.trxCnt n 7) else s
    | none =>
      match (s.radio n).windows.find? fun w => ((s.clientQueue w.client).head?.map fun f => f.id * 4) == some x with
      | some w => s.clientRefused n w.client status
      | none => s

/-- A frame's attempt failed as a transient failure (R104, R105, R89): retried under its rules. -/
def State.failShot (s : State) (n x : Nat) : State :=
  match s.copy x with
  | some _ => s.copyEnded (x / 4) (x % 4) false
  | none =>
    match Table.find s.mac.acks (x / 4) with
    | some _ => { s with mac := { s.mac with acks := Table.drop s.mac.acks (x / 4) } }
    | none =>
      match (s.radio n).windows.find? fun w => ((s.clientQueue w.client).head?.map fun f => f.id * 4) == some x with
      | some w => ((s.modWindow n w.client fun w => { w with first := none }).clientFailed n w.client).offerDownlink n w.client s.elapsed
      | none => s

/-- A scheduled frame not sent (R93, R98, R104). -/
def State.slotMissed (s : State) (n x : Nat) : State :=
  (s.bump (Reg.trxCnt n 3)).refuseShot n x Status.slotMissed false

/-- A frame refused by duty (R113). -/
def State.dutyRefused (s : State) (n x : Nat) : State :=
  (s.bump (Reg.trxCnt n 4)).refuseShot n x Status.dutyLimit true

/-- A frame refused by power or channel limits (R107, R110). -/
def State.regRefused (s : State) (n x : Nat) : State :=
  (s.bump (Reg.trxCnt n 5)).refuseShot n x Status.regLocked false

/-- A radio leaves TX at once, without the turnaround (R594). (DEDUCED: log 38.) -/
def State.leaveTx (s : State) (n : Nat) : State :=
  let s := s.modRadio n fun r => { r with tx := none, retuneFor := none }
  let s := s.setReg (Reg.trxCoexStat n) 0
  s.settleTrx n (s.restState n)

/-! ### Stitches ahead (R97, R234) -/

/-- The pattern of a radio: length and phase, ns. -/
def State.patternNs (s : State) (n : Nat) : Nat := 1000000 * s.fld (Reg.schedPat n) 15 0

/-- The occurrence number at a network instant. -/
def State.occurrenceAt (s : State) (n : Nat) (t : Int) : Int :=
  (t - (1000000 * s.fld (Reg.schedPhase n) 15 0 : Nat)) / (s.patternNs n : Int)

/-- The nominal start of a client's stitch in an occurrence, network ns (R223, R225). -/
def State.nominalStart (s : State) (c : Nat) (occurrence : Int) : Int :=
  let n := s.clientRadio c
  occurrence * (s.patternNs n : Int) + (1000000 * s.fld (Reg.schedPhase n) 15 0 + s.startNs c : Nat)

/-- The channel of a client's stitch in an occurrence (R226). -/
def State.stitchChan (s : State) (c : Nat) (occurrence : Int) : Nat :=
  let ch := num (s.context c) 4 2
  if chanNarrow ch then ch
  else withBits ch 13 8 (((chanSub ch : Int) + occurrence * (bits (num (s.context c) 6 1) 5 0 : Nat)) % 64).toNat

/-- A client that is served stitches (R223, R241). -/
def State.served (s : State) (c : Nat) : Bool :=
  s.clientValid c && s.clientState c != 3 && s.flag (Reg.schedPat (s.clientRadio c)) 16

/-- The clients of a radio that are served. (DEDUCED: log 59.) -/
def State.servedOn (s : State) (n : Nat) : List Nat := s.validClients.filter fun c => s.served c && s.clientRadio c == n

/-- The window of an occurrence as the context stands (R237, R238). -/
def State.planWindow (s : State) (c : Nat) (occurrence : Int) : Window :=
  let start := s.nominalStart c occurrence
  let x := s.offsetAt c start
  let g := s.guardAt c start
  let ch := s.stitchChan c occurrence
  let sync : Int := s.syncNs ch
  let from_ := start + x
  let stop := from_ + (s.stitchNs c : Int)
  let half : Int := (s.stitchNs c / 2 : Nat)
  let t := from_ + (s.listenNs c : Int) + sync
  let width := if s.clientSamples c = 0 then none
    else
      match s.clientLevel c with
      | 0 => some g
      | 1 => some (min (2 * g) half)
      | 2 => some (min (4 * g) half)
      | _ => none
  let (lo, hi) := match width with
    | some w => (max from_ (t - w), min stop (t + w))
    | none => (from_, stop)
  let deviceFirst := bit (num (s.context c) 2 1) 5 && s.clientLevel c == 0 && decide (2 ≤ s.clientSamples c)
    && !(s.clientQueue c).isEmpty && decide (g ≤ (s.listenNs c / 2 : Nat) - sync)
  { client := c, unscored := s.sched.spoiled.any fun e => e.1 == c && (e.2 : Int) == occurrence
    occurrence := occurrence.toNat
    start := start
    x := x
    guard := g
    stitchEnd := stop
    opens := lo
    closes := hi
    laneOpens := max from_ (lo - sync)
    chan := ch
    first := if deviceFirst then some (from_ + (s.listenNs c / 2 : Nat) - sync) else none }

/-- The occurrences of a client about the present. -/
def State.occurrencesNear (s : State) (c : Nat) : List Int :=
  let n := s.clientRadio c
  let k := s.occurrenceAt n ((s.netNs : Int) - (s.startNs c : Int))
  [k - 1, k, k + 1].filter (0 ≤ ·)

/-- Whether any part of a stitch of a radio lies in a span of network time (R97). -/
def State.stitchWithin (s : State) (n : Nat) (a b : Int) : Bool :=
  ((s.radio n).windows.any fun w => decide (min w.start (w.start + w.x) < b) && decide (a < w.stitchEnd)) ||
  (s.servedOn n).any fun c => (s.occurrencesNear c).any fun k =>
    let w := s.planWindow c k
    decide (min w.start (w.start + w.x) < b) && decide (a < w.stitchEnd)

/-- Whether a contention transmission that begins now and ends at an elapsed instant is barred: it lies between the
opening of a stitch's held lane and the end of the stitch, or its end plus 100 µs would reach an opening (R234). -/
def State.barred (s : State) (n stop : Nat) : Bool :=
  let now : Int := s.netNs
  let reach := s.netAt (100000 + stop)
  let hit (w : Window) : Bool := decide (w.laneOpens ≤ reach) && decide (now < w.stitchEnd)
  ((s.radio n).windows.any hit) || (s.servedOn n).any fun c => (s.occurrencesNear c).any fun k => hit (s.planWindow c k)

/-! ### Keys (R401 to R406) -/

/-- The radio page holds a key of the radio path. -/
def State.radioKey (s : State) (page : Nat) : Bool :=
  s.flag (Reg.ciphPageCfg page) 0 && s.fld (Reg.ciphPageCfg page) 5 2 == 5

/-- The generation of a page. -/
def State.pageGeneration (s : State) (page : Nat) : Nat := s.fld (Reg.ciphPageCfg page) 13 10

/-- The record of a link. -/
def State.link (s : State) (i : Nat) : LinkRecord := (Table.find s.cipher.links i).getD {}

/-- The record of a link set. -/
def State.setLink (s : State) (i : Nat) (r : LinkRecord) : State :=
  { s with cipher := { s.cipher with links := Table.put s.cipher.links i r } }

/-- The next transmit counter of a link under the radio page, taken (R404); none at its end. -/
def State.takeCounter (s : State) (i : Nat) : Option (Nat × Nat) × State :=
  let g := s.pageGeneration (s.fld Reg.ciphRadioCfg 3 0)
  let r := s.link i
  let r := if r.generation = g then r else { r with counter := 0, generation := g, high := false }
  let r := if r.voided = some g then r else { r with voided := none }
  if r.voided.isSome then (none, s.bump (Reg.ciphCnt 4))
  else if 2 ^ 28 ≤ r.counter then (none, s.bump (Reg.ciphCnt 5))
  else
    let high := decide (2 ^ 27 < r.counter + 1) && !r.high
    let s := s.setLink i { r with counter := r.counter + 1, high := r.high || high }
    (some (r.counter, g), if high then s.raise 0x5001 1 (le 2 i ++ le 1 g) else s)

/-- A request at the end of its queue (R394): 0 radio transmit, 1 radio receive, 2 Ethernet path, 3 CTRL. -/
def State.pushCipher (s : State) (q : Nat) (r : Request) : State :=
  { s with cipher := { s.cipher with queues := setAt s.cipher.queues q (· ++ [{ r with queued := s.elapsed }]) } }

/-- The CCM nonce of a radio frame (R402). -/
def radioNonce (src dest : Nat) (securityHeader : Bytes) : Bytes := le 2 src ++ le 2 dest ++ securityHeader ++ List.replicate 5 0

/-! ### The decision (R94, R98) -/

/-- The offset a frame is sent with, 0.01 ppm, and whether it was limited (R128). -/
def State.preCorrect (s : State) (n : Nat) (h : Shot) : Int × Bool :=
  if s.flag (Reg.afcCtl n) 1 && h.unicast && h.cls != 0 then
    let most : Int := (s.fld (Reg.afcCtl n) 15 8 * 100 : Nat)
    (clampInt (-most) most h.offset, decide (most < h.offset.natAbs))
  else (0, false)

/-- The band a frame would occupy. -/
def State.shotEdges (s : State) (n : Nat) (h : Shot) : Int × Int :=
  edges (s.carrier h.chan) (s.preCorrect n h).1 (s.chanBand h.chan)

/-- R110 on a frame: the band that holds it, when it may be sent there at the radio's power. -/
def State.bandFor (s : State) (n : Nat) (h : Shot) : Option Nat :=
  let e := s.shotEdges n h
  (s.bandOf e).bind fun b =>
    if cellsPermitted (bandEntry s.rgl.certificate b) e && decide (s.txPower n ≤ s.powerLimit b n) then some b else none

/-- The payload of a timing frame whose sync word ends at a network instant (Table 11-4). -/
def State.timingPayload (s : State) (kind : Nat) (step t : Int) : Bytes :=
  le 1 kind ++ le 1 (bitOf s.unsure + 2 * bitOf s.time.leap) ++ le 6 (t.toNat / 1000000000) ++ le 4 (t.toNat % 1000000000)
    ++ le 4 (unsigned 32 step) ++ le 2 (unsigned 16 s.time.utcOffset) ++ [0, 0]

/-- What the decision does to a frame that goes on: copies reach AIR, client frames take their sequence and spend an
attempt. (DEDUCED: log 37.) -/
def State.markDecided (s : State) (n x first : Nat) : State :=
  match s.copy x with
  | some (f, _) =>
    let s := s.modFrame (x / 4) fun f => { f with reachedAir := true, last := x % 4 }
    let s := s.modCopy (x / 4) (x % 4) fun c => { c with
      phase := .air, waited := c.waited + (c.waitSince.map (s.elapsed - ·)).getD 0, waitSince := none }
    (s.bump (Reg.wmacCnt n 1)).countPeer f 1
  | none =>
    match s.clientTurn n x with
    | none => s
    | some (w, f) =>
      let c := w.client
      let next := num (s.context c) 56 2 % 4096
      let s := if f.seq.isSome then s
        else s.patchContext c 56 (le 2 (withBits (num (s.context c) 56 2) 11 0 ((next + 1) % 4096)))
      let s := s.modClientHead c fun f => { f with
        seq := some (f.seq.getD next), attempts := f.attempts + 1, sentAt := (s.netAt first).toNat }
      (s.showAttempts c).modWindow n c fun w => { w with turn := none, sent := w.sent + 1 }

/-- The counter of a secured frame kept for its retries. -/
def State.keepCounter (s : State) (n x : Nat) (k : Nat × Nat) : State :=
  match s.copy x with
  | some _ => s.modFrame (x / 4) fun f => { f with counter := some k }
  | none =>
    match s.clientTurn n x with
    | some (w, _) => s.modClientHead w.client fun f => { f with counter := some k }
    | none => s

/-- The first preamble symbol of a frame decided now: the turnaround, the gap after the last frame, the stitch start
(R94, R98, R195). -/
def State.firstSymbol (s : State) (n : Nat) (h : Shot) : Nat :=
  let gap := match (s.radio n).lastEnd with
    | some t => 100000 + t
    | none => 0
  max (max (100000 + h.decided) gap) (h.start.getD 0)

/-- The transmission begins its turnaround: TX is entered, receptions end, a secured body goes to the cipher engines
(R95, R402). -/
def State.enterTx (s : State) (n x : Nat) (h : Shot) (b : Nat) : State :=
  let first := s.firstSymbol n h
  let coex := s.flag (Reg.trxCoexCtl n) 0
  let (counter, s) : Option (Nat × Nat) × State := if h.secured then
      match h.counter with
      | some k => (some k, s)
      | none => s.takeCounter h.link
    else (none, s)
  if h.secured ∧ counter = none then s.refuseShot n x Status.notPermitted false
  else
    let s := match counter with
      | some k => s.keepCounter n x k
      | none => s
    let (_, clamped) := s.preCorrect n h
    let s := if clamped then s.bump (Reg.modCnt n 5) else s
    let s := s.markDecided n x first
    let security := match counter with
      | some (c, g) => le 4 (c + g * 2 ^ 28)
      | none => []
    let payload := match h.timing with
      | some (kind, d) => s.timingPayload kind d (s.netAt (first + s.syncNs h.chan))
      | none => h.payload
    let s := s.cutReceptions n (some 6) true
    let s := (s.needGate (1 + n)).setTrx n 7
    let s := if coex then s else s.bump (Reg.trxCnt n 0)
    let t : Transmission := { frame := x, phase := .turnaround, decided := h.decided, first := first, airNs := h.airNs, latest := h.latest, cls := h.cls, band := b, grantBy := 0, ready := !h.secured, body := h.header ++ security ++ (if h.secured then [] else payload) }
    let s := s.modRadio n fun r => { r with tx := some t }
    if h.secured then
      s.pushCipher 0 { purpose := .transmit n x, identity := 5, page := s.fld Reg.ciphRadioCfg 3 0, mode := 1, decrypt := false, tagLen := 8, link := some h.remote, nonce := radioNonce (s.macAddress n) h.remote security, aad := h.header, data := payload, tag := [], queued := s.elapsed }
    else s

/-- The bound at which a lock or a calibration in progress ends, elapsed ns (R98). -/
def State.lockBound (s : State) (n : Nat) : Nat :=
  if s.trx n = 4 then 1200000 + (s.radio n).since
  else
    let y := s.synth n (s.onAir n)
    y.began + y.lockTime

/-- A frame that must leave the span around the centre retunes the radio first (R84). (DEDUCED: log 39.) -/
def State.outsideSpan (s : State) (n : Nat) (h : Shot) : Bool :=
  match s.centre n with
  | none => true
  | some f =>
    let e := s.shotEdges n h
    decide (e.1 < edgeUnit * ((f : Int) - 6400000)) || decide (edgeUnit * (6400000 + (f : Int)) < e.2)

/-- The checks of a decision on a radio that is locked, in order; then TX, or the retune that the frame needs.
(DEDUCED: log 36.) -/
def State.decideShot (s : State) (n x : Nat) (h : Shot) : State :=
  let first := s.firstSymbol n h
  if s.flag (Reg.trxStateCtl n) 8 || s.lifecycle == 4 then s.refuseShot n x Status.notPermitted false
  else if h.unicast && s.macAddress n == 0xFFFE then s.refuseShot n x Status.notPermitted false
  else if h.contention && h.cls != 0 && chanWide h.chan && s.trx n == 5 then
    (s.bump (Reg.wmacCnt n 14)).refuseShot n x Status.notPermitted false
  else if (h.latest.map fun l => decide (l < first)).getD false then s.slotMissed n x
  else
    match s.bandFor n h with
    | none => s.regRefused n x
    | some b =>
      if h.secured && !s.radioKey (s.fld Reg.ciphRadioCfg 3 0) then
        (s.bump (Reg.ciphCnt 4)).refuseShot n x Status.notPermitted false
      else if !s.flag (Reg.trxCoexCtl n) 0 && !s.dutyFits b (16000 + h.airNs) then s.dutyRefused n x
      else if s.outsideSpan n h then
        (s.modRadio n fun r => { r with retuneFor := some x }).retune n (s.carrier h.chan).toNat
      else s.enterTx n x h b

/-- A frame that waits before its decision: an acknowledgement that would clash, a contention frame that a stitch or
receptions hold back (R194, R195, R234). -/
def State.holdBack (s : State) (n x : Nat) (h : Shot) : Option State :=
  let stop := s.firstSymbol n h + h.airNs
  if h.contention && s.barred n stop then
    if h.cls = 0 then
      some ({ s with mac := { s.mac with acks := Table.drop s.mac.acks (x / 4) } }.bump (Reg.wmacCnt n 15))
    else some s
  else if h.cls = 0 && ((s.radio n).windows.any fun w => match w.first with
      | some t => w.turn.isNone && decide (s.elapsedAt t + num (s.context w.client) 12 2 * 1000 < 100000 + stop)
      | none => false) then
    some ({ s with mac := { s.mac with acks := Table.drop s.mac.acks (x / 4) } }.bump (Reg.wmacCnt n 15))
  else
    match s.copy x with
    | some (f, c) =>
      if s.mac.acks.any fun e => e.2.radio == n then some s
      else if !s.macOn n && !f.reachedAir && c.phase != .decide then some s
      else if s.decoding n && s.deferLeft f c != 0 then
        some (s.modCopy (x / 4) (x % 4) fun c => { c with waitSince := c.waitSince <|> some s.elapsed })
      else none
    | none => none

/-- A contention frame that has not begun its ramp-up gives way to an acknowledgement (R195). -/
def State.yieldTx (s : State) (n : Nat) : Option State :=
  match (s.radio n).tx with
  | some t =>
    match s.copy t.frame with
    | some _ =>
      if t.phase = .turnaround ∧ s.elapsed < t.first - 8000 then
        some ((s.modRadio n fun r => { r with tx := none }).modCopy (t.frame / 4) (t.frame % 4) fun c => { c with phase := .decide })
      else none
    | none => none
  | none => none

/-- TX_DECISION (R94). (DEDUCED: log 36.) -/
def execTxDecision (radio frame : Nat) (s : State) : Host.Outcome State Fault Refusal :=
  .next (match s.shot radio frame with
    | none => s
    | some h =>
      if s.radioOut radio then s.refuseShot radio frame Status.notPermitted false
      else
        match s.trx radio with
        | 0 => s
        | 1 => s
        | 7 =>
          match (s.radio radio).tx with
          | some t =>
            if t.phase = .tail ∧ h.cls ≠ 0 ∧ !h.contention then s.decideShot radio frame h
            else if h.cls = 0 then
              match s.yieldTx radio with
              | some s' => (s'.holdBack radio frame h).getD (s'.decideShot radio frame h)
              | none => ({ s with mac := { s.mac with acks := Table.drop s.mac.acks (frame / 4) } }).bump (Reg.wmacCnt radio 15)
            else s
          | none => s
        | st =>
          if st = 3 ∨ st = 4 then
            if (h.latest.map fun l => decide (l < 100000 + s.lockBound radio)).getD false then s.slotMissed radio frame else s
          else (s.holdBack radio frame h).getD (s.decideShot radio frame h))

/-- LATE_LIMIT_EXPIRY: a held scheduled frame is not sent (R93). -/
def execLateLimitExpiry (radio frame : Nat) (s : State) : Host.Outcome State Fault Refusal :=
  .next (match s.clientTurn radio frame with
    | none => s
    | some (w, f) =>
      match (s.clientShot w f).latest with
      | none => s
      | some l => (s.reachElapsed l).slotMissed radio frame)

/-! ### Coexistence (R103 to R105, R594) -/

/-- COEX_REQ_RAISE: at the later of the decision and the first preamble symbol less req_lead. (DEDUCED: log 43.) -/
def execCoexReqRaise (radio : Nat) (s : State) : Host.Outcome State Fault Refusal :=
  .next (match (s.radio radio).tx with
    | none => s
    | some t =>
      let c := s.reg (Reg.trxCoexCtl radio)
      if field c 0 0 = 0 ∨ t.phase ≠ .turnaround then s
      else
        let s := s.reachElapsed (max t.decided (t.first - field c 15 8 * 1000))
        (s.setFlag (Reg.trxCoexStat radio) 0 true).setFlag (Reg.trxCoexStat radio) 2 (bit (field c 7 4) t.cls))

/-- The ramp-up of a granted frame: the duty check, then the air (R104, R113). (DEDUCED: log 37.) -/
def State.rampUp (s : State) (n : Nat) (t : Transmission) (first : Nat) : State :=
  if s.dutyFits t.band (16000 + t.airNs) then
    (s.modRadio n fun r => { r with tx := some { t with phase := .air, first := first } }).bump (Reg.trxCnt n 0)
  else (s.dutyRefused n t.frame).leaveTx n

/-- COEX_GRANT_SAMPLE: at the start of the ramp-up. (DEDUCED: log 43.) -/
def execCoexGrantSample (radio : Nat) (grant : Bool) (s : State) : Host.Outcome State Fault Refusal :=
  .next (match (s.radio radio).tx with
    | none => s
    | some t =>
      let c := s.reg (Reg.trxCoexCtl radio)
      if field c 0 0 = 0 ∨ t.phase ≠ .turnaround ∨ !t.ready then s
      else
        let s := (s.reachElapsed (t.first - 8000)).setFlag (Reg.trxCoexStat radio) 1 grant
        if grant then s.rampUp radio t t.first
        else if t.cls = 0 then (s.refuseShot radio t.frame Status.notPermitted true).leaveTx radio
        else
          let by_ := s.elapsed + field c 31 16 * 1000
          let by_ := match t.latest with
            | some l => min by_ (l - 8000)
            | none => by_
          s.modRadio radio fun r => { r with tx := some { t with phase := .granting, grantBy := by_ } })

/-- COEX_GRANT_ARRIVAL: the ramp-up begins at once. -/
def execCoexGrantArrival (radio : Nat) (s : State) : Host.Outcome State Fault Refusal :=
  .next (match (s.radio radio).tx with
    | none => s
    | some t =>
      if t.phase ≠ .granting ∨ t.grantBy < s.elapsed then s
      else (s.setFlag (Reg.trxCoexStat radio) 1 true).rampUp radio t (s.elapsed + 8000))

/-- COEX_GRANT_WAIT_EXPIRY: SLOT_MISSED for a frame with a late limit, otherwise a transient failure. -/
def execCoexGrantWaitExpiry (radio : Nat) (s : State) : Host.Outcome State Fault Refusal :=
  .next (match (s.radio radio).tx with
    | none => s
    | some t =>
      if t.phase ≠ .granting then s
      else
        let s := s.reachElapsed t.grantBy
        let s := match t.latest with
          | some _ => s.slotMissed radio t.frame
          | none => (s.bump (Reg.trxCnt radio 2)).failShot radio t.frame
        s.leaveTx radio)

/-- COEX_GRANT_WITHDRAWN: the frame is aborted, charged for what it radiated, and retried. `radiated` is the time in
µs from its first preamble symbol to the grant edge. -/
def execCoexGrantWithdrawn (radio radiated : Nat) (s : State) : Host.Outcome State Fault Refusal :=
  .next (match (s.radio radio).tx with
    | none => s
    | some t =>
      if s.flag (Reg.trxCoexCtl radio) 0 && t.phase == .air && decide (radiated * 1000 ≤ t.airNs) then
        let stop := t.first + radiated * 1000 + 2000
        let s := (s.reachElapsed stop).setReg (Reg.trxCoexStat radio) 0
        let s := (s.chargeDuty t.band (t.first - 8000) stop).bump (Reg.trxCnt radio 1)
        let s := s.modRadio radio fun r => { r with tx := some { t with phase := .tail }, lastEnd := some stop }
        s.failShot radio t.frame
      else s.setFlag (Reg.trxCoexStat radio) 1 false)

/-! ### The end of a frame (R92, R198, R199) -/

/-- The close of an acknowledgement window after a last symbol (R198). -/
def State.ackCloses (s : State) (ch slack last : Nat) : Nat := 100000 + last + s.syncNs ch + slack * 1000

/-- A lane held for an acknowledgement (R199). -/
def State.holdForAck (s : State) (n x : Nat) (ctl : Word) : State :=
  if field ctl 3 3 = 1 then
    let (held, s) := s.holdLane n (.ack n x)
    if held then s else s.bump (Reg.wmacCnt n 13)
  else s

/-- What the last symbol of a frame brings for it. (DEDUCED: log 50.) -/
def State.frameSent (s : State) (n : Nat) (t : Transmission) : State :=
  let last := t.first + t.airNs
  let x := t.frame
  match s.copy x with
  | some (f, c) =>
    if f.ackReq then
      let e := f.set n
      let s := s.modCopy (x / 4) (x % 4) fun c => { c with
        phase := .ackWait, due := s.ackCloses c.chan (field e.ack 7 0) last }
      s.holdForAck n x e.ctl
    else
      let s := s.modCopy (x / 4) (x % 4) fun c => { c with phase := .ended, sent := true }
      match s.frame (x / 4) with
      | some f' => if f'.copies.all fun c => c.phase == .ended || c.phase == .out then s.endFrame (x / 4) Status.ok (some 1) (chanRadio c.chan) 0 else s
      | none => s
  | none =>
    match Table.find s.mac.acks (x / 4) with
    | some a =>
      let s := ({ s with mac := { s.mac with acks := Table.drop s.mac.acks (x / 4) } }).bump (Reg.wmacCnt n 6)
      match a.client with
      | some c => s.offerDownlink n c last
      | none => s
    | none =>
      match (s.radio n).windows.find? fun w => ((s.clientQueue w.client).head?.map fun f => f.id * 4) == some x with
      | none => s
      | some w =>
        let c := w.client
        let s := s.modWindow n c fun w => { w with first := none, led := w.led || w.first.isSome }
        match s.clientQueue c with
        | [] => s
        | f :: _ =>
          if f.ackReq then
            let due := s.ackCloses w.chan (s.fld (Reg.wmacAck n) 7 0) last
            (s.modWindow n c fun w => { w with ackOf := some (x, due) }).holdForAck n x (s.reg (Reg.wmacCtl n))
          else ((s.bump (Reg.schedCnt n 9)).endClientFrame c Status.ok 1).offerDownlink n c last

/-- Whether a radio's transmission goes to its end: it is on the air, or decided with nothing to wait for. -/
def State.willEnd (s : State) (radio : Nat) (t : Transmission) : Bool :=
  t.phase == .air || (t.phase == .turnaround && t.ready && !s.flag (Reg.trxCoexCtl radio) 0)

/-- The last symbol and the ramp-down of a transmission end; duty is charged, and the turnaround begins. -/
def State.frameEnds (s : State) (radio : Nat) (t : Transmission) : State :=
  let s := s.reachElapsed (t.first + t.airNs + 8000)
  let s := (s.chargeDuty t.band (t.first - 8000) (t.first + t.airNs + 8000)).setReg (Reg.trxCoexStat radio) 0
  let s := s.modRadio radio fun r => { r with
    tx := some { t with phase := .tail }, lastEnd := some (t.first + t.airNs), retuneFor := none }
  s.frameSent radio t

/-- TX_FRAME_END: the transmission of a radio ends. (DEDUCED: log 37.) -/
def execTxFrameEnd (radio : Nat) (s : State) : Host.Outcome State Fault Refusal :=
  .next (match (s.radio radio).tx with
    | none => s
    | some t => if s.willEnd radio t then s.frameEnds radio t else s)

/-- ACK_WINDOW_CLOSE: the window closes unmatched, unless a reception whose sync word ended inside it has still to
give its result; the attempt ends (R198). -/
def execAckWindowClose (frame : Nat) (s : State) : Host.Outcome State Fault Refusal :=
  .next (match s.copy frame with
    | some (f, c) =>
      let n := chanRadio c.chan
      if c.phase ≠ .ackWait ∨ s.ackPending n c.chan c.due then s
      else
        let s := (s.reachElapsed c.due).countPeer f 9
        (s.dropHold (.ack n frame)).2.copyEnded (frame / 4) (frame % 4) false
    | none =>
      match (List.range 3).findSome? fun n =>
          ((s.radio n).windows.find? fun w => (w.ackOf.map (·.1)) == some frame).map fun w => (n, w) with
      | none => s
      | some (n, w) =>
        let due := ((w.ackOf.map (·.2)).getD 0)
        if s.ackPending n w.chan due then s
        else
          let s := (s.reachElapsed due).modWindow n w.client fun w => { w with ackOf := none }
          let s := (s.dropHold (.ack n frame)).2
          (s.clientFailed n w.client).offerDownlink n w.client s.elapsed)

/-! ### Duty bins (R112) -/

/-- DUTY_BIN_ADVANCE: a bin closes and the oldest ages out. (DEDUCED: log 42.) -/
def execDutyBinAdvance (s : State) : Host.Outcome State Fault Refusal :=
  .next (
    let s := s.reachElapsed (1000000000 + s.rgl.binStart)
    let s := { s with rgl := { s.rgl with binStart := 1000000000 + s.rgl.binStart } }
    (s.rgl.bins.map (·.1)).foldl (fun (s : State) b => (s.setBins b (0 :: (s.dutyBins b).take 3599)).dutyWatch b) s)

end Sys2Proof.Machine
end

