-- ==== Sys2Proof/Machine/Darn.lean ====
section
/-! DEFINITION. Faults and spares (chapter 21): error scores, retirement and the bringing in of spares by class, the
service request, control processors, wear, and the commands of Table 21-7. -/

namespace Sys2Proof.Machine

/-! ### The service request and the log (R544, R551) -/

/-- A bit of DARN_SVC set, with SVC_REQUEST where it was clear (R551). -/
def State.setSvc (s : State) (b : Nat) : State :=
  if s.flag Reg.darnSvc b then s
  else
    let t := s.setFlag Reg.darnSvc b true
    (t.raise 0x7002 2 (le 4 (t.reg Reg.darnSvc).toNat ++ le 4 (2 ^ b))).noteSummary s

/-- A record added to both copies of the darning log, which holds the latest 128 (R544). (DEDUCED: log 115.) -/
def State.logDarn (s : State) (kind unitKind unit spare cause : Nat) : State :=
  let r : LogRecord := { seq := s.darn.logSeq, seconds := s.seconds, kind := kind, unitKind := unitKind, unit := unit, spare := spare, cause := cause, wear := (List.range 5).map fun w => (s.reg (Reg.darnWear w)).toNat }
  { s with
    darn := { s.darn with logSeq := s.darn.logSeq + 1 }
    boot := { s.boot with sealedCopies := s.boot.sealedCopies.map fun c => { c with
      log := (c.log ++ [r]).drop (c.log.length - 127) } } }

/-- A log record as DARN_LOG_READ gives it (Table 21-8). -/
def LogRecord.bytes (r : LogRecord) : Bytes :=
  let b := le 4 r.seq ++ le 6 r.seconds ++ le 1 r.kind ++ le 1 r.unitKind ++ le 2 r.unit ++ le 2 r.spare ++ le 1 r.cause
    ++ le 3 0 ++ (List.range 5).flatMap (fun w => le 4 (r.wear.getD w 0)) ++ List.replicate 20 0
  b ++ le 4 (crc32c b)

/-! ### Units and their scores (R536) -/

/-- Units of a kind (Table 21-7): classes 0–6, processors, stampers, PLLs, crossing channels by source · 11 +
destination. -/
def unitCount (kind : Nat) : Nat := [80, 6, 18, 5, 256, 256, 4, 2, 7, 9, 121].getD kind 0

/-- The score of a unit. -/
def State.scoreOf (s : State) (kind unit : Nat) : Score := (Table.find s.darn.scores (unitKey kind unit)).getD {}

/-- The score of a unit set, with CIPH_ENG_e_STAT of an engine. -/
def State.setScore (s : State) (kind unit : Nat) (x : Score) : State :=
  let k := unitKey kind unit
  let s := { s with darn := { s.darn with scores := if x = {} then Table.drop s.darn.scores k else Table.put s.darn.scores k x } }
  if kind = 3 then s.setFld (Reg.ciphEngStat unit) 15 8 x.score else s

/-- Weight and threshold of a kind of unit. -/
def State.scoring (s : State) (kind : Nat) : Nat × Nat :=
  if kind ≤ 5 then (s.fld (Reg.darnClassCfg kind) 7 0, s.fld (Reg.darnClassCfg kind) 15 8) else (16, 40)

/-- A counter of DARN_CNT advanced. -/
def State.darnCount (s : State) (j : Nat) : State :=
  { s with darn := { s.darn with counts := setAt s.darn.counts j fun n => min 0xFFFFFFFF (n + 1) } }

/-- An error scored against a unit: whether its score has passed the threshold. (DEDUCED: log 113.) -/
def State.scoreError (s : State) (kind unit : Nat) : Bool × State :=
  if s.unitState kind unit = .retired then (false, s)
  else
    let (weight, threshold) := s.scoring kind
    let x := s.scoreOf kind unit
    let score := min 255 (x.score + weight)
    let s := (s.setScore kind unit ⟨score, min 0xFFFF (x.errors + 1)⟩).darnCount 0
    (decide (threshold < score), s)

/-- A unit's state set. -/
def State.setUnit (s : State) (kind unit : Nat) (u : UnitState) : State :=
  let k := unitKey kind unit
  { s with darn := { s.darn with
      units := if u = shippedState kind unit then Table.drop s.darn.units k else Table.put s.darn.units k u } }

/-- Spares remaining of a class. -/
def State.sparesLeft (s : State) (k : Nat) : Nat := s.fld (Reg.darnClassStat k) 15 8

/-- The spare units of a class that can still be brought in, in order. -/
def State.spares (s : State) (k : Nat) : List Nat := (List.range (unitCount k)).filter fun u => s.unitState k u == .spare

/-! ### What a retirement and an entry to service show, class by class -/

/-- A bit of SEARCH_POOL_MAP. -/
def State.mapLane (s : State) (l : Nat) (on : Bool) : State := s.setFlag (Reg.poolMap (l / 32)) (l % 32) on

/-- R180: reservations lowered to the lanes in service. -/
def State.fitReservations : Nat → State → State
  | 0, s => s
  | fuel + 1, s =>
    let res (n : Nat) : Nat := s.fld Reg.poolRes (8 * n + 7) (8 * n)
    if res 0 + res 1 + res 2 ≤ s.lanesServing then s
    else
      let n := if res 0 ≤ res 2 ∧ res 1 ≤ res 2 then 2 else if res 0 ≤ res 1 then 1 else 0
      (s.setFld Reg.poolRes (8 * n + 7) (8 * n) (res n - 1)).fitReservations fuel

/-- Reservations lowered where the lanes in service no longer hold them, with LANE_RES_REDUCED for each radio. -/
def State.lowerReservations (s : State) : State :=
  let t := State.fitReservations 256 s
  (List.range 3).foldl (fun (t : State) n =>
    let res := t.fld Reg.poolRes (8 * n + 7) (8 * n)
    if res < s.fld Reg.poolRes (8 * n + 7) (8 * n) then t.raise 0x1201 1 (le 1 n ++ le 1 res ++ le 1 t.lanesServing)
    else t) t

/-- A lane leaves service or its place among the spares (R179). -/
def State.laneLeaves (s : State) (l : Nat) : State :=
  let s := match s.reception l with
    | some r => (s.spoilWindow r.detection.radio r.detection).bump (Reg.searchCnt r.detection.radio 6)
    | none => s
  let s := s.releaseLane l
  let s := match s.laneState l with
    | 4 => s.setFld Reg.poolStat 31 24 (s.fld Reg.poolStat 31 24 - 1)
    | 5 => s.setFld Reg.poolStat 23 16 (s.fld Reg.poolStat 23 16 - 1)
    | _ => s.setFld Reg.poolStat 15 8 (s.freeLanes - 1)
  let s := if s.flag (Reg.poolMap (l / 32)) (l % 32) then (s.mapLane l false).setFld Reg.poolStat 7 0 (s.lanesServing - 1) else s
  { s.setReg (Reg.laneStat l) 6 with lanes := { s.lanes with tests := Table.drop s.lanes.tests l } }

/-- The port queue from which an operation came (R394). -/
def Purpose.queue : Purpose → Nat
  | .transmit .. => 0
  | .receive .. => 1
  | .run _ => 3

/-- An operation taken off an engine goes back to the head of its queue (R396). -/
def State.requeue (s : State) (e : Nat) : State :=
  match Table.find s.cipher.engines e with
  | none => s
  | some o =>
    { s with cipher := { s.cipher with
        engines := Table.drop s.cipher.engines e
        queues := setAt s.cipher.queues o.request.purpose.queue (o.request :: ·) } }

/-- The configuration area of a role (SYS_CFG_STAT). -/
def State.areaOf (s : State) (role : Nat) : Nat := s.fld Reg.sysCfgStat (9 + 2 * role) (8 + 2 * role)

/-- A unit is retired and fenced: its registers, its work and its counts (steps 1 and 2 of Table 21-2). -/
def State.fence (s : State) (k u : Nat) : State :=
  let was : UnitState := s.unitState k u
  let s := match k with
    | 0 => s.laneLeaves u
    | 2 => if was = UnitState.serving then s.setFld Reg.measStat 4 0 (s.fld Reg.measStat 4 0 - 1)
        else if was = UnitState.spare then s.setFld Reg.measStat 9 8 (s.fld Reg.measStat 9 8 - 1) else s
    | 3 =>
      let s := ((s.requeue u).setFlag Reg.ciphStat u false).setFld (Reg.ciphEngStat u) 1 0 3
      if was = UnitState.spare then s.setFlag Reg.ciphStat 8 false else s
    | 6 =>
      let s := if was = UnitState.spare then s.setFld Reg.sysCfgStat 5 4 (s.fld Reg.sysCfgStat 5 4 - 1) else s
      let s := (List.range 2).foldl (fun (s : State) r => if s.areaOf r = u ∧ was = UnitState.serving then s.setFlag Reg.sysCfgStat r false else s) s
      { s with boot := { s.boot with areas := setAt s.boot.areas u fun a => { a with retired := true } } }
    | _ => s
  let s := (s.setUnit k u .retired).setScore k u ⟨255, (s.scoreOf k u).errors⟩
  let s := s.darnCount 1
  if 6 < k then s
  else
    let s := s.bumpFld (Reg.darnClassStat k) 23 16
    match was with
    | .serving => if k = 4 ∨ k = 5 then s else s.setFld (Reg.darnClassStat k) 7 0 (s.fld (Reg.darnClassStat k) 7 0 - 1)
    | .spare => s.setFld (Reg.darnClassStat k) 15 8 (s.sparesLeft k - 1)
    | _ => s

/-- A spare begins its self-test (steps 4 and 5). -/
def State.testSpare (s : State) (k u : Nat) : State :=
  let s := (s.setUnit k u .testing).setFld (Reg.darnClassStat k) 15 8 (s.sparesLeft k - 1)
  match k with
  | 0 =>
    let s := s.setFld Reg.poolStat 23 16 (s.fld Reg.poolStat 23 16 - 1)
    (s.setFld Reg.poolStat 31 24 (s.fld Reg.poolStat 31 24 + 1)).setReg (Reg.laneStat u) 4
  | 2 => s.setFld Reg.measStat 9 8 (s.fld Reg.measStat 9 8 - 1)
  | 3 => (s.setFlag Reg.ciphStat 8 false).setFld (Reg.ciphEngStat u) 1 0 1
  | _ => s

/-- A spare enters service in a unit's place (steps 6 and 7). -/
def State.enterService (s : State) (k unit u : Nat) : State :=
  let s := (s.setUnit k u .serving).setFld (Reg.darnClassStat k) 7 0 (s.fld (Reg.darnClassStat k) 7 0 + 1)
  match k with
  | 0 =>
    let s := s.setFld Reg.poolStat 31 24 (s.fld Reg.poolStat 31 24 - 1)
    let s := (s.setFld Reg.poolStat 7 0 (s.lanesServing + 1)).setFld Reg.poolStat 15 8 (s.freeLanes + 1)
    (s.mapLane u true).setReg (Reg.laneStat u) 0
  | 2 =>
    let s := s.setFld Reg.measStat 4 0 (s.fld Reg.measStat 4 0 + 1)
    (s.inputsOn.filter fun i => s.channelOf i == unit).foldl (fun (s : State) i => s.setFld (Reg.measInCfg i) 12 8 u) s
  | 3 => (s.setFlag Reg.ciphStat u true).setFld (Reg.ciphEngStat u) 1 0 0
  | 6 =>
    let s := s.setFld Reg.sysCfgStat 5 4 (s.fld Reg.sysCfgStat 5 4 - 1)
    (List.range 2).foldl (fun (s : State) r =>
      if s.areaOf r = unit then (s.setFld Reg.sysCfgStat (9 + 2 * r) (8 + 2 * r) u).setFlag Reg.sysCfgStat r false else s) s
  | _ => s

/-- What is left of a class when a unit has found no spare (R541). (DEDUCED: log 114.) -/
def State.doWithout (s : State) (k unit : Nat) : State :=
  match k with
  | 0 => s.lowerReservations
  | 2 => (s.inputsOn.filter fun i => s.channelOf i == unit).foldl (fun (s : State) i =>
      ((s.setFld (Reg.measInCfg i) 12 8 0x1F).setFlag (Reg.measInCfg i) 13 true).raise 0x4000 2 (le 1 i ++ le 1 unit)) s
  | _ => s

/-! ### The end of a bring-in (R540, R543) -/

/-- A DARN_RETIRE that names a unit. -/
def Work.retires (k u : Nat) : Work → Bool
  | .retire k' u' => k' == k && u' == u
  | _ => false

/-- Step 8: the log record, UNIT_RETIRED, the class's spares, and the reply of a DARN_RETIRE. `needed` says that the
unit was in service, so that a class without a spare for it is exhausted. (DEDUCED: log 114.) -/
def State.concludeRetire (s : State) (k u cause : Nat) (spare : Option Nat) (tookUs : Nat) (needed : Bool) : State :=
  let n := spare.getD 0xFFFF
  let longest := max (s.fld Reg.darnStat 31 16) (min 0xFFFF tookUs)
  let s := s.setFld Reg.darnStat 31 16 longest
  let s := (s.logDarn 0 k u n cause).raise 0x7000 (if spare.isSome then 1 else 2)
    (le 1 k ++ le 2 u ++ le 2 n ++ le 1 cause ++ le 2 (min 0xFFFF tookUs) ++ le 1 (if k ≤ 6 then s.sparesLeft k else 0))
    Status.unitRetired
  let s :=
    if 6 < k then s
    else if spare.isSome then
      if s.sparesLeft k ≤ s.fld (Reg.darnClassCfg k) 31 24 then s.raise 0x7001 1 (le 1 k ++ le 1 (s.sparesLeft k)) else s
    else if needed then (s.setFlag (Reg.darnClassStat k) 24 true).setSvc k else s
  s.finishWork (Work.retires k u) Status.ok (le 2 n)

/-! ### Classes that test their spares: LANE, ADC, CIPHER; and CFG_SLOT -/

/-- A unit of classes 0, 2, 3 or 6 retired (R538): a bring-in waits for it; without a spare and an earlier bring-in it
is concluded at once. (DEDUCED: log 114.) -/
def State.retireUnit (s : State) (k u cause : Nat) : State :=
  if s.unitState k u = .retired then s
  else
    let was : UnitState := s.unitState k u
    let s := s.fence k u
    if was = .spare then s.concludeRetire k u cause none 0 false
    else if k = 6 then
      match s.spares 6 with
      | a :: _ =>
        let s := (s.setFld (Reg.darnClassStat 6) 15 8 (s.sparesLeft 6 - 1)).enterService 6 u a
        s.concludeRetire 6 u cause (some a) 0 true
      | [] => s.concludeRetire 6 u cause none 0 true
    else if s.spares k = [] ∧ ¬ (s.darn.active.any fun b => b.kind == k) ∧ ¬ (s.darn.waiting.any fun b => b.kind == k) then
      (s.doWithout k u).concludeRetire k u cause none 0 true
    else
      { s with darn := { s.darn with waiting := s.darn.waiting ++ [⟨k, u, cause, none, s.elapsed⟩] } }

/-- A bring-in takes the class's lowest spare, or ends without one. (DEDUCED: log 114.) -/
def State.trySpare (s : State) (b : BringIn) : State :=
  match s.spares b.kind with
  | u :: _ =>
    let s := s.testSpare b.kind u
    { s with darn := { s.darn with active := s.darn.active ++ [{ b with spare := some u }] } }
  | [] =>
    let s := (s.setFlag Reg.darnStat b.kind false).doWithout b.kind b.unit
    s.concludeRetire b.kind b.unit b.cause none ((s.elapsed - b.decided) / 1000) true

/-- SPARE_BRING_IN: the oldest retirement of a class begins its bring-in, once the earlier one has ended. -/
def execSpareBringIn (kind : Nat) (s : State) : Host.Outcome State Fault Refusal :=
  .next (
    if s.darn.active.any fun b => b.kind == kind then s
    else
      match s.darn.waiting.find? fun b => b.kind == kind with
      | none => s
      | some b =>
        let s := { s with darn := { s.darn with waiting := s.darn.waiting.erase b } }
        (s.setFlag Reg.darnStat kind true).trySpare b)

/-- SPARE_SELF_TEST_DONE: the spare enters service, or it is retired with cause 1 and the next is tried. `took` is the
time in µs since the decision. (DEDUCED: log 114.) -/
def execSpareSelfTestDone (kind : Nat) (pass : Bool) (took : Nat) (s : State) : Host.Outcome State Fault Refusal :=
  .next (match s.darn.active.find? fun b => b.kind == kind with
    | none => s
    | some b =>
      match b.spare with
      | none => s
      | some u =>
        let s := s.reachElapsed (b.decided + took * 1000)
        let s := { s with darn := { s.darn with active := s.darn.active.erase b } }
        if pass then
          let s := (s.enterService kind b.unit u).setFlag Reg.darnStat kind false
          s.concludeRetire kind b.unit b.cause (some u) took true
        else
          let s := (s.darnCount 2).fence kind u
          (s.concludeRetire kind u 1 none 0 false).trySpare b)

/-! ### Synthesisers (R89, R90) -/

/-- The radios of a RADIO_CAL that are still to end, with the radios it named · 8: one of them ends. -/
def State.calEnded (s : State) (n : Nat) (status : Option Nat) : State :=
  (s.outstandingOf fun o => match o.work with
    | .radioCal m => bit m n
    | _ => false).foldl (fun (s : State) o =>
      match o.work with
      | .radioCal m =>
        let left := m - 2 ^ n
        match status with
        | some st => s.finish o st []
        | none =>
          if left % 8 = 0 then
            s.finish o (okUnless ((List.range 3).any fun r => bit (left / 8) r && (s.single r || s.radioOut r))) []
          else s.modSession o.origin.session fun e => { e with
            outstanding := e.outstanding.map fun x => if x = o then { x with work := .radioCal left } else x }
      | _ => s) s

/-- A transmission ended by a fault of its radio: charged for what it radiated, and retried (R89). -/
def State.abortTx (s : State) (n : Nat) : State :=
  match (s.radio n).tx with
  | none => s
  | some t =>
    let s := (s.modRadio n fun r => { r with tx := none }).setReg (Reg.trxCoexStat n) 0
    let from_ := t.first - 8000
    let s := if t.phase = .air ∨ t.phase = .turnaround then
        (if from_ < s.elapsed then (s.chargeDuty t.band from_ s.elapsed).modRadio n fun r => { r with lastEnd := some s.elapsed } else s)
      else s
    if t.phase = .tail then s else s.failShot n t.frame

/-- A synthesiser retired: the other takes over, or the radio goes out of service. (DEDUCED: log 114.) -/
def State.retireSynth (s : State) (u cause : Nat) : State :=
  let n := u / 2
  let k := u % 2
  if s.synthRetired n k then s
  else if s.single n then
    let s := s.abortTx n
    let s := (((s.fence 1 u).trxOff n).setFlag (Reg.trxState n) 11 true).setSvc 15
    (s.calEnded n (some Status.notPermitted)).concludeRetire 1 u cause none 0 true
  else
    let onAir := s.onAir n = k
    let s := s.fence 1 u
    let s := (s.setFlag (Reg.trxState n) 10 true).setFlag (Reg.trxState n) 9 false
    let s := if s.trx n = 4 then s.modRadio n fun r => { r with since := s.elapsed } else s
    if !onAir then (s.modSynth n k fun _ => {}).concludeRetire 1 u cause none 0 false
    else
      let other := 2 * n + 1 - k
      let s := if s.unitState 1 other = .spare then
          let s := (s.setUnit 1 other .serving).setFld (Reg.darnClassStat 1) 15 8 (s.sparesLeft 1 - 1)
          s.setFld (Reg.darnClassStat 1) 7 0 (s.fld (Reg.darnClassStat 1) 7 0 + 1)
        else s
      let s := (s.setFld (Reg.trxState n) 8 8 (1 - k)).modSynth n k fun _ => {}
      if s.trx n ≤ 1 then s.concludeRetire 1 u cause (some other) 0 true
      else
        let s := { s.setFlag Reg.darnStat 1 true with darn := { s.darn with
          active := s.darn.active ++ [⟨1, u, cause, some other, s.elapsed⟩] } }
        if s.trx n = 4 then s
        else
          let s := (s.abortTx n).cutReceptions n none true
          (s.setTrx n 3).startLock n (1 - k) (s.synFreq n)

/-- The lock that ends a synthesiser's replacement: service resumes (step 8). -/
def State.synthServing (s : State) (n : Nat) : State :=
  match s.darn.active.find? fun b => b.kind == 1 && b.unit / 2 == n with
  | none => s
  | some b =>
    let s := { s with darn := { s.darn with active := s.darn.active.erase b } }
    let s := s.setFlag Reg.darnStat 1 (s.darn.active.any fun b => b.kind == 1)
    s.concludeRetire 1 b.unit b.cause b.spare ((s.elapsed - b.decided) / 1000) true

/-! ### Rows (R421, R422) -/

/-- The number of a DRAM row: channel, rank, bank, row. -/
def rowNumber (channel rank bank row : Nat) : Nat := 65536 * ((channel * 2 + rank) * 8 + bank) + row

/-- A row in error, newest first, at most 256. (DEDUCED: log 89.) -/
def recent (row : Nat) (l : List Nat) : List Nat := (row :: l.filter (· != row)).take 256

/-- The remap entries left of a channel. -/
def State.rowsLeft (s : State) (channel : Nat) : Nat := s.fld Reg.dramSpareStat (8 * channel + 5) (8 * channel)

/-- The valid remap entries of a channel. -/
def State.remapped (s : State) (channel : Nat) : List Nat := (List.range 32).filter fun e => s.flag (Reg.dramRemap channel e) 0

/-- Rank, bank and row of a remap entry (Table 15-9). -/
def State.remapOf (s : State) (channel e : Nat) : Nat := s.fld (Reg.dramRemap channel e) 20 1

/-- Rank, bank and row of a row number as a remap entry holds them. -/
def remapKey (rowId : Nat) : Nat := rowId / 2 ^ 19 % 2 + 2 * (rowId / 65536 % 8) + 16 * (rowId % 65536)

/-- A DRAM row retired and remapped to the lowest spare row of its bank: the entry used, where one was left
(R422, R540). (DEDUCED: log 89.) -/
def State.retireRow (s : State) (rowId cause : Nat) : Option (Nat × Nat) × State :=
  if s.unitState 4 rowId = .retired then (none, s)
  else
    let channel := rowId / 2 ^ 20
    let key := remapKey rowId
    let s := s.fence 4 rowId
    let used := s.remapped channel
    let taken := (used.filter fun e => s.remapOf channel e % 16 == key % 16).map fun e => s.fld (Reg.dramRemap channel e) 23 21
    match (List.range 32).find? (fun e => !used.contains e), (List.range 8).find? (fun r => !taken.contains r) with
    | some e, some r =>
      let s := s.setReg (Reg.dramRemap channel e) (word (1 + 2 * key + r * 2 ^ 21))
      let s := s.setFld Reg.dramSpareStat (8 * channel + 5) (8 * channel) (s.rowsLeft channel - 1)
      let s := (s.setFld (Reg.darnClassStat 4) 15 8 (min (s.rowsLeft 0) (s.rowsLeft 1))).bump64 (Reg.dramCntLo 9)
      let s := s.raise 0x5101 0 (le 1 channel ++ le 1 (key % 2) ++ le 1 (key / 2 % 8) ++ le 2 (rowId % 65536) ++ le 1 e ++ le 1 (s.rowsLeft channel))
      (some (e, r), s.concludeRetire 4 rowId cause (some r) 0 true)
    | _, _ => (none, s.concludeRetire 4 rowId cause none 0 true)

/-- An SRAM row retired and repaired by a spare row of its macro: that row, where one was left (R540, Table 21-1). -/
def State.retireSram (s : State) (row cause : Nat) : Option Nat × State :=
  if s.unitState 5 row = .retired then (none, s)
  else
    let s := s.fence 5 row
    let macroOf := row / 256
    let used := (Table.find s.darn.sramUsed macroOf).getD 0
    if used < 2 then
      let t := { s with darn := { s.darn with sramUsed := Table.put s.darn.sramUsed macroOf (used + 1) } }
      let t := t.setFld (Reg.darnClassStat 5) 15 8 (min (t.sparesLeft 5) (1 - used))
      (some used, t.concludeRetire 5 row cause (some used) 0 true)
    else (none, s.concludeRetire 5 row cause none 0 true)

/-- An error of an SRAM row: a corrected one is scored, an uncorrectable one retires the row at once (R538, R542). -/
def State.sramError (s : State) (row : Nat) (uncorrectable : Bool) : State :=
  let s := { s with darn := { s.darn with sramRows := recent row s.darn.sramRows } }
  let (past, s) := s.scoreError 5 row
  if uncorrectable then (s.retireSram row 4).2
  else if past then (s.retireSram row 0).2
  else s

/-! ### Control processors (R548, R549) -/

/-- A control cycle skipped (R373). -/
def State.skipCycle (s : State) : State := (s.bump (Reg.ctlpCnt 0)).raise 0x4004 1 (le 4 (s.reg Reg.ctlpCycLo).toNat)

/-- The control cycles that a takeover skips, counted: the one under evaluation and one that falls due.
(DEDUCED: log 113.) -/
def State.skipCycles (s : State) (untilNs : Nat) : Nat × State :=
  let (a, s) := match s.ctl.writes with
    | some _ => (1, ({ s with ctl := { s.ctl with writes := none } }).skipCycle)
    | none => (0, s)
  if !s.flag Reg.ctlpCtl 0 then (a, s)
  else
    let period := 1000000 * s.fld Reg.timeCycCfg 9 0
    let bound : Int := match s.time.lastCycle with
      | some t => t + (period / 2 : Nat)
      | none => s.netNs
    let instant := gridAfter (1000000 * s.fld Reg.timeCycCfg 25 16) period bound
    if instant < s.netNs ∨ s.netNs + untilNs ≤ instant then (a, s)
    else
      let s := (s.reach instant).bump64 Reg.ctlpCycLo
      (a + 1, ({ s with time := { s.time with lastCycle := some (instant : Int) } }).skipCycle)

/-- A processor retired, and its tasks taken over within `took` µs of the last heartbeat. (DEDUCED: log 113.) -/
def State.failover (s : State) (processor took cause : Nat) : State :=
  if s.unitState 7 processor = .retired ∨ 2 ≤ processor then s
  else
    let other := 1 - processor
    let s := (s.fence 7 processor).logDarn 2 7 processor 0xFFFF cause
    if s.unitState 7 other = .retired then s
    else
      let runs := s.darn.taskOwner.getD 0 0 == processor
      let known := s.darn.checkpoints.getD processor []
      let now := (List.range 4).flatMap fun n => (s.session n).outstanding.map fun o => (n, o.origin.tag)
      let restarted := if runs then (now.filter fun t => !known.contains t).length else 0
      let stop := s.elapsed + took * 1000
      let (skipped, s) := if runs then s.skipCycles (took * 1000) else (0, s)
      let s := s.reachElapsed stop
      let s := { s with darn := { s.darn with taskOwner := s.darn.taskOwner.map fun p => if p = processor then other else p } }
      let s := (s.setSvc 8).darnCount 3
      s.raise 0x7003 2 (le 1 processor ++ le 2 took ++ le 1 restarted ++ le 1 skipped)

/-- HEARTBEAT_LOSS: 100 µs without a heartbeat, and the takeover, `took` µs in all. A memory error of the processor (an
uncorrectable error of its SRAM, a parity error of its cache) is scored, and fails it past the threshold only.
(DEDUCED: log 113, 123.) -/
def execHeartbeatLoss (processor took : Nat) (memoryError : Bool) (s : State) : Host.Outcome State Fault Refusal :=
  .next (
    if s.on .ctrl then
      let (past, t) := s.scoreError 7 processor
      if memoryError && !past then t else t.failover processor (took % 801) 0
    else s)

/-- CHECKPOINT_DUE: a processor writes a checkpoint of its tasks. (DEDUCED: log 113.) -/
def execCheckpointDue (processor : Nat) (s : State) : Host.Outcome State Fault Refusal :=
  .next (
    if s.unitState 7 processor = .retired ∨ 2 ≤ processor ∨ ¬ s.on .ctrl then s
    else
      let tags := if s.darn.taskOwner.getD 0 0 = processor then
          (List.range 4).flatMap fun n => (s.session n).outstanding.map fun o => (n, o.origin.tag)
        else []
      { s with darn := { s.darn with checkpoints := setAt s.darn.checkpoints processor fun _ => tags } })

/-- A slave port in fallback gives way to another port that offers the same master (R321). (PRESUMED: log 122.) -/
def State.leaveSlave (s : State) (p : Nat) : State :=
  if s.timeSource = 1 ∧ s.slavePort = p ∧ s.notSlave p then
    match s.pickSlave s.time.masters with
    | some m => s.setSlave m
    | none => s
  else s

/-- An error against a unit without spares, and what passing the threshold brings (Table 21-3). (DEDUCED: log 113.) -/
def State.unitError (s : State) (kind unit : Nat) : State :=
  let (past, s) := s.scoreError kind unit
  if !past then s
  else
    match kind with
    | 7 => s.failover unit 800 0
    | 8 => (((s.fence 8 unit).concludeRetire 8 unit 0 none 0 true).setSvc 9).leaveSlave unit
    | 9 => s.setSvc 10
    | _ => s.setSvc 11

/-- An error against a unit of a spare class: retired past the threshold (R538). -/
def State.classError (s : State) (k u : Nat) : State :=
  let (past, s) := s.scoreError k u
  if past then (if k = 1 then s.retireSynth u 0 else s.retireUnit k u 0) else s

/-! ### Samples and lookups (R274, R330) -/

/-- CONVERTER_START: a converter start; a channel in service that fails its reference check or its modulator's
self-check is scored (Table 21-1). (DESIGN CHOICE: log 119.) -/
def execConverterStart (samples : List Int) (failing : List Nat) (s : State) : Host.Outcome State Fault Refusal :=
  .next (
    if s.sampling then
      (failing.filter fun k => decide (k < 18) && s.unitState 2 k == .serving).foldl (fun (s : State) k => s.classError 2 k)
        (s.startConverters samples failing)
    else s)

/-- FWD_LOOKUP: the packet engine decides the oldest frame that waits, unless a cell of it cannot be read.
(DESIGN CHOICE: log 119.) -/
def execFwdLookup (trouble : UnitFault) (s : State) : Host.Outcome State Fault Refusal :=
  .next (match trouble with
    | .uncorrectable row => if s.on .pkt then (s.sramError row true).loseNext else s
    | .corrected row => (if s.on .pkt then s.sramError row false else s).decideNext
    | .check => s.decideNext
    | .clean => s.decideNext)

/-! ### The leak (R536) -/

/-- The end of the leak period in progress of a kind, elapsed ns. -/
def State.leakEnd (s : State) (kind : Nat) : Nat :=
  (Table.find s.darn.leaks kind).getD (60000000000 * (if kind ≤ 5 then field (resetValue (Reg.darnClassCfg kind)) 23 16 else 1))

/-- The scores of the units in use of a kind, each less 1 (R536). -/
def State.leakScores (s : State) (kind : Nat) : Table Score :=
  let base := unitKey kind 0
  s.darn.scores.map fun e =>
    if base ≤ e.1 ∧ (kind = 4 ∨ e.1 < 65536 + base) ∧ s.unitState kind (e.1 - base) ≠ .retired then
      (e.1, { e.2 with score := e.2.score - 1 })
    else e

/-- SCORE_LEAK: a leak period passes, and the scores of a kind fall by 1, those of cipher engines as they read too; the
next period runs at the present setting. (DEDUCED: log 115.) -/
def execScoreLeak (kind : Nat) (s : State) : Host.Outcome State Fault Refusal :=
  .next (
    if kind = 6 ∨ 10 < kind then s
    else
      let due := s.leakEnd kind
      let s := s.reachElapsed due
      let next := due + 60000000000 * (if kind ≤ 5 then s.fld (Reg.darnClassCfg kind) 23 16 else 1)
      let s := { s with darn := { s.darn with leaks := Table.put s.darn.leaks kind next, scores := s.leakScores kind } }
      if kind = 3 then
        (List.range 5).foldl (fun (s : State) e => s.setFld (Reg.ciphEngStat e) 15 8 (s.scoreOf 3 e).score) s
      else s)

/-! ### Wear (R550) -/

/-- Wear counters 2 to 4 as the flash and OTP stand, and every threshold checked. (DEDUCED: log 115.) -/
def State.checkWear (s : State) : State :=
  let erases (l : List Nat) : Nat := l.foldl max 0
  let roles := [s.areaOf 0, s.areaOf 1].map fun a => (s.boot.areas.getD a {}).erases
  let s := s.setReg (Reg.darnWear 2) (word (max (s.reg (Reg.darnWear 2)).toNat (erases roles)))
  let s := s.setReg (Reg.darnWear 3) (word (erases (s.boot.slots.map (·.erases))))
  let s := s.setReg (Reg.darnWear 4) (word s.sec.rollback.length)
  (List.range 5).foldl (fun (s : State) w =>
    if (s.reg (Reg.darnWear w)).toNat < (s.reg (Reg.darnWearThr w)).toNat ∨ s.darn.wearReported.contains w then s
    else
      let s := { s with darn := { s.darn with wearReported := s.darn.wearReported ++ [w] } }
      (s.setSvc 13).raise 0x7004 1 (le 1 w ++ le 4 (s.reg (Reg.darnWear w)).toNat)) s

/-- WEAR_HOUR: an hour of power, hot or not, with the log record. (DEDUCED: log 115.) -/
def execWearHour (hot : Bool) (s : State) : Host.Outcome State Fault Refusal :=
  .next (
    if s.powerState = 4 then s
    else
      let s := s.bump (Reg.darnWear 0)
      let s := (if hot then s.bump (Reg.darnWear 1) else s).checkWear
      s.logDarn 1 0 0 0xFFFF 0)

/-! ### Commands (Table 21-7) -/

/-- DARN_STATUS. -/
def darnStatusSpec : OpSpec where
  code := 0x7000
  length p := p.length == 0

/-- DARN_STATUS returns service request, spare and wear status. -/
def execDarnStatus (c : Cmd) (p : Bytes) (s : State) : Host.Outcome State Fault Refusal :=
  .next (s.run darnStatusSpec c p fun s =>
    let r (a : Nat) : Bytes := le 4 (s.reg a).toNat
    .done s (okUnless (s.reg Reg.darnSvc != 0)) (r Reg.darnSvc ++ r Reg.darnStat
      ++ (List.range 7).flatMap (fun k => r (Reg.darnClassStat k)) ++ (List.range 5).flatMap fun w => r (Reg.darnWear w)))

/-- The unit that DARN_UNIT_READ and DARN_RETIRE name by a number: of the row classes, the rows most recently in
error. -/
def State.namedUnit (s : State) (kind u : Nat) : Option Nat :=
  match kind with
  | 4 => s.darn.dramRows[u]?
  | 5 => s.darn.sramRows[u]?
  | _ => if u < unitCount kind then some u else none

/-- A unit as DARN_UNIT_READ gives it. -/
def State.unitWord (s : State) (kind u : Nat) : Nat :=
  match s.namedUnit kind u with
  | none => 0
  | some id =>
    let x := s.scoreOf kind id
    let st := match s.unitState kind id with
      | .serving => if kind = 0 ∧ s.laneState id = 4 then 3 else if kind = 1 ∧ s.onAir (id / 2) ≠ id % 2 then 1 else 0
      | .spare => if kind = 1 ∧ s.onAir (id / 2) = id % 2 then 0 else 1
      | .retired => 2
      | .testing => 3
    x.score + st * 256 + 65536 * x.errors

/-- DARN_UNIT_READ. -/
def darnUnitReadSpec : OpSpec where
  code := 0x7001
  length p := p.length == 6
  range _ p := num p 0 1 ≤ 10 && num p 1 1 == 0 && 1 ≤ num p 4 2 && num p 4 2 ≤ 1019
    && num p 2 2 + num p 4 2 ≤ unitCount (num p 0 1)

/-- DARN_UNIT_READ returns scores and states of units. -/
def execDarnUnitRead (c : Cmd) (p : Bytes) (s : State) : Host.Outcome State Fault Refusal :=
  .next (s.run darnUnitReadSpec c p fun s =>
    .done s Status.ok ((List.range (num p 4 2)).flatMap fun i => le 4 (s.unitWord (num p 0 1) (num p 2 2 + i))))

/-- DARN_RETIRE. -/
def darnRetireSpec : OpSpec where
  code := 0x7002
  session0 := true
  length p := p.length == 4
  range s p := num p 0 1 ≤ 10 && num p 1 1 == 0
    && (6 < num p 0 1 || (s.namedUnit (num p 0 1) (num p 2 2)).isSome)

/-- DARN_RETIRE retires a unit, and replies when its spare is in service or none was left. -/
def execDarnRetire (c : Cmd) (p : Bytes) (s : State) : Host.Outcome State Fault Refusal :=
  .next (s.run darnRetireSpec c p fun s =>
    let k := num p 0 1
    match s.namedUnit k (num p 2 2) with
    | none => .fail Status.notPermitted []
    | some u =>
      if 6 < k ∨ s.unitState k u = .retired then .fail Status.notPermitted []
      else
        match k with
        | 4 =>
          let (entry, s) := s.retireRow u 3
          .done s Status.ok (le 2 ((entry.map (·.2)).getD 0xFFFF))
        | 5 =>
          let (spare, s) := s.retireSram u 3
          .done s Status.ok (le 2 (spare.getD 0xFFFF))
        | 1 =>
          let t := s.retireSynth u 3
          if t.darn.active.any fun b => b.kind == 1 && b.unit == u then .wait t (.retire 1 u) false
          else .done t Status.ok (le 2 (if s.onAir (u / 2) = u % 2 ∧ !s.single (u / 2) then 2 * (u / 2) + 1 - u % 2 else 0xFFFF))
        | 6 =>
          let spare := (s.spares 6).head?
          let t := s.retireUnit 6 u 3
          .done t Status.ok (le 2 (if s.unitState 6 u = .spare then 0xFFFF else spare.getD 0xFFFF))
        | _ =>
          let t := s.retireUnit k u 3
          if t.darn.waiting.any fun b => b.kind == k && b.unit == u then .wait t (.retire k u) false
          else .done t Status.ok (le 2 0xFFFF))

/-- DARN_LOG_READ. -/
def darnLogReadSpec : OpSpec where
  code := 0x7003
  length p := p.length == 4
  range _ p := 1 ≤ num p 2 2 && num p 2 2 ≤ 63

/-- DARN_LOG_READ returns records of the darning log. (DEDUCED: log 115.) -/
def execDarnLogRead (c : Cmd) (p : Bytes) (s : State) : Host.Outcome State Fault Refusal :=
  .next (s.run darnLogReadSpec c p fun s =>
    let log := (s.boot.sealedCopies.getD 0 {}).log
    .done s Status.ok (((log.filter fun r => decide (num p 0 2 ≤ r.seq)).take (num p 2 2)).flatMap LogRecord.bytes))

end Sys2Proof.Machine
end

