-- ==== Sys2Proof/Machine/Radio.lean ====
section
/-! DEFINITION. The radio front end (chapter 3): state transitions, synthesiser locks, calibration, the writes that tune
a radio, and the regulatory certificate. -/

namespace Sys2Proof.Machine

/-! ### State transitions (R92, R93) -/

/-- A radio excluded by Trim (R441). -/
def State.trimmed (s : State) (n : Nat) : Bool := s.powerState == 1 && !bit s.power.kept n

/-- A radio whose frame has ended takes its requested state at the end of the turnaround; OFF needs none. -/
def State.tailEnd (s : State) (n : Nat) : State :=
  let last := (((s.radio n).lastEnd).getD s.elapsed)
  if s.trxReq n = 0 ∧ ¬ (s.radio n).calNext then
    ((s.reachElapsed (18000 + last)).trxOff n).synthServing n
  else
    let s := (s.reachElapsed (100000 + last)).modRadio n fun r => { r with tx := none }
    s.settleTrx n (s.restState n)

/-- The exit from SLEEP: a full calibration where none is valid, a lock otherwise (Table 3-3). -/
def State.wakeRadio (s : State) (n : Nat) : State :=
  let s := s.modRadio n fun r => { r with fromSleep := true }
  if s.flag (Reg.trxCalStat n) 0 then
    let s := s.reachElapsed (150000 + (s.radio n).since)
    if s.synFreq n = 0 then ((s.modRadio n fun r => { r with fromSleep := false }).setTrx n 2).startHop n
    else ((s.setTrx n 3).startLock n (s.onAir n) (s.synFreq n)).startHop n
  else s.startCal n

/-- Receptions and holds of a radio that stops receiving. (DEDUCED: log 38.) -/
def State.stopReceiving (s : State) (n : Nat) : State := (s.cutReceptions n none false).releaseHolds n

/-- STATE_TRANSITION_DONE: a radio has come one state nearer to the one requested. -/
def execStateTransitionDone (radio : Nat) (s : State) : Host.Outcome State Fault Refusal :=
  .next (
    let q := s.trxReq radio
    let r := s.radio radio
    let after (us : Nat) : State := s.reachElapsed (r.since + us * 1000)
    if s.radioOut radio || s.trimmed radio || !s.on (Island.trx radio) then s
    else
      match s.trx radio with
      | 0 => if q = 0 then s else (after 2000).setTrx radio 1
      | 1 => if q = 0 then ((after 10).trxOff radio) else if q = 1 then s else s.wakeRadio radio
      | 2 =>
        if (r.retuneFor.any fun x => (s.shot radio x).isNone) then
          let s := s.modRadio radio fun r => { r with retuneFor := none }
          s.settleTrx radio 2
        else if q = 0 then (after 10).trxOff radio
        else if q = 1 then (((after 10).setTrx radio 1).setFlag (Reg.trxState radio) 9 false).modRadio radio fun r => { r with
          synths := r.synths.map fun y => { y with target := none } }
        else if q = 2 then s
        else (after 20).setTrx radio q
      | 3 => s
      | 4 => s
      | 7 =>
        match r.tx with
        | some t => if t.phase = .tail then s.tailEnd radio else s
        | none => s.settleTrx radio (s.restState radio)
      | st =>
        if q = st then s
        else if q = 0 then (after 10).trxOff radio
        else if q = 5 ∨ q = 6 then (after 20).setTrx radio q
        else
          let t := s.leaveListen radio
          if q = 2 ∧ (t.trx radio ≠ 2 ∧ (s.mac.frames.any fun e => e.2.copies.any fun c => chanRadio c.chan == radio
              && [Phase.backoff, Phase.listen, Phase.decide, Phase.air, Phase.ackWait].contains c.phase)) then s
          else ((after 5).stopReceiving radio).setTrx radio 2)

/-! ### Locks (R86 to R89) -/

/-- The radio leaves SYNTH. -/
def State.leaveSynth (s : State) (n : Nat) : State :=
  let r := s.radio n
  if r.retuneFor.isSome then (if r.calNext then s.startCal n else s.setTrx n 2)
  else if r.fromSleep then
    let s := s.modRadio n fun r => { r with fromSleep := false }
    if r.calNext then s.startCal n else s.setTrx n 2
  else s.settleTrx n (s.restState n)

/-- SYNTH_LOCK_DONE: the lock detector declares lock, at the end of the lock time of Table 3-1. -/
def execSynthLockDone (radio : Nat) (synthB : Bool) (s : State) : Host.Outcome State Fault Refusal :=
  .next (
    let k := bitOf synthB
    let y := s.synth radio k
    match y.target with
    | none => s
    | some f =>
      if s.synthRetired radio k then s
      else
        let s := s.reachElapsed (y.began + y.lockTime)
        let s := s.modSynth radio k fun _ => { present := some f }
        if k = s.onAir radio then
          if s.trx radio = 3 then (s.leaveSynth radio).synthServing radio else s
        else s.setFlag (Reg.trxState radio) 9 (s.hopping radio && f == (s.reg (Reg.trxHopFreq radio)).toNat))

/-- SYNTH_LOCK_TIMEOUT: no lock after twice the lock time; scored, retried up to 3 times, then retired (R88, R538). -/
def execSynthLockTimeout (radio : Nat) (synthB : Bool) (s : State) : Host.Outcome State Fault Refusal :=
  .next (
    let k := bitOf synthB
    let y := s.synth radio k
    if y.target.isNone ∨ s.synthRetired radio k then s
    else
      let s := s.reachElapsed (y.began + 2 * y.lockTime)
      let (past, s) := s.scoreError 1 (2 * radio + k)
      if past ∨ 3 ≤ y.retries then
        let s := s.raise 0x1002 1 (le 1 radio ++ le 1 k ++ le 1 y.retries)
        s.retireSynth (2 * radio + k) (if past then 0 else 2)
      else
        (s.modSynth radio k fun y => { y with began := s.elapsed, retries := y.retries + 1 }).bump (Reg.trxCnt radio 9))

/-! ### Calibration (R96, R97, R99) -/

/-- A calibration raised by temperature or interval waits for its gap (R97). (DEDUCED: log 40.) -/
def State.raiseCal (s : State) (n : Nat) : State :=
  if s.flag (Reg.trxCalStat n) 0 && !s.flag (Reg.trxCalStat n) 2 && s.trx n != 4 then
    (s.setFlag (Reg.trxCalStat n) 2 true).modRadio n fun r => { r with calRaised := some s.elapsed }
  else s

/-- CAL_TEMP_TRIGGER: the die temperature at the radio, 1/16 °C, compared with its value at the last calibration. -/
def execCalTempTrigger (radio : Nat) (temp : Int) (s : State) : Host.Outcome State Fault Refusal :=
  .next (
    let s := s.setFld (Reg.trxTemp radio) 15 0 (unsigned 16 temp)
    if s.fld (Reg.trxCalCtl radio) 7 0 * 16 ≤ (signed 16 (unsigned 16 temp) - (s.radio radio).calTemp).natAbs then s.raiseCal radio
    else s)

/-- CAL_INTERVAL_EXPIRY: the interval elapses since the last calibration. -/
def execCalIntervalExpiry (radio : Nat) (s : State) : Host.Outcome State Fault Refusal :=
  .next (
    let interval := s.fld (Reg.trxCalCtl radio) 23 8
    if interval = 0 ∨ ¬ s.flag (Reg.trxCalStat radio) 0 then s
    else (s.reachElapsed ((s.radio radio).calAt + 1000000000 * interval)).raiseCal radio)

/-- Whether a radio can begin a calibration now. -/
def State.calReady (s : State) (n : Nat) : Bool := s.trx n == 2 || s.receiving n

/-- CAL_GAP_START: no frame in transmission, and no stitch within the next 1,500 µs. -/
def execCalGapStart (radio : Nat) (s : State) : Host.Outcome State Fault Refusal :=
  .next (
    if s.flag (Reg.trxCalStat radio) 2 && s.calReady radio
        && !s.stitchWithin radio s.netNs (1500000 + (s.netNs : Int)) then s.startCal radio
    else s)

/-- CAL_DEFER_EXPIRY: no gap came, and the calibration runs when the current frame ends. -/
def execCalDeferExpiry (radio : Nat) (s : State) : Host.Outcome State Fault Refusal :=
  .next (match (s.radio radio).calRaised with
    | none => s
    | some t =>
      if !s.flag (Reg.trxCalStat radio) 2 then s
      else
        let s := s.reachElapsed (t + 1000000000 * s.fld (Reg.trxCalCtl radio) 31 24)
        if s.calReady radio then s.startCal radio
        else if s.trx radio = 7 ∨ s.trx radio = 3 then s.modRadio radio fun r => { r with calNext := true }
        else s)

/-- The end of a calibration: the on-air synthesiser is locked on TRXn_SYN_FREQ. (DEDUCED: log 123.) -/
def State.endCal (s : State) (radio : Nat) : State :=
      let temp := s.sfld (Reg.trxTemp radio) 15 0
      let stat := (s.setFlag (Reg.trxCalStat radio) 0 true).setFlag (Reg.trxCalStat radio) 1 false
      let s := (stat.setFld (Reg.trxCalStat radio) 15 8 (unsigned 8 (roundDiv temp 16))).bumpFld (Reg.trxCalStat radio) 31 16
      let s := s.bump (Reg.trxCnt radio 8)
      let f := s.synFreq radio
      let s := s.modSynth radio (s.onAir radio) fun _ => { present := if f = 0 then none else some f }
      let s := s.modRadio radio fun r => { r with calTemp := temp, calAt := s.elapsed }
      let s := if s.hopping radio then s.startHop radio else s
      let s := if (s.radio radio).fromSleep then (s.modRadio radio fun r => { r with fromSleep := false }).setTrx radio 2
        else s.settleTrx radio (s.restState radio)
      (s.calEnded radio none).synthServing radio

/-- CAL_DONE: the calibration ends. A synthesiser whose VCO band cannot be selected is scored, and past the threshold it
is retired instead (Table 21-1). (DEDUCED: log 40, 123; DESIGN CHOICE: log 119.) -/
def execCalDone (radio : Nat) (bandFails : Option Nat) (s : State) : Host.Outcome State Fault Refusal :=
  .next (
    if s.trx radio ≠ 4 then s
    else
      let s := s.reachElapsed (1200000 + (s.radio radio).since)
      match bandFails with
      | none => s.endCal radio
      | some k =>
        let u := 2 * radio + k % 2
        let (past, s) := s.scoreError 1 u
        if past then s.retireSynth u 0 else s.endCal radio)

/-- RADIO_CAL. -/
def radioCalSpec : OpSpec where
  code := 0x1001
  length p := p.length == 1
  range _ p := num p 0 1 < 8

/-- RADIO_CAL raises a calibration on each radio of a mask, and replies when they have ended. (DEDUCED: log 40.) -/
def execRadioCal (c : Cmd) (p : Bytes) (s : State) : Host.Outcome State Fault Refusal :=
  .next (s.run radioCalSpec c p fun s =>
    let mask := num p 0 1
    let named := bitsSet 3 mask
    if named.any fun n => s.radioOut n || s.trimmed n then .fail Status.notPermitted []
    else
      let waits := named.filter fun n => 2 ≤ s.trx n
      let s := named.foldl (fun (s : State) n =>
        match s.trx n with
        | 0 => s
        | 1 => s.setFlag (Reg.trxCalStat n) 0 false
        | 3 => s.modRadio n fun r => { r with calNext := true }
        | 4 => s
        | 7 => s.modRadio n fun r => { r with calNext := true }
        | _ => s.startCal n) s
      match waits with
      | [] => .done s (okUnless (named.any fun n => s.single n || s.radioOut n)) []
      | l => .wait s (.radioCal ((l.map (2 ^ ·)).sum + 8 * mask)) false)

/-! ### Registers of a radio (R82 to R91, R110, R119) -/

/-- A refusal of a register write: status and result. -/
abbrev Refused := Option (Nat × Bytes)

/-- The check of a write of TRXn_SYN_FREQ (R82, R90). (DEDUCED: log 39.) -/
def State.synFreqCheck (s : State) (n : Nat) (new : Word) : Refused :=
  if s.radioOut n ∨ s.trimmed n then some (Status.notPermitted, [])
  else if tunable new.toNat then none else some (Status.paramRange, [])

/-- What a write of TRXn_SYN_FREQ does, the new word stored (R85). -/
def State.synFreqWritten (s : State) (n : Nat) (old : Word) : State :=
  let f := s.synFreq n
  match s.trx n with
  | 2 => (s.releaseHolds n).retune n f
  | 5 => ((s.cutReceptions n (some 10) false).releaseHolds n).retune n f
  | 6 => ((s.cutReceptions n (some 10) false).releaseHolds n).retune n f
  | 3 =>
    let k := s.onAir n
    if (s.synth n k).target = some old.toNat ∨ (s.radio n).retuneFor.isNone then
      s.modSynth n k fun y => { y with target := some f, hop := false }
    else s
  | _ => s

/-- The check of a write of TRXn_HOP_FREQ (R86, R90). -/
def State.hopFreqCheck (s : State) (n : Nat) (new : Word) : Refused :=
  if s.radioOut n ∨ s.trimmed n then some (Status.notPermitted, [])
  else if new = 0 ∨ tunable new.toNat then none else some (Status.paramRange, [])

/-- What a write of TRXn_HOP_FREQ or of hop_en does: the hop synthesiser locks in advance. (DEDUCED: log 39.) -/
def State.hopWritten (s : State) (n : Nat) : State := if 2 ≤ s.trx n ∧ s.trx n ≠ 4 ∧ !s.single n then s.startHop n else s

/-- The check of a write of TRXn_STATE_CTL, R90 and R91: a request of a state that can be requested, on a radio that is
in service. -/
def State.stateCtlCheck (s : State) (n : Nat) (old new : Word) : Refused :=
  let q := field new 3 0
  if ¬ [0, 1, 2, 5, 6].contains q then some (Status.paramRange, [])
  else if (q = 5 ∨ q = 6) ∧ s.synFreq n = 0 then some (Status.paramRange, [])
  else if q ≠ field old 3 0 ∧ (s.radioOut n ∨ (s.trimmed n ∧ q ≠ 0)) then some (Status.notPermitted, [])
  else none

/-- What a write of TRXn_STATE_CTL does, the new word stored. -/
def State.stateCtlWritten (s : State) (n : Nat) (old : Word) : State :=
  let q := s.trxReq n
  let s := s.setFld (Reg.trxState n) 7 4 q
  let s := if q = 0 then s else s.needGate (1 + n)
  if q = field old 3 0 then s
  else if [0, 1, 2, 5, 6].contains (s.trx n) then s.modRadio n fun r => { r with since := s.elapsed } else s

/-- The check of a write of TRXn_TX_PWR (R110). -/
def State.txPwrCheck (s : State) (n : Nat) (new : Word) : Refused :=
  let p := fieldInt new 7 0
  if p < -80 ∨ 64 < p then some (Status.paramRange, [])
  else
    match s.bandAt (s.synFreq n) with
    | some b => if s.powerLimit b n < p then some (Status.regLocked, []) else none
    | none => none

/-! ### The regulatory certificate (R107 to R117) -/

/-- A command that holds the boot flash (R483). -/
def Work.holdsFlash : Work → Bool
  | .certVerify => true
  | .fwActivate => true
  | .cfgSave => true
  | .cfgCommit => true
  | _ => false

/-- What keeps a command from the boot flash: the holder that R592 names; a holder whose command has ended is named as
session 0, tag 0. (DEDUCED: log 103.) -/
def State.flashBusy (s : State) : Option Bytes :=
  if s.flag Reg.sysCfgStat 2 then some ((s.holder fun o => o.work.holdsFlash).getD [0, 0, 0, 0]) else none

/-- The flash held or let go, as SYS_CFG_STAT shows it. (DEDUCED: log 103.) -/
def State.holdFlash (s : State) (on : Bool) : State := s.setFlag Reg.sysCfgStat 2 on

/-- The device identity (SEC_ID_0 to 3). -/
def State.identity (s : State) : Bytes := (List.range 4).flatMap fun i => le 4 (s.reg (Reg.secId i)).toNat

/-- Whether every byte of a run is 0. -/
def allZero (b : Bytes) : Bool := b.all (· == 0)

/-- The fields of a band entry hold values that Table 3-5 allows. -/
def bandOk (e : Bytes) : Bool :=
  let cells := num e 4 2
  decide (1 ≤ cells) && decide (cells ≤ 1024) && decide (num e 12 1 ≤ 1) && allZero (slice e 16 16)
    && decide (num e 32 128 < 2 ^ cells)

/-- Step 1 of R109 on a certificate. -/
def certFormOk (cert : Bytes) : Bool :=
  let n := num cert 10 2
  let bands := (List.range n).map fun b => bandEntry cert b
  decide (cert.length = 16608 + (64 + 160 * n)) && num cert 0 4 == 0x4C524743 && num cert 8 2 != 0
    && decide (1 ≤ n) && decide (n ≤ 16) && allZero (slice cert 31 33) && bands.all bandOk
    && (List.range n).all fun i => (List.range i).all fun j =>
      let a := bandEdges (bands.getD i [])
      let b := bandEdges (bands.getD j [])
      decide (a.2 ≤ b.1) || decide (b.2 ≤ a.1)

/-- The body of a certificate. -/
def certBody (cert : Bytes) : Bytes := cert.take (cert.length - 16608)

/-- The two signatures of a signed object over the digest of its first part, under an authority's keys. -/
def signaturesOk (keys : Bytes × Bytes) (signed signatures : Bytes) : Bool :=
  let d := sha384 signed
  Config.rsaVerify keys.1 d (signatures.take 384) && Config.slhVerify keys.2 d (signatures.drop 384)

/-- Steps 2 and 3 of R109. -/
def certSigned (cert : Bytes) : Bool :=
  signaturesOk (Config.authority 1) (certBody cert) (cert.drop (cert.length - 16608))

/-- The identity of a certificate is this device's or all zero. (DEDUCED: log 41.) -/
def State.certNames (s : State) (cert : Bytes) : Bool := allZero (slice cert 12 16) || slice cert 12 16 == s.identity

/-- The version of a certificate. -/
def certVersion (cert : Bytes) : Nat := num cert 4 4

/-- A certificate's registers. -/
def State.showCert (s : State) (body : Bytes) : State :=
  let n := num body 10 2
  let s := (List.range 16).foldl (fun (s : State) b =>
    if b < n then
      let e := bandEntry body b
      let power := clampInt (-127) 127 (signed 16 (num e 6 2))
      let s := s.setReg (Reg.rglBandLo b) (word (num e 0 4))
      let s := s.setReg (Reg.rglBandCfg b) (word (num e 4 2 + unsigned 8 power * 2 ^ 16 + num e 12 1 * 2 ^ 24 + 2 ^ 25))
      s.setReg (Reg.rglDutyLim b) (word (num e 8 4))
    else ((s.setReg (Reg.rglBandLo b) 0).setReg (Reg.rglBandCfg b) 0).setReg (Reg.rglDutyLim b) 0) s
  (s.setReg Reg.rglCertVer (word (certVersion body))).setReg Reg.rglCertStat (word (1 + 65536 * num body 8 2))

/-- TRXn_TX_PWR values above the limits of a certificate lowered, and how many (R116). (DEDUCED: log 41.) -/
def State.lowerPower (s : State) : Nat × State :=
  (List.range 3).foldl (fun (x : Nat × State) n =>
    match x.2.bandAt (x.2.synFreq n) with
    | some b =>
      let limit := x.2.powerLimit b n
      if limit < x.2.txPower n then (x.1 + 1, x.2.setFld (Reg.trxTxPwr n) 7 0 (unsigned 8 (max (-128) limit))) else x
    | none => x) (0, s)

/-- A certificate takes effect. (DEDUCED: log 41.) -/
def State.useCert (s : State) (cert : Bytes) : State :=
  let body := certBody cert
  ({ s with rgl := { s.rgl with certificate := body } }).showCert body

/-- RGL_CERT_WRITE. -/
def rglCertWriteSpec : OpSpec where
  code := 0x1002
  session0 := true
  length p := 5 ≤ p.length && p.length ≤ 4076
  range _ p := num p 0 4 + (p.length - 4) ≤ 20480

/-- RGL_CERT_WRITE writes into the certificate staging buffer. -/
def execRglCertWrite (c : Cmd) (p : Bytes) (s : State) : Host.Outcome State Fault Refusal :=
  .next (s.run rglCertWriteSpec c p fun s =>
    .done { s with rgl := { s.rgl with stage := s.rgl.stage.writeBytes 0 (num p 0 4) (p.drop 4) } } Status.ok [])

/-- RGL_CERT_APPLY. -/
def rglCertApplySpec : OpSpec where
  code := 0x1003
  session0 := true
  length p := p.length == 4

/-- The certificate staging buffer cleared (R117). -/
def State.clearStage (s : State) : State := { s with rgl := { s.rgl with stage := [] } }

/-- RGL_CERT_APPLY checks the form of the staged certificate, replies ACCEPTED and goes on to the signatures. The
staging buffer is cleared whatever the outcome. (DEDUCED: log 41.) -/
def execRglCertApply (c : Cmd) (p : Bytes) (s : State) : Host.Outcome State Fault Refusal :=
  .next (s.run rglCertApplySpec c p fun s =>
    let n := num p 0 4
    let cert := if n ≤ 20480 then s.rgl.stage.readBytes 0 0 n else []
    match s.flashBusy with
    | some h => .fail Status.resourceBusy h
    | none =>
      if !certFormOk cert then .done s.clearStage Status.paramRange []
      else .wait (({ s with rgl := { s.rgl with checking := some cert } }).holdFlash true) .certVerify true)

/-- A RGL_CERT_APPLY that checks signatures. -/
def Work.isCert : Work → Bool
  | .certVerify => true
  | _ => false

/-- RGL_CERT_VERIFY_DONE: on success both copies are sealed, and the certificate applies (R109, R116). -/
def execRglCertVerifyDone (s : State) : Host.Outcome State Fault Refusal :=
  .next (match s.rgl.checking with
    | none => s
    | some cert =>
      let s := (({ s with rgl := { s.rgl with checking := none } }).clearStage).holdFlash false
      if certSigned cert && s.certNames cert && decide ((s.reg Reg.rglCertVer).toNat < certVersion cert) && s.lifecycle != 4 then
        let s := { s with boot := { s.boot with sealedCopies := s.boot.sealedCopies.map fun (x : SealedCopy) => { x with certificate := cert } } }
        let (lowered, s) := (s.useCert cert).lowerPower
        let s := (List.range s.bandCount).foldl (fun (s : State) b => s.dutyWatch b) s
        let s := s.raise 0x1000 0 (le 4 (certVersion cert) ++ le 1 s.bandCount ++ le 1 lowered)
        s.finishWork Work.isCert Status.ok (le 4 (certVersion cert))
      else s.finishWork Work.isCert Status.notPermitted [])

/-- RGL_READ. -/
def rglReadSpec : OpSpec where
  code := 0x1004
  length p := p.length == 1
  range _ p := num p 0 1 < 16

/-- RGL_READ returns the entry of a band, zeros where the certificate holds none. -/
def execRglRead (c : Cmd) (p : Bytes) (s : State) : Host.Outcome State Fault Refusal :=
  .next (s.run rglReadSpec c p fun s =>
    let b := num p 0 1
    .done s Status.ok (if s.licensed && b < s.bandCount then bandEntry s.rgl.certificate b else List.replicate 160 0))

end Sys2Proof.Machine
end

