-- ==== Sys2Proof/Machine/Modulation.lean ====
section
/-! DEFINITION. Bit loading (chapter 4): loading tables, their derivation from soundings, and the checks of profile slots
and Filet channels. -/

namespace Sys2Proof.Machine

/-! ### Register checks (R134, R161) -/

/-- The check of a write of TRXn_PROF_CFGk by its whole value (R161). -/
def profCfgCheck (new : Word) : Refused :=
  if field new 0 0 = 0 then none
  else if field new 3 1 ≤ (if isSun new then 4 else 6) ∧ 4 ≤ field new 13 9 ∧ field new 31 14 = 0 then none
  else some (Status.paramRange, [])

/-- The one bits of a word. -/
def ones (w : Word) : Nat := (bitsSet 32 w.toNat).length

/-- The check of a write of TRXn_PROF_SYNCk: 12 to 20 one bits. -/
def profSyncCheck (new : Word) : Refused :=
  if 12 ≤ ones new ∧ ones new ≤ 20 then none else some (Status.paramRange, [])

/-- The check of a write of TRXn_FILET_CFG: the offset of its width (R134). -/
def filetCfgCheck (new : Word) : Refused :=
  let most : Int := if field new 1 1 = 1 then 27 else 29
  let m := fieldInt new 15 8
  if -most ≤ m ∧ m ≤ most then none else some (Status.paramRange, [])

/-! ### Loading tables (R152, R153) -/

/-- The loading of a data subcarrier. -/
def loadingOf (t : Bytes) (d : Nat) : Nat := bits (num t (8 + d / 2) 1) (4 * (d % 2) + 3) (4 * (d % 2))

/-- The loadings of a table. -/
def loadings (t : Bytes) : List Nat := (List.range 192).map (loadingOf t)

/-- Reserved fields of a table are 0. -/
def tableReserved (half : Nat) (t : Bytes) : Bool :=
  bits (num t 0 1) 7 5 == 0 && num t 6 2 == 0 && allZero (slice t 110 18) && (half == 0 || !bit (num t 0 1) 4)

/-- R153 on a valid table of a half: 0 receive, 1 transmit. -/
def tableOk (peer half : Nat) (t : Bytes) : Bool :=
  let l := loadings t
  let cbps := num t 4 2
  l.all (fun b => decide (b ≤ 8)) && (bit (num t 0 1) 1 || (l.drop 96).all (· == 0))
    && cbps == l.sum && cbps % 12 == 0 && decide (48 ≤ cbps) && num t 1 1 != 0 && decide (num t 3 1 ≤ 80)
    && (half != 0 || num t 2 1 == peer)

/-- A loading table stored; one of zeros is not listed. (DEDUCED: log 45.) -/
def State.setTable (s : State) (peer half : Nat) (t : Bytes) : State :=
  let k := peer * 4 + half
  { s with loading := { s.loading with
      tables := if allZero t then Table.drop s.loading.tables k else Table.put s.loading.tables k t } }

/-- A receive table installed; a valid one that it replaces becomes the previous receive table (R152, R157). -/
def State.installReceive (s : State) (peer : Nat) (t : Bytes) : State :=
  let old := s.loadTable peer 0
  let s := if tableValid old then
      let s := s.setTable peer 3 old
      { s with loading := { s.loading with replaced := Table.put s.loading.replaced peer s.elapsed } }
    else s
  s.setTable peer 0 t

/-- LOAD_TABLE_WRITE. -/
def loadTableWriteSpec : OpSpec where
  code := 0x1101
  length p := p.length == 132
  range _ p :=
    let t := p.drop 4
    num p 1 1 ≤ 1 && num p 2 2 == 0 && tableReserved (num p 1 1) t
      && (!tableValid t || tableOk (num p 0 1) (num p 1 1) t)

/-- LOAD_TABLE_WRITE writes a receive or transmit table, stamped with the time of the write. -/
def execLoadTableWrite (c : Cmd) (p : Bytes) (s : State) : Host.Outcome State Fault Refusal :=
  .next (s.run loadTableWriteSpec c p fun s =>
    let t := patch (p.drop 4) 106 (le 4 s.seconds)
    .done (if num p 1 1 = 0 then s.installReceive (num p 0 1) t else s.setTable (num p 0 1) 1 t) Status.ok [])

/-- LOAD_TABLE_READ. -/
def loadTableReadSpec : OpSpec where
  code := 0x1102
  length p := p.length == 2
  range _ p := num p 1 1 ≤ 3

/-- LOAD_TABLE_READ returns one of the four tables of a peer. -/
def execLoadTableRead (c : Cmd) (p : Bytes) (s : State) : Host.Outcome State Fault Refusal :=
  .next (s.run loadTableReadSpec c p fun s => .done s Status.ok (s.loadTable (num p 0 1) (num p 1 1)))

/-! ### Soundings (R145, R156, R157) -/

/-- thr[n] of Table 4-8, 0.25 dB. -/
def loadThreshold (n : Nat) : Int := [0, 8, 20, 34, 44, 58, 68, 82, 92].getD n 0

/-- off[rate] of Table 4-8, 0.25 dB. -/
def loadOffset (rate : Nat) : Int := [0, 6, 10, 14].getD rate 0

/-- The bits that a subcarrier's signal-to-noise ratio carries. -/
def bitsFor (extra snr : Int) : Nat := ((List.range 8).filter fun i => decide (loadThreshold (i + 1) + extra ≤ snr)).length

/-- The subcarrier of least excess among those that carry bits, the lowest of equals. -/
def leastExcess (extra : Int) (l : List (Nat × Int)) : Option Nat :=
  (l.zipIdx.foldl (fun (best : Option (Int × Nat)) e =>
    if e.1.1 = 0 then best
    else
      let excess := e.1.2 - (loadThreshold e.1.1 + extra)
      match best with
      | none => some (excess, e.2)
      | some b => if excess < b.1 then some (excess, e.2) else best) none).map (·.2)

/-- Bits taken away until the total is a multiple of 12. -/
def trimLoading (extra : Int) : Nat → List (Nat × Int) → List (Nat × Int)
  | 0, l => l
  | fuel + 1, l =>
    if (l.map (·.1)).sum % 12 = 0 then l
    else
      match leastExcess extra l with
      | some d => trimLoading extra fuel (setAt l d fun e => (e.1 - 1, e.2))
      | none => l

/-- The loading of R156 from the signal-to-noise ratios of the data subcarriers, 0.25 dB. (DEDUCED: log 45.) -/
def deriveLoading (rate : Nat) (margin : Int) (snr : List Int) : List Nat :=
  let extra := loadOffset rate + margin
  (trimLoading extra 12 (snr.map fun x => (bitsFor extra x, x))).map (·.1)

/-- Loadings packed two to a byte. -/
def packLoading (l : List Nat) : Bytes := (List.range 96).map fun i => BitVec.ofNat 8 (l.getD (2 * i) 0 + 16 * l.getD (2 * i + 1) 0)

/-- FILET_SOUND. -/
def filetSoundSpec : OpSpec where
  code := 0x1103
  timeout := 2000
  length p := p.length == 4
  range _ p := num p 0 1 < 3 && 2 ≤ num p 2 1 && num p 2 1 ≤ 8 && num p 3 1 == 0

/-- FILET_SOUND sends a sounding frame on a radio's Filet channel, by contention access. (DEDUCED: log 45.) -/
def execFiletSound (c : Cmd) (p : Bytes) (s : State) : Host.Outcome State Fault Refusal :=
  .next (s.run filetSoundSpec c p fun s =>
    let n := num p 0 1
    if s.radioOut n ∨ s.trimmed n ∨ ¬ s.macOn n ∨ ¬ s.flag (Reg.filetCfg n) 0 then .fail Status.notPermitted []
    else
      let f : AirFrame := { target := .sounding n (num p 1 1) (num p 2 1), macType := 2, ackReq := false, secured := false, payload := [], node := none, buffer := none, plait := none }
      let (id, s) := s.queueFrame f none (8 + 2 * n)
      .wait s (.frame id) false)

/-- The lane's frame is a sounding. -/
def Reception.sounding (r : Reception) : Bool :=
  r.detection.filet && (match r.header with
    | some h => bits h 33 32 == 1
    | none => false)

/-- SOUNDING_RX: the sounding symbols of a lane end, with the signal-to-noise ratio of each data subcarrier in 0.25 dB
and the frequency offset in 0.01 ppm; a table is derived for the tagged peer. (DEDUCED: log 45.) -/
def execSoundingRx (lane : Nat) (snr : List Int) (offset : Int) (s : State) : Host.Outcome State Fault Refusal :=
  .next (match s.reception lane with
    | none => s
    | some r =>
      match r.header with
      | none => s
      | some h =>
        if !r.sounding then s
        else
          let n := r.detection.radio
          let symbols := bits h 12 0
          let peer := bits h 31 24
          let width := field r.profile 1 1
          let s := (s.reachElapsed (r.syncAt + 120000 * (1 + symbols))).bump (Reg.modCnt n 7)
          let s := s.releaseLane lane
          let old := s.loadTable peer 0
          let rate := if tableValid old then bits (num old 0 1) 3 2 else 2
          let margin := if tableValid old then num old 3 1 else 12
          let l := deriveLoading rate margin (padInts (if width = 1 then 192 else 96) snr)
          let total := l.sum
          let valid := decide (48 ≤ total)
          let version := if tableValid old then num old 1 1 % 255 + 1 else 1
          let auto := tableValid old && bit (num old 0 1) 4
          let install := auto && valid
          let t := le 1 (bitOf valid + 2 * width + 4 * rate + 16 * bitOf install) ++ le 1 version ++ le 1 peer ++ le 1 margin
            ++ le 2 total ++ [0, 0] ++ packLoading l ++ le 2 (unsigned 16 offset) ++ le 4 s.seconds ++ List.replicate 18 0
          let s := if install then s.installReceive peer t else s.setTable peer 2 t
          s.raise 0x1100 0 (le 1 peer ++ le 1 version ++ le 2 (if valid then total else 0) ++ le 1 (bitOf install) ++ le 1 n))
where
  /-- A list of a given length, filled with the lowest ratio. -/
  padInts (n : Nat) (l : List Int) : List Int := l.take n ++ List.replicate (n - l.length) (-400)

/-! ### Received loadings (R155) -/

/-- The table with which a Filet frame with loaded 1 decodes. -/
def State.receiveTable (s : State) (r : Reception) (h : Nat) : Option Bytes :=
  let peer := bits h 31 24
  let version := bits h 23 16
  let now := s.loadTable peer 0
  let previous := s.loadTable peer 3
  if tableValid now && num now 1 1 == version then some now
  else if tableValid previous && num previous 1 1 == version && (match Table.find s.loading.replaced peer with
      | some t => decide (s.elapsed < t + 1000000000 * field r.profile 23 16)
      | none => false) then some previous
  else none

/-- A frame without a matching table, with LOADING_MISMATCH at most once a second for each tag. (DEDUCED: log 45.) -/
def State.loadMismatch (s : State) (n h : Nat) : State :=
  let s := s.bump (Reg.modCnt n 3)
  let peer := bits h 31 24
  let now := s.loadTable peer 0
  if (Table.find s.loading.mismatch peer) == some s.elapsedSecond then s
  else
    let s := { s with loading := { s.loading with mismatch := Table.put s.loading.mismatch peer s.elapsedSecond } }
    s.raise 0x1101 1 (le 1 n ++ le 1 peer ++ le 1 (bits h 23 16) ++ le 1 (if tableValid now then num now 1 1 else 0))

end Sys2Proof.Machine
end

