-- ==== Sys2Proof/Machine/Search.lean ====
section
/-! DEFINITION. Finding packets (chapter 5): detections and the allocation of lanes, sync words and headers, the windows
of stitches, lane self-tests, and the reads of the pool. -/

namespace Sys2Proof.Machine

/-! ### Detections (R162 to R171) -/

/-- Whether a detection can be raised: its radio receives, its hypothesis is tested, and in wide mode it is strong
enough (R162, R165, R169). -/
def State.detectable (s : State) (d : Detection) : Bool :=
  let n := d.radio
  let wide := s.trx n == 6
  let strong := !wide || decide (4 * s.sfld (Reg.searchDetThr n) 15 8 ≤ d.strength)
  decide (n < 3) && s.receiving n && strong
    && (if d.filet then s.flag (Reg.filetCfg n) 0
      else if wide then decide (d.subband < 64) && decide (d.slot < 8) && s.hypothesis n d.subband d.slot
      else decide (d.slot < 8) && field (s.profile n d.slot) 0 0 == 1)

/-- A detection as it is kept: sub-band 63 in narrow mode and for Filet, slot 0 for Filet (Table 5-8). -/
def State.placed (s : State) (d : Detection) : Detection :=
  let d := if d.filet then { d with slot := 0 } else d
  if d.filet || s.trx d.radio == 5 then { d with subband := 63 } else d

/-- Two carriers differ by less than half the larger occupied band (R170). -/
def State.overlapping (s : State) (a b : Detection) : Bool :=
  let band (d : Detection) : Nat := occupied (s.profile d.radio d.slot)
  !a.filet && !b.filet && a.radio == b.radio
    && decide (2 * (max a.carrier b.carrier - min a.carrier b.carrier) < max (band a) (band b))

/-- Two detections coincide (R170): 4 symbol periods at the slower symbol rate, and carriers near enough.
(DEDUCED: log 46.) -/
def State.coincide (s : State) (a b : Detection) : Bool :=
  let rate (d : Detection) : Nat := symbolRate (field (s.profile d.radio d.slot) 3 1)
  s.overlapping a b && decide ((max a.start b.start - min a.start b.start) * min (rate a) (rate b) ≤ 4 * 1000000)

/-- The sync window of a slot, ns (R174). -/
def State.syncWindow (s : State) (n slot : Nat) : Nat :=
  let cfg := s.profile n slot
  bitsNs (8 * field cfg 13 9 + 32 + s.fld (Reg.searchCtl n) 15 8) (symbolRate (field cfg 3 1))

/-- The capture margin of a radio, 0.25 dB. -/
def State.captureMargin (s : State) (n : Nat) : Int := (4 * s.fld (Reg.searchCtl n) 3 0 : Nat)

/-- SEARCH_LANE_STAT of a reception that begins. -/
def laneWord (d : Detection) (stitch : Bool) : Word :=
  word (1 + 8 * d.radio + 32 * d.subband + 2048 * d.slot + 2 ^ 14 * bitOf d.filet + 2 ^ 15 * bitOf stitch
    + 2 ^ 16 * unsigned 8 (roundDiv d.strength 4))

/-- A reception that begins now. -/
def State.begin_ (s : State) (d : Detection) : Reception :=
  { detection := d
    slots := [d.slot]
    began := s.elapsed
    syncDue := s.elapsed + (if d.filet then 480000 else s.syncWindow d.radio d.slot)
    narrow := !d.filet && s.trx d.radio == 5
    profile := if d.filet then s.reg (Reg.filetCfg d.radio) else s.profile d.radio d.slot }

/-- The channel of a hold. -/
def State.holdChannel (s : State) : Hold → Option Nat
  | .stitch n c => ((s.radio n).windows.find? fun w => w.client == c && w.opened && !w.closed).map (·.chan)
  | .ack n x =>
    match s.copy x with
    | some (_, k) => some k.chan
    | none => ((s.radio n).windows.find? fun w => (w.ackOf.map (·.1)) == some x).map (·.chan)

/-- The lane held for a detection, stitches first (R176, R199). -/
def State.heldFor (s : State) (d : Detection) : Option Nat :=
  let mine (h : Hold) : Bool := match h with
    | .stitch n _ => n == d.radio
    | .ack n _ => n == d.radio
  let fits := s.lanes.holds.filter fun e => mine e.2 && (match s.holdChannel e.2 with
    | some ch => onChannel d ch
    | none => false)
  match fits.find? (fun e => match e.2 with
      | .stitch .. => true
      | _ => false) with
  | some e => some e.1
  | none => fits.head?.map (·.1)

/-- A reception aborted, its lane passing to a new detection (R172): counted on the radio that loses it. -/
def State.captureLane (s : State) (l : Nat) (v : Reception) (d : Detection) : State :=
  let m := v.detection.radio
  let n := d.radio
  let s := (s.spoilWindow m v.detection).bump (Reg.searchCnt m 4)
  let s := s.setReg (Reg.laneStat l) (laneWord d false)
  let s := s.setReception l { s.begin_ d with captured := true }
  if m = n then s
  else (s.setFld Reg.poolHeld (8 * m + 7) (8 * m) (s.heldBy m - 1)).setFld Reg.poolHeld (8 * n + 7) (8 * n) (s.heldBy n + 1)

/-- A detection with no lane: counted, and the occurrence whose window it lies in is not scored (R239). -/
def State.starve (s : State) (d : Detection) : State :=
  let s := (s.bump (Reg.searchCnt d.radio 3)).modRadio d.radio fun r => { r with starved := r.starved + 1 }
  s.spoilWindow d.radio d

/-- The weakest of a list of receptions, the latest of equals (R172). (DEDUCED: log 46.) -/
def weakest (l : Table Reception) : Option (Nat × Reception) :=
  l.foldl (fun (best : Option (Nat × Reception)) e =>
    match best with
    | none => some e
    | some b =>
      let x := e.2.detection
      let y := b.2.detection
      if x.strength < y.strength ∨ (x.strength = y.strength ∧ y.start < x.start) then some e else best) none

/-- The allocator on a detection that has no lane held for it and no reception of its kind before it.
(DEDUCED: log 46.) -/
def State.allocate (s : State) (d : Detection) : State :=
  let n := d.radio
  if s.allowed n then
    match s.freeLane with
    | some l => ((s.needGate 4).takeLane l n (laneWord d false)).setReception l (s.begin_ d)
    | none => s.starve d
  else
    let own := (s.receptionsOn n).filter fun e => !e.2.held
    let others := if s.heldBy n < s.laneCap n then
        s.lanes.receptions.filter fun e => e.2.detection.radio != n && decide (s.reserved e.2.detection.radio < s.heldBy e.2.detection.radio)
      else []
    match weakest (own ++ others) with
    | some (l, v) => if v.detection.strength + s.captureMargin n ≤ d.strength then s.captureLane l v d else s.starve d
    | none => s.starve d

/-- The reception in progress that a narrow or Filet detection meets (R134, R167). (DEDUCED: log 46.) -/
def State.rival (s : State) (d : Detection) : Option (Nat × Reception) :=
  if d.filet then (s.receptionsOn d.radio).find? fun e => e.2.detection.filet
  else if s.trx d.radio = 5 then (s.receptionsOn d.radio).find? fun e => !e.2.detection.filet
  else none

/-- A detection discarded as too weak to capture. -/
def State.ignore (s : State) (d : Detection) : State :=
  let s := s.bump (Reg.searchCnt d.radio 2)
  if d.filet then s.bump (Reg.modCnt d.radio 6) else s

/-- A detection that is a packet of its own: to a held lane, against the reception of its kind, or to the allocator. -/
def State.assign (s : State) (d : Detection) : State :=
  match s.heldFor d with
  | some l =>
    let stitch := match Table.find s.lanes.holds l with
      | some (.stitch ..) => true
      | _ => false
    let s := { s with lanes := { s.lanes with holds := Table.drop s.lanes.holds l } }
    (s.setReg (Reg.laneStat l) (laneWord d stitch)).setReception l { s.begin_ d with held := true }
  | none =>
    match s.rival d with
    | some (l, v) => if v.detection.strength + s.captureMargin d.radio ≤ d.strength then s.captureLane l v d else s.ignore d
    | none => s.allocate d

/-- A detection merged into a reception: its slot joins the set (R170). (DEDUCED: log 46.) -/
def State.merge (s : State) (l : Nat) (r : Reception) (d : Detection) : State :=
  let s := s.bump (Reg.searchCnt d.radio 1)
  if s.laneState l ≠ 1 then s
  else
    let slots := if r.slots.contains d.slot then r.slots else r.slots ++ [d.slot]
    let due := max r.syncDue (r.began + s.syncWindow d.radio d.slot)
    let s := s.setFld (Reg.laneStat l) 13 11 (slots.foldl min d.slot)
    s.setReception l { r with slots := slots, syncDue := if r.slots.contains d.slot then r.syncDue else due }

/-- DETECTION: merged, ignored, or given a lane (R170 to R172). (DEDUCED: log 46.) -/
def execDetection (d : Detection) (s : State) : Host.Outcome State Fault Refusal :=
  .next (
    if !s.detectable d then s
    else
      let d := s.placed d
      let n := d.radio
      let s := s.bump (Reg.searchCnt n 0)
      let weaker (r : Reception) : Bool := decide (d.strength < r.detection.strength + s.captureMargin n)
      match (s.receptionsOn n).find? fun e => s.coincide d e.2.detection with
      | some (l, r) => if weaker r then s.merge l r d else s.assign d
      | none =>
        match (s.receptionsOn n).find? fun e => s.trx n == 6 && s.overlapping d e.2.detection && s.laneState e.1 == 1 with
        | some (_, r) => if weaker r then s.ignore d else s.assign d
        | none => s.assign d)

/-! ### Sync words (R174, R183) -/

/-- SYNC_FOUND: a lane finds the sync word, SFD or S2 of a slot, at the network instant `stamp` in 2^-16 ns.
(DESIGN CHOICE: log 119.) -/
def execSyncFound (lane slot stamp : Nat) (stampFails : Bool) (s : State) : Host.Outcome State Fault Refusal :=
  .next (match s.reception lane with
    | none => s
    | some r =>
      let slot := if r.detection.filet then 0 else slot
      if s.laneState lane ≠ 1 ∨ ¬ r.slots.contains slot then s
      else
        let s := (s.reach (stamp / 65536)).setFld (Reg.laneStat lane) 2 0 2
        let n := r.detection.radio
        let profile := if r.detection.filet ∨ slot = r.detection.slot then r.profile else s.profile n slot
        let firmware := stampFails || s.unitState 8 (4 + n) == .retired
        let s := s.setReception lane { r with slot := some slot, syncAt := s.elapsed, stamp := stamp, profile := profile, firmware := firmware }
        if stampFails then s.unitError 8 (4 + n) else s)

/-- SYNC_TIMEOUT: the sync window closes and the lane is released. -/
def execSyncTimeout (lane : Nat) (s : State) : Host.Outcome State Fault Refusal :=
  .next (match s.reception lane with
    | none => s
    | some r =>
      if s.laneState lane ≠ 1 then s
      else ((s.reachElapsed r.syncDue).bump (Reg.searchCnt r.detection.radio 5)).releaseLane lane)

/-! ### Headers (R147 to R149, R155) -/

/-- The header check of R140 over octets. -/
def crc8 (p : Bytes) : Nat :=
  p.foldl (fun c b => (List.range 8).foldl (fun c _ => if c % 2 = 1 then Nat.xor (c / 2) 0xE0 else c / 2) (Nat.xor c b.toNat)) 0xFF

/-- An occurrence in whose window a sync word ended, its frame failing header or CRC-32 (R239). -/
def State.sight (s : State) (r : Reception) : State :=
  let n := r.detection.radio
  let t : Int := (r.stamp / 65536 : Nat)
  match (s.radio n).windows.find? fun w => w.opened && onChannel r.detection w.chan && decide (w.opens ≤ t) && decide (t ≤ w.closes) with
  | some w => s.modWindow n w.client fun w => { w with sighted := true }
  | none => s

/-- A frame discarded at its header: counted, and the lane released. -/
def State.headerFails (s : State) (lane : Nat) (r : Reception) (counter : Nat) : State :=
  ((s.sight r).bump (Reg.modCnt r.detection.radio counter)).releaseLane lane

/-- The header of a reception passes. -/
def State.headerPasses (s : State) (lane : Nat) (r : Reception) (h : Nat) : State :=
  s.setReception lane { r with header := some h, table := if r.detection.filet && bit h 15 then s.receiveTable r h else none }

/-- The header of a native GFSK frame (Table 4-5). -/
def State.gfskHeader (s : State) (lane : Nat) (r : Reception) (h : Nat) : State :=
  if bits h 31 24 ≠ crc8 (le 3 h) ∨ bits h 23 16 ≠ 0 then s.headerFails lane r 0
  else if 2047 < bits h 12 0 ∨ bits h 12 0 < 4 then s.headerFails lane r 1
  else s.headerPasses lane r h

/-- The PHR of a SUN-FSK frame: bit 0 the mode switch, bit 3 the two-octet FCS, bits [15:5] the frame length. -/
def State.sunHeader (s : State) (lane : Nat) (r : Reception) (h : Nat) : State :=
  if bit h 0 ∨ (bit h 3 ∧ ¬ s.flag (Reg.profSun r.detection.radio (r.slot.getD 0)) 0) then s.headerFails lane r 4
  else if bits h 15 5 < 4 then s.headerFails lane r 1
  else s.headerPasses lane r h

/-- The header of a Filet frame (Table 4-6). -/
def State.filetHeader (s : State) (lane : Nat) (r : Reception) (h : Nat) : State :=
  let kind := bits h 33 32
  let len := bits h 12 0
  if bits h 41 34 ≠ crc8 (le 5 (h % 2 ^ 34)) ∨ 2 ≤ kind then s.headerFails lane r 0
  else if kind = 1 then (if len < 2 ∨ 8 < len then s.headerFails lane r 1 else s.headerPasses lane r h)
  else if len < 4 then s.headerFails lane r 1
  else if bit h 15 ∧ (s.receiveTable r h).isNone then
    ((s.sight r).loadMismatch r.detection.radio h).releaseLane lane
  else s.headerPasses lane r h

/-- HEADER_RECEIVED: the header as received, its check included. -/
def execHeaderReceived (lane header : Nat) (s : State) : Host.Outcome State Fault Refusal :=
  .next (match s.reception lane with
    | none => s
    | some r =>
      if s.laneState lane ≠ 2 ∨ r.header.isSome then s
      else if r.detection.filet then s.filetHeader lane r header
      else if isSun r.profile then s.sunHeader lane r header
      else s.gfskHeader lane r header)

/-! ### Windows of stitches (R106, R176, R238, R239) -/

/-- Whether a radio can hear a stitch channel: its mode, and the hypothesis. (DEDUCED: log 48.) -/
def State.hears (s : State) (n ch : Nat) : Bool :=
  if chanNarrow ch then s.trx n == 5 && field (s.profile n (chanSlot ch)) 0 0 == 1
  else s.trx n == 6 && s.hypothesis n (chanSub ch) (chanSlot ch)

/-- The request of a scheduled receive window on the coexistence interface (R106). (DEDUCED: log 48.) -/
def State.windowRequest (s : State) (n : Nat) (on : Bool) : State :=
  if s.flag (Reg.trxCoexCtl n) 0 && s.flag (Reg.trxCoexCtl n) 2 && (s.radio n).tx.isNone then
    (s.setFlag (Reg.trxCoexStat n) 0 on).setFlag (Reg.trxCoexStat n) 2 on
  else s

/-- STITCH_WINDOW_OPEN: the held lane opens. (DEDUCED: log 48.) -/
def execStitchWindowOpen (radio : Nat) (s : State) : Host.Outcome State Fault Refusal :=
  .next (match (s.radio radio).windows.find? fun w => !w.opened with
    | none => s
    | some w =>
      let s := s.reach w.laneOpens.toNat
      let deaf := !s.hears radio w.chan && s.trx radio != 7
      let s := s.modWindow radio w.client fun w => { w with opened := true, unscored := w.unscored || deaf }
      let s := s.windowRequest radio true
      if s.flag (Reg.searchCtl radio) 4 then
        let (held, s) := s.holdLane radio (.stitch radio w.client)
        if held then s.needGate 4 else s.bump (Reg.searchCnt radio 7)
      else s)

/-- STITCH_WINDOW_CLOSE: the window closes, and an unused hold is released. (DEDUCED: log 48.) -/
def execStitchWindowClose (radio : Nat) (s : State) : Host.Outcome State Fault Refusal :=
  .next (match s.openWindow radio with
    | none => s
    | some w =>
      let s := s.reach w.closes.toNat
      let deaf := !s.hears radio w.chan && s.trx radio != 7
      let (unused, s) := s.dropHold (.stitch radio w.client)
      let s := if unused then s.bump (Reg.searchCnt radio 8) else s
      let s := s.modWindow radio w.client fun w => { w with closed := true, unscored := w.unscored || deaf }
      s.windowRequest radio false)

/-! ### Self-tests (R181) -/

/-- LANE_SELF_TEST_START: a due test starts on a free lane that no reservation needs. (DEDUCED: log 35.) -/
def execLaneSelfTestStart (lane : Nat) (s : State) : Host.Outcome State Fault Refusal :=
  .next (
    let unused := ((List.range 3).map fun n => s.reserved n - s.heldBy n).sum
    if 80 ≤ lane ∨ s.laneState lane ≠ 0 ∨ s.freeLanes ≤ unused ∨ ¬ s.on .lane then s
    else
      let s := (s.needGate 4).setReg (Reg.laneStat lane) 4
      let s := s.setFld Reg.poolStat 15 8 (s.freeLanes - 1)
      let s := s.setFld Reg.poolStat 31 24 (s.fld Reg.poolStat 31 24 + 1)
      { s with lanes := { s.lanes with tests := Table.put s.lanes.tests lane s.elapsed } })

/-- LANE_SELF_TEST_DONE: the lane passes back to the pool, or it is retired. -/
def execLaneSelfTestDone (lane : Nat) (pass : Bool) (s : State) : Host.Outcome State Fault Refusal :=
  .next (match Table.find s.lanes.tests lane with
    | none => s
    | some t =>
      let s := s.reachElapsed (40000 + t)
      if pass then
        let s := { s with lanes := { s.lanes with tests := Table.drop s.lanes.tests lane } }
        let s := s.setFld Reg.poolStat 31 24 (s.fld Reg.poolStat 31 24 - 1)
        (s.setFld Reg.poolStat 15 8 (s.freeLanes + 1)).setReg (Reg.laneStat lane) 0
      else (s.scoreError 0 lane).2.retireUnit 0 lane 1)

/-! ### Events and commands (R184, R185) -/

/-- LANE_STARVED: the end of a second in which lane_starved advanced. -/
def execLaneStarved (radio : Nat) (s : State) : Host.Outcome State Fault Refusal :=
  .next (
    let k := (s.radio radio).starved
    if k = 0 then s
    else
      let s := s.reachElapsed (1000000000 + 1000000000 * s.elapsedSecond)
      let s := s.modRadio radio fun r => { r with starved := 0 }
      s.raise 0x1200 1 (le 1 radio ++ le 4 k ++ le 1 (s.heldBy radio) ++ le 1 s.freeLanes))

/-- R177 on the words of SEARCH_POOL_RES and SEARCH_POOL_CAP. (DEDUCED: log 117.) -/
def State.poolCheck (s : State) (res cap : Word) : Refused :=
  let r (n : Nat) : Nat := field res (8 * n + 7) (8 * n)
  let c (n : Nat) : Nat := field cap (8 * n + 7) (8 * n)
  if s.lanesServing < r 0 + r 1 + r 2 then some (Status.paramRange, [])
  else if (List.range 3).any fun n => decide (c n < r n) || c n == 0 || decide (72 < c n) then some (Status.paramRange, [])
  else none

/-- LANE_POOL_READ. -/
def lanePoolReadSpec : OpSpec where
  code := 0x1202
  length p := p.length == 0

/-- LANE_POOL_READ returns pool and lane status. -/
def execLanePoolRead (c : Cmd) (p : Bytes) (s : State) : Host.Outcome State Fault Refusal :=
  .next (s.run lanePoolReadSpec c p fun s =>
    let r (a : Nat) : Bytes := le 4 (s.reg a).toNat
    .done s Status.ok (r Reg.poolStat ++ r Reg.poolHeld ++ (List.range 3).flatMap (fun i => r (Reg.poolMap i))
      ++ (List.range 80).flatMap fun l => r (Reg.laneStat l)))

/-- The noise floor of a sub-band, signed dBm: measured in RX_WIDE over the last second, 0x80 where it is not.
(DESIGN CHOICE: log 47.) -/
def State.noiseFloor (s : State) (n sub : Nat) : Nat :=
  if s.trx n = 6 ∧ 1000000000 + (s.radio n).since ≤ s.elapsed then
    unsigned 8 (clampInt (-127) 127 (Config.noiseFloor n sub s.elapsedSecond))
  else 0x80

/-- SEARCH_NOISE_READ. -/
def searchNoiseReadSpec : OpSpec where
  code := 0x1203
  length p := p.length == 4
  range _ p := num p 0 1 < 3 && num p 1 3 == 0

/-- SEARCH_NOISE_READ returns the noise floor of 64 sub-bands. -/
def execSearchNoiseRead (c : Cmd) (p : Bytes) (s : State) : Host.Outcome State Fault Refusal :=
  .next (s.run searchNoiseReadSpec c p fun s =>
    .done s Status.ok ((List.range 64).flatMap fun sub => le 1 (s.noiseFloor (num p 0 1) sub)))

end Sys2Proof.Machine
end

