-- ==== Sys2Proof/Machine/Receive.lean ====
section
/-! DEFINITION. Received frames (chapter 6 and the receive report of chapter 5): the checks of a frame that passes its
CRC-32, acknowledgements and what they resolve, duplicates, the receive side of plaits, delivery, and the peers. -/

namespace Sys2Proof.Machine

/-! ### The frame as received (R182, R187) -/

/-- The length field of a reception's header. -/
def Reception.len (r : Reception) : Nat :=
  let h := r.header.getD 0
  if !r.detection.filet && isSun r.profile then bits h 15 5 else bits h 12 0

/-- The octets of a reception's check sequence: 2 for a SUN-FSK frame whose PHR says so (R147). -/
def Reception.check (r : Reception) : Nat :=
  if !r.detection.filet && isSun r.profile && bit (r.header.getD 0) 3 then 2 else 4

/-- The code rate of a reception. -/
def Reception.rate (r : Reception) : Nat :=
  if !r.detection.filet && isSun r.profile then 0 else bits (r.header.getD 0) 14 13

/-- A native body sent uncoded. -/
def Reception.uncoded (r : Reception) : Bool :=
  !r.detection.filet && !isSun r.profile && bit (r.header.getD 0) 15

/-- A Filet body under a loading table. -/
def Reception.loaded (r : Reception) : Bool := r.detection.filet && bit (r.header.getD 0) 15

/-- The channel a frame was received on. -/
def Reception.chan (r : Reception) : Nat :=
  let n := 2 * r.detection.radio
  if r.detection.filet then n + 8
  else n + 16 * r.slot.getD r.detection.slot + (if r.narrow then 128 else 256 * r.detection.subband)

/-- From the end of the sync word to the last symbol, ns (R142, R143). -/
def State.receptionNs (s : State) (r : Reception) : Nat :=
  if r.detection.filet then
    let ndbps := match r.table with
      | some t => dataBits (num t 4 2) (bits (num t 0 1) 3 2)
      | none => dataBits (defaultCbps (field r.profile 1 1)) r.rate
    filetNs r.len ndbps - 240000
  else
    bodyNs r.profile r.rate r.uncoded (s.flag (Reg.profSun r.detection.radio (r.slot.getD 0)) 2) r.len

/-- The receive report (Table 5-1). -/
def State.report (s : State) (lane : Nat) (r : Reception) (snr ferr : Int) : Bytes :=
  let n := r.detection.radio
  let filet := r.detection.filet
  let family := if filet then 2 else if isSun r.profile then 1 else 0
  let ns := r.stamp / 65536
  le 1 (n + 4 * family + 16 * bitOf (!r.narrow && !filet) + 32 * bitOf r.captured
      + 64 * bitOf r.firmware + 128 * bitOf s.unsure)
    ++ le 1 lane
    ++ le 1 (if filet || r.narrow then 0xFF else r.detection.subband)
    ++ le 1 (if filet then 0xFF else r.slot.getD 0)
    ++ le 2 (unsigned 16 r.detection.strength) ++ le 2 (unsigned 16 snr) ++ le 4 (unsigned 32 ferr)
    ++ le 6 (ns / 1000000000) ++ le 4 (ns % 1000000000) ++ le 2 (r.stamp % 65536)
    ++ le 2 r.len
    ++ le 1 ((if filet then field r.profile 1 1 else field r.profile 3 1) + 16 * r.rate + 64 * bitOf r.uncoded + 128 * bitOf r.loaded)
    ++ le 1 (if filet then bits (r.header.getD 0) 31 24 else 0xFF) ++ [0, 0, 0, 0]

/-- The MAC type of a frame. -/
def macType (f : Bytes) : Nat := bits (num f 0 1) 2 0

/-- ack_req, plait and secured of a frame. -/
def macAck (f : Bytes) : Bool := bit (num f 0 1) 3
def macPlait (f : Bytes) : Bool := bit (num f 0 1) 5
def macSecured (f : Bytes) : Bool := bit (num f 0 1) 6

/-- Sequence, destination and source of a frame. -/
def macSeq (f : Bytes) : Nat := num f 2 2 % 4096
def macDest (f : Bytes) : Nat := num f 4 2
def macSrc (f : Bytes) : Nat := num f 6 2

/-- Octets before the payload. -/
def macHeaderLen (f : Bytes) : Nat := if macPlait f then 10 else 8

/-- R188: the length, the type and the reserved bits of a frame. -/
def macOk (len : Nat) (f : Bytes) : Bool :=
  decide ((if macPlait f then 14 else 12) ≤ len) && decide (macType f < 4) && bits (num f 0 2) 15 10 == 0
    && bits (num f 2 2) 15 12 == 0 && (!macPlait f || num f 9 1 == 0)

/-- Who sent a frame. -/
inductive Source where
  | client (c : Nat)
  | peer (q : Nat)
  | unknown
  deriving DecidableEq, Repr

/-- The valid client or peer with an address (R206). (DEDUCED: log 52.) -/
def State.sourceOf (s : State) (src : Nat) : Source :=
  match s.validClients.find? fun c => s.clientAddress c == src with
  | some c => .client c
  | none =>
    match (List.range 512).find? fun q => s.peerValid q && s.peerAddress q == src with
    | some q => .peer q
    | none => .unknown

/-! ### Filters (R127, R217) -/

/-- One step of a filter with weight 1/8, rounded toward zero; its first value is the measurement. -/
def filtered (first : Bool) (g m : Int) : Int := if first then m else g + quot (m - g) 8

/-- The filtered offset of the sender of a frame (R127). -/
def State.trackOffset (s : State) (n : Nat) (filet : Bool) (src : Source) (m : Int) : State :=
  if !s.flag (Reg.afcCtl n) 0 then s
  else
    let tuned (k : Nat) : Bool := s.mac.tuned.contains k
    let mark (s : State) (k : Nat) : State :=
      if s.mac.tuned.contains k then s else { s with mac := { s.mac with tuned := s.mac.tuned ++ [k] } }
    match src with
    | .unknown => s
    | .client c =>
      let f := signed 16 (num (s.context c) 60 2)
      mark (s.patchContext c 60 (le 2 (unsigned 16 (filtered (!tuned c) f m)))) c
    | .peer q =>
      if filet then
        let i := s.filetPeer q
        let t := s.loadTable i 1
        let f := signed 16 (num t 104 2)
        mark (s.setTable i 1 (patch t 104 (le 2 (unsigned 16 (filtered (!tuned (8192 + i)) f m))))) (8192 + i)
      else
        let f := s.sfld (Reg.peerAfc q) 15 0
        mark (s.setFld (Reg.peerAfc q) 15 0 (unsigned 16 (filtered (!tuned (4096 + q)) f m))) (4096 + q)

/-- The filtered signal values of a peer, and when it was last heard (R217). -/
def State.trackSignal (s : State) (q : Nat) (strength snr : Int) (seconds : Nat) : State :=
  let first := !s.mac.signalled.contains (4096 + q)
  let g := s.sfld (Reg.peerSig q) 15 0
  let h := s.sfld (Reg.peerSig q) 31 16
  let s := s.setFld (Reg.peerSig q) 15 0 (unsigned 16 (filtered first g strength))
  let s := s.setFld (Reg.peerSig q) 31 16 (unsigned 16 (filtered first h snr))
  let s := s.setReg (Reg.peerHeard q) (word seconds)
  if first then { s with mac := { s.mac with signalled := s.mac.signalled ++ [4096 + q] } } else s

/-! ### Delivery (R188, R206, R271, R405) -/

/-- A frame for firmware or the time function. -/
def State.keepFrame (s : State) (kind : Nat) (report frame : Bytes) : State :=
  { s with mac := { s.mac with inbox := s.mac.inbox ++ [(kind, report ++ frame)] } }

/-- A frame whose tag has verified, or that has none, delivered by its type: `payload` is clear. -/
def State.deliverFrame (s : State) (n : Nat) (frame payload report : Bytes) : State :=
  match macType frame with
  | 2 => s.keepFrame 0 report (frame.take (macHeaderLen frame) ++ payload)
  | 3 => s.keepFrame 2 report (frame.take (macHeaderLen frame) ++ payload)
  | _ =>
    match s.sourceOf (macSrc frame) with
    | .client c => s.enterRadio (0x1000 + c) payload report
    | .peer q => s.enterRadio (0x2000 + q) payload report
    | .unknown =>
      let cells := cellsOf payload.length
      if s.freeCells < cells then s
      else
        let (id, s) := s.takeCells cells none false
        s.pushInbound { port := 0x2400 + n, bytes := payload, report := report, buffer := id, length := payload.length + 4, unknown := true }

/-- The page whose generation a received frame names (R406). (DEDUCED: log 83.) -/
def State.receivePage (s : State) (generation : Nat) : Option Nat :=
  let cfg := s.reg Reg.ciphRadioCfg
  let page := field cfg 3 0
  let prev := field cfg 7 4
  if s.radioKey page && s.pageGeneration page == generation then some page
  else if field cfg 8 8 == 1 && (match s.cipher.prevDue with
      | some t => decide (s.elapsed < t)
      | none => false) && s.radioKey prev && s.pageGeneration prev == generation then some prev
  else none

/-- Authentication of a received frame fails: counted where the frame was acknowledged (R205). (DEDUCED: log 52.) -/
def State.authFailed (s : State) (n : Nat) (frame : Bytes) : State :=
  if macAck frame && macDest frame != 0xFFFF then
    let s := s.bump (Reg.wmacCnt n 12)
    match s.sourceOf (macSrc frame) with
    | .peer q => s.bump (Reg.peerCnt q 6)
    | _ => s
  else s

/-- The record of the link a frame came over, and the address its key is derived from (R401, R403). -/
def State.linkOf (s : State) (n : Nat) (frame : Bytes) : Nat × Nat :=
  if macDest frame = 0xFFFF then (4608 + n, 0xFFFF)
  else
    match s.sourceOf (macSrc frame) with
    | .client c => (c, macSrc frame)
    | .peer q => (4096 + q, macSrc frame)
    | .unknown => (4608 + n, macSrc frame)

/-- An accepted frame handed on: through the cipher engines when it is secured, otherwise delivered. -/
def State.handOn (s : State) (n : Nat) (frame report : Bytes) : State :=
  let k := macHeaderLen frame
  if !macSecured frame then s.deliverFrame n frame (frame.drop k) report
  else if frame.length < k + 12 then (s.bump (Reg.ciphCnt 1)).authFailed n frame
  else
    match s.receivePage (bits (num frame k 4) 31 28) with
    | none => s.bump (Reg.ciphCnt 4)
    | some page =>
      let security := slice frame k 4
      let body := frame.drop (k + 4)
      s.pushCipher 1 { purpose := .receive n frame report, identity := 5, page := page, mode := 1, decrypt := true, tagLen := 8, link := some (s.linkOf n frame).2, nonce := radioNonce (macSrc frame) (macDest frame) security, aad := frame.take k, data := body.take (body.length - 8), tag := body.drop (body.length - 8), queued := s.elapsed }

/-! ### The receive side of a plait (R213, R214) -/

/-- top and nd of a plait. -/
def State.plaitTop (s : State) (p : Nat) : Nat := s.fld (Reg.pltRx p) 11 0
def State.plaitNext (s : State) (p : Nat) : Nat := s.fld (Reg.pltRx p) 23 12

/-- WMAC_PLT_RX held. -/
def State.showHeld (s : State) (p : Nat) : State := s.setFld (Reg.pltRx p) 29 24 (s.plait p).held.length

/-- release(p, nd) of R213. -/
def State.releaseNext (s : State) (p : Nat) : State :=
  let x := s.plaitNext p
  let s := match Table.find (s.plait p).held x with
    | some h =>
      let s := ((s.modPlait p fun y => { y with held := Table.drop y.held x }).countPlait p 0).showHeld p
      s.handOn h.radio h.frame h.report
    | none => s.countPlait p 4
  s.setFld (Reg.pltRx p) 23 12 ((x + 1) % 4096)

/-- release(p, nd) a number of times. -/
def State.releaseMany : Nat → State → Nat → State
  | 0, s, _ => s
  | n + 1, s, p => State.releaseMany n (s.releaseNext p) p

/-- deliver(p) of R213; the buffer never holds more frames than the bound. -/
def State.deliverHeld : Nat → State → Nat → State
  | 0, s, _ => s
  | n + 1, s, p =>
    if (Table.find (s.plait p).held (s.plaitNext p)).isSome then State.deliverHeld n (s.releaseNext p) p else s

/-- What R213 makes of a frame: applied and kept, a duplicate, or too old. (DEDUCED: log 53.) -/
def State.plaitFrame (s : State) (p n seq : Nat) (frame report : Bytes) : Bool × State :=
  let s := s.modPlait p fun y => { y with heard := s.elapsed }
  let accept (s : State) : Bool × State :=
    if 2048 ≤ (seq + 4096 - s.plaitNext p) % 4096 then (true, s.countPlait p 3)
    else
      let s := (s.modPlait p fun y => { y with held := Table.put y.held seq ⟨s.elapsed, n, frame, report⟩ }).showHeld p
      let gap := (s.plaitTop p + 4096 - s.plaitNext p) % 4096
      let s := if 64 ≤ gap ∧ gap < 2048 then State.releaseMany (gap - 63) s p else s
      (true, State.deliverHeld 65 s p)
  if !s.flag (Reg.pltRx p) 30 then
    let s := s.modPlait p fun y => { y with map := 1 }
    let s := ((s.setFld (Reg.pltRx p) 11 0 seq).setFld (Reg.pltRx p) 23 12 seq).setFlag (Reg.pltRx p) 30 true
    accept s
  else
    let d := (s.plaitTop p + 4096 - seq) % 4096
    let map := (s.plait p).map
    if 2048 ≤ d then
      let s := s.modPlait p fun y => { y with map := (map * 2 ^ (4096 - d) + 1) % 2 ^ 64 }
      accept (s.setFld (Reg.pltRx p) 11 0 seq)
    else if d < 64 then
      if bit map d then (false, s.countPlait p 1)
      else accept (s.modPlait p fun y => { y with map := map + 2 ^ d })
    else (false, s.countPlait p 2)

/-- The active plait a received frame is bound to (R207). (DEDUCED: log 53.) -/
def State.boundPlait (s : State) (q : Nat) (frame : Bytes) : Option Nat :=
  if macPlait frame then
    (List.range 64).find? fun p =>
      let c := s.reg (Reg.pltCfg p)
      field c 0 0 == 1 && field c 16 8 == q && field c 29 24 == bits (num frame 8 1) 5 0
  else none

/-- REORDER_TIMEOUT: a held frame reaches its age, and the gaps before it are skipped. -/
def execReorderTimeout (plait seq : Nat) (s : State) : Host.Outcome State Fault Refusal :=
  .next (match Table.find (s.plait plait).held seq with
    | none => s
    | some h =>
      let s := s.reachElapsed (h.accepted + 1000000 * s.fld (Reg.pltTime plait) 8 0)
      let s := State.releaseMany ((seq + 4096 - s.plaitNext plait) % 4096 + 1) s plait
      State.deliverHeld 65 s plait)

/-- PLAIT_HISTORY_AGE: a plait that has received nothing for the age, with its buffer empty, clears valid. -/
def execPlaitHistoryAge (plait : Nat) (s : State) : Host.Outcome State Fault Refusal :=
  .next (
    if plait < 64 ∧ s.flag (Reg.pltRx plait) 30 ∧ (s.plait plait).held.isEmpty then
      let s := s.reachElapsed ((s.plait plait).heard + 1000000000 * s.fld Reg.wmacGlbHist 11 0)
      s.setFlag (Reg.pltRx plait) 30 false
    else s)

/-- PEER_HISTORY_AGE: a history not refreshed for the age becomes invalid (R204). (DEDUCED: log 54.) -/
def execPeerHistoryAge (peer : Nat) (s : State) : Host.Outcome State Fault Refusal :=
  .next (match Table.find s.mac.refreshed peer with
    | none => s
    | some t =>
      let s := s.reachElapsed (t + 1000000000 * s.fld Reg.wmacGlbHist 11 0)
      let s := { s with mac := { s.mac with refreshed := Table.drop s.mac.refreshed peer } }
      s.setFlag (Reg.peerSeq peer) 24 false)

/-- PLAIT_PROBE_DUE: the next frame probes a member that is down (R212). (DEDUCED: log 49.) -/
def execPlaitProbeDue (plait member : Nat) (s : State) : Host.Outcome State Fault Refusal :=
  .next (
    let x := s.plait plait
    if x.down.contains member ∧ ¬ x.probe.contains member then
      let s := s.passNs (1000000000 * s.fld (Reg.pltTime plait) 31 16)
      s.modPlait plait fun x => { x with probe := x.probe ++ [member] }
    else s)

/-! ### Acknowledgements received (R198, R211) -/

/-- An acknowledgement of a client's downlink frame: the occurrence in which it matches. -/
def State.clientAcked (s : State) (n c : Nat) (r : Reception) (seq : Nat) : Option (Window × ClientFrame) :=
  ((s.radio n).windows.find? fun w => w.client == c && onChannel r.detection w.chan && (match w.ackOf with
      | some (_, due) => decide (r.syncAt ≤ due)
      | none => false)).bind fun w =>
    match s.clientQueue c with
    | [] => none
    | f :: _ => if f.seq = some seq then some (w, f) else none

/-- A client's downlink frame is acknowledged (R232, R236, R239). -/
def State.resolveClient (s : State) (n : Nat) (w : Window) (f : ClientFrame) : State :=
  let c := w.client
  let s := (s.bump (Reg.wmacCnt n 7)).bump (Reg.schedCnt n 9)
  let s := match f.step with
    | some d => s.stepClient c d ((f.sentAt + s.syncNs w.chan : Nat) : Int)
    | none => s
  let s := (s.dropHold (.ack n (f.id * 4))).2
  let s := s.modWindow n c fun w => { w with ackOf := none, heard := if w.led then (w.heard <|> some w.x) else w.heard }
  (s.endClientFrame c Status.ok 0).offerDownlink n c s.elapsed

/-- The copy whose open window an acknowledgement on a channel can match. -/
def State.ackWaiting (f : AirFrame) (n : Nat) (r : Reception) : Option AirCopy :=
  f.copies.find? fun k => k.phase == .ackWait && chanRadio k.chan == n && onChannel r.detection k.chan && decide (r.syncAt ≤ k.due)

/-- An acknowledgement of a plait: every unresolved frame that its bitmap marks is resolved (R211). -/
def State.plaitAcked (s : State) (n p : Nat) (r : Reception) (top map : Nat) : State :=
  let marked := (s.unresolved p).filter fun e =>
    let d := (top + 4096 - e.2.seq) % 4096
    decide (d < 64) && bit map d
  let matched := marked.filterMap fun e => State.ackWaiting e.2 n r
  let s := match matched with
    | [] => s
    | _ => s.bump (Reg.wmacCnt n 7)
  let s := matched.foldl (fun (s : State) k => s.memberHeard p k.member) s
  marked.foldl (fun (s : State) e =>
    let member := ((State.ackWaiting e.2 n r).map (·.member)).getD e.2.last
    s.frameAcked e.1 n member r.stamp) s

/-- An acknowledgement addressed to the radio. -/
def State.ackReceived (s : State) (n : Nat) (r : Reception) (frame : Bytes) : State :=
  match s.sourceOf (macSrc frame) with
  | .unknown => s
  | .client c =>
    match s.clientAcked n c r (macSeq frame) with
    | some (w, f) => s.resolveClient n w f
    | none => s
  | .peer q =>
    if macPlait frame then
      let p := bits (num frame 8 1) 5 0
      if s.fld (Reg.pltCfg p) 16 8 = q ∧ s.flag (Reg.pltCfg p) 0 ∧ 20 ≤ frame.length then
        s.plaitAcked n p r (num frame 10 2 % 4096) (num frame 12 8)
      else s
    else
      match s.mac.frames.find? fun e => e.2.target == .peer q && e.2.plait.isNone && e.2.seq == macSeq frame
          && (State.ackWaiting e.2 n r).isSome with
      | some (id, _) => (s.bump (Reg.wmacCnt n 7)).frameAcked id n 0xFF r.stamp
      | none => s

/-! ### Acknowledgements sent (R202, R203, R222) -/

/-- The stitch that a client's frame arrives in. -/
def State.inStitch (s : State) (c n : Nat) (r : Reception) : Option Window :=
  (s.radio n).windows.find? fun w => w.client == c && w.opened && onChannel r.detection w.chan
    && decide ((r.stamp / 65536 : Nat) ≤ w.stitchEnd)

/-- The acknowledgement of a received frame falls due. -/
def State.acknowledge (s : State) (n : Nat) (r : Reception) (frame : Bytes) (src : Source) (plait : Option Nat) : State :=
  let client := match src with
    | .client c => (s.inStitch c n r).map (·.client)
    | _ => none
  let may := match src with
    | .unknown => s.flag (Reg.wmacCtl n) 1 && s.macOn n
    | _ => client.isSome || s.macOn n
  if macAck frame && macDest frame != 0xFFFF && may then
    let (id, s) := s.newFrame
    let a : AckFrame := { radio := n, chan := r.chan, rate := r.rate + 4 * bitOf r.uncoded, seq := macSeq frame, dest := macSrc frame, plait := plait.map fun p => (slice frame 8 2, s.plaitTop p, (s.plait p).map), decided := s.elapsed, client := client }
    { s with mac := { s.mac with acks := Table.put s.mac.acks id a } }
  else s

/-! ### Frames received -/

/-- The offset of an uplink frame in an occurrence (chapter 7, Drift and the guard). -/
def State.uplinkOffset (s : State) (w : Window) (t : Int) : Int :=
  t - (w.start + (s.listenNs w.client : Int) + (s.syncNs w.chan : Int))

/-- What a frame from a client in its occurrence does to the occurrence: an observation, or a reason to score it
as heard (R234, R239); a large offset orders a step (R334). -/
def State.scoreUplink (s : State) (n c : Nat) (r : Reception) (duplicate : Bool) : State :=
  match s.inStitch c n r with
  | none => s
  | some w =>
    let t : Int := (r.stamp / 65536 : Nat)
    let inside := decide (w.opens ≤ t) && decide (t ≤ w.closes)
    let x := s.uplinkOffset w t
    let heard (s : State) : State := s.modWindow n c fun w => { w with heard := w.heard <|> some x }
    if inside && !duplicate && s.clientState c != 3 then
      let s := heard (s.observe c x t)
      let thr := s.fld Reg.timeRadioCfg 15 0
      if thr ≠ 0 ∧ thr * 1000 < x.natAbs then s.orderStep c x else s
    else if (inside && duplicate) || w.led then heard s
    else s

/-- A data, management or timing frame from a client (R204, R243). -/
def State.fromClient (s : State) (n c : Nat) (r : Reception) (frame report : Bytes) : State :=
  let h := num (s.context c) 58 2
  let duplicate := bit h 15 && bits h 11 0 == macSeq frame
  let s := if duplicate then s.bump (Reg.schedCnt n 13)
    else s.patchContext c 58 (le 2 (32768 + macSeq frame))
  let s := s.scoreUplink n c r duplicate
  let s := s.acknowledge n r frame (.client c) none
  if duplicate then s else s.handOn n frame report

/-- A data, management or timing frame from a peer, outside a plait (R204). (DEDUCED: log 52.) -/
def State.fromPeer (s : State) (n q : Nat) (r : Reception) (frame report : Bytes) : State :=
  let h := s.reg (Reg.peerSeq q)
  let duplicate := field h 24 24 == 1 && field h 23 12 == macSeq frame
  let s := s.acknowledge n r frame (.peer q) none
  if duplicate then (s.bump (Reg.wmacCnt n 8)).bump (Reg.peerCnt q 5)
  else
    let s := (s.setFld (Reg.peerSeq q) 23 12 (macSeq frame)).setFlag (Reg.peerSeq q) 24 true
    let s := { s with mac := { s.mac with refreshed := Table.put s.mac.refreshed q s.elapsed } }
    (s.bump (Reg.peerCnt q 4)).handOn n frame report

/-- A frame on a plait (R213); its acknowledgement carries the state after it. -/
def State.fromPlait (s : State) (n q p : Nat) (r : Reception) (frame report : Bytes) : State :=
  let old := (s.plait p).counts
  let (accepted, s) := s.plaitFrame p n (macSeq frame) frame report
  let duplicate := decide ((old.getD 1 0) < ((s.plait p).counts.getD 1 0))
  let s := if duplicate then s.bump (Reg.peerCnt q 5) else s
  let s := if accepted then s.bump (Reg.peerCnt q 4) else s
  s.acknowledge n r frame (.peer q) (some p)

/-- A frame from a source that no entry knows (R206). (DEDUCED: log 52.) -/
def State.fromUnknown (s : State) (n : Nat) (r : Reception) (frame report : Bytes) : State :=
  let s := (s.bump (Reg.wmacCnt n 11)).acknowledge n r frame .unknown none
  s.deliverFrame n frame (frame.drop (macHeaderLen frame)) report

/-- A frame whose CRC-32 passes (R188, R189, R204, R206, R213, R217). -/
def State.frameReceived (s : State) (n lane : Nat) (r : Reception) (frame : Bytes) (snr ferr : Int) : State :=
  let report := s.report lane r snr ferr
  if !macOk r.len frame then s.bump (Reg.wmacCnt n 9)
  else
    let src := s.sourceOf (macSrc frame)
    let s := s.trackOffset n r.detection.filet src ferr
    let s := match src with
      | .peer q => s.trackSignal q r.detection.strength snr (r.stamp / 65536 / 1000000000)
      | _ => s
    let own := macDest frame == s.macAddress n && s.macAddress n != 0xFFFE
    if !own && macDest frame != 0xFFFF then
      let s := s.bump (Reg.wmacCnt n 10)
      if s.flag (Reg.wmacCtl n) 2 then s.keepFrame 1 report frame else s
    else if macType frame = 1 then (if own then s.ackReceived n r frame else s)
    else
      match src with
      | .client c => s.fromClient n c r frame report
      | .peer q =>
        match s.boundPlait q frame with
        | some p => s.fromPlait n q p r frame report
        | none => s.fromPeer n q r frame report
      | .unknown => s.fromUnknown n r frame report

/-- A reception ended by a fault of its lane or of a buffer, counted in rx_lane_lost (Table 21-1, R542).
(DEDUCED: log 120.) -/
def State.loseReception (s : State) (lane : Nat) (r : Reception) : State :=
  ((s.spoilWindow r.detection.radio r.detection).bump (Reg.searchCnt r.detection.radio 6)).releaseLane lane

/-- The end of a reception: a good frame goes on, a bad one is counted. -/
def State.endReception (s : State) (n lane : Nat) (r : Reception) (crcOk : Bool) (body : Bytes) (snr ferr : Int) : State :=
  let s := s.releaseLane lane
  if crcOk then s.frameReceived n lane r (padTo (r.len - r.check) body) snr ferr
  else (s.sight r).bump (Reg.modCnt n 2)

/-- RECEIVE_COMPLETE: the last symbol of a lane's frame, with the result of its CRC-32, the body before it, the ratio
of signal to noise in 0.25 dB and the frequency offset in 0.01 ppm (R126, R150). `trouble` is what goes wrong in the lane
or in a buffer on the way (R537, R542). (DESIGN CHOICE: log 119.) -/
def execReceiveComplete (lane : Nat) (crcOk : Bool) (body : Bytes) (snr ferr : Int) (trouble : UnitFault) (s : State) : Host.Outcome State Fault Refusal :=
  .next (match s.reception lane with
    | none => s
    | some r =>
      if s.laneState lane ≠ 2 ∨ r.header.isNone ∨ r.sounding then s
      else
        let n := r.detection.radio
        let s := s.reachElapsed (r.syncAt + s.receptionNs r)
        match trouble with
        | .check => (s.loseReception lane r).classError 0 lane
        | .uncorrectable row => (s.loseReception lane r).sramError row true
        | .corrected row => (s.sramError row false).endReception n lane r crcOk body snr ferr
        | .clean => s.endReception n lane r crcOk body snr ferr)

/-! ### Peers (R192, R219, R280) -/

/-- A peer entry whose address changes starts afresh. (DEDUCED: log 54.) -/
def State.resetPeer (s : State) (q : Nat) : State :=
  let s := (s.setReg (Reg.peerSeq q) 0).setReg (Reg.peerSig q) 0
  let s := s.setReg (Reg.peerAfc q) 0
  let s := (List.range 10).foldl (fun (s : State) j => s.setReg (Reg.peerCnt q j) 0) s
  { s with mac := { s.mac with
      signalled := s.mac.signalled.filter (· != 4096 + q)
      tuned := s.mac.tuned.filter (· != 4096 + q)
      refreshed := Table.drop s.mac.refreshed q
      failed := Table.drop s.mac.failed q } }

/-- WMAC_PEER_CFG and WMAC_PEER_ADDR of a peer set, with what R192 and R280 make of it. (DEDUCED: log 54.) -/
def State.writePeer (s : State) (q : Nat) (cfg addr : Word) : State :=
  let moved := s.peerAddress q != field addr 15 0
  let gone := s.peerValid q && (moved || field cfg 0 0 == 0)
  let s := if gone then s.forgetPort (0x2000 + q) else s
  let s := if moved then s.resetPeer q else s
  (s.setReg (Reg.peerCfg q) cfg).setReg (Reg.peerAddr q) addr

/-- PEER_WRITE. -/
def peerWriteSpec : OpSpec where
  code := 0x1301
  length p := p.length == 12
  range s p :=
    let cfg := num p 4 4
    num p 0 2 < 512 && num p 2 2 == 0 && bits cfg 3 2 ≤ 2 && bits cfg 15 15 == 0 && bits cfg 31 26 == 0
      && bits (num p 8 4) 31 24 == 0
      && (!bit cfg 22 || s.fld (Reg.pltCfg (bits cfg 21 16)) 16 8 == num p 0 2)

/-- PEER_WRITE writes a peer entry. -/
def execPeerWrite (c : Cmd) (p : Bytes) (s : State) : Host.Outcome State Fault Refusal :=
  .next (s.run peerWriteSpec c p fun s =>
    .done (s.writePeer (num p 0 2) (word (num p 4 4)) (word (num p 8 4))) Status.ok [])

/-- PEER_READ. -/
def peerReadSpec : OpSpec where
  code := 0x1302
  length p := p.length == 2
  range _ p := num p 0 2 < 512

/-- PEER_READ returns the 64 bytes of a peer entry. -/
def execPeerRead (c : Cmd) (p : Bytes) (s : State) : Host.Outcome State Fault Refusal :=
  .next (s.run peerReadSpec c p fun s =>
    .done s Status.ok ((List.range 16).flatMap fun i => le 4 (s.reg (Reg.peerCfg (num p 0 2) + 4 * i)).toNat))

/-! ### Plaits (R215, R219) -/

/-- A plait whose peer, remote number or mode changes, or that is disabled: held frames are released, the receive
state and the send sequence cleared, unresolved frames given up (R215). (DEDUCED: log 53.) -/
def State.flushPlait (s : State) (p : Nat) : State :=
  let from_ := s.plaitNext p
  let held := ((s.plait p).held.filter fun e => decide (from_ ≤ e.1)) ++ (s.plait p).held.filter fun e => decide (e.1 < from_)
  let s := s.modPlait p fun x => { x with held := [] }
  let s := held.foldl (fun (s : State) e => (s.countPlait p 0).handOn e.2.radio e.2.frame e.2.report) s
  let s := (s.modPlait p fun x => { x with map := 0, fails := [0, 0, 0, 0], down := [], probe := [] }).setReg (Reg.pltRx p) 0
  let s := (s.unresolved p).foldl (fun (s : State) e => s.endFrame e.1 Status.ok (some 2) (chanRadio (s.plaitMember p 0)) 0) s
  let s := (s.setReg (Reg.pltTx p) 0).showMembers p
  { s with mac := { s.mac with frames := s.mac.frames.map fun e =>
      (e.1, if e.2.plait = some p then { e.2 with plait := e.2.peer.bind s.plaitOf } else e.2) } }

/-- What a write of WMAC_PLT_CFG brings. (DEDUCED: log 53.) -/
def State.pltCfgWritten (s : State) (p : Nat) (old : Word) : State :=
  let new := s.reg (Reg.pltCfg p)
  if field old 1 1 = field new 1 1 ∧ field old 16 8 = field new 16 8 ∧ field old 29 24 = field new 29 24
      ∧ (field old 0 0 = 0 ∨ field new 0 0 = 1) then s.showMembers p
  else s.flushPlait p

/-- PLAIT_READ. -/
def plaitReadSpec : OpSpec where
  code := 0x1304
  length p := p.length == 1
  range _ p := num p 0 1 < 64

/-- The bitmap words of a plait are read from its record. -/
def State.plaitWord (s : State) (p i : Nat) : Word :=
  if i = 6 then word (s.plait p).map else if i = 7 then word ((s.plait p).map / 2 ^ 32) else s.reg (Reg.pltCfg p + 4 * i)

/-- PLAIT_READ returns a plait's eight registers and its counters. -/
def execPlaitRead (c : Cmd) (p : Bytes) (s : State) : Host.Outcome State Fault Refusal :=
  .next (s.run plaitReadSpec c p fun s =>
    let i := num p 0 1
    .done s Status.ok (((List.range 8).flatMap fun j => le 4 (s.plaitWord i j).toNat)
      ++ (List.range 6).flatMap fun j => le 4 ((s.plait i).counts.getD j 0)))

/-! ### RADIO_SEND (R219, R222) -/

/-- The radio a RADIO_SEND goes out on. -/
def State.sendRadio (s : State) (p : Bytes) : Nat :=
  if num p 0 2 = 0xFFFF then chanRadio (num p 2 2) else chanRadio (s.peerHome (num p 0 2))

/-- The channels whose families bound the body of a RADIO_SEND (R151). -/
def State.sendChans (s : State) (p : Bytes) : List Nat :=
  if num p 0 2 = 0xFFFF then [num p 2 2]
  else
    match s.plaitOf (num p 0 2) with
    | some i => (s.plaitMembers i).map (s.plaitMember i)
    | none => [s.peerHome (num p 0 2)]

/-- RADIO_SEND. -/
def radioSendSpec : OpSpec where
  code := 0x1305
  timeout := 2000
  length p := 6 ≤ p.length && p.length ≤ 4076
  range s p :=
    let q := num p 0 2
    let peer := q < 512 && s.peerValid q
    let broadcast := q == 0xFFFF && bits (num p 2 2) 2 1 ≤ 2 && bits (num p 2 2) 15 14 == 0
    (peer || broadcast) && num p 4 1 < 4 && (num p 5 1 == 0 || num p 5 1 == 2)
      && (s.sendChans p).all fun ch =>
        decide (macLength (peer && (s.plaitOf q).isSome) (bit (num p 4 1) 1) (p.length - 6) ≤ familyMax ch)

/-- RADIO_SEND queues a contention frame. -/
def execRadioSend (c : Cmd) (p : Bytes) (s : State) : Host.Outcome State Fault Refusal :=
  .next (s.run radioSendSpec c p fun s =>
    let n := s.sendRadio p
    if s.radioOut n ∨ s.trimmed n ∨ ¬ s.macOn n then .fail Status.notPermitted []
    else
      let secured := bit (num p 4 1) 1
      let hint := 1000000 * (if c.timeout = 0 then 2000 else c.timeout)
      let (id, s) := if num p 0 2 = 0xFFFF then s.sendBroadcast (num p 2 2) (num p 5 1) secured (p.drop 6) none none
        else s.sendPeer (num p 0 2) (num p 5 1) (bit (num p 4 1) 0) secured (p.drop 6) none none (some hint)
      .wait s (.frame id) false)

end Sys2Proof.Machine
end

