-- ==== Sys2Proof/Machine/Sched.lean ====
section
/-! DEFINITION. Scheduled access (chapter 7): the fetch and the preparation of contexts, the end of a stitch and its
score, and the commands of clients. -/

namespace Sys2Proof.Machine

/-! ### Residency (R230, R231) -/

/-- A context enters the resident store, or is the most recently prepared; the entry taken is the least recently
prepared one that is not pinned. Whether there was room. (DEDUCED: log 55.) -/
def State.makeResident (s : State) (c : Nat) : Bool × State :=
  let l := s.sched.resident.filter (· != c)
  if l.length < 1024 then (true, { s with sched := { s.sched with resident := l ++ [c] } })
  else
    match l.find? fun x => !s.sched.pinned.contains x with
    | some x => (true, { s with sched := { s.sched with resident := l.filter (· != x) ++ [c] } })
    | none => (false, s)

/-- The configuration that a client's context shows: one written while the context is pinned waits for its next fetch
(R229). (DEDUCED: log 55; DESIGN CHOICE: log 118.) -/
def State.shownContext (s : State) (c : Nat) : Bytes :=
  match Table.find s.sched.staged c with
  | some b =>
    let old := s.context c
    b.take 2 ++ le 1 (withBits (withBits (num b 2 1) 2 1 (s.clientState c)) 4 3 (s.clientLevel c)) ++ slice b 3 17 ++ old.drop 20
  | none => s.context c

/-- A configuration that waits comes into force. (DEDUCED: log 55.) -/
def State.takeStaged (s : State) (c : Nat) : State :=
  match Table.find s.sched.staged c with
  | some _ =>
    let s := s.setContext c (s.shownContext c)
    { s with sched := { s.sched with staged := Table.drop s.sched.staged c } }
  | none => s

/-- The resident copy of a context is lost: it is fetched again, and the occurrences whose stitches needed it are not
scored (R542). (DEDUCED: log 120.) -/
def State.loseCopy (s : State) (c occurrence : Nat) : State :=
  let s := s.modRadio (s.clientRadio c) fun r => { r with
    windows := r.windows.map fun w => if w.client = c then { w with unscored := true } else w }
  { s with sched := { s.sched with spoiled := s.sched.spoiled.filter (· != (c, occurrence)) ++ [(c, occurrence)] } }

/-- CONTEXT_FETCH: three stitch lengths before the stitch, the context is fetched and pinned. `trouble` is what goes
wrong in the context store (R542). (DEDUCED: log 55; DESIGN CHOICE: log 119.) -/
def execContextFetch (client occurrence : Nat) (trouble : UnitFault) (s : State) : Host.Outcome State Fault Refusal :=
  .next (
    let start := s.nominalStart client occurrence
    if !s.served client || s.sched.pinned.contains client || decide (start < (s.netNs : Int)) then s
    else
      let s := (s.reach (start - 3 * (s.stitchNs client : Int)).toNat).takeStaged client
      let s := match trouble with
        | .corrected row => s.sramError row false
        | .uncorrectable row => (s.sramError row true).loseCopy client occurrence
        | _ => s
      let (kept, s) := s.makeResident client
      if kept then { s with sched := { s.sched with pinned := s.sched.pinned ++ [client] } } else s)

/-- STITCH_PREPARE: one stitch length before the stitch, the window is placed, or the occurrence is skipped. -/
def execStitchPrepare (client occurrence : Nat) (s : State) : Host.Outcome State Fault Refusal :=
  .next (
    let n := s.clientRadio client
    let start := s.nominalStart client occurrence
    if !s.served client || ((s.radio n).windows.any fun w => w.client == client)
        || decide (start < (s.netNs : Int)) then s
    else
      let s := s.reach (start - (s.stitchNs client : Int)).toNat
      if s.sched.resident.contains client then
        let s := (s.makeResident client).2
        let s := if s.sched.pinned.contains client then s else { s with sched := { s.sched with pinned := s.sched.pinned ++ [client] } }
        let w := s.planWindow client occurrence
        let s := { s with sched := { s.sched with spoiled := s.sched.spoiled.filter (· != (client, occurrence)) } }
        s.modRadio n fun r => { r with windows := r.windows ++ [w] }
      else (s.bump (Reg.schedCnt n 5)).modRadio n fun r => { r with skipped := r.skipped + 1 })

/-- CTX_LATE: the end of a second in which ctx_late advanced. -/
def execCtxLate (radio : Nat) (s : State) : Host.Outcome State Fault Refusal :=
  .next (
    let k := (s.radio radio).skipped
    if k = 0 then s
    else
      let s := s.reachElapsed (1000000000 + 1000000000 * s.elapsedSecond)
      let s := s.modRadio radio fun r => { r with skipped := 0 }
      s.raise 0x1402 1 (le 1 radio ++ le 2 k))

/-! ### The end of a stitch (R239) -/

/-- An occurrence scored. (DEDUCED: log 58.) -/
def State.score (s : State) (n : Nat) (w : Window) : State :=
  if !s.clientValid w.client || s.clientState w.client == 3 then s
  else
    match w.heard with
    | some x => s.heard w.client x
    | none =>
      if w.sighted then s.bump (Reg.schedCnt n 3)
      else if w.unscored then s.bump (Reg.schedCnt n 4)
      else s.missed w.client

/-- What still decides the score of an occurrence: a reception of its channel that decodes, the client's frame in the
air, an acknowledgement window. (DEDUCED: log 58.) -/
def State.stitchBusy (s : State) (n : Nat) (w : Window) : Bool :=
  ((s.receptionsOn n).any fun e => onChannel e.2.detection w.chan && [2, 3].contains (s.laneState e.1)) || w.ackOf.isSome
    || (match (s.radio n).tx, s.clientQueue w.client with
      | some t, f :: _ => t.frame == f.id * 4 && t.phase != .tail
      | _, _ => false)

/-- STITCH_END: the stitch ends and the occurrence is scored. (DEDUCED: log 58.) -/
def execStitchEnd (radio : Nat) (s : State) : Host.Outcome State Fault Refusal :=
  .next (match (s.radio radio).windows.find? fun w => w.opened && w.closed with
    | none => s
    | some w =>
      if s.stitchBusy radio w then s
      else
        let s := s.reach w.stitchEnd.toNat
        let s := s.modRadio radio fun r => { r with windows := r.windows.filter fun x => x.client != w.client }
        s.score radio w)

/-- CONTEXT_WRITE_BACK: the context is written back and unpinned after its stitch. -/
def execContextWriteBack (client : Nat) (s : State) : Host.Outcome State Fault Refusal :=
  .next (
    if s.sched.pinned.contains client && !((s.radio (s.clientRadio client)).windows.any fun w => w.client == client) then
      { s with sched := { s.sched with pinned := s.sched.pinned.filter (· != client) } }
    else s)

/-! ### CLIENT_WRITE (R225 to R229, R242) -/

/-- The ranges of Table 7-1, and R225 to R227, on the configuration of a valid client. -/
def State.fieldsOk (s : State) (b : Bytes) : Bool :=
  let n := bits (num b 3 1) 1 0
  let ch := num b 4 2
  let len := num b 7 1
  let start := num b 8 3
  decide (num b 0 2 ≤ 0xFFFD) && !bit (num b 2 1) 7 && bits (num b 3 1) 7 5 == 0 && decide (n ≤ 2)
    && bits (num b 3 1) 4 2 != 0
    && !bit ch 0 && bits ch 15 14 == 0 && chanRadio ch == n && !chanFilet ch
    && bits (num b 6 1) 7 6 == 0 && (!chanNarrow ch || num b 6 1 == 0)
    && decide (10 ≤ len) && decide (len ≤ 160)
    && decide ((start + len) * 250 ≤ s.fld (Reg.schedPat n) 15 0 * 1000)
    && decide (1 ≤ num b 11 1) && decide (num b 11 1 ≤ 8) && decide (num b 12 2 ≤ 10000)
    && decide (10 ≤ num b 14 2) && decide (num b 14 2 ≤ 2000) && decide (num b 16 2 ≤ 20000) && num b 18 2 == 0
    && decide (num b 16 2 * 1000 + s.syncNs ch ≤ 125000 * len)

/-- Whether a stitch widened by 1 ms on each side meets another, cyclically in a pattern of `p` units of 250 µs. -/
def stitchesMeet (p o len o' len' : Nat) : Bool :=
  let d := (o' + p - o % p) % p
  decide (d < len + 4) || decide (p - d < len' + 4)

/-- The holder that refuses a client's address or stitch (R227). -/
def State.clientHolder (s : State) (c : Nat) (b : Bytes) : Option Bytes :=
  let others := s.validClients.filter (· != c)
  match others.find? fun x => num (s.shownContext x) 0 2 == num b 0 2 with
  | some x => some (le 1 0 ++ le 2 x)
  | none =>
    match (List.range 512).find? fun q => s.peerValid q && s.peerAddress q == num b 0 2 with
    | some q => some (le 1 1 ++ le 2 q)
    | none =>
      let n := bits (num b 3 1) 1 0
      let p := s.fld (Reg.schedPat n) 15 0 * 4
      (others.find? fun x =>
        let y := s.shownContext x
        bits (num y 3 1) 1 0 == n && stitchesMeet p (num b 8 3) (num b 7 1) (num y 8 3) (num y 7 1)).map fun x => le 1 0 ++ le 2 x

/-- A client's queue emptied: its frames are given up (R229). (DEDUCED: log 56.) -/
def State.dropClientQueue (s : State) (c : Nat) : State :=
  (s.clientQueue c).foldl (fun (s : State) _ => s.endClientFrame c Status.ok 2) s

/-- A client's prepared occurrence and its pin dropped, with the lane held for it. (DEDUCED: log 56.) -/
def State.dropOccurrence (s : State) (c : Nat) : State :=
  let n := s.clientRadio c
  let s := (s.dropHold (.stitch n c)).2
  let s := s.modRadio n fun r => { r with windows := r.windows.filter fun w => w.client != c }
  { s with sched := { s.sched with
      pinned := s.sched.pinned.filter (· != c), resident := s.sched.resident.filter (· != c), staged := Table.drop s.sched.staged c } }

/-- The configuration of a client written (R229, R242, R280). -/
def State.writeClient (s : State) (c : Nat) (b : Bytes) : State :=
  let old := s.context c
  let valid := bit (num b 2 1) 0
  let fresh := !s.clientValid c || s.clientAddress c != num b 0 2
  let s := if s.clientValid c && (fresh || !valid) then s.forgetPort (0x1000 + c) else s
  let head (st level : Nat) : Bytes := b.take 2 ++ le 1 (withBits (withBits (num b 2 1) 2 1 st) 4 3 level) ++ slice b 3 17
  if !valid then
    let s := (s.dropClientQueue c).dropOccurrence c
    s.setContext c (head 0 0 ++ (if s.clientAddress c != num b 0 2 then List.replicate 44 0 else (s.context c).drop 20))
  else if fresh then
    let s := (s.dropClientQueue c).dropOccurrence c
    let s := { s with mac := { s.mac with tuned := s.mac.tuned.filter (· != c) } }
    s.setContext c (head 1 0 ++ List.replicate 44 0)
  else
    let restore := s.clientState c == 3 && bits (num b 2 1) 2 1 == 1
    let s := if restore then s.setThread c 1 3 else s
    if s.sched.pinned.contains c then { s with sched := { s.sched with staged := Table.put s.sched.staged c b } }
    else
      let st := if restore then 1 else bits (num old 2 1) 2 1
      let level := if restore then 3 else bits (num old 2 1) 4 3
      s.setContext c (head st level ++ old.drop 20)

/-- A reason of Table 21-5 that concerns the DRAM: its row spares exhausted, or a channel unused. -/
def State.dramDegraded (s : State) : Bool := s.exhausted 4 || s.flag Reg.darnSvc 14

/-- CLIENT_WRITE. -/
def clientWriteSpec : OpSpec where
  code := 0x1401
  noTxn := true
  length p := p.length == 24
  range s p := num p 0 2 < 4096 && num p 2 2 == 0 && (!bit (num p 6 1) 0 || s.fieldsOk (p.drop 4))

/-- CLIENT_WRITE writes a client's configuration. -/
def execClientWrite (c : Cmd) (p : Bytes) (s : State) : Host.Outcome State Fault Refusal :=
  .next (s.run clientWriteSpec c p fun s =>
    let b := p.drop 4
    match (if bit (num b 2 1) 0 then s.clientHolder (num p 0 2) b else none) with
    | some h => .fail Status.resourceBusy h
    | none => .done (s.writeClient (num p 0 2) b) (okUnless s.dramDegraded) [])

/-- CLIENT_READ. -/
def clientReadSpec : OpSpec where
  code := 0x1402
  length p := p.length == 2
  range _ p := num p 0 2 < 4096

/-- CLIENT_READ returns one consistent copy of a context. -/
def execClientRead (c : Cmd) (p : Bytes) (s : State) : Host.Outcome State Fault Refusal :=
  .next (s.run clientReadSpec c p fun s => .done s Status.ok (s.shownContext (num p 0 2)))

/-! ### CLIENT_SEND (R244 to R246) -/

/-- The budget of a frame with a hint of `h` ns: stitches that end within half of it (R244). -/
def State.clientBudget (s : State) (c h : Nat) : Nat :=
  let n := s.clientRadio c
  let next := s.occurrenceAt n ((s.netNs : Int) - (s.startNs c : Int) - 1) + 1
  let ends (a : Nat) : Int := s.nominalStart c (next + (a : Int)) + (s.stitchNs c : Int)
  max 1 ((List.range (s.clientRetry c)).filter fun a => decide (2 * (ends a - (s.netNs : Int)) ≤ (h : Int))).length

/-- CLIENT_SEND. -/
def clientSendSpec : OpSpec where
  code := 0x1403
  timeout := 65535
  length p := 4 ≤ p.length && p.length ≤ 4076
  range s p := num p 0 2 < 4096 && s.clientValid (num p 0 2) && num p 2 1 < 4 && (num p 3 1 == 0 || num p 3 1 == 2)
    && decide (macLength false (bit (num p 2 1) 1) (p.length - 4) ≤ familyMax (num (s.context (num p 0 2)) 4 2))

/-- CLIENT_SEND queues a downlink frame for a client. -/
def execClientSend (c : Cmd) (p : Bytes) (s : State) : Host.Outcome State Fault Refusal :=
  .next (s.run clientSendSpec c p fun s =>
    let k := num p 0 2
    if s.clientFull k then .done s Status.ok ([3] ++ List.replicate 13 0)
    else
      let (id, s) := s.newFrame
      let budget := s.clientBudget k (1000000 * (if c.timeout = 0 then 65535 else c.timeout))
      .wait (s.queueClient k { id := id, bytes := p.drop 4, macType := num p 3 1, ackReq := bit (num p 2 1) 0, secured := bit (num p 2 1) 1, budget := budget, attempts := 0, step := none })
        (.clientFrame k id) false)

end Sys2Proof.Machine
end

