-- ==== Sys2Proof/Machine/Cipher.lean ====
section
/-! DEFINITION. The cipher engines and key pages (chapter 14): requests and their engines, received and transmitted secured
frames, loading and erasing of pages, and the erasure by an alarm. -/

namespace Sys2Proof.Machine

/-! ### Pages (R397 to R400, R499) -/

/-- Whether a page holds a key. -/
def State.pageLoaded (s : State) (p : Nat) : Bool := s.flag (Reg.ciphPageCfg p) 0

/-- The loaded pages, bit p for page p. -/
def State.loadedMask (s : State) : Nat := ((List.range 16).map fun p => bitOf (s.pageLoaded p) * 2 ^ p).sum

/-- R398: the page a request names is loaded, bound to its identity, and permits its mode. -/
def State.mayServe (s : State) (r : Request) : Bool :=
  s.pageLoaded r.page && s.fld (Reg.ciphPageCfg r.page) 5 2 == r.identity && s.flag (Reg.ciphPageCfg r.page) (6 + r.mode)

/-- The page of the in-band sessions erased or loaded anew: they are authenticated no longer, and their time to
authenticate starts again (R499). (DEDUCED: log 83.) -/
def State.inbandPageChanged (s : State) (mask : Nat) : State :=
  if bit mask (s.fld Reg.secInbandCfg 3 0) then
    (List.range 4).foldl (fun (s : State) n =>
      match (s.session n).ep with
      | some (.inband ..) =>
        if (s.session n).authenticated then
          s.modSession n fun e => { e with
            authenticated := false, authDue := some (s.elapsed + 1000000000 * s.fld Reg.secInbandCfg 15 8) }
        else s
      | _ => s) s
  else s

/-- Pages of a mask emptied. (DEDUCED: log 83.) -/
def State.erasePages (s : State) (mask : Nat) : State :=
  let gone := Nat.land mask s.loadedMask
  let s := (bitsSet 16 gone).foldl (fun (s : State) p =>
    let s := (s.setReg (Reg.ciphPageCfg p) 0).setReg (Reg.ciphPageKcv p) 0
    { s with cipher := { s.cipher with keys := Table.drop s.cipher.keys p } }) s
  s.inbandPageChanged gone

/-- A key in an empty page. (DEDUCED: log 83.) -/
def State.fillPage (s : State) (p identity modes generation : Nat) (key : Bytes) : State :=
  let cfg := 1 + 2 * bitOf (decide (16 < key.length)) + 4 * identity + 64 * modes + 1024 * generation
  let s := (s.setReg (Reg.ciphPageCfg p) (word cfg)).setReg (Reg.ciphPageKcv p) (word (checkValue key))
  ({ s with cipher := { s.cipher with keys := Table.put s.cipher.keys p key } }).inbandPageChanged (2 ^ p)

/-! ### Refusals and failures of requests -/

/-- A transmission that cannot go on for want of its body leaves TX. -/
def State.abandonTx (s : State) (n x : Nat) (refuse : State → State) : State :=
  match (s.radio n).tx with
  | some t => if t.frame = x ∧ !t.ready then (refuse s).leaveTx n else s
  | none => s

/-- A request refused under R398. (DEDUCED: log 82.) -/
def State.refuseRequest (s : State) (r : Request) : State :=
  let s := s.bump (Reg.ciphCnt 3)
  match r.purpose with
  | .run id => s.finishWork (· == .cipher id) Status.notPermitted []
  | .transmit n x => (s.bump (Reg.ciphCnt 4)).abandonTx n x fun s => s.refuseShot n x Status.notPermitted false
  | .receive .. => s.bump (Reg.ciphCnt 4)

/-- An operation whose executions have all failed. (DEDUCED: log 82.) -/
def State.failRequest (s : State) (r : Request) : State :=
  match r.purpose with
  | .run id => s.finishWork (· == .cipher id) Status.internalFault []
  | .transmit n x => s.abandonTx n x fun s => s.failShot n x
  | .receive n frame _ => s.authFailed n frame

/-! ### Engines (R393 to R396) -/

/-- The queue that a free engine serves (R394): radio transmit, then a queue whose head has waited 100 µs, then the
highest that is not empty. (DEDUCED: log 82.) -/
def State.nextQueue (s : State) : Option Nat :=
  let head (q : Nat) : Option Request := (s.cipher.queues.getD q []).head?
  if (head 0).isSome then some 0
  else
    match [1, 2, 3].find? fun q => ((head q).map fun r => decide (100000 + r.queued ≤ s.elapsed)).getD false with
    | some q => some q
    | none => [1, 2, 3].find? fun q => (head q).isSome

/-- CIPHER_OP_START: a free engine takes a request and loads its key. (DEDUCED: log 82.) -/
def execCipherOpStart (engine : Nat) (s : State) : Host.Outcome State Fault Refusal :=
  .next (
    if 5 ≤ engine || s.unitState 3 engine != .serving || (Table.find s.cipher.engines engine).isSome || !s.on .sec then s
    else
      match s.nextQueue with
      | none => s
      | some q =>
        match s.cipher.queues.getD q [] with
        | [] => s
        | r :: l =>
          let s := { s with cipher := { s.cipher with queues := setAt s.cipher.queues q fun _ => l } }
          if s.mayServe r then
            let op : Operation := { request := r, key := (Table.find s.cipher.keys r.page).getD [], generation := s.pageGeneration r.page }
            { s with cipher := { s.cipher with engines := Table.put s.cipher.engines engine op } }
          else s.refuseRequest r)

/-- What an operation computes: its output with any tag, or none where a tag does not verify (R392, R395). -/
def Operation.result (o : Operation) : Option Bytes :=
  let r := o.request
  let key := match r.link with
    | some remote => linkKey o.key o.generation remote
    | none => o.key
  match r.mode with
  | 0 =>
    if r.decrypt then
      (if (gcmTag key r.nonce r.aad r.data).take r.tagLen = r.tag then some (gcmStream key r.nonce r.data) else none)
    else
      let c := gcmStream key r.nonce r.data
      some (c ++ (gcmTag key r.nonce r.aad c).take r.tagLen)
  | 1 =>
    if r.decrypt then
      let m := ccmStream key r.nonce r.data
      (if ccmTag key r.nonce r.aad m r.tagLen = r.tag then some m else none)
    else some (ccmStream key r.nonce r.data ++ ccmTag key r.nonce r.aad r.data r.tagLen)
  | 2 => some (aesCtr key r.nonce r.data)
  | _ =>
    let t := (cmac key r.data).take r.tagLen
    if r.decrypt then (if t = r.tag then some [] else none) else some t

/-- The spare class is exhausted, and fewer than 4 engines are in service (R396). (DEDUCED: log 82.) -/
def State.fewEngines (s : State) : Bool := s.exhausted 3 && decide ((bitsSet 5 (s.fld Reg.ciphStat 4 0)).length < 4)

/-- The body of a secured frame is complete: it goes out as planned, or as soon as it can. -/
def State.bodyReady (s : State) (n x : Nat) (body : Bytes) : State :=
  match (s.radio n).tx with
  | none => s
  | some t =>
    if t.frame ≠ x ∨ t.ready then s
    else
      let first := max t.first (s.elapsed + 8000)
      if (t.latest.map fun l => decide (l < first)).getD false then (s.slotMissed n x).leaveTx n
      else s.modRadio n fun r => { r with tx := some { t with ready := true, body := t.body ++ body, first := first } }

/-- R405 on a counter and a generation that have verified: the record after it, or none for a replay.
(DEDUCED: log 52, 83.) -/
def LinkRecord.accept (r : LinkRecord) (counter generation current : Nat) : Option LinkRecord :=
  if !r.valid || (generation != r.topGeneration && generation == current) then
    some { r with top := counter, topGeneration := generation, window := 1, valid := true }
  else if r.top < counter then
    some { r with
      top := counter, topGeneration := generation
      window := if 32 ≤ counter - r.top then 1 else (r.window * 2 ^ (counter - r.top) + 1) % 2 ^ 32 }
  else if r.top - counter ≤ 31 && !bit r.window (r.top - counter) then
    some { r with window := r.window + 2 ^ (r.top - counter) }
  else none

/-- A received secured frame whose operation has ended. -/
def State.openFrame (s : State) (n : Nat) (frame report : Bytes) (out : Option Bytes) : State :=
  match out with
  | none => (s.bump (Reg.ciphCnt 1)).authFailed n frame
  | some m =>
    let i := (s.linkOf n frame).1
    let security := num frame (macHeaderLen frame) 4
    match (s.link i).accept (security % 2 ^ 28) (bits security 31 28) (s.pageGeneration (s.fld Reg.ciphRadioCfg 3 0)) with
    | none => (s.bump (Reg.ciphCnt 2)).authFailed n frame
    | some r => (s.setLink i r).deliverFrame n frame m report

/-- An operation that has passed its self-check. -/
def State.concludeOp (s : State) (o : Operation) : State :=
  let s := s.bump (Reg.ciphCnt 0)
  let out := o.result
  match o.request.purpose with
  | .run id =>
    (match out with
      | some b => s.finishWork (· == .cipher id) (okUnless s.fewEngines) b
      | none => (s.bump (Reg.ciphCnt 1)).finishWork (· == .cipher id) Status.paramRange [])
  | .transmit n x => s.bodyReady n x (out.getD [])
  | .receive n frame report => s.openFrame n frame report out

/-- CIPHER_OP_DONE: the output is released, or the operation is executed again (R396, R538). (DEDUCED: log 82.) -/
def execCipherOpDone (engine : Nat) (selfCheck : Bool) (s : State) : Host.Outcome State Fault Refusal :=
  .next (match Table.find s.cipher.engines engine with
    | none => s
    | some o =>
      let s := { s with cipher := { s.cipher with engines := Table.drop s.cipher.engines engine } }
      if selfCheck then s.concludeOp o
      else
        let (past, s) := s.scoreError 3 engine
        let s := s.bumpFld (Reg.ciphEngStat engine) 31 16
        if 3 ≤ o.request.executions then (s.failRequest o.request).retireUnit 3 engine 2
        else
          let r := { o.request with executions := o.request.executions + 1 }
          let s := { s with cipher := { s.cipher with queues := setAt s.cipher.queues r.purpose.queue (r :: ·) } }
          if past then s.retireUnit 3 engine 0 else s)

/-! ### Erasure (R407) -/

/-- The key-transport key erased (R497). -/
def State.eraseTransport (s : State) : State :=
  ({ s with sec := { s.sec with transportKey := none } }).setFlag Reg.secLifecycle 6 false

/-- Every key and every operation gone: operations are aborted, queued requests refused. -/
def State.eraseKeys (s : State) : State :=
  let pages := s.loadedMask
  let ops := s.cipher.engines
  let waiting := s.cipher.queues.flatten
  let s := (s.erasePages pages).eraseTransport
  let s := { s with cipher := { s.cipher with engines := [], queues := List.replicate 4 [] } }
  let s := ops.foldl (fun (s : State) e =>
    let s := s.bump (Reg.ciphCnt 6)
    match e.2.request.purpose with
    | .run id => s.finishWork (· == .cipher id) Status.notPermitted []
    | .transmit n x => s.abandonTx n x fun s => s.refuseShot n x Status.notPermitted false
    | .receive .. => s.bump (Reg.ciphCnt 4)) s
  waiting.foldl (fun (s : State) r => s.refuseRequest r) s

/-- An alarm of CIPH_ALARM erases everything, latches its reason and reports it. (DEDUCED: log 108.) -/
def State.alarmErase (s : State) (reason : Nat) : State :=
  let pages := s.loadedMask
  let s := s.eraseKeys.setFlag Reg.ciphAlarm reason true
  s.raise 0x5000 3 (le 2 (s.fld Reg.ciphAlarm 15 0) ++ le 2 pages)

/-! ### The radio page (R406) -/

/-- A write of CIPH_RADIO_CFG that changes the page: the old one becomes the previous page. -/
def State.radioPageWritten (s : State) (old : Word) : State :=
  let a := Reg.ciphRadioCfg
  if field old 3 0 = s.fld a 3 0 then s
  else
    let s := (s.setFld a 7 4 (field old 3 0)).setFlag a 8 true
    { s with cipher := { s.cipher with prevDue := some (s.elapsed + 1000000000 * s.fld a 31 16) } }

/-- PREV_PAGE_HOLD_EXPIRY. (DEDUCED: log 83.) -/
def execPrevPageHoldExpiry (s : State) : Host.Outcome State Fault Refusal :=
  .next (match s.cipher.prevDue with
    | none => s
    | some t =>
      let s := (s.reachElapsed t).setFlag Reg.ciphRadioCfg 8 false
      { s with cipher := { s.cipher with prevDue := none } })

/-! ### Commands (R399, R409) -/

/-- The debug level: 0 Closed, 1 Observe, 2 Full. -/
def State.debugLevel (s : State) : Nat := s.fld Reg.secDbgStat 1 0

/-- Full debug in Deployed closes the loading of keys (R509). -/
def State.loadClosed (s : State) : Bool := s.lifecycle == 2 && s.debugLevel == 2

/-- KEY_LOAD. -/
def keyLoadSpec : OpSpec where
  code := 0x5000
  session0 := true
  lifecycles := [0, 1, 2]
  noTxn := true
  length p := p.length == 4 + (if bit (num p 3 1) 0 then 32 else 16) + (if bit (num p 3 1) 1 then 8 else 0)
  range _ p := num p 0 1 < 16 && num p 1 1 ≤ 6 && num p 3 1 < 4

/-- KEY_LOAD loads a key into an empty page. (DEDUCED: log 83.) -/
def execKeyLoad (c : Cmd) (p : Bytes) (s : State) : Host.Outcome State Fault Refusal :=
  .next (s.run keyLoadSpec c p fun s =>
    let page := num p 0 1
    let wrapped := bit (num p 3 1) 1
    if s.loadClosed ∨ (¬ wrapped ∧ s.lifecycle = 2) ∨ (wrapped ∧ s.sec.transportKey = none) then .fail Status.notPermitted []
    else if s.pageLoaded page then .fail Status.resourceBusy (le 1 page ++ le 1 (s.fld (Reg.ciphPageCfg page) 5 2))
    else
      match (if wrapped then unwrap (s.sec.transportKey.getD []) (p.drop 4) else some (p.drop 4)) with
      | none => .fail Status.paramRange []
      | some key =>
        .done (s.fillPage page (num p 1 1) (num p 2 1 % 16) (num p 2 1 / 16) key) Status.ok (le 3 (checkValue key)))

/-- KEY_ERASE. -/
def keyEraseSpec : OpSpec where
  code := 0x5001
  session0 := true
  noTxn := true
  length p := p.length == 2

/-- KEY_ERASE empties the pages of a mask. -/
def execKeyErase (c : Cmd) (p : Bytes) (s : State) : Host.Outcome State Fault Refusal :=
  .next (s.run keyEraseSpec c p fun s =>
    .done (s.erasePages (num p 0 2)) Status.ok (le 2 (Nat.land (num p 0 2) s.loadedMask)))

/-- KEY_STATUS. -/
def keyStatusSpec : OpSpec where
  code := 0x5002
  length p := p.length == 0

/-- KEY_STATUS returns the configuration and the check value of every page. -/
def execKeyStatus (c : Cmd) (p : Bytes) (s : State) : Host.Outcome State Fault Refusal :=
  .next (s.run keyStatusSpec c p fun s =>
    .done s Status.ok ((List.range 16).flatMap fun i =>
      le 4 (s.reg (Reg.ciphPageCfg i)).toNat ++ le 4 (s.reg (Reg.ciphPageKcv i)).toNat))

/-- Whether a CIPHER_RUN carries a tag to verify. -/
def runVerifies (p : Bytes) : Bool := num p 1 1 != 2 && num p 2 1 == 1

/-- Nonce, additional data, data and tag of a CIPHER_RUN fill its parameters. -/
def runLength (p : Bytes) : Nat :=
  12 + num p 4 1 + num p 6 2 + num p 8 4 + (if runVerifies p then num p 3 1 else 0)

/-- The lengths that the modes permit (R392). -/
def runModeOk (p : Bytes) : Bool :=
  let tag := num p 3 1
  let nonce := num p 4 1
  match num p 1 1 with
  | 0 => nonce == 12 && 12 ≤ tag && tag ≤ 16
  | 1 => 7 ≤ nonce && nonce ≤ 13 && [4, 6, 8, 10, 12, 14, 16].contains tag
  | 2 => nonce == 16 && tag == 0 && num p 6 2 == 0
  | 3 => nonce == 0 && 4 ≤ tag && tag ≤ 16 && num p 6 2 == 0
  | _ => false

/-- CIPHER_RUN. -/
def cipherRunSpec : OpSpec where
  code := 0x5003
  length p := 12 ≤ p.length && p.length ≤ 4076 && p.length == runLength p
  range _ p := num p 0 1 < 16 && num p 2 1 < 2 && num p 5 1 == 0 && runModeOk p

/-- CIPHER_RUN queues a request of the host behind the radio and Ethernet paths. -/
def execCipherRun (c : Cmd) (p : Bytes) (s : State) : Host.Outcome State Fault Refusal :=
  .next (s.run cipherRunSpec c p fun s =>
    let id := s.cipher.requests
    let nonce := num p 4 1
    let aad := num p 6 2
    let len := num p 8 4
    let s := { s with cipher := { s.cipher with requests := id + 1 } }
    let r : Request := { purpose := .run id, identity := 1 + c.session, page := num p 0 1, mode := num p 1 1, decrypt := num p 2 1 == 1, tagLen := num p 3 1, link := none, nonce := slice p 12 nonce, aad := slice p (12 + nonce) aad, data := slice p (12 + nonce + aad) len, tag := p.drop (12 + nonce + aad + len), queued := s.elapsed }
    .wait (s.pushCipher 3 r) (.cipher id) false)

end Sys2Proof.Machine
end

