-- ==== Sys2Proof/Machine/Security.lean ====
section
/-! DEFINITION. Security, lifecycle and debug (chapter 19): the staging buffer, tokens, lifecycle transitions, the identity
and attestation, authentication of in-band sessions, alarms and the debug level. -/

namespace Sys2Proof.Machine

/-! ### The staging buffer (R507, R513) -/

/-- Bytes of the security staging buffer. (DESIGN CHOICE: log 2.) -/
def State.staged (s : State) (off n : Nat) : Bytes := Memory.readBytes s.sec.stage 0 off n

/-- The staging buffer cleared. (DEDUCED: log 105.) -/
def State.clearStaged (s : State) : State := { s with sec := { s.sec with stage := [] } }

/-- SEC_STAGE_WRITE. -/
def secStageWriteSpec : OpSpec where
  code := 0x0410
  session0 := true
  noTxn := true
  length p := 5 ≤ p.length && p.length ≤ 4076
  range _ p := num p 0 4 + (p.length - 4) ≤ 20480

/-- SEC_STAGE_WRITE writes bytes into the staging buffer. -/
def execSecStageWrite (c : Cmd) (p : Bytes) (s : State) : Host.Outcome State Fault Refusal :=
  .next (s.run secStageWriteSpec c p fun s =>
    .done { s with sec := { s.sec with stage := Memory.writeBytes s.sec.stage 0 (num p 0 4) (p.drop 4) } } Status.ok [])

/-! ### The debug level (R506, R510) -/

/-- A security counter advanced: auth_ok, auth_fail, token_ok, token_fail, alarms, attest, dbg_denied. -/
def State.secCount (s : State) (k : Nat) : State := s.bump (Reg.secCnt k)

/-- The outstanding nonce void. -/
def State.voidNonce (s : State) : State :=
  ({ s with sec := { s.sec with nonce := none } }).setFlag Reg.secDbgStat 2 false

/-- The debug level set, with DEBUG_LEVEL_CHANGED where it changes (Table 19-11). -/
def State.setLevel (s : State) (level cause : Nat) : State :=
  let old := s.debugLevel
  if old = level then s
  else (s.setFld Reg.secDbgStat 1 0 level).raise 0x0412 1 (le 1 old ++ le 1 level ++ le 1 cause)

/-- The level returns to Closed, and processors that the debug port holds halted resume (R510). -/
def State.closeDebug (s : State) (cause : Nat) : State :=
  let s := s.settleTimers
  let s := { s with sec := { s.sec with levelDue := none, debugHalted := [] } }
  s.setLevel 0 cause

/-- SEC_DBG_STAT.minutes: what is left of a token's lifetime, in whole minutes begun. -/
def State.debugMinutes (s : State) : Nat :=
  match s.sec.levelDue with
  | some t => (59999999999 + (t - s.elapsed)) / 60000000000
  | none => 0

/-- DBG_NONCE. -/
def dbgNonceSpec : OpSpec where
  code := 0x0419
  session0 := true
  lifecycles := [0, 1, 2, 3]
  noTxn := true
  length p := p.isEmpty

/-- DBG_NONCE issues a nonce, which replaces any earlier one. -/
def execDbgNonce (c : Cmd) (p : Bytes) (s : State) : Host.Outcome State Fault Refusal :=
  .next (s.run dbgNonceSpec c p fun s =>
    let (n, s) := s.drawBytes 32
    let s := { s with sec := { s.sec with nonce := some n, nonceDue := 600000000000 + s.elapsed } }
    .done (s.setFlag Reg.secDbgStat 2 true) Status.ok n)

/-- DBG_NONCE_EXPIRY: an outstanding nonce becomes void after 600 s. -/
def execDbgNonceExpiry (s : State) : Host.Outcome State Fault Refusal :=
  .next (match s.sec.nonce with
    | some _ => (s.reachElapsed s.sec.nonceDue).voidNonce
    | none => s)

/-- DEBUG_LIFETIME_EXPIRY: a token's lifetime ends. -/
def execDebugLifetimeExpiry (s : State) : Host.Outcome State Fault Refusal :=
  .next (match s.sec.levelDue with
    | some t => (s.reachElapsed t).closeDebug 2
    | none => s)

/-! ### Tokens (R505 to R507) -/

/-- Step 1 of R507: length, magic, kind, lifetime and reserved bytes. -/
def tokenFormOk (t : Bytes) : Bool :=
  let kind := num t 4 1
  let life := num t 6 2
  decide (t.length = 17120) && num t 0 4 == 0x4C44544B && decide (1 ≤ kind) && decide (kind ≤ 4)
    && (if kind ≤ 2 then decide (1 ≤ life) && decide (life ≤ 1440) else life == 0)
    && allZero (slice t 56 8) && allZero (slice t 496 16)

/-- Step 2 of R507: identity, nonce, state and kind. -/
def State.tokenSuits (s : State) (t : Bytes) (kind : Nat) : Bool :=
  slice t 8 16 == s.identity && s.sec.nonce == some (slice t 24 32) && num t 5 1 == s.lifecycle && num t 4 1 == kind

/-- Step 3 of R507: the keys are those of the debug authority. -/
def State.tokenKeysOk (s : State) (t : Bytes) : Bool :=
  s.sec.debugAuthority == some (sha384 (slice t 64 384), sha384 (slice t 448 48))

/-- The check of a staged token of a kind: the status it fails with, and the state after it. The nonce is used by a check
that passes step 1, and the staging buffer is cleared. (DEDUCED: log 105.) -/
def State.checkToken (s : State) (kind len : Nat) : Option Nat × Bytes × State :=
  let t := s.staged 0 (min len 20480)
  let fault :=
    if !(tokenFormOk t && decide (len = 17120)) then some Status.paramRange
    else if !s.tokenSuits t kind then some Status.notPermitted
    else if !s.tokenKeysOk t then some Status.notPermitted
    else if !signaturesOk (slice t 64 384, slice t 448 48) (t.take 512) (t.drop 512) then some Status.notPermitted
    else none
  let s := if fault = some Status.paramRange then s else s.voidNonce
  (fault, t, (s.secCount (if fault.isSome then 3 else 2)).clearStaged)

/-! ### Alarms (R501, R502) -/

/-- The bit of an alarm in SEC_ALARM_LATCH. -/
def alarmLatch : Alarm → Nat
  | .tamper => 0
  | .shield => 1
  | .voltage => 2
  | .clock => 3
  | .temperature => 4

/-- The reason of an alarm in CIPH_ALARM; the shield latches as tamper. -/
def alarmReason : Alarm → Nat
  | .tamper => 0
  | .shield => 0
  | .voltage => 1
  | .clock => 2
  | .temperature => 3

/-- The backup data registers cleared (R347). -/
def State.clearBackup (s : State) : State := (List.range 8).foldl (fun (s : State) i => s.setReg (Reg.rtcBkpData i) 0) s

/-- An alarm: keys erased, latched, counted and reported. (DEDUCED: log 108.) -/
def State.sound (s : State) (latch reason : Nat) : State :=
  let s := ((s.alarmErase reason).setFlag Reg.secAlarmLatch latch true).secCount 4
  let s := { s with sec := { s.sec with anyAlarm := true } }
  s.raise 0x0410 2 (le 1 (s.fld Reg.secAlarmLatch 7 0) ++ le 1 s.powerState)

/-- Whether a detector is active in the present power state (Table 19-4). (DEDUCED: log 108.) -/
def State.alarmActive (s : State) : Alarm → Bool
  | .tamper => s.flag Reg.secAlarmCfg 0
  | .shield => s.flag Reg.secAlarmCfg 2 && decide (s.powerState ≤ 3)
  | .clock => decide (s.powerState ≤ 2)
  | _ => decide (s.powerState ≤ 3)

/-- ALARM_DETECTED: an alarm detector fires. (DEDUCED: log 108.) -/
def execAlarmDetected (alarm : Alarm) (s : State) : Host.Outcome State Fault Refusal :=
  .next (
    if !s.alarmActive alarm then s
    else if s.powerState = 4 then
      ({ s with sec := { s.sec with backupTamper := true } }).clearBackup
    else
      let grave := alarm = .tamper ∨ alarm = .shield
      let s := if grave then (s.clearBackup.voidNonce).closeDebug 6 else s
      let s := s.sound (alarmLatch alarm) (alarmReason alarm)
      if alarm = .tamper then s.wakeSource 5 else s)

/-! ### DBG_UNLOCK and DBG_LOCK (R508 to R511) -/

/-- DBG_UNLOCK. -/
def dbgUnlockSpec : OpSpec where
  code := 0x041A
  session0 := true
  lifecycles := [0, 1, 2, 3]
  noTxn := true
  length p := p.length == 8
  range _ p := (num p 0 1 == 1 || num p 0 1 == 2) && num p 1 3 == 0

/-- Whether a level is granted without a token (Table 19-7). (DEDUCED: log 105.) -/
def State.freeLevel (s : State) (level : Nat) : Bool := s.lifecycle == 0 || (level == 1 && s.lifecycle != 2)

/-- A level granted: Full in Deployed erases the keys as an alarm first. (DEDUCED: log 105.) -/
def State.grant (s : State) (level minutes : Nat) : State :=
  let full := level = 2
  let s := if full ∧ s.lifecycle = 2 then s.sound 5 4 else s
  let s := if full then s.setFlag Reg.secDbgStat 3 true else s
  let s := { s with sec := { s.sec with
    levelDue := if minutes = 0 then none else some (s.elapsed + 60000000000 * minutes) } }
  s.setLevel level 0

/-- DBG_UNLOCK checks a token where the level needs one, and grants the level. (DEDUCED: log 105.) -/
def execDbgUnlock (c : Cmd) (p : Bytes) (s : State) : Host.Outcome State Fault Refusal :=
  .next (s.run dbgUnlockSpec c p fun s =>
    let level := num p 0 1
    if s.freeLevel level then
      if num p 4 4 = 0 then .done (s.clearStaged.grant level 0) Status.ok (le 2 0) else .fail Status.paramRange []
    else
      match s.checkToken level (num p 4 4) with
      | (some fault, _, s) => .done (s.bump Reg.sysCmdErr) fault []
      | (none, t, s) => .done (s.grant level (num t 6 2)) Status.ok (le 2 (num t 6 2)))

/-- DBG_LOCK. -/
def dbgLockSpec : OpSpec where
  code := 0x041B
  session0 := true
  noTxn := true
  length p := p.isEmpty

/-- DBG_LOCK returns the level to Closed. -/
def execDbgLock (c : Cmd) (p : Bytes) (s : State) : Host.Outcome State Fault Refusal :=
  .next (s.run dbgLockSpec c p fun s => .done (s.closeDebug 1) Status.ok [])

/-- DBG_AUTH_SET. -/
def dbgAuthSetSpec : OpSpec where
  code := 0x0418
  session0 := true
  lifecycles := [0, 1]
  noTxn := true
  length p := p.length == 96

/-- DBG_AUTH_SET writes the digests of the debug authority's keys, once (R504). -/
def execDbgAuthSet (c : Cmd) (p : Bytes) (s : State) : Host.Outcome State Fault Refusal :=
  .next (s.run dbgAuthSetSpec c p fun s =>
    match s.sec.debugAuthority with
    | some _ => .fail Status.notPermitted []
    | none =>
      .done (({ s with sec := { s.sec with debugAuthority := some (slice p 0 48, slice p 48 48) } }).setFlag
        Reg.secLifecycle 5 true) Status.ok [])

/-! ### Lifecycle (R489 to R492, R500) -/

/-- Rows of the register tables of the SEAL type. -/
def sealRows : List RegRow :=
  (sysRows ++ chainRows ++ secRows ++ trxRows ++ searchRows ++ wmacRows ++ schedRows ++ emacRows ++ fwdRows ++ tmRows
    ++ timeRows ++ rtcRows ++ measRows ++ ctlpRows ++ ciphRows ++ dramRows ++ tmrRows ++ pwrRows ++ clkRows
    ++ darnRows).filter fun r => r.access == .seal

/-- The addresses of a row. -/
def RegRow.addresses (r : RegRow) : List Nat :=
  (List.range r.n1).flatMap fun i => (List.range r.n2).map fun j => r.base + r.s1 * i + r.s2 * j

/-- The SEAL registers. -/
def sealAddresses : List Nat := sealRows.flatMap RegRow.addresses

/-- Whether SEAL registers are read-only (R5, R500). -/
def State.isSealed (s : State) : Bool := s.sec.sealedValues.isSome || decide (2 ≤ s.lifecycle)

/-- The token kind that a transition of Table 19-2 needs, 0 for none; no value where the transition is not made. -/
def State.transitionToken (s : State) (target : Nat) : Option Nat :=
  match s.lifecycle, target with
  | 0, 1 => if s.flag Reg.secLifecycle 3 && s.flag Reg.secLifecycle 4 then some 0 else none
  | 1, 2 => if s.flag Reg.secLifecycle 5 then some 0 else none
  | 2, 3 => some 3
  | 2, 4 => some 4
  | 0, 4 => some 0
  | 1, 4 => some 0
  | 3, 4 => some 0
  | _, _ => none

/-- The key pages and the key-transport key erased, as at a transition. (DEDUCED: log 106.) -/
def State.eraseForTransition (s : State) : State := (s.erasePages 0xFFFF).eraseTransport

/-- The effects of a transition, in the order of Table 19-2, before its state fuses. (DEDUCED: log 106.) -/
def State.beginTransition (s : State) (target : Nat) : State :=
  let s := match target with
    | 2 =>
      let s := s.eraseForTransition
      { s with sec := { s.sec with sealedValues := some (sealAddresses.map fun a => (a, s.reg a)) } }
    | 3 => s.eraseForTransition.clearBackup
    | 4 =>
      let s := s.eraseForTransition
      { s with sec := { s.sec with privateKeys := false } }
    | _ => s
  let s := s.closeDebug 5
  { s with sec := { s.sec with transition := some target } }

/-- Whether a command's work is a lifecycle transition. -/
def Work.isLifecycle : Work → Bool
  | .lifecycle _ => true
  | _ => false

/-- LIFECYCLE_SET. -/
def lifecycleSetSpec : OpSpec where
  code := 0x0411
  session0 := true
  noTxn := true
  length p := p.length == 8
  range _ p := num p 1 3 == 0

/-- LIFECYCLE_SET begins a permitted transition. (DEDUCED: log 106.) -/
def execLifecycleSet (c : Cmd) (p : Bytes) (s : State) : Host.Outcome State Fault Refusal :=
  .next (s.run lifecycleSetSpec c p fun s =>
    let target := num p 0 1
    let len := num p 4 4
    match s.holder fun o => o.work.isLifecycle with
    | some h => .fail Status.resourceBusy h
    | none =>
      match s.transitionToken target with
      | none => .fail Status.notPermitted []
      | some 0 => .wait (s.beginTransition target) (.lifecycle target) true
      | some kind =>
        if len = 0 then .fail Status.notPermitted []
        else
          match s.checkToken kind len with
          | (some fault, _, s) => .done (s.bump Reg.sysCmdErr) fault []
          | (none, _, s) => .wait (s.beginTransition target) (.lifecycle target) true)

/-- LIFECYCLE_TRANSITION_DONE: the state fuses are programmed, the reply follows, and LIFECYCLE_CHANGED is raised.
(DEDUCED: log 106.) -/
def execLifecycleTransitionDone (s : State) : Host.Outcome State Fault Refusal :=
  .next (match s.sec.transition with
    | none => s
    | some target =>
      let old := s.lifecycle
      let s := ({ s with sec := { s.sec with transition := none } }).setFld Reg.secLifecycle 2 0 target
      (s.finishWork Work.isLifecycle Status.ok (le 1 target)).raise 0x0411 1 (le 1 old ++ le 1 target))

/-! ### Identity and certificate (R493, R494) -/

/-- IDENTITY_GEN. -/
def identityGenSpec : OpSpec where
  code := 0x0412
  session0 := true
  lifecycles := [0]
  noTxn := true
  length p := p.isEmpty

/-- The public keys of the device: attestation modulus, SLH-DSA key, transport modulus. -/
def keysOf (draw : Nat) : Bytes × Bytes × Bytes :=
  let k := Config.publicKeys draw
  (padTo 384 k.1, padTo 48 k.2.1, padTo 384 k.2.2)

/-- The identity of a device with these keys. -/
def identityOf (draw : Nat) : Bytes := (sha384 ((keysOf draw).1 ++ (keysOf draw).2.1)).take 16

/-- IDENTITY_GEN creates the identity key pairs, once. -/
def execIdentityGen (c : Cmd) (p : Bytes) (s : State) : Host.Outcome State Fault Refusal :=
  .next (s.run identityGenSpec c p fun s =>
    match s.sec.keyPairs with
    | some _ => .fail Status.notPermitted []
    | none =>
      let n := s.draws
      let id := identityOf n
      let s := { s with draws := n + 1, sec := { s.sec with keyPairs := some n, privateKeys := true } }
      let s := (List.range 4).foldl (fun (s : State) i => s.setReg (Reg.secId i) (word (num id (4 * i) 4))) s
      .done (s.setFlag Reg.secLifecycle 3 true) Status.ok id)

/-- Whether a device certificate is valid for this device (R494). -/
def State.deviceCertOk (s : State) (t : Bytes) : Bool :=
  match s.sec.keyPairs with
  | none => false
  | some n =>
    let k := keysOf n
    decide (t.length = 17504) && num t 0 4 == 0x4C444443 && slice t 4 16 == s.identity && slice t 20 384 == k.1
      && slice t 404 48 == k.2.1 && slice t 452 384 == k.2.2 && allZero (slice t 840 56)
      && signaturesOk (Config.authority 2) (t.take 896) (t.drop 896)

/-- DEV_CERT_WRITE. -/
def devCertWriteSpec : OpSpec where
  code := 0x0413
  session0 := true
  lifecycles := [0]
  noTxn := true
  length p := p.length == 4
  range _ p := num p 0 4 == 17504

/-- DEV_CERT_WRITE verifies the staged certificate and stores it in both sealed-settings copies. -/
def execDevCertWrite (c : Cmd) (p : Bytes) (s : State) : Host.Outcome State Fault Refusal :=
  .next (s.run devCertWriteSpec c p fun s =>
    let t := s.staged 0 17504
    if s.deviceCertOk t then
      let s := { s with boot := { s.boot with sealedCopies := s.boot.sealedCopies.map fun (x : SealedCopy) => { x with deviceCert := t } } }
      .done (s.setFlag Reg.secLifecycle 4 true) Status.ok []
    else .fail Status.notPermitted [])

/-- The device certificate as the sealed-settings copies hold it. -/
def State.deviceCert (s : State) : Bytes := ((s.boot.sealedCopies.map (·.deviceCert)).find? fun t => !t.isEmpty).getD []

/-- DEV_CERT_READ. -/
def devCertReadSpec : OpSpec where
  code := 0x0414
  noTxn := true
  length p := p.length == 6
  range s p := decide (1 ≤ num p 4 2) && decide (num p 4 2 ≤ 4076) && decide (num p 0 4 + num p 4 2 ≤ s.deviceCert.length)

/-- DEV_CERT_READ returns bytes of the device certificate. (DEDUCED: log 107.) -/
def execDevCertRead (c : Cmd) (p : Bytes) (s : State) : Host.Outcome State Fault Refusal :=
  .next (s.run devCertReadSpec c p fun s => .done s Status.ok (slice s.deviceCert (num p 0 4) (num p 4 2)))

/-! ### Attestation (R495) -/

/-- The firmware slot that runs. -/
def State.runningSlot (s : State) : FwSlot := s.boot.slots.getD (s.fld Reg.sysBootStat 0 0) {}

/-- Header and body of a firmware image (Table 18-4). -/
def imageSigned (image : Bytes) : Bytes := image.take (64 + num image 12 4)

/-- The body of an attestation report (Table 19-3). -/
def State.attestBody (s : State) (nonce : Bytes) : Bytes :=
  let latch := s.reg Reg.secAlarmLatch
  let flags := s.fld Reg.secDbgStat 3 3 + 2 * bitOf (field latch 0 0 == 1 || field latch 6 6 == 1)
    + 4 * s.fld Reg.sysBootStat 6 6 + 8 * field s.summary 3 3 + 16 * s.fld Reg.sysBootStat 1 1 + 32 * bitOf s.sec.anyAlarm
  let image := s.runningSlot.image
  le 4 0x4C444154 ++ le 2 1 ++ le 1 s.lifecycle ++ le 1 s.debugLevel ++ s.identity ++ nonce ++ le 6 s.seconds ++ le 4 s.nanos
    ++ le 1 s.timeState ++ le 1 flags ++ le 4 (s.reg Reg.sysFwVer).toNat ++ le 4 (num image 8 4)
    ++ le 4 (s.reg Reg.secRollback).toNat ++ sha384 (imageSigned image) ++ le 4 (s.reg Reg.sysCfgSeq).toNat
    ++ le 4 (s.reg Reg.rglCertVer).toNat ++ le 2 s.loadedMask ++ le 2 0
    ++ (List.range 16).flatMap (fun i => le 3 (s.reg (Reg.ciphPageKcv i)).toNat) ++ le 4 0

/-- ATTEST. -/
def attestSpec : OpSpec where
  code := 0x0415
  timeout := 10000
  lifecycles := [0, 1, 2, 3]
  noTxn := true
  length p := p.length == 32

/-- ATTEST copies the report values and starts signing. (DEDUCED: log 107.) -/
def execAttest (c : Cmd) (p : Bytes) (s : State) : Host.Outcome State Fault Refusal :=
  .next (s.run attestSpec c p fun s =>
    match s.holder fun o => o.work == .attest with
    | some h => .fail Status.resourceBusy h
    | none =>
      if !s.sec.privateKeys then .fail Status.notPermitted []
      else
        let s := { s with sec := { s.sec with attesting := some (s.attestBody p) } }
        .wait (s.modSession c.session fun e => { e with report := [] }) .attest true)

/-- ATTEST_SIGN_DONE: both signatures are made, and the report can be read. -/
def execAttestSignDone (s : State) : Host.Outcome State Fault Refusal :=
  .next (match s.sec.attesting with
    | none => s
    | some body =>
      let s := { s with sec := { s.sec with attesting := none } }
      let n := s.sec.keyPairs.getD 0
      let d := sha384 body
      let report := body ++ padTo 384 (Config.rsaSign n d) ++ padTo 16224 (Config.slhSign n d)
      match (s.outstandingOf fun o => o.work == .attest).head? with
      | none => s
      | some o =>
        let s := (s.modSession o.origin.session fun e => { e with report := report }).secCount 5
        s.finish o Status.ok (le 4 report.length))

/-- ATTEST_READ. -/
def attestReadSpec : OpSpec where
  code := 0x0416
  noTxn := true
  length p := p.length == 6
  range _ p := decide (1 ≤ num p 4 2) && decide (num p 4 2 ≤ 4076) && decide (num p 0 4 + num p 4 2 ≤ 16800)

/-- ATTEST_READ returns bytes of the session's report; while there is none, its range lies beyond the report's end.
(DEDUCED: log 107.) -/
def execAttestRead (c : Cmd) (p : Bytes) (s : State) : Host.Outcome State Fault Refusal :=
  .next (s.run attestReadSpec c p fun s =>
    let r := (s.session c.session).report
    if r.isEmpty then .fail Status.paramRange [] else .done s Status.ok (slice r (num p 0 4) (num p 4 2)))

/-! ### The key-transport key (R497) -/

/-- KTK_LOAD. -/
def ktkLoadSpec : OpSpec where
  code := 0x0417
  session0 := true
  lifecycles := [0, 1, 2]
  noTxn := true
  length p := p.length == 384

/-- KTK_LOAD decrypts and installs the key-transport key. (DEDUCED: log 107.) -/
def execKtkLoad (c : Cmd) (p : Bytes) (s : State) : Host.Outcome State Fault Refusal :=
  .next (s.run ktkLoadSpec c p fun s =>
    if s.loadClosed then .fail Status.notPermitted []
    else
      match (if s.sec.privateKeys then Config.oaepDecrypt (s.sec.keyPairs.getD 0) p else none) with
      | none => .fail Status.paramRange []
      | some k =>
        if k.length ≠ 32 then .fail Status.paramRange []
        else
          .done (({ s with sec := { s.sec with transportKey := some k } }).setFlag Reg.secLifecycle 6 true) Status.ok
            (le 3 (checkValue k)))

/-! ### In-band sessions (R498, R499) -/

/-- The 10 bytes that both tags cover beside the nonces. -/
def State.tagTail (s : State) (n : Nat) : Bytes :=
  (match (s.session n).ep with
    | some (.inband mac vlan _) => mac ++ le 2 vlan
    | _ => []) ++ le 1 n ++ le 1 s.device

/-- A failed phase 1, counted and reported at most once a second. (DEDUCED: log 107.) -/
def State.authFails (s : State) (n : Nat) : State :=
  let s := s.secCount 1
  if s.sec.authSecond = some s.elapsedSec then
    { s with sec := { s.sec with authFailures := s.sec.authFailures + 1 } }
  else
    let mac := match (s.session n).ep with
      | some (.inband m ..) => m
      | _ => []
    ({ s with sec := { s.sec with authFailures := 1, authSecond := some s.elapsedSec } }).raise 0x0413 1
      (le 1 n ++ mac ++ le 4 1)

/-- SEC_AUTH. -/
def secAuthSpec : OpSpec where
  code := 0x041C
  lifecycles := [0, 1, 2, 3]
  inband := true
  noTxn := true
  length p := p.length == (if num p 0 1 = 1 then 36 else 4)
  range _ p := decide (num p 0 1 ≤ 1) && num p 1 3 == 0

/-- SEC_AUTH issues a challenge, or checks the host's tag. (DEDUCED: log 107.) -/
def execSecAuth (c : Cmd) (p : Bytes) (s : State) : Host.Outcome State Fault Refusal :=
  .next (s.run secAuthSpec c p fun s =>
    let n := c.session
    if num p 0 1 = 0 then
      let (nd, s) := s.drawBytes 16
      .done (s.modSession n fun e => { e with challenge := some nd }) Status.ok nd
    else
      let page := s.fld Reg.secInbandCfg 3 0
      let usable := s.pageLoaded page && s.fld (Reg.ciphPageCfg page) 5 2 == 6 && s.flag (Reg.ciphPageCfg page) 9
      let key := (Table.find s.cipher.keys page).getD []
      let nh := slice p 4 16
      let challenge := (s.session n).challenge
      let s := s.modSession n fun e => { e with challenge := none }
      match challenge with
      | none => .done ((s.authFails n).bump Reg.sysCmdErr) Status.notPermitted []
      | some nd =>
        if usable && cmac key (nd ++ nh ++ s.tagTail n) == slice p 20 16 then
          let s := (s.modSession n fun e => { e with authenticated := true, authDue := none }).secCount 0
          .done s Status.ok (cmac key (nh ++ nd ++ s.tagTail n))
        else .done ((s.authFails n).bump Reg.sysCmdErr) Status.notPermitted [])

end Sys2Proof.Machine
end

