-- ==== Sys2Proof/Machine/Chain.lean ====
section
/-! DEFINITION. The Cordonnet chain (chapter 20): frames on the two ports, paths and topology, numbering, the loss and
return of a link, the delay of a link, and the chain's commands. -/

namespace Sys2Proof.Machine

/-! ### Frames on a port (R520 to R523) -/

/-- A Cordonnet frame: the header of Table 20-1, the content and the CRC-32 (R521). -/
def cordonnetFrame (kind seq source dest hop vlan remote : Nat) (content : Bytes) : Bytes :=
  let body := le 1 (kind + 4 * seq) ++ le 1 source ++ le 1 dest ++ le 1 hop ++ le 2 (vlan % 4096) ++ le 2 remote
    ++ le 2 content.length ++ le 2 0 ++ content
  body ++ le 4 (crc32 body)

/-- A counter of Table 20-7 advanced. -/
def State.chainCount (s : State) (port k : Nat) (n : Nat := 1) : State := s.bump64 (Reg.chainPortCntLo port k) n

/-- A frame sent on a port, header fields given; kinds 2 and 3 take the port's next sequence and wait for the
neighbour's acknowledgement (R523). Nothing is sent on a port without a link. (DEDUCED: log 110.) -/
def State.linkOut (s : State) (port kind source dest hop vlan remote : Nat) (content : Bytes) : State :=
  if s.chainLink port && s.on .link then
    let seq := if 2 ≤ kind then s.chain.seqs.getD port 0 else 0
    let f := cordonnetFrame kind seq source dest hop vlan remote content
    let s := s.chainCount port 0
    if 2 ≤ kind then
      { s with chain := { s.chain with
        seqs := setAt s.chain.seqs port fun q => (q + 1) % 64
        unacked := s.chain.unacked ++ [⟨port, seq, false, s.elapsed, f⟩] } }
    else s
  else s

/-- The hop count that starts a frame on a port: enough for any path, or, for a flood, the devices its copy covers
(R522). (DEDUCED: log 110.) -/
def State.hopsOut (s : State) (port : Nat) (flood : Bool) : Nat :=
  if !flood then 63
  else if s.flag Reg.chainStat 15 then
    let n := s.chain.down.length
    if port = 1 then (n + 1) / 2 else n / 2
  else if port = 1 then s.chain.down.length
  else s.chain.up.length

/-- A copy that node 4 of traffic management hands to LINK: a flood on each port with a link, anything else on the port
of the path to its device (R520, R522). -/
def State.linkSend (s : State) (c : Copy) : State :=
  if c.kind = 1 then
    [0, 1].foldl (fun (s : State) p =>
      if s.hopsOut p true = 0 then s
      else s.linkOut p 1 s.device 0xFF (s.hopsOut p true) c.vlan 0xFFFF c.bytes) s
  else if s.present c.device && c.device != s.device then
    s.linkOut (s.route c.device) c.kind s.device c.device (s.hopsOut 0 false) c.vlan c.remote c.bytes
  else s

/-- A control message for another device, into the chain's privileged queue; its content has the least length of Table
20-1 and octets that the manual does not state. (DESIGN CHOICE: log 26.) -/
def State.sendControl (s : State) (d : Nat) (m : ChainControl) : State :=
  s.pushPrivileged 4 { buffer := 0, bytes := (List.range 14).map (Config.controlByte m), length := 30, port := 0x40 + d, kind := 3, device := d, control := some m }

/-- A control message for every other device. -/
def State.tellAll (s : State) (m : ChainControl) : State := s.others.foldl (fun (s : State) d => s.sendControl d m) s

/-- Unacknowledged frames of a port sent again on the present paths (R532); those without one are dropped.
(DEDUCED: log 110.) -/
def State.resendUnacked (s : State) (port : Nat) : State :=
  let old := s.chain.unacked.filter fun h => h.port == port
  let s := { s with chain := { s.chain with unacked := s.chain.unacked.filter fun h => h.port != port } }
  old.foldl (fun (s : State) h =>
    let d := num h.frame 2 1
    if s.present d && d != s.device then
      s.linkOut (s.route d) (num h.frame 0 1 % 4) (num h.frame 1 1) d (num h.frame 3 1) (num h.frame 4 2) (num h.frame 6 2)
        (slice h.frame 12 (num h.frame 8 2))
    else s) s

/-! ### Topology (R519, R520, R532, R533) -/

/-- The hops to a device that a list holds, one more than its place. -/
def hopsIn (l : List Nat) (d : Nat) : Option Nat := (l.findIdx? (· == d)).map (· + 1)

/-- The hops to a device (CHAIN_STATUS): the shortest path. -/
def State.hopsTo (s : State) (d : Nat) : Option Nat :=
  if s.numbered && d == s.device then some 0
  else match hopsIn s.chain.down d, hopsIn s.chain.up d with
    | some a, some b => some (min a b)
    | some a, none => some a
    | none, some b => some b
    | none, none => none

/-- Whether the path to a device leaves through CRD_UP: it is shorter there; a tie goes to CRD_DN. -/
def State.throughUp (s : State) (d : Nat) : Bool :=
  match hopsIn s.chain.down d, hopsIn s.chain.up d with
  | some a, some b => decide (b < a)
  | none, some _ => true
  | _, none => false

/-- The bits of a list of numbers. -/
def bitmap (l : List Nat) : Nat := l.foldl (fun m d => Nat.lor m (2 ^ d)) 0

/-- The identity held by a device number, zeros where none is. -/
def State.identityAt (s : State) (d : Nat) : Bytes := padTo 16 ((Table.find s.chain.identities d).getD [])

/-- A device has left the chain: its MAC entries go (R280), its tags wait 1 ms (R525), and the head reports it. -/
def State.deviceLeft (s : State) (tell : Bool) (d : Nat) : State :=
  let s := s.forgetPort (0x40 + d)
  let s := { s with chain := { s.chain with departed := Table.put s.chain.departed d s.elapsed } }
  if tell && s.head then s.raise 0x0302 1 (le 1 d ++ s.identityAt d) else s

/-- Events held for want of a path to the head leave for it, and the number dropped is reported (R526).
(DESIGN CHOICE: log 23.) -/
def State.releaseEvents (s : State) : State :=
  let held := s.chain.waitingEvents
  let dropped := s.chain.droppedEvents
  let s := { s with chain := { s.chain with waitingEvents := [], droppedEvents := 0 } }
  let s := held.foldl (fun (s : State) r => s.chainSend 0 r.packet) s
  if dropped = 0 then s
  else
    let (first, s) := s.draw
    s.raise 0x0001 (Config.eventSeverity 0x0001 % 3) (le 4 dropped ++ le 4 first)

/-- The registers that show the chain, from its lists. -/
def State.showChain (s : State) : State :=
  let all := (List.range 64).filter fun d => s.chain.down.contains d || s.chain.up.contains d
  let map := bitmap (if s.numbered then s.device :: all else all)
  let up := bitmap (all.filter s.throughUp)
  let s := (s.setReg Reg.chainMapLo (word map)).setReg Reg.chainMapHi (word (map / 2 ^ 32))
  let s := (s.setReg Reg.chainRouteLo (word up)).setReg Reg.chainRouteHi (word (up / 2 ^ 32))
  let s := s.setFld Reg.chainStat 14 8 (if s.numbered then all.length + 1 else 0)
  let s := s.setFld (Reg.chainPortStat 0) 15 8 (s.chain.up.head?.getD 0xFF)
  let s := s.setFld (Reg.chainPortStat 1) 15 8 (s.chain.down.head?.getD 0xFF)
  if s.head || !all.contains 0 then s else s.setFlag Reg.chainStat 17 (!s.throughUp 0)

/-- New paths: the devices out of CRD_DN and CRD_UP in hop order, and whether the ring is closed. Devices that have
gone leave the chain; a device cut off from the head that takes its time from the chain enters HOLDOVER (R533).
(DEDUCED: log 111.) -/
def State.applyTopology (s : State) (down up : List Nat) (ring tell : Bool) : State :=
  let before := s.others
  let reached := !s.head && before.contains 0
  let s := ({ s with chain := { s.chain with down := down, up := up } }).setFlag Reg.chainStat 15 ring
  let s := s.showChain
  let after := s.others
  let s := (before.filter fun d => !after.contains d).foldl (fun (s : State) d => s.deviceLeft tell d) s
  let s := (after.filter fun d => !before.contains d).foldl (fun (s : State) d =>
    { s with chain := { s.chain with departed := Table.drop s.chain.departed d } }) s
  let reaches := !s.head && after.contains 0
  let s := if reached && !reaches && s.fld Reg.timeCtl 1 0 == 2 then s.loseSource else s
  if reaches then s.releaseEvents else s

/-- The part of a list of devices, in hop order from `x`, before the link between `a` and `b`. -/
def untilBreak (a b : Nat) : (x : Nat) → List Nat → List Nat
  | _, [] => []
  | x, y :: t => if x = a ∧ y = b then [] else y :: untilBreak a b y t

/-- The paths after the loss of the link of a device's port to a neighbour. -/
def State.breakPaths (s : State) (device port neighbour : Nat) : List Nat × List Nat :=
  let (a, b) := if port = 1 then (device, neighbour) else (neighbour, device)
  (untilBreak a b s.device s.chain.down, untilBreak b a s.device s.chain.up)

/-- A link between two devices of the chain is lost: paths are recomputed, and the head reports a ring that it opens
(R532, R533). (DEDUCED: log 111.) -/
def State.chainBroken (s : State) (device port neighbour : Nat) : State :=
  let ring := s.flag Reg.chainStat 15
  let (down, up) := s.breakPaths device port neighbour
  let s := s.applyTopology down up false true
  if ring && s.head then s.raise 0x0301 1 (le 1 device ++ le 1 port ++ le 1 neighbour) else s

/-- A port loses its link: `lost` data frames were on its line (R532). -/
def State.chainLost (s : State) (port lost : Nat) : State :=
  if s.chainLink port || s.flag (Reg.chainPortStat port) 0 then
    let linked := s.chainLink port
    let near := s.fld (Reg.chainPortStat port) 15 8
    let s := (s.setFlag (Reg.chainPortStat port) 0 false).setFlag (Reg.chainPortStat port) 1 false
    if linked then
      let s := (s.bumpFld (Reg.chainPortStat port) 31 16).chainCount port 4 lost
      let s := s.chainBroken s.device port near
      let s := s.setFld (Reg.chainPortStat port) 15 8 0xFF
      (s.resendUnacked port).tellAll (.broken port near)
    else s
  else s

/-- CHAIN_LINK_LOSS: a port has been without block lock for 10 µs. -/
def execChainLinkLoss (port lost : Nat) (s : State) : Host.Outcome State Fault Refusal :=
  .next (s.chainLost port lost)

/-- The order of the chain along CRD_DN, as this device knows it. -/
def State.line (s : State) : List Nat :=
  if s.flag Reg.chainStat 15 then s.device :: s.chain.down else s.chain.up.reverse ++ s.device :: s.chain.down

/-- What a device sees out of CRD_DN and CRD_UP. -/
def viewOf (line : List Nat) (ring : Bool) (d : Nat) : List Nat × List Nat :=
  let i := (line.findIdx? (· == d)).getD 0
  let after := line.drop (i + 1)
  let before := line.take i
  if ring then (after ++ before, (after ++ before).reverse) else (after, before.reverse)

/-- The head tells every device its paths. -/
def State.sendPaths (s : State) : State :=
  let ring := s.flag Reg.chainStat 15
  let line := s.line
  s.others.foldl (fun (s : State) d =>
    let (down, up) := viewOf line ring d
    s.sendControl d (.paths down up ring)) s

/-! ### Numbering (R518, R519) -/

/-- The number a table holds for an identity. -/
def numberOf (t : Table Bytes) (id : Bytes) : Option Nat := (t.find? fun e => e.2 == id).map (·.1)

/-- The lowest number that a table does not hold. -/
def freeNumber (t : Table Bytes) : Option Nat := (List.range 64).find? fun d => (Table.find t d).isNone

/-- Identities, in hop order, to device numbers: a former number where there is one, else the lowest that is free; the
numbers, whether each is a former one, and the table afterwards. An identity that finds no free number is left
unnumbered. -/
def assignNumbers (t : Table Bytes) (ids : List Bytes) : List (Nat × Bool) × Table Bytes :=
  ids.foldl (fun (acc : List (Nat × Bool) × Table Bytes) id =>
    match numberOf acc.2 id with
    | some d => (acc.1 ++ [(d, true)], acc.2)
    | none => match freeNumber acc.2 with
      | some d => (acc.1 ++ [(d, false)], Table.put acc.2 d id)
      | none => acc) ([], t)

/-- Devices join beyond a port of a device, as the head learns of them (R519, R533). (DEDUCED: log 111.) -/
def State.join (s : State) (device port : Nat) (beyond : List Bytes) (ring : Bool) : State :=
  if s.head && s.numbered then
    let outward := if port = 1 then device == s.device || s.chain.down.contains device
      else device == s.device || s.chain.up.contains device
    if !outward || s.flag Reg.chainStat 15 then s
    else
      let (numbers, t) := assignNumbers s.chain.identities (beyond.map (padTo 16))
      let before := s.others
      let s := { s with chain := { s.chain with identities := t } }
      let side := if port = 1 then s.chain.down else s.chain.up
      let kept := if device = s.device then [] else side.take ((hopsIn side device).getD 0)
      let fresh := numbers.map (·.1)
      let this := kept ++ fresh.filter fun d => !kept.contains d
      let (down, up) :=
        if ring then (if port = 1 then (this, this.reverse) else (this.reverse, this))
        else if port = 1 then (this, s.chain.up.filter fun d => !this.contains d)
        else (s.chain.down.filter fun d => !this.contains d, this)
      let s := s.applyTopology down up ring true
      let joined := numbers.filter fun e => !before.contains e.1
      let s := joined.foldl (fun (s : State) e =>
        (s.sendControl e.1 (.number e.1 s.identity)).raise 0x0303 0 (le 1 e.1 ++ s.identityAt e.1 ++ le 1 (bitOf e.2))) s
      s.sendPaths
  else s

/-- CHAIN_LINK_UP: an enabled port has had block lock for 1 ms; these identities lie beyond it. The head numbers
them, any other device reports them to the head. (DEDUCED: log 111.) -/
def execChainLinkUp (port : Nat) (beyond : List Bytes) (ring : Bool) (s : State) : Host.Outcome State Fault Refusal :=
  .next (
    if s.flag Reg.chainCtl (8 + port) && !s.chainLink port && !s.flag (Reg.chainPortStat port) 2 && s.on .link then
      let s := (s.setFlag (Reg.chainPortStat port) 0 true).setFlag (Reg.chainPortStat port) 1 true
      if s.head then s.join s.device port beyond ring
      else if s.numbered && s.present 0 then s.sendControl 0 (.found port beyond ring)
      else s
    else s)

/-- Enumeration by the head (R518): numbers from scratch along the walk; the devices numbered, and the flags of CHAIN_ENUM
byte 1. (DEDUCED: log 111.) -/
def State.enumerate (s : State) (walk : ChainWalk) : State × Bytes :=
  let ids := (if walk.closed then walk.down else walk.down ++ walk.up).map (padTo 16)
  let taken := min ids.length 63
  let flags := bitOf walk.closed + 2 * bitOf (decide (63 < ids.length)) + 4 * bitOf walk.conflict
  let nDown := min walk.down.length 63
  let down := (List.range nDown).map (· + 1)
  let up := if walk.closed then down.reverse else (List.range (taken - nDown)).map (· + nDown + 1)
  let t : Table Bytes := ((s.identity :: ids.take 63).zipIdx).map fun e => (e.2, e.1)
  let changed := (List.range 64).filter fun d => 0 < d && Table.find s.chain.identities d != Table.find t d
  let s := changed.foldl (fun (s : State) d => s.forgetPort (0x40 + d)) s
  let s := [0, 1].foldl (fun (s : State) p =>
    let on := bit walk.links p && s.flag Reg.chainCtl (8 + p)
    let wrong := bit walk.miswired p
    ((s.setFlag (Reg.chainPortStat p) 2 wrong).setFlag (Reg.chainPortStat p) 0 on).setFlag (Reg.chainPortStat p) 1 (on && !wrong)) s
  let s := ({ s with chain := { s.chain with identities := t, flags := flags } }).setFld Reg.chainStat 7 0 0
  let s := s.applyTopology down up walk.closed false
  let s := s.others.foldl (fun (s : State) d => s.sendControl d (.number d s.identity)) s
  let s := s.sendPaths
  let result := le 1 (taken + 1) ++ le 1 flags
  (s.raise 0x0300 (bitOf (decide (1 < flags))) result, result)

/-- The commit of another device's entries that is PENDING, as R519 and R592 name it. -/
def State.chainCommit (s : State) : Option Bytes :=
  ((List.range 4).find? fun n =>
    (s.session n).txn.state == .pending && (s.session n).txn.entries.any fun e => e.device != s.device).map fun n =>
      [0] ++ le 1 n ++ le 2 (s.session n).txn.tag

/-- CHAIN_ENUM. -/
def chainEnumSpec : OpSpec where
  code := 0x0300
  session0 := true
  noTxn := true
  length p := p.isEmpty

/-- CHAIN_ENUM walks the chain and numbers every device. -/
def execChainEnum (c : Cmd) (p : Bytes) (walk : ChainWalk) (s : State) : Host.Outcome State Fault Refusal :=
  .next (s.run chainEnumSpec c p fun s =>
    if !s.head then .fail Status.notPermitted []
    else match s.chainCommit with
      | some h => .fail Status.resourceBusy h
      | none =>
        let (s, result) := s.enumerate walk
        .done s Status.ok result)

/-! ### Status and control (R534, R535) -/

/-- CHAIN_STATUS. -/
def chainStatusSpec : OpSpec where
  code := 0x0301
  noTxn := true
  length p := p.isEmpty

/-- CHAIN_STATUS returns the chain's status, presence, routes and hop counts. -/
def execChainStatus (c : Cmd) (p : Bytes) (s : State) : Host.Outcome State Fault Refusal :=
  .next (s.run chainStatusSpec c p fun s =>
    .done s Status.ok (([Reg.chainStat, Reg.chainMapLo, Reg.chainMapHi, Reg.chainRouteLo, Reg.chainRouteHi].flatMap fun a => le 4 (s.reg a).toNat)
      ++ (List.range 64).flatMap fun d => le 1 ((s.hopsTo d).getD 0xFF)))

/-- The check of a write of CHAIN_CTL: a port excluded in Trim cannot be enabled (R441). -/
def State.chainCtlCheck (s : State) (old new : Word) : Option (Nat × Bytes) :=
  if [0, 1].any fun p => field new (8 + p) (8 + p) = 1 && field old (8 + p) (8 + p) = 0 && s.trimmed (7 + p) then
    some (Status.notPermitted, [])
  else none

/-- What a checked write of CHAIN_CTL does once its word is stored: an enable needs its gate, and a cleared one acts as a
link loss (R535). -/
def State.chainCtlWritten (s : State) (old new : Word) : State :=
  [0, 1].foldl (fun (s : State) p =>
    let a := field old (8 + p) (8 + p)
    let b := field new (8 + p) (8 + p)
    if a = 0 ∧ b = 1 then s.needGate (6 + p)
    else if a = 1 ∧ b = 0 then s.chainLost p 0
    else s) s

/-- CHAIN_PORT_SET. -/
def chainPortSetSpec : OpSpec where
  code := 0x0302
  session0 := true
  noTxn := true
  length p := p.length = 4
  range _ p := num p 0 1 ≤ 1 && num p 1 1 ≤ 1 && num p 2 2 = 0

/-- CHAIN_PORT_SET enables or disables a port. -/
def execChainPortSet (c : Cmd) (p : Bytes) (s : State) : Host.Outcome State Fault Refusal :=
  .next (s.run chainPortSetSpec c p fun s =>
    let old := s.reg Reg.chainCtl
    let new := withField old (8 + num p 0 1) (8 + num p 0 1) (num p 1 1)
    match s.chainCtlCheck old new with
    | some (status, result) => .fail status result
    | none => .done ((s.setReg Reg.chainCtl new).chainCtlWritten old new) Status.ok [])

/-! ### What falls due -/

/-- HOP_RESEND: a frame of kind 2 or 3 unacknowledged for 20 µs is sent once more, on the present path (R523).
(DEDUCED: log 110.) -/
def execHopResend (port seq : Nat) (s : State) : Host.Outcome State Fault Refusal :=
  .next (match s.chain.unacked.find? fun h => h.port == port && h.seq == seq && !h.resent with
    | none => s
    | some h =>
      let s := s.reachElapsed (20000 + h.sent)
      let d := num h.frame 2 1
      let rest := s.chain.unacked.filter (· != h)
      if s.present d && d != s.device && s.route d == port && s.chainLink port then
        ({ s with chain := { s.chain with unacked := rest ++ [{ h with resent := true, sent := s.elapsed }] } }).chainCount port 0
      else
        let s := { s with chain := { s.chain with unacked := rest } }
        if s.present d && d != s.device then
          let q := s.route d
          let n := s.chain.seqs.getD q 0
          let s := s.linkOut q (num h.frame 0 1 % 4) (num h.frame 1 1) d (num h.frame 3 1) (num h.frame 4 2) (num h.frame 6 2)
            (slice h.frame 12 (num h.frame 8 2))
          { s with chain := { s.chain with
            unacked := s.chain.unacked.map fun x => if x.port = q ∧ x.seq = n then { x with resent := true } else x } }
        else s)

/-- DELAY_BLOCK_DUE: delay blocks are exchanged on a port with block lock; stamps in ns, delays in ps (R530). -/
def execDelayBlockDue (port : Nat) (t1 t2 t3 t4 : Int) (s : State) : Host.Outcome State Fault Refusal :=
  .next (
    if s.flag (Reg.chainPortStat port) 0 && s.on .link then
      let m := 500 * ((t4 - t1) - (t3 - t2)) - s.sfld (Reg.chainPortAsym port) 31 0
      let d : Int := s.fld (Reg.chainPortDelay port) 23 0
      let d' := clampInt 0 (2 ^ 24 - 1) (d + roundDiv (m - d) 8)
      s.setFld (Reg.chainPortDelay port) 23 0 d'.toNat
    else s)

/-- TIME_BLOCK_DUE: the head sends a time block on each port; no state of the head changes with it (R531).
(DESIGN CHOICE: log 112.) -/
def execTimeBlockDue (s : State) : Host.Outcome State Fault Refusal := .next s

/-- FORWARDED_TAG_ORPHANED: 1 ms after a device left the chain, a tag outstanding there ends with the outcome unknown
(R525). -/
def execForwardedTagOrphaned (session tag : Nat) (s : State) : Host.Outcome State Fault Refusal :=
  .next (match (s.session session).outstanding.find? fun o => o.origin.tag == tag with
    | none => s
    | some o =>
      match o.work with
      | .forwarded d =>
        match Table.find s.chain.departed d with
        | some t => (s.reachElapsed (1000000 + t)).finish o Status.noSuchDevice [1]
        | none => s
      | _ => s)

end Sys2Proof.Machine
end

