-- ==== Sys2Proof/Machine/Power.lean ====
section
/-! DEFINITION. Power states and clocks (chapter 17): entering and leaving Trim, Doze, Standby and Backup, the clock
monitors, and the loss and return of a PLL. -/

namespace Sys2Proof.Machine

/-! ### Handing outputs to their latches (R385) -/

/-- A quotient rounded to the nearest integer; the manual does not state which way a tie goes.
(DESIGN CHOICE: log 11; DEDUCED: log 80.) -/
def nearest (n d : Nat) : Nat :=
  let q := n / d
  let r := n % d
  if 2 * r < d then q else if d < 2 * r then q + 1 else if Config.roundsUp n d then q + 1 else q

/-- What an output's hold latch holds: a relay drive's level; of a PWM output its hold level, or its duty rounded to
the nearest 1/256. -/
def State.latched (s : State) (k : Nat) : Option Nat :=
  if !s.flag (Reg.outVal k) 16 then none
  else
    let v := s.fld (Reg.outVal k) 15 0
    if 8 ≤ k then some v
    else if s.flag (Reg.outCfg k) 15 then some (roundDiv ((10000 * nearest (v * 256) 10000 : Nat) : Int) 256).toNat
    else some (levelValue k (s.flag (Reg.outCfg k) 27))

/-- Every driven output handed to its hold latch. One held already stays as it is. (DEDUCED: log 80.) -/
def State.holdOutputs (s : State) : State :=
  (List.range 16).foldl (fun (s : State) k =>
    let v := s.latched k
    s.modOutput k fun o => { o with held := o.held <|> v }) s

/-- Every output high-impedance (R384). -/
def State.floatOutputs (s : State) : State :=
  let s := (List.range 16).foldl (fun (s : State) k =>
    (s.modOutput k fun o => { o with held := none }).setFlag (Reg.outVal k) 16 false) s
  { s with meas := { s.meas with holdDue := none } }

/-! ### Stopping the radios, the ports and the packet buffer (R443, R457) -/

/-- A radio's frame in the air completes; one that waits fails (R443, step 1). -/
def State.finishAir (s : State) (n : Nat) : State :=
  match (s.radio n).tx with
  | none => s
  | some t =>
    if s.willEnd n t then s.frameEnds n t
    else if t.phase = .tail then s
    else ((s.modRadio n fun r => { r with tx := none }).setReg (Reg.trxCoexStat n) 0).failShot n t.frame

/-- A radio to OFF, its prepared occurrences dropped: they are unscored (R445). -/
def State.radioDown (s : State) (n : Nat) : State :=
  (s.trxOff n).modRadio n fun r => { r with windows := [], since := s.elapsed }

/-- Contexts are no longer pinned, and their written configurations come into force (R229). -/
def State.unpinAll (s : State) : State :=
  let s := (s.sched.staged.map (·.1)).foldl (fun (s : State) c => s.takeStaged c) s
  { s with sched := { s.sched with pinned := [] } }

/-- An Ethernet port at electrical idle: a link that was up is down, with reason 2. -/
def State.portDown (s : State) (p : Nat) : State :=
  let was := s.linkOn p
  let s := (s.setFlag (Reg.emacStat p) 3 false).setFlag (Reg.emacStat p) 7 false
  let s := s.modPort p fun e => { e with
    syncSince := none, lossSince := none, idle := 0, change := none, pausing := false, pauseOwed := none, quietWindows := 0 }
  if was then (s.linkLost p).raiseLinkDown p 2 else s.loseLine p

/-- Every Ethernet port and both Cordonnet ports down. -/
def State.portsDown (s : State) : State :=
  let s := (List.range 4).foldl (fun (s : State) p => s.portDown p) s
  (s.chainLost 0 0).chainLost 1 0

/-- The packet buffer emptied: frames count in flush_drop of their port nodes (R443, step 3). -/
def State.emptyBuffer (s : State) : State :=
  let s := (List.range 13).foldl (fun (s : State) p => s.flushNode p) s
  let s := s.mac.frames.foldl (fun (s : State) e =>
    let s := match e.2.node with
      | some p => s.tmCount p 9
      | none => s
    match e.2.buffer with
    | some b => s.dropCopy b
    | none => s) s
  let s := s.fwd.inbox.foldl (fun (s : State) x => s.freeBuffer x.buffer) s
  { s with
    mac := { s.mac with frames := [], acks := [] }
    fwd := { s.fwd with inbox := [] }
    tm := { s.tm with held := [] } }

/-- DRAM in self-refresh: every bank is closed. -/
def State.selfRefresh (s : State) : State :=
  if s.flag Reg.dramStat 0 then
    ({ s with dram := { s.dram with openRows := [] } }).setFlag Reg.dramStat 1 true
  else s

/-- No converter start or control cycle is due any more on the old grid. -/
def State.stopGrids (s : State) : State :=
  { s with
    time := { s.time with lastStart := none, lastCycle := none }
    meas := { s.meas with samples := [] }
    ctl := { s.ctl with writes := none } }

/-! ### Domains and sessions -/

/-- PWR_DOM_STAT and PWR_ISO_STAT in a power state (Table 17-1). (DEDUCED: log 92.) -/
def State.setDomains (s : State) (state : Nat) : State :=
  let out := ((List.range 3).filter fun n => !bit s.power.kept n).foldl (fun m n => m + 2 ^ (2 + n)) 0
  let on := match state with
    | 0 => 0x3FF
    | 1 => 0x3FF - out
    | 2 => 0x83
    | _ => 0
  let retained := match state with
    | 2 => 2
    | 3 => 3
    | _ => 0
  (s.setReg Reg.pwrDomStat (word (on + retained * 2 ^ 16))).setReg Reg.pwrIsoStat (word (0x3FF - on))

/-- Every session ends without a reply (R55): rings, replay caches, transactions and what armed them. -/
def State.endSessions (s : State) : State :=
  let left := (List.range 4).flatMap fun n => if (s.session n).ep = some .spi then (s.session n).held else []
  { s with host := { s.host with
    sessions := List.replicate 4 {}, rings := List.replicate 4 {}, spiLeft := s.host.spiLeft ++ left, snaps := [] } }

/-- The time base restarts at 0 in FREE, with TIME_FREQ at 0 (R316). -/
def State.restartTime (s : State) : State :=
  let s := { s with time := { s.time with
    now := 0, rest := 0, slew := 0, settled := 0, heldSince := none, lockedSince := none, lockedNs := 0, freqs := []
    master := [0, 0, 0, 0, 0, 0, 0, 0], masters := [], lastStart := none, lastCycle := none, stepped := false } }
  let s := ((s.setFld Reg.timeState 2 0 0).setSlave 0xF).setReg Reg.timeFreq 0
  { s with
    meas := { s.meas with samples := [], caps := s.meas.caps.map fun (c : Capture) => { c with lastEdge := none } }
    ctl := { s.ctl with writes := none } }

/-! ### Entering a state (R441 to R443) -/

/-- The first block excluded in PWR_TRIM_CFG that is in use, as its gate bit (R441). -/
def State.trimBlocked (s : State) : Option Nat :=
  let kept := s.fld Reg.pwrTrimCfg 8 0
  (((List.range 3).filter fun n => !bit kept n && s.trx n != 0).map fun n => 1 + n).head?
    <|> (((List.range 2).filter fun p => !bit kept (7 + p) && s.flag Reg.chainCtl (8 + p)).map fun p => 6 + p).head?
    <|> (((List.range 4).filter fun p => !bit kept (3 + p) && s.ethOn p).map fun p => 9 + p).head?

/-- What keeps the device from Doze, Standby or Backup (R442, R495). -/
def State.lowBlocked (s : State) (target : Nat) : Option Bytes :=
  let txn := ((List.range 4).find? fun n => (s.session n).txn.state == .pending).map fun n =>
    [0] ++ le 1 n ++ le 2 (s.session n).txn.tag
  let commit := if (s.ctl.commit.getD 0) = 0 then none else s.holder fun o => o.work == .programCommit
  let pulse := if target = 2 then none else
    ((List.range 4).find? fun k => s.flag (Reg.plsCtl k) 0).map fun k => [1] ++ le 1 k
  txn <|> (s.holder fun o => o.work == .rtcSet) <|> commit <|> (s.holder fun o => o.work.isWave) <|> pulse
    <|> s.holder fun o => o.work == .attest

/-- Steps 1 to 6 of R443, before the final reply. (DEDUCED: log 92.) -/
def State.enterLow (s : State) (target : Nat) : State :=
  let s := { s with power := { s.power with fired := 0, exitSince := none, entering := some target } }
  let s := s.setFlag Reg.pwrState 3 true
  let s := (List.range 3).foldl (fun (s : State) n => (s.finishAir n).radioDown n) s
  let s := (s.unpinAll.portsDown.emptyBuffer).selfRefresh.stopGrids
  if target = 3 then s.holdOutputs
  else if target = 4 then (s.floatOutputs.erasePages 0xFFFF).eraseTransport
  else s

/-- PWR_STATE_CHANGED. (DEDUCED: log 92.) -/
def State.raisePower (s : State) (old new cause : Nat) : State := s.raise 0x6000 0 (le 1 old ++ le 1 new ++ le 1 cause)

/-- Step 8 of R443: islands are powered down or retained, and, for Standby and Backup, every session ends.
(DEDUCED: log 92.) -/
def State.finishEntry (s : State) : State :=
  match s.power.entering with
  | none => s
  | some t =>
    let old := s.powerState
    let s := s.settleTimers
    let s := if t = 2 then s else
      let s := (s.closeDebug 4).voidNonce.endSessions
      { s with pins := { s.pins with alive := false } }
    let s := ((s.setFld Reg.pwrState 2 0 t).setFlag Reg.pwrState 3 s.power.exitSince.isSome).setDomains t
    let s := s.setGates (if t = 2 then s.fld Reg.clkGateCtl 14 14 * 2 ^ 14 else 0)
    let s := if t = 2 then s.setFld Reg.clkPllStat 3 2 0 else s.setFld Reg.clkPllStat 9 0 0
    let s := { s with power := { s.power with
      entering := none, exitSince := s.power.exitSince.map fun _ => s.elapsed } }
    if t = 2 then
      let s := { s with time := { s.time with masters := [] } }
      (s.setSlave 0xF).loseSource.raisePower old 2 0xFF
    else s

/-! ### Leaving a low-power state (R447, R448) -/

/-- The gates that present requests need (R453). (DEDUCED: log 93.) -/
def State.neededGates (s : State) : State :=
  let radios := (List.range 3).filter fun n => s.trxReq n != 0 && !s.radioOut n && !s.trimmed n
  let s := radios.foldl (fun (s : State) n => s.needGate (1 + n)) s
  let s := if radios.isEmpty then s else s.needGate 4
  let s := (List.range 2).foldl (fun (s : State) p =>
    if s.flag Reg.chainCtl (8 + p) && !s.trimmed (7 + p) then s.needGate (6 + p) else s) s
  let s := (List.range 4).foldl (fun (s : State) p => if s.ethOn p && !s.trimmed (3 + p) then s.needGate (9 + p) else s) s
  let s := if s.flag Reg.measCtl 0 || (List.range 18).any fun i => s.fld (Reg.measInCfg i) 1 0 != 0 then s.needGate 13 else s
  s.needGate 14

/-- The lowest-numbered exit source that fired, 0xFF for none. (DEDUCED: log 93.) -/
def State.exitCause (s : State) : Nat := ((bitsSet 9 s.power.fired).head?).getD 0xFF

/-- What an exit from Standby restores beside the islands: the time base restarts, firmware resumes, and the limit on held
outputs counts from here (R316, R385, R448). (DEDUCED: log 93.) -/
def State.resume (s : State) : State :=
  let s := s.restartTime.setFld Reg.sysResetCause 7 0 8
  let stopped := s.rtc.stopped
  let s := if stopped then ((s.setFlag Reg.clkSrcStat 4 true).setFlag Reg.clkFail 1 true).startTick else s
  let held := s.meas.outs.any fun o => o.held.isSome
  { s with
    meas := { s.meas with holdDue := if held then some (10000000000 + s.elapsed) else none }
    boot := { s.boot with watchdogDue := s.elapsed + 1000000 * s.fld Reg.sysWdtCfg 15 0 }
    pins := { s.pins with alive := true } }

/-- Run or Trim entered, from any state but Backup. (DEDUCED: log 93.) -/
def State.enterRun (s : State) (target cause : Nat) : State :=
  let old := s.powerState
  let s := s.settleTimers
  let s := if 2 ≤ old then
      ((s.setFld Reg.clkPllStat 4 0 0x1F).setFlag Reg.clkPllStat 9 true).setFld Reg.pwrState 15 8 s.exitCause
    else s
  let s := s.setFlag Reg.pwrState 3 false
  let s := (s.setFld Reg.pwrState 2 0 target)
  let s := if target = 1 then { s with power := { s.power with kept := s.fld Reg.pwrTrimCfg 8 0 } } else s
  let s := s.setDomains target
  let s := if s.flag Reg.clkSrcStat 3 then s.setFld Reg.clkPllStat 8 0 0 else s.setFlag Reg.dramStat 1 false
  let s := if old = 3 then s.resume else s
  let s := (List.range 3).foldl (fun (s : State) n => if s.trx n = 0 then s.modRadio n fun r => { r with since := s.elapsed } else s) s
  let s := if target = 1 then
      let k := s.power.kept
      let cut := ((List.range 3).filter fun n => !bit k n).map (1 + ·) ++ ((List.range 2).filter fun p => !bit k (7 + p)).map (6 + ·)
        ++ ((List.range 4).filter fun p => !bit k (3 + p)).map (9 + ·)
      s.setGates ((bitsSet 15 (s.fld Reg.clkGateCtl 14 0)).foldl (fun g b => if cut.contains b then g else g + 2 ^ b) 0)
    else s
  let s := if old = 0 then s else s.neededGates
  let s := { s with power := { s.power with fired := 0, exitSince := none } }
  if old ≤ 2 then s.raisePower old target cause else s

/-- LOW_POWER_EXIT: an exit source has requested the exit, and the device returns to Run or Trim. (DEDUCED: log 93.) -/
def execLowPowerExit (s : State) : Host.Outcome State Fault Refusal :=
  .next (
    match s.power.exitSince with
    | none => s
    | some t =>
      if !s.asleep then s
      else
        let s := s.reachElapsed (t + (if s.powerState = 2 then 1500000 else 30000000))
        s.enterRun (if s.flag Reg.pwrCtl 0 then 1 else 0) s.exitCause)

/-- POWER_STATE. -/
def powerStateSpec : OpSpec where
  code := 0x0003
  timeout := 100
  session0 := true
  noTxn := true
  length p := p.length = 1
  range _ p := num p 0 1 ≤ 4

/-- POWER_STATE checks holders, and enters Trim, Doze, Standby or Backup, or returns to Run; the last step follows its final
reply. (DEDUCED: log 92.) -/
def execPowerState (c : Cmd) (p : Bytes) (s : State) : Host.Outcome State Fault Refusal :=
  .next (s.run powerStateSpec c p fun s =>
    let t := num p 0 1
    if t = s.powerState then .done s Status.ok []
    else if t ≤ 1 then
      match (if t = 1 then s.trimBlocked else none) with
      | some b => .fail Status.resourceBusy (le 1 b ++ [1])
      | none =>
        let s := if s.powerState = 2 then
            ({ s with power := { s.power with fired := Nat.lor s.power.fired 256 } }).setFlag Reg.pwrWakeSrc 8 true
          else s
        .done (s.enterRun t 0xFF) Status.ok []
    else match s.lowBlocked t with
      | some h => .fail Status.resourceBusy h
      | none => .done (s.enterLow t) Status.ok []).finishEntry

/-! ### Clock monitors (R456 to R459) -/

/-- The good counts of a source. (DEDUCED: log 94.) -/
def goodCount (source count : Nat) : Bool :=
  match source with
  | 0 => decide (35330 ≤ count) && decide (count ≤ 41470)
  | 1 => decide (965 ≤ count) && decide (count ≤ 1133)
  | _ => decide (22080 ≤ count) && decide (count ≤ 25920)

/-- The TCXO has failed: CTRL alone goes on, from the RC oscillator (R457). (DEDUCED: log 94.) -/
def State.tcxoFails (s : State) (count : Nat) : State :=
  let s := (s.setFlag Reg.clkSrcStat 0 false).setFlag Reg.clkFail 0 true
  let s := if s.flag Reg.clkSrcStat 2 then
      let s := s.settleTimers
      let s := (List.range 3).foldl (fun (s : State) n => (s.abortTx n).radioDown n) s
      let s := (s.unpinAll.portsDown).selfRefresh.stopGrids
      let s := s.holdOutputs
      let s := s.setFld Reg.clkPllStat 8 0 0
      (s.setFlag Reg.clkSrcStat 3 true).wakeSource 6
    else s
  (s.raise 0x6001 3 ([0, 0] ++ le 4 count)).setSvc 12

/-- The RC oscillator has failed: no clock is switched (R459). (DEDUCED: log 94.) -/
def State.rcFails (s : State) (count : Nat) : State :=
  ((s.setFlag Reg.clkSrcStat 2 false).setFlag Reg.clkFail 2 true).raise 0x6001 3 ([2, 0] ++ le 4 count)

/-- A source is good again after 100 good windows; the tick returns to the crystal (R457, R458). (DEDUCED: log 94.) -/
def State.sourceGood (s : State) (source : Nat) : State :=
  let s := s.setFlag Reg.clkSrcStat source true
  if source = 1 then
    (s.setFlag Reg.clkSrcStat 4 false).startTick
  else s

/-- CLOCK_MONITOR_WINDOW: a monitor window ends with its count. (DEDUCED: log 94.) -/
def execClockMonitorWindow (source count : Nat) (s : State) : Host.Outcome State Fault Refusal :=
  .next (
    if !s.flag Reg.clkPllStat 9 || 2 < source then s
    else
      let good := goodCount source count
      let failing := if good then 0 else s.power.failing.getD source 0 + 1
      let run := if good then min 100 (s.power.good.getD source 0 + 1) else 0
      let s := s.setFld (Reg.clkMonCnt source) 15 0 (min count 65535)
      let s := if good then s else s.bumpFld (Reg.clkMonCnt source) 31 16
      let s := { s with power := { s.power with
        failing := setAt s.power.failing source fun _ => failing, good := setAt s.power.good source fun _ => run } }
      let was := s.flag Reg.clkSrcStat source
      if was && (count == 0 || decide (2 ≤ failing)) then
        match source with
        | 0 => s.tcxoFails count
        | 1 => s.crystalFails count
        | _ => s.rcFails count
      else if !was && run == 100 then s.sourceGood source
      else s)

/-- PLL_LOCK_LOSS: a PLL loses lock; its island's clock stops, and the loss is scored (R459).
(DEDUCED: log 94; DESIGN CHOICE: log 95.) -/
def execPllLockLoss (pll : Nat) (s : State) : Host.Outcome State Fault Refusal :=
  .next (
    if !s.flag Reg.clkPllStat pll || 9 ≤ pll then s
    else
      let s := s.setFlag Reg.clkPllStat pll false
      let s := (s.setFlag Reg.clkFail 3 true).setFld Reg.clkFail 15 8 pll
      let (x, s) := s.draw
      let s := s.raise 0x6001 3 ([3] ++ le 1 pll ++ le 4 x)
      (s.unitError 9 pll).wakeSource 6)

/-- The gate without which a PLL stands still. -/
def pllGate (pll : Nat) : Option Nat :=
  match pll with
  | 5 => some 0
  | 6 => some 5
  | 7 => some 8
  | 8 => some 14
  | _ => none

/-- PLL_RELOCK: a PLL that had lost its lock relocks, and its island's clock restarts. (DEDUCED: log 94.) -/
def execPllRelock (pll : Nat) (s : State) : Host.Outcome State Fault Refusal :=
  .next (
    let gated := match pllGate pll with
      | some g => s.flag Reg.clkGateCtl g
      | none => s.awake || [0, 1, 4].contains pll
    if s.flag Reg.clkPllStat pll || 9 ≤ pll || s.flag Reg.clkSrcStat 3 || !gated || 2 < s.powerState then s
    else s.setFlag Reg.clkPllStat pll true)

end Sys2Proof.Machine
end

