-- ==== Sys2Proof/Machine/RegRead.lean ====
section
/-! DEFINITION. Reading registers: where each lies, what a register that shows live state reads, the readers'
snapshots (R16 to R20), and the opcodes that read. -/

namespace Sys2Proof.Machine

/-! ### Where a register lies (Table 24-1, R15) -/

/-- The island of a register. The parts of WMAC, SCHED and SEARCH that no radio owns lie outside any one radio. -/
def islandOf (a : Nat) : Option Island :=
  let block := a / 65536
  let off := a % 65536
  match block with
  | 0x01 => some .link
  | 0x02 => some .sec
  | 0x10 => some .trx0
  | 0x11 => some .trx1
  | 0x12 => some .trx2
  | 0x13 => if off < 0x300 then some (Island.trx (off / 256)) else some .lane
  | 0x14 => if off < 0x300 then some (Island.trx (off / 256)) else none
  | 0x15 => if off < 0x300 then some (Island.trx (off / 256)) else none
  | 0x20 => some .pkt
  | 0x21 => some .pkt
  | 0x22 => some .pkt
  | 0x30 => some .pkt
  | 0x40 => some .meas
  | 0x50 => some .sec
  | 0x51 => some .mem
  | _ => none

/-- The clock gate of an island (Table 17-5). (DEDUCED: log 24.) -/
def islandGate : Island → Option Nat
  | .trx0 => some 1
  | .trx1 => some 2
  | .trx2 => some 3
  | .lane => some 4
  | .link => some 5
  | _ => none

/-- An access to the register's island is refused: it is powered down or in retention (R15). (DEDUCED: log 24.) -/
def State.unpowered (s : State) (a : Nat) : Bool :=
  match islandOf a with
  | some i => !s.powered i
  | none => false

/-- The clock gate that an access needs, set (R15). (DEDUCED: log 24.) -/
def State.openGate (s : State) (a : Nat) : State :=
  match (islandOf a).bind islandGate with
  | some b => if s.flag Reg.clkGateCtl b then s else s.needGate b
  | none => s

/-- The destination of an access has no clock, so that its handshake never completes (R14). (DEDUCED: log 24.) -/
def State.deaf (s : State) (a : Nat) : Bool :=
  match islandOf a with
  | some i => !s.clocked i
  | none => false

/-- An access abandoned after 100 µs, with an error scored against its crossing (R14). (DEDUCED: log 24.) -/
def State.abandon (s : State) (a : Nat) : State :=
  (s.passNs 100000).unitError 10 (((islandOf a).map Island.number).getD 0)

/-! ### Registers that show live state -/

/-- A signed value as a register word, saturated. -/
def showInt (v : Int) : Word := word (unsigned 32 (saturate 32 v))

/-- Tokens as TM_PORT_TOK and TM_SVC_TOK show them: signed bytes. -/
def State.showTokens (s : State) (k : Nat) : Word := showInt (roundDiv (s.tokensNow k) 8000)

/-- Client contexts that are valid, and those of them that are LOST. -/
def State.clientCounts (s : State) : Nat × Nat :=
  let valid := s.sched.contexts.filter fun e => bit (num e.2 2 1) 0
  (valid.length, (valid.filter fun e => bits (num e.2 2 1) 2 1 == 3).length)

/-- FWD_L3_STAT: prefixes valid, and next hops that do not discard. -/
def State.l3Stat (s : State) : Nat :=
  (s.fwd.routes.filter fun e => bit (num e.2 0 1) 0).length
    + 65536 * (s.fwd.nextHops.filter fun e => num e.2 0 1 != 2).length

/-- What a readable register holds now, by its row and indexes. -/
def State.liveAt (s : State) (base i j a : Nat) : Word :=
  if base = Reg.sysSummary then s.summary
  else if base = Reg.sysSessionStat then s.sessionStat
  else if base = Reg.timeNowSecLo then word s.seconds
  else if base = Reg.timeNowSecHi then word (s.seconds / 2 ^ 32)
  else if base = Reg.timeNowNs then word s.nanos
  else if base = Reg.timeNowFrac then word (s.time.now % 65536)
  else if base = Reg.timeState then withField (s.reg a) 31 16 (min 65535 s.heldSeconds)
  else if base = Reg.timeSlew then showInt s.slewLeft
  else if base = Reg.timeSqStat 0 then withField (s.reg a) 5 5 (bitOf (!s.ptpOn i))
  else if base = Reg.tmPortTok 0 then s.showTokens i
  else if base = Reg.tmSvcTok 0 then s.showTokens (svcKey i)
  else if base = Reg.tmrCnt 0 then word (s.count i)
  else if base = Reg.rtcSsec then word s.ssec
  else if base = Reg.rtcWakeCnt then word s.wakeUnits
  else if base = Reg.fwdMacStat then
    word ((s.fwd.mac.filter fun e => bit (num e.2 8 1) 0).length + 65536 * (s.fwd.mac.filter fun e => bit (num e.2 8 1) 1).length)
  else if base = Reg.fwdL3Stat then word s.l3Stat
  else if base = Reg.fwdAclStat then word (s.fwd.acl.filter fun e => bit (num e.2 0 1) 0).length
  else if base = Reg.ctlpGrpCnt 0 then word ((s.group i).members + 65536 * (s.group i).fresh)
  else if base = Reg.ctlpGrpFlt 0 then word ((s.group i).faults + 65536 * ((s.group i).members - (s.group i).fresh))
  else if base = Reg.ctlpGrpPwr 0 then word (unsigned 32 (s.group i).power)
  else if base = Reg.serStat 0 then withField (s.reg a) 20 11 ((s.serial i).tx.length - s.charsSent i)
  else if base = Reg.searchSbActLo 0 then word (s.activeSubs i)
  else if base = Reg.searchSbActHi 0 then word (s.activeSubs i / 2 ^ 32)
  else if base = Reg.searchNf 0 0 then
    word (((List.range 4).map fun k => s.noiseFloor i (4 * j + k) * 256 ^ k).sum)
  else if base = Reg.schedOcc 0 then word (unsigned 32 (s.occurrenceAt i (s.netNs : Int)))
  else if base = Reg.schedResStat then word (s.sched.resident.length + 65536 * s.sched.pinned.length)
  else if base = Reg.schedClients then word (s.clientCounts.1 + 65536 * s.clientCounts.2)
  else if base = Reg.pltMapLo 0 then word (s.plait i).map
  else if base = Reg.pltMapHi 0 then word ((s.plait i).map / 2 ^ 32)
  else if base = Reg.darnCnt 0 then word (s.darn.counts.getD i 0)
  else if base = Reg.darnClassStat 0 then (if 4 ≤ i ∧ Config.readsCounter a then word (s.darn.counts.getD (i - 4) 0) else s.reg a)
  else if base = Reg.trxState 0 then withField (s.reg a) 7 4 (s.trxReq i)
  else if base = Reg.secDbgStat then withField (s.reg a) 31 16 (min 65535 s.debugMinutes)
  else s.reg a

/-- What a register reads now; a write-only register reads 0 (R5). (DESIGN CHOICE: log 116.) -/
def State.live (s : State) (a : Nat) : Word :=
  match findReg a with
  | some (r, i, j) => if r.access = .wo then 0 else s.liveAt r.base i j a
  | none => 0

/-! ### Snapshots (R16 to R20, R350) -/

/-- The other words of the value whose latching word lies at an address. -/
def latchedWith (base a : Nat) : List Nat :=
  if base = Reg.timeNowSecLo then [a + 4, a + 8, a + 12]
  else if base = Reg.rtcSec then calendarRegs.drop 1
  else if base = Reg.pltRx 0 then [a + 4, a + 8]
  else if base = Reg.measWin 0 then (List.range 18).map fun k => a + 4 + 4 * k
  else [a + 4]

/-- The key of a requester's snapshot word (R17). (DEDUCED: log 25.) -/
def snapKey (requester a : Nat) : Nat := requester * 2 ^ 24 + a

/-- A requester's calendar snapshot that is older than 2 ms has ended (R350). (DEDUCED: log 25.) -/
def State.ageCalendar (s : State) (requester : Nat) : State :=
  match Table.find s.rtc.snaps requester with
  | some t => if 2000000 + t ≤ s.elapsed then s.dropCalendar requester else s
  | none => s

/-- The snapshot that a read of a latching word takes. (DEDUCED: log 25.) -/
def State.latch (s : State) (requester base a : Nat) : State :=
  let s := if base = Reg.rtcSec then { s with rtc := { s.rtc with snaps := Table.put s.rtc.snaps requester s.elapsed } } else s
  { s with host := { s.host with
      snaps := (latchedWith base a).foldl (fun (t : Table Word) x => Table.put t (snapKey requester x) (s.live x)) s.host.snaps } }

/-- One word read by a requester. -/
def State.readWord (s : State) (requester a : Nat) : Word × State :=
  match findReg a with
  | none => (0, s)
  | some (r, _, _) =>
    let s := s.ageCalendar requester
    if r.access = .rsn then (s.live a, s.latch requester r.base a)
    else
      let v := (Table.find s.host.snaps (snapKey requester a)).getD (s.live a)
      (v, if a = Reg.rtcYear then s.dropCalendar requester else s)

/-- Consecutive words read by a requester. -/
def State.readWords (s : State) (requester a : Nat) : Nat → Bytes × State
  | 0 => ([], s)
  | n + 1 =>
    let (v, s) := s.readWord requester a
    let (rest, s) := s.readWords requester (a + 4) n
    (le 4 v.toNat ++ rest, s)

/-- An access of a command to registers: refused, abandoned, or made. -/
def State.accessing (s : State) (addresses : List Nat) (body : State → Verdict) : Verdict :=
  if addresses.any s.unpowered then .fail Status.notPermitted []
  else
    let s := addresses.foldl (fun (s : State) a => s.openGate a) s
    match addresses.find? s.deaf with
    | some a => .done (s.abandon a) Status.internalFault []
    | none => body s

/-- REG_READ. -/
def regReadSpec : OpSpec where
  code := 0x0200
  timeout := 100
  length p := p.length == 4
  range _ p := regExists (num p 0 4)

/-- REG_READ returns one register word. -/
def execRegRead (c : Cmd) (p : Bytes) (s : State) : Host.Outcome State Fault Refusal :=
  .next (s.run regReadSpec c p fun s =>
    s.accessing [num p 0 4] fun s =>
      let (v, s) := s.readWord c.session (num p 0 4)
      .done s Status.ok (le 4 v.toNat))

/-- The words of a block. -/
def blockAddresses (p : Bytes) : List Nat := (List.range (num p 4 2)).map fun k => num p 0 4 + 4 * k

/-- REG_READ_BLOCK. -/
def regReadBlockSpec : OpSpec where
  code := 0x0202
  timeout := 100
  length p := p.length == 6
  range _ p := 1 ≤ num p 4 2 && num p 4 2 ≤ 1019 && (blockAddresses p).all regExists

/-- REG_READ_BLOCK returns consecutive words. -/
def execRegReadBlock (c : Cmd) (p : Bytes) (s : State) : Host.Outcome State Fault Refusal :=
  .next (s.run regReadBlockSpec c p fun s =>
    s.accessing (blockAddresses p) fun s =>
      let (b, s) := s.readWords c.session (num p 0 4) (num p 4 2)
      .done s Status.ok b)

/-- LATCHING_WORD_READ: a requester (sessions 0 to 3, processors 4 and 5, the control program engine 6, the darning engine
7) reads a latching word. -/
def execLatchingWordRead (requester address : Nat) (s : State) : Host.Outcome State Fault Refusal :=
  .next (match findReg address with
    | some (r, _, _) =>
      if r.access = .rsn ∧ ¬ s.unpowered address ∧ ¬ s.deaf address then (s.readWord requester address).2 else s
    | none => s)

end Sys2Proof.Machine
end

