-- ==== Sys2Proof/Machine/RegWrite.lean ====
section
/-! DEFINITION. Writing registers: the checks of R5, R15 and R590 and of the chapters that own the registers, what a
write does beyond storing its word, and REG_WRITE with the rows for registers whose writes have an effect. -/

namespace Sys2Proof.Machine

/-! ### A write on its way -/

/-- A write of one register: its row and indexes, its address, the mask, and its word before and after. -/
structure RegWrite where
  row : RegRow
  i : Nat
  j : Nat
  address : Nat
  mask : Word
  old : Word
  new : Word
  deriving DecidableEq, Repr

/-- The word a write leaves, from the word that stands (R5, R66). -/
def mergeWrite (r : RegRow) (old mask value : Word) : Word :=
  let m := mask &&& r.mask
  match r.access with
  | .w1c => old &&& ~~~(m &&& value)
  | _ => (old &&& ~~~m) ||| (value &&& m)

/-- A write of the register at an address, if there is one. -/
def State.writeOf (s : State) (a : Nat) (mask value : Word) : Option RegWrite :=
  (findReg a).map fun (r, i, j) =>
    let old := if r.base = Reg.tmrCnt 0 then word (s.count i) else s.reg a
    { row := r, i := i, j := j, address := a, mask := mask, old := old, new := mergeWrite r old mask value }

/-- Whether a write changes a field (R590). -/
def RegWrite.touches (w : RegWrite) (hi lo : Nat) : Bool := field w.mask hi lo != 0

/-- A field within its stated values. -/
def FieldRange.holds (f : FieldRange) (w : Word) : Bool :=
  let v : Int := if f.signed then fieldInt w f.hi f.lo else (field w f.hi f.lo : Int)
  decide (f.least ≤ v) && decide (v ≤ f.greatest)

/-- Step 13 of a register write: each field with a bit in the mask lies within its stated values (R590). The class of
configuration slots uses only one field of its word (Table 21-13). -/
def RegWrite.fieldsOk (w : RegWrite) : Bool :=
  w.row.fields.all fun f => !w.touches f.hi f.lo || f.holds w.new
    || (w.row.base == Reg.darnClassCfg 0 && w.i == 6 && f.lo != 24)

/-! ### The checks of the chapters -/

/-- A refusal where a condition fails. -/
def unlessOk (ok : Bool) : Refused := if ok then none else some (Status.paramRange, [])

/-- R193: the listen-before-talk settings no looser than the certificate's for the band of the centre frequency. -/
def State.lbtCheck (s : State) (n : Nat) (new : Word) : Refused :=
  match s.bandListen (s.bandAt (s.synFreq n)) with
  | some (t, m) => if field new 0 0 = 0 ∨ t < fieldInt new 15 8 ∨ field new 31 16 < m then some (Status.regLocked, []) else none
  | none => none

/-- R224: a pattern length that ends before a valid client's stitch. (DEDUCED: log 27.) -/
def State.patternOk (s : State) (n : Nat) (new : Word) : Bool :=
  s.sched.contexts.all fun e => !(bit (num e.2 2 1) 0 && bits (num e.2 3 1) 1 0 == n)
    || decide ((num e.2 8 3 + num e.2 7 1) * 250 ≤ field new 15 0 * 1000)

/-- The conditions of a meter (R305, Table 10-9) on its two words. (DEDUCED: log 27.) -/
def meterOk (rate burst : Word) : Bool :=
  let cir := field rate 15 0
  let pir := field rate 31 16
  (if field burst 13 13 = 1 then decide (cir ≤ pir) else pir == 0)
    && (field burst 12 12 == 0 || (field burst 11 0 != 0 && field burst 27 16 != 0))

/-- The order of a drop profile (R308): red, yellow, green. (DEDUCED: log 27.) -/
def dropOk (gy red : Word) : Bool := decide (field red 14 0 ≤ field gy 30 16) && decide (field gy 30 16 ≤ field gy 14 0)

/-- A radio or port excluded in Trim cannot be used (R441). -/
def State.enableCheck (s : State) (unit : Nat) (old new : Word) : Refused :=
  if field old 0 0 = 0 ∧ field new 0 0 = 1 ∧ s.trimmed unit then some (Status.notPermitted, []) else none

/-- The check of a calendar write, at staging its value alone (R351, R352, R355). (DEDUCED: log 27.) -/
def calendarCheck (staged ok : Bool) (check : Refused) : Refused :=
  if staged then (if ok then none else some (Status.dateInvalid, [])) else check

/-- What the owning chapter checks of a write, beyond the values of its fields. (DEDUCED: log 27.) -/
def State.ownCheck (s : State) (w : RegWrite) (staged : Bool) : Refused :=
  let b := w.row.base
  let i := w.i
  let old := w.old
  let new := w.new
  if b = Reg.trxStateCtl 0 then (if w.touches 3 0 then s.stateCtlCheck i old new else none)
  else if b = Reg.trxSynFreq 0 then s.synFreqCheck i new
  else if b = Reg.trxHopFreq 0 then s.hopFreqCheck i new
  else if b = Reg.trxTxPwr 0 then (if w.touches 7 0 then s.txPwrCheck i new else none)
  else if b = Reg.profCfg 0 0 then profCfgCheck new
  else if b = Reg.profSync 0 0 then profSyncCheck new
  else if b = Reg.filetCfg 0 then (if w.touches 1 1 || w.touches 15 8 then filetCfgCheck new else none)
  else if b = Reg.poolRes then s.poolCheck new (s.reg Reg.poolCap)
  else if b = Reg.poolCap then s.poolCheck (s.reg Reg.poolRes) new
  else if b = Reg.wmacLbt 0 then s.lbtCheck i new
  else if b = Reg.wmacBo 0 then
    unlessOk (!w.touches 23 16 || (decide (field new 19 16 ≤ field new 23 20) && decide (field new 23 20 ≤ 10)))
  else if b = Reg.schedPat 0 then unlessOk (!w.touches 15 0 || s.patternOk i new)
  else if b = Reg.schedPhase 0 then unlessOk (decide (field new 15 0 < s.fld (Reg.schedPat i) 15 0))
  else if b = Reg.emacCtl 0 then s.emacCtlCheck i new <|> s.enableCheck (3 + i) old new
  else if b = Reg.timePtpCfg 0 then s.ptpCheck i old new
  else if b = Reg.fwdAge then
    unlessOk (field new 19 0 == 0 || (decide (10 ≤ field new 19 0) && decide (field new 19 0 ≤ 1000000)))
  else if b = Reg.fwdExcCfg 0 then unlessOk (!w.touches 1 0 || field new 1 0 != 3 || i == 0 || i == 3)
  else if b = Reg.tmDropGy 0 then unlessOk (dropOk new (s.reg (Reg.tmDropR i)))
  else if b = Reg.tmDropR 0 then unlessOk (dropOk (s.reg (Reg.tmDropGy i)) new)
  else if b = Reg.tmPortShape 0 ∨ b = Reg.tmSvcShape 0 ∨ b = Reg.tmSubShape 0 then
    unlessOk (field new 15 0 == 0 || field new 31 16 != 0)
  else if b = Reg.tmMtrRate 0 then unlessOk (meterOk new (s.reg (Reg.tmMtrBurst i)))
  else if b = Reg.tmMtrBurst 0 then unlessOk (meterOk (s.reg (Reg.tmMtrRate i)) new)
  else if b = Reg.timeCycCfg then unlessOk (decide (field new 25 16 < field new 9 0))
  else if b = Reg.plsCtl 0 then s.pulseCheck i old new
  else if b = Reg.rtcCtl then
    s.rtcFree (unlessOk (wakeOk new (s.reg Reg.rtcWake)))
  else if b = Reg.rtcWake then unlessOk (wakeOk (s.reg Reg.rtcCtl) new)
  else if b = Reg.rtcTimeW then calendarCheck staged (timeWOk new) (s.timeWCheck new)
  else if b = Reg.rtcDateW then calendarCheck staged (dateWOk new) (s.dateWCheck new)
  else if b = Reg.measInCfg 0 then s.inputCheck old new
  else if b = Reg.dramPortCfg 0 then
    unlessOk (!w.touches 13 8 || i == 4 || (decide (8 ≤ field new 13 8) && decide (field new 13 8 ≤ 32)))
  else if b = Reg.tmrCtl 0 then s.timerCtlCheck i old new
  else if b = Reg.tmrCnt 0 then (if s.flag (Reg.tmrCtl i) 0 then some (Status.notPermitted, []) else none)
  else if b = Reg.tmrPre 0 then unlessOk (decide (8 ≤ i) || field new 15 0 == 0)
  else if b = Reg.tmrCapCfg 0 then unlessOk (!w.touches 2 1 || field new 2 1 != 0)
  else if b = Reg.tmrGo then (if 2 ≤ s.powerState then some (Status.notPermitted, []) else none)
  else if b = Reg.clkGateCtl then s.gateCheck old new
  else if b = Reg.clkSsc 0 then s.spreadCheck i new
  else if b = Reg.chainCtl then s.chainCtlCheck old new
  else none

/-- Step 14 of a register write: its access type (Table 0-3, R467) and its island (R15). -/
def State.accessCheck (s : State) (w : RegWrite) (txn : Bool) : Refused :=
  let refuse : Refused := some (Status.notPermitted, [])
  match w.row.access with
  | .ro => refuse
  | .rsn => refuse
  | .seal => if s.isSealed then refuse else none
  | .txn => if txn then none else refuse
  | _ => if w.row.base = Reg.sysWdtKick then refuse else if s.unpowered w.address then refuse else none

/-- All the checks of a register write, steps 13 and 14. -/
def State.writeCheck (s : State) (w : RegWrite) (txn staged : Bool) : Refused :=
  let own := s.ownCheck w staged
  let inStep13 := match own with
    | some (status, _) => status == Status.paramRange
    | none => false
  let writable := w.row.mask != 0
  if writable && !w.fieldsOk then some (Status.paramRange, [])
  else if inStep13 then own
  else (s.accessCheck w txn <|> (if s.unpowered w.address then some (Status.notPermitted, []) else none)) <|> own

/-! ### What a write does -/

/-- The word of a write stored. -/
def State.store (s : State) (w : RegWrite) : State := s.setReg w.address w.new

/-- Both buckets of a meter after a write of its registers (R306). -/
def State.meterWritten (s : State) (m : Nat) (before : Meter) (was : Bool) : State :=
  let cbs : Int := (s.meterCbs m : Int)
  let ebs : Int := (s.meterEbs m : Int)
  let fresh := !was && s.flag (Reg.tmMtrBurst m) 12
  let t := { before with
    tc := if fresh then cbs else min cbs before.tc
    te := if fresh then ebs else min ebs before.te
    at_ := s.micros }
  { s with tm := { s.tm with meters := Table.put s.tm.meters m t } }

/-- A write of a meter's registers. -/
def State.writeMeter (s : State) (w : RegWrite) : State :=
  let before := s.meterNow w.i
  let was := s.flag (Reg.tmMtrBurst w.i) 12
  (s.store w).meterWritten w.i before was

/-- A write of a shaper: a changed rate or burst empties the bucket (R301). -/
def State.writeShape (s : State) (w : RegWrite) (key : Nat) : State :=
  let s := s.store w
  if w.old = w.new then s else s.setTokens key 0

/-- A write that may change a node's parent, which sets its deficit to 0 (R298). -/
def State.writeParent (s : State) (w : RegWrite) (key parentHi : Nat) : State :=
  let s := s.store w
  if field w.old parentHi 0 = field w.new parentHi 0 then s else s.setDeficit key 0

/-- A write of SER_s_CFG or SER_s_BAUD: characters already sent leave the buffer first. -/
def State.writeSerial (s : State) (w : RegWrite) : State :=
  let started := w.row.base = Reg.serCfg 0 ∧ field w.old 0 0 = 0 ∧ field w.new 0 0 = 1
  let s := (s.drainSerial w.i).store w
  if started then s.modSerial w.i fun e => { e with txSince := s.elapsed } else s

/-- Timers named by TMR_GO wait for the strobe edge (R432). -/
def State.armTimers (s : State) (mask : Nat) : State :=
  let s := (bitsSet 16 mask).foldl (fun (s : State) n => s.modTimer n fun t => { t with armed := true }) s
  { s with meas := { s.meas with goWritten := some s.elapsed } }

/-- A checked write made: its word stored, and the effect the owning chapter gives it. -/
def State.write (s : State) (w : RegWrite) : State :=
  let b := w.row.base
  let i := w.i
  let old := w.old
  let new := w.new
  if b = Reg.chainCtl then (s.store w).chainCtlWritten old new
  else if b = Reg.trxStateCtl 0 then (s.store w).stateCtlWritten i old
  else if b = Reg.trxSynFreq 0 then (s.store w).synFreqWritten i old
  else if b = Reg.trxHopFreq 0 then (s.store w).hopWritten i
  else if b = Reg.trxSynCtl 0 then (s.store w).hopWritten i
  else if b = Reg.rglDutyWarn then (s.rgl.bins.map (·.1)).foldl (fun (s : State) k => s.dutyWatch k) (s.store w)
  else if b = Reg.pltCfg 0 then (s.store w).pltCfgWritten i old
  else if b = Reg.pltMemb01 0 ∨ b = Reg.pltMemb23 0 then (s.store w).showMembers i
  else if b = Reg.wmacCtl 0 then (s.store w).macSwitched i old
  else if b = Reg.emacCtl 0 then (s.store w).emacCtlWritten i old new
  else if b = Reg.timePtpCfg 0 then (s.store w).ptpWritten i new
  else if b = Reg.timeCtl then (s.store w).timeCtlWritten old new
  else if b = Reg.plsCtl 0 then (s.store w).pulseWritten i old new
  else if b = Reg.tmPortShape 0 then s.writeShape w i
  else if b = Reg.tmSvcShape 0 then s.writeShape w (svcKey i)
  else if b = Reg.tmSubShape 0 then s.writeShape w (subKey i)
  else if b = Reg.tmSvcCfg 0 then s.writeParent w (svcKey i) 3
  else if b = Reg.tmSubCfg 0 then s.writeParent w (subKey i) 8
  else if b = Reg.tmMtrRate 0 ∨ b = Reg.tmMtrBurst 0 then s.writeMeter w
  else if b = Reg.rtcCtl then s.rtcCtlWritten old new
  else if b = Reg.rtcTimeW then s.timeWWritten new
  else if b = Reg.rtcDateW then s.dateWWritten new
  else if b = Reg.rtcWake then (s.store w).rtcWakeWritten
  else if b = Reg.measCtl then s.measCtlWritten old new
  else if b = Reg.measInCfg 0 then s.inputWritten i old new
  else if b = Reg.measInFs 0 ∨ b = Reg.measInGain 0 ∨ b = Reg.measInOfs 0 ∨ b = Reg.measInDly 0 then (s.store w).constantWritten i
  else if b = Reg.ctlpCtl then
    let s := s.store w
    if field old 0 0 = 0 ∧ field new 0 0 = 1 then { s with ctl := { s.ctl with cycles := 0 } } else s
  else if b = Reg.serCfg 0 ∨ b = Reg.serBaud 0 then s.writeSerial w
  else if b = Reg.ciphRadioCfg then (s.store w).radioPageWritten old
  else if b = Reg.secAlarmLatch then
    let s := s.store w
    { s with sec := { s.sec with backupTamper := s.sec.backupTamper && field new 6 6 == 1 } }
  else if b = Reg.tmrCtl 0 then s.timerCtlWritten i old new
  else if b = Reg.tmrPeriod 0 then s.periodWritten i new
  else if b = Reg.tmrCnt 0 then
    let s := (s.store w).modTimer i fun t => { t with since := s.elapsed }
    s.timerCtlWritten i (s.reg (Reg.tmrCtl i)) (s.reg (Reg.tmrCtl i))
  else if b = Reg.tmrCmp 0 then
    let s := (s.settleTimer i).store w
    s.timerCtlWritten i (s.reg (Reg.tmrCtl i)) (s.reg (Reg.tmrCtl i))
  else if b = Reg.tmrPre 0 then (s.settleTimer i).store w
  else if b = Reg.tmrGo then s.armTimers new.toNat
  else if b = Reg.clkGateCtl then s.gatesWritten old new
  else if b = Reg.sysWdtCfg then
    let s := s.store w
    { s with boot := { s.boot with watchdogDue := s.elapsed + 1000000 * field new 15 0 } }
  else s.store w

/-! ### Writes that transactions must know of (R73, R80) -/

/-- The device byte of an entry, 0xFE for this device (R69). -/
def State.ownOr (s : State) (d : Nat) : Nat := if d = s.device then 0xFE else d

/-- A write of a register by a session, noted in the transactions of the others (R73) and against the roll-back records
that hold the register (R80). (DEDUCED: log 31.) -/
def State.noteWrite (s : State) (n device a : Nat) (mask : Word) : State :=
  let d := s.ownOr device
  let note (k : Nat) (e : Session) : Session :=
    let hit := e.txn.entries.any fun x => s.ownOr x.device == d && x.address == a
    let t := { e.txn with
      foreign := if k ≠ n ∧ e.txn.state ≠ .none then e.txn.foreign ++ [⟨d, n, a, mask⟩] else e.txn.foreign
      exact := e.txn.exact && !(e.txn.state == .applied && hit) }
    { e with txn := t }
  { s with host := { s.host with sessions := s.host.sessions.mapIdx note } }

/-! ### Conditions across registers -/

/-- Registers that a chapter checks against one another. -/
def tiedBase (b : Nat) : Bool :=
  [Reg.poolRes, Reg.poolCap, Reg.tmDropGy 0, Reg.tmDropR 0, Reg.tmMtrRate 0, Reg.tmMtrBurst 0, Reg.schedPat 0].contains b

/-- The state in which such registers hold what some writes give them: the one that the other checks of the same commit
are made in. -/
def State.viewed (s : State) (l : List RegWrite) : State :=
  l.foldl (fun (s : State) w => if tiedBase w.row.base then s.store w else s) s

/-! ### Staging (R66, R69, R71) -/

/-- The checks of one entry at staging: status and result of a failure. (DEDUCED: log 27.) -/
def State.stageCheck (s : State) (e : TxnEntry) : Refused :=
  if e.device ≠ 0xFE ∧ 64 ≤ e.device then some (Status.paramRange, [])
  else if e.device ≠ 0xFE ∧ !s.present e.device then some (Status.noSuchDevice, [])
  else if s.ownOr e.device = 0xFE ∨ e.device = 0xFE then
    match s.writeOf e.address e.mask e.value with
    | none => some (Status.paramRange, [])
    | some w => s.writeCheck w true true
  else
    match findReg e.address with
    | none => some (Status.paramRange, [])
    | some (r, i, j) =>
      let w : RegWrite := { row := r, i := i, j := j, address := e.address, mask := e.mask, old := resetValue e.address, new := mergeWrite r (resetValue e.address) e.mask e.value }
      if !w.fieldsOk then some (Status.paramRange, [])
      else match r.access with
        | .ro => some (Status.notPermitted, [])
        | .rsn => some (Status.notPermitted, [])
        | .seal => if s.isSealed then some (Status.notPermitted, []) else none
        | _ => none

/-- The first of some entries that fails at staging: its index, status and result. -/
def State.firstFailing (s : State) : List TxnEntry → Nat → Option (Nat × Nat × Bytes)
  | [], _ => none
  | e :: l, k =>
    match s.stageCheck e with
    | some r => some (k, r)
    | none => s.firstFailing l (k + 1)

/-- Entries staged in a session's open transaction, or the failing entry's index, status and result. -/
def State.stage (s : State) (n : Nat) (l : List TxnEntry) : (Nat × Nat × Bytes) ⊕ State :=
  let mine := (l.filter fun e => s.ownOr e.device == 0xFE || e.device == 0xFE).filterMap fun e => s.writeOf e.address e.mask e.value
  match (s.viewed mine).firstFailing l 0 with
  | some r => .inl r
  | none => .inr (s.modSession n fun e => { e with txn := { e.txn with entries := e.txn.entries ++ l } })

/-- What Table 2-11 says of staging in a state, and of the count (R71). (DEDUCED: log 28.) -/
def State.stageState (s : State) (n more : Nat) : Option Nat :=
  let t := (s.session n).txn
  match t.state with
  | .opened => if 512 < t.entries.length + more then some Status.txnFull else none
  | .pending => some Status.notPermitted
  | _ => some Status.txnNone

/-! ### REG_WRITE -/

/-- OK, or OK_DEGRADED for a write of reservations or caps, or one that enables an input (R180, R365, R553). -/
def State.writeStatus (s : State) (w : RegWrite) : Nat :=
  okUnless (((w.row.base == Reg.poolRes || w.row.base == Reg.poolCap) && s.exhausted 0)
    || (w.row.base == Reg.measInCfg 0 && field w.old 1 0 == 0 && field w.new 1 0 != 0 && s.exhausted 2))

/-- A direct write of a register by a command. A record that writes what the register holds has no effect (R500). -/
def State.directWrite (s : State) (c : Cmd) (a : Nat) (mask value : Word) : Verdict :=
  match s.writeOf a mask value with
  | none => .fail Status.paramRange []
  | some w =>
    if c.ep = .replay ∧ w.old = w.new then .done s Status.ok []
    else match s.writeCheck w (c.ep == .replay) false with
    | some (status, result) =>
      if status = Status.dateInvalid then
        .done (s.setFlag Reg.rtcErr (if w.row.base = Reg.rtcTimeW then 1 else 0) true) status result
      else .fail status result
    | none =>
      let s := s.openGate a
      if s.deaf a then .done (s.abandon a) Status.internalFault []
      else
        let s := (s.write w).noteWrite c.session s.device a mask
        if w.row.base = Reg.tmrGo then .wait s .tmrGo false else .done s (s.writeStatus w) []

/-- A write of a register by a command, staged in a transaction where its flag says so (R66). -/
def State.regWrite (s : State) (c : Cmd) (a : Nat) (mask value : Word) : Verdict :=
  if c.inTxn then
    match s.stageState c.session 1 with
    | some status => .done s status []
    | none =>
      match s.stage c.session [⟨0xFE, a, mask, value⟩] with
      | .inl (_, status, result) => .fail status result
      | .inr s => .done s Status.ok []
  else s.directWrite c a mask value

/-- REG_WRITE. -/
def regWriteSpec : OpSpec where
  code := 0x0201
  timeout := 100
  length p := p.length == 12
  range _ p := regExists (num p 0 4)

/-- The parameters of a REG_WRITE. -/
def regParams (a : Nat) (mask value : Word) : Bytes := le 4 a ++ le 4 mask.toNat ++ le 4 value.toNat

/-- REG_WRITE as a command: a write forwarded to another device is noted where it passes (R73). (DEDUCED: log 28.) -/
def State.runWrite (s : State) (c : Cmd) (p : Bytes) : State :=
  let out := s.run regWriteSpec c p fun s => s.regWrite c (num p 0 4) (word (num p 4 4)) (word (num p 8 4))
  let forwarded := s.elsewhere c && s.present c.target && !c.inTxn
    && decide ((s.session c.session).outstanding.length < (out.session c.session).outstanding.length)
  match c.ep with
  | .chain _ => out
  | _ => if forwarded then out.noteWrite c.session c.target (num p 0 4) (word (num p 4 4)) else out

/-- REG_WRITE changes the masked bits of a register. -/
def execRegWrite (c : Cmd) (p : Bytes) (s : State) : Host.Outcome State Fault Refusal := .next (s.runWrite c p)

/-- A REG_WRITE of the register at an address. -/
def State.writeRow (s : State) (c : Cmd) (a : Nat) (mask value : Word) : State := s.runWrite c (regParams a mask value)

/-! ### The rows of registers whose writes have an effect -/

/-- A write of TRXn_SYN_FREQ (R85). -/
def execSynFreqWrite (c : Cmd) (radio : Nat) (mask value : Word) (s : State) : Host.Outcome State Fault Refusal :=
  .next (s.writeRow c (Reg.trxSynFreq radio) mask value)

/-- A write of TRXn_HOP_FREQ (R86). -/
def execHopFreqWrite (c : Cmd) (radio : Nat) (mask value : Word) (s : State) : Host.Outcome State Fault Refusal :=
  .next (s.writeRow c (Reg.trxHopFreq radio) mask value)

/-- A write of TRXn_STATE_CTL (R91). -/
def execStateRequestWrite (c : Cmd) (radio : Nat) (mask value : Word) (s : State) : Host.Outcome State Fault Refusal :=
  .next (s.writeRow c (Reg.trxStateCtl radio) mask value)

/-- A write of TRXn_TX_PWR (R110). -/
def execTxPwrWrite (c : Cmd) (radio : Nat) (mask value : Word) (s : State) : Host.Outcome State Fault Refusal :=
  .next (s.writeRow c (Reg.trxTxPwr radio) mask value)

/-- A write of TRXn_PROF_CFGk (R161). -/
def execProfCfgWrite (c : Cmd) (radio slot : Nat) (mask value : Word) (s : State) : Host.Outcome State Fault Refusal :=
  .next (s.writeRow c (Reg.profCfg radio slot) mask value)

/-- A write of SEARCH_POOL_RES or SEARCH_POOL_CAP (R177). -/
def execPoolLimitsWrite (c : Cmd) (cap : Bool) (mask value : Word) (s : State) : Host.Outcome State Fault Refusal :=
  .next (s.writeRow c (if cap then Reg.poolCap else Reg.poolRes) mask value)

/-- A write of WMAC_n_LBT (R193). -/
def execLbtWrite (c : Cmd) (radio : Nat) (mask value : Word) (s : State) : Host.Outcome State Fault Refusal :=
  .next (s.writeRow c (Reg.wmacLbt radio) mask value)

/-- A write of WMAC_n_CTL (R222). -/
def execMacEnableWrite (c : Cmd) (radio : Nat) (mask value : Word) (s : State) : Host.Outcome State Fault Refusal :=
  .next (s.writeRow c (Reg.wmacCtl radio) mask value)

/-- A write of EMAC_n_CTL (R257). -/
def execEmacCtlWrite (c : Cmd) (port : Nat) (mask value : Word) (s : State) : Host.Outcome State Fault Refusal :=
  .next (s.writeRow c (Reg.emacCtl port) mask value)

/-- A write of TIME_CTL (R326). -/
def execTimeCtlWrite (c : Cmd) (mask value : Word) (s : State) : Host.Outcome State Fault Refusal :=
  .next (s.writeRow c Reg.timeCtl mask value)

/-- A write of TIME_PTP_e_CFG (R323). -/
def execPtpCfgWrite (c : Cmd) (port : Nat) (mask value : Word) (s : State) : Host.Outcome State Fault Refusal :=
  .next (s.writeRow c (Reg.timePtpCfg port) mask value)

/-- A write of TIME_PLS_k_CTL (R337). -/
def execPulseEnableWrite (c : Cmd) (generator : Nat) (mask value : Word) (s : State) : Host.Outcome State Fault Refusal :=
  .next (s.writeRow c (Reg.plsCtl generator) mask value)

/-- A write of RTC_TIME_W (R352). -/
def execRtcTimeWWrite (c : Cmd) (mask value : Word) (s : State) : Host.Outcome State Fault Refusal :=
  .next (s.writeRow c Reg.rtcTimeW mask value)

/-- A write of RTC_DATE_W (R352). -/
def execRtcDateWWrite (c : Cmd) (mask value : Word) (s : State) : Host.Outcome State Fault Refusal :=
  .next (s.writeRow c Reg.rtcDateW mask value)

/-- A write of RTC_CTL (R353). -/
def execRtcHaltWrite (c : Cmd) (mask value : Word) (s : State) : Host.Outcome State Fault Refusal :=
  .next (s.writeRow c Reg.rtcCtl mask value)

/-- A write of RTC_WAKE (R359). -/
def execRtcWakeWrite (c : Cmd) (mask value : Word) (s : State) : Host.Outcome State Fault Refusal :=
  .next (s.writeRow c Reg.rtcWake mask value)

/-- A write of MEAS_IN_i_CFG (R363). -/
def execMeasInCfgWrite (c : Cmd) (input : Nat) (mask value : Word) (s : State) : Host.Outcome State Fault Refusal :=
  .next (s.writeRow c (Reg.measInCfg input) mask value)

/-- A write of TMR_n_PERIOD (R428). -/
def execTmrPeriodWrite (c : Cmd) (timer : Nat) (mask value : Word) (s : State) : Host.Outcome State Fault Refusal :=
  .next (s.writeRow c (Reg.tmrPeriod timer) mask value)

/-- A write of TMR_n_CNT (R425). -/
def execTmrCntWrite (c : Cmd) (timer : Nat) (mask value : Word) (s : State) : Host.Outcome State Fault Refusal :=
  .next (s.writeRow c (Reg.tmrCnt timer) mask value)

/-- A write of TMR_n_CTL (R434). -/
def execTmrCtlWrite (c : Cmd) (timer : Nat) (mask value : Word) (s : State) : Host.Outcome State Fault Refusal :=
  .next (s.writeRow c (Reg.tmrCtl timer) mask value)

/-- A write of TMR_GO (R432). -/
def execTmrGoWrite (c : Cmd) (mask value : Word) (s : State) : Host.Outcome State Fault Refusal :=
  .next (s.writeRow c Reg.tmrGo mask value)

/-- A write of CLK_GATE_CTL (R453). -/
def execClkGateCtlWrite (c : Cmd) (mask value : Word) (s : State) : Host.Outcome State Fault Refusal :=
  .next (s.writeRow c Reg.clkGateCtl mask value)

/-- A write of CLK_SSC_g (R455). -/
def execClkSscWrite (c : Cmd) (group : Nat) (mask value : Word) (s : State) : Host.Outcome State Fault Refusal :=
  .next (s.writeRow c (Reg.clkSsc group) mask value)

/-- A write of CHAIN_CTL (R535). -/
def execChainCtlWrite (c : Cmd) (mask value : Word) (s : State) : Host.Outcome State Fault Refusal :=
  .next (s.writeRow c Reg.chainCtl mask value)

end Sys2Proof.Machine
end

