-- ==== Sys2Proof/Machine/Txn.lean ====
section
/-! DEFINITION. Transactions (R69 to R80, R528, R529): how a commit applies, how it is rolled back, the opcodes, and
the profile commands' immediate commits (R68). -/

namespace Sys2Proof.Machine

/-! ### Applying entries -/

/-- The writes of a commit, one for each register, entries merged in staging order under their masks (R72). -/
def State.mergeEntries (s : State) (l : List TxnEntry) : List RegWrite :=
  l.foldl (fun (ws : List RegWrite) e =>
    if ws.any fun x => x.address == e.address then
      ws.map fun x => if x.address = e.address then { x with
        mask := x.mask ||| e.mask, new := mergeWrite x.row x.new e.mask e.value } else x
    else match s.writeOf e.address e.mask e.value with
      | some w => ws ++ [w]
      | none => ws) []

/-- The order in which the writes of one cycle are worked out: RTC_CTL before the calendar (R355), and the registers that
start a unit after those that set it. (DEDUCED: log 28.) -/
def commitRank (w : RegWrite) : Nat :=
  if w.row.base = Reg.rtcCtl then 0
  else if [Reg.plsCtl 0, Reg.tmrCtl 0, Reg.trxStateCtl 0, Reg.timePtpCfg 0, Reg.emacCtl 0, Reg.chainCtl, Reg.ctlpCtl,
      Reg.measCtl].contains w.row.base then 2
  else 1

/-- Writes checked and made one after another: the state, or the first failure. (DEDUCED: log 28.) -/
def State.applyWrites (s : State) : List RegWrite → (Nat × Bytes) ⊕ State
  | [] => .inr s
  | w :: l =>
    match (s.viewed l).writeCheck w true false with
    | some r => .inl r
    | none =>
      let s := s.openGate w.address
      if s.deaf w.address then .inl (Status.internalFault, []) else (s.write w).applyWrites l

/-- Subscribers that a commit may not move to another port node: those with frames queued, and those to which a logical
port maps (R298). (DEDUCED: log 32.) -/
def State.fixedSubs (s : State) : List Nat :=
  s.busySubs ++ s.tm.maps.map (·.2)
    ++ (List.range 16).filter fun p => !(p < 4 && (Table.find s.tm.maps p).isSome)

/-- The subscriber that a commit moves although it may not, if there is one. (DEDUCED: log 32.) -/
def State.movedSub (s after : State) : Option Nat :=
  s.fixedSubs.find? fun n => s.subPort n != after.subPort n

/-- The entries of this device's share applied at once, or why they cannot be (R29, R77). -/
def State.applyEntries (s : State) (l : List TxnEntry) : (Nat × Bytes) ⊕ State :=
  let ws := s.mergeEntries l
  let ordered := [0, 1, 2].flatMap fun k => ws.filter fun w => commitRank w == k
  match s.applyWrites ordered with
  | .inl r => .inl r
  | .inr s' =>
    match s.movedSub s' with
    | some n => .inl (Status.resourceBusy, le 2 n)
    | none => .inr s'

/-! ### Roll-back (R79) -/

/-- The registers that entries write, as they stand. -/
def State.recordOf (s : State) (l : List TxnEntry) : List RollbackEntry :=
  ((s.mergeEntries l).filter fun w => w.row.access != .wo).map fun w => ⟨w.address, w.old⟩

/-- The node whose shaper register a write concerns. -/
def shapedNode (w : RegWrite) : Option Nat :=
  if w.row.base = Reg.tmPortShape 0 then some w.i
  else if w.row.base = Reg.tmSvcShape 0 then some (svcKey w.i)
  else if w.row.base = Reg.tmSubShape 0 then some (subKey w.i)
  else none

/-- The token levels of the shapers whose rate or burst entries change. (DEDUCED: log 29.) -/
def State.tokensOf (s : State) (l : List TxnEntry) : Table Int :=
  (s.mergeEntries l).filterMap fun w =>
    if w.old = w.new then none else (shapedNode w).map fun k => (k, s.tokensNow k)

/-- A register restored to a value. (DEDUCED: log 29.) -/
def State.restore (s : State) (e : RollbackEntry) : State :=
  match s.writeOf e.address 0xFFFFFFFF e.value with
  | some w => if w.old = e.value then s else if w.row.access = .w1c then s.setReg e.address e.value else s.write { w with new := e.value }
  | none => s

/-- A record rolled back: registers, then the token levels of shapers. (DEDUCED: log 29.) -/
def State.rollBack (s : State) (record : List RollbackEntry) (tokens : Table Int) : State :=
  let s := record.foldl (fun (s : State) e => s.restore e) s
  tokens.foldl (fun (s : State) e => s.setTokens e.1 e.2) s

/-! ### The transaction of a session -/

/-- A session's transaction changed. -/
def State.modTxn (s : State) (n : Nat) (f : Txn → Txn) : State := s.modSession n fun e => { e with txn := f e.txn }

/-- A session's transaction. -/
def State.txn (s : State) (n : Nat) : Txn := (s.session n).txn

/-- The entries for this device. -/
def State.localEntries (s : State) (l : List TxnEntry) : List TxnEntry := l.filter fun e => s.ownOr e.device == 0xFE

/-- The entries for another device. -/
def State.entriesFor (s : State) (l : List TxnEntry) (d : Nat) : List (Nat × Word × Word) :=
  (l.filter fun e => s.ownOr e.device == d).map fun e => (e.address, e.mask, e.value)

/-- The other devices that entries name. -/
def State.devicesOf (s : State) (l : List TxnEntry) : List Nat :=
  (List.range 64).filter fun d => l.any fun e => s.ownOr e.device == d

/-- A session's TXN_COMMIT ends. (DEDUCED: log 29.) -/
def State.commitEnds (s : State) (n status : Nat) (result : Bytes) : State :=
  (s.outstandingOf fun o => o.work == .txnCommit && o.origin.session == n).foldl (fun (s : State) o => s.finish o status result) s

/-- Every device that holds a share told to discard it, or to roll it back. -/
def State.undoShares (s : State) (n : Nat) (t : Txn) : State :=
  (s.devicesOf t.entries).foldl (fun (s : State) d => s.sendControl d (.undo n)) s

/-- A pending commit disarmed everywhere: the transaction is OPEN again (R61, R75). (DEDUCED: log 30.) -/
def State.disarm (s : State) (n status : Nat) : State :=
  let t := s.txn n
  let s := s.undoShares n t
  let s := s.modTxn n fun t => { t with state := .opened, armed := [], waiting := [], go := false, late := false, devices := 0 }
  s.commitEnds n status []

/-- Every outcome of a commit is in: its final reply, and what the transaction becomes (R70, R77, R529).
(DEDUCED: log 29.) -/
def State.concludeCommit (s : State) (n : Nat) : State :=
  let t := s.txn n
  match t.failed with
  | none =>
    (s.modTxn n fun t => { t with exact := true }).commitEnds n
      (if t.late then Status.completedAfterCancel else Status.ok) []
  | some (d, status, result) =>
    let lost := (s.devicesOf t.entries).filter fun x => bit t.devices x && !s.present x
    let s := (s.rollBack t.record t.tokens).undoShares n t
    let s := if lost.isEmpty then
        s.modTxn n fun t => { t with state := .opened, armed := [], waiting := [], go := false, late := false, devices := 0, record := [], tokens := [], failed := none, exact := false }
      else s.modTxn n fun t => { t with record := [], tokens := [], failed := none, exact := false }
    s.commitEnds n status (le 1 d ++ result ++ lost.flatMap fun x => le 1 x)

/-- This device's share of a session's own commit applied at its instant. -/
def State.applyOwn (s : State) (n : Nat) (failed : Option (Nat × Nat)) : State :=
  let t := s.txn n
  let mine := s.localEntries t.entries
  let early := (s.devicesOf t.entries).filter fun d => !t.waiting.contains d && (t.failed.map (·.1)) != some d
  let record := s.recordOf mine
  let tokens := s.tokensOf mine
  let outcome : (Nat × Bytes) ⊕ State := match failed with
    | some (_, status) => .inl (status, [])
    | none => s.applyEntries mine
  let s := match outcome with
    | .inl (status, result) =>
      s.modTxn n fun t => { t with
        state := .applied, record := [], tokens := [], failed := some (s.device, status, result), devices := bitmap early }
    | .inr s' =>
      let s' := s'.modTxn n fun t => { t with
        state := .applied, record := record, tokens := tokens, devices := bitmap (s.device :: early) }
      t.entries.foldl (fun (s : State) e => s.noteWrite n (if e.device = 0xFE then s.device else e.device) e.address e.mask) s'
  if t.waiting.isEmpty then s.concludeCommit n else s

/-- The commit of a session that has closed (R78): no reply, no record. (DEDUCED: log 30.) -/
def State.applyOrphan (s : State) (n : Nat) (t : Txn) : State :=
  let s := { s with host := { s.host with orphans := s.host.orphans.filter (· != (n, t)) } }
  match s.applyEntries (s.localEntries t.entries) with
  | .inl _ => s.undoShares n t
  | .inr s' => t.entries.foldl (fun (s : State) e => s.noteWrite n (if e.device = 0xFE then s.device else e.device) e.address e.mask) s'

/-- The share of another device's commit, held here, applied at its instant (R528). (DEDUCED: log 30.) -/
def State.applyShare (s : State) (share : Nat × Nat × Bool × List TxnEntry) : State :=
  let (n, _, _, l) := share
  let record := s.recordOf l
  let s := { s with chain := { s.chain with shares := s.chain.shares.filter (· != share) } }
  match s.applyEntries l with
  | .inl (status, _) => s.sendControl 0 (.applied n status)
  | .inr s' =>
    let s' := { s' with chain := { s'.chain with shareRecords := Table.put s'.chain.shareRecords n record } }
    s'.sendControl 0 (.applied n Status.ok)

/-- What may apply at an instant for a session number. -/
inductive Due where
  | own
  | orphan (t : Txn)
  | share (x : Nat × Nat × Bool × List TxnEntry)
  | rtc
  deriving DecidableEq, Repr

/-- What is armed for a session number, each with its network instant. -/
def State.due (s : State) (n : Nat) : List (Nat × Due) :=
  let t := s.txn n
  let ready (t : Txn) : Bool := t.state == .pending && (t.go || (s.devicesOf t.entries).isEmpty)
  (if ready t then [(t.instant, Due.own)] else [])
    ++ (s.host.orphans.filter fun o => o.1 == n && ready o.2).map (fun o => (o.2.instant, Due.orphan o.2))
    ++ (s.chain.shares.filter fun x => x.1 == n && x.2.2.1).map (fun x => (x.2.1, Due.share x))
    ++ (match s.rtc.setInstant with
      | some i =>
        let l := s.outstandingOf (·.work == .rtcSet)
        if l.isEmpty || l.any (·.origin.session == n) then [(i, Due.rtc)] else []
      | none => [])

/-- What is due first. -/
def State.firstDue (s : State) (n : Nat) : Option (Nat × Due) :=
  (s.due n).foldl (fun (b : Option (Nat × Due)) x => match b with
    | some y => if x.1 < y.1 then some x else b
    | none => some x) none

/-- Something armed applied. -/
def State.applyDue (s : State) (n : Nat) (failed : Option (Nat × Nat)) : Due → State
  | .own => s.applyOwn n failed
  | .orphan t => s.applyOrphan n t
  | .share x => s.applyShare x
  | .rtc => s.releaseRtc (if s.rtc.cancelled then Status.completedAfterCancel else Status.ok)

/-- COMMIT_APPLY: the commit instant. `failed` names an island that cannot apply its share, with its status. -/
def execCommitApply (session : Nat) (failed : Option (Nat × Nat)) (s : State) : Host.Outcome State Fault Refusal :=
  .next (match s.firstDue session with
    | some (instant, d) => (s.reach instant).applyDue session failed d
    | none => s)

/-- TXN_ARMING_DEADLINE: 1 ms before the instant, a commit that is not armed everywhere is disarmed (R75, R528). -/
def execTxnArmingDeadline (session : Nat) (s : State) : Host.Outcome State Fault Refusal :=
  let t := s.txn session
  .next (
    if t.isPending && !t.go && !(s.devicesOf t.entries).isEmpty then
      (s.reach (t.instant - 1000000)).disarm session Status.txnExpired
    else
      match s.host.orphans.find? fun o => o.1 == session && !o.2.go && !(s.devicesOf o.2.entries).isEmpty with
      | some o =>
        let s := (s.reach (o.2.instant - 1000000)).undoShares session o.2
        { s with host := { s.host with orphans := s.host.orphans.filter (· != o) } }
      | none =>
        match s.chain.shares.find? fun x => x.1 == session && !x.2.2.1 with
        | some x =>
          let s := s.reach (x.2.1 - 1000000)
          { s with chain := { s.chain with shares := s.chain.shares.filter (· != x) } }
        | none => s)

/-! ### The opcodes (Table 2-10) -/

/-- TXN_BEGIN. -/
def txnBeginSpec : OpSpec where
  code := 0x0100
  timeout := 100
  length p := p.isEmpty

/-- TXN_BEGIN opens a transaction. -/
def execTxnBegin (c : Cmd) (p : Bytes) (s : State) : Host.Outcome State Fault Refusal :=
  .next (s.run txnBeginSpec c p fun s =>
    match (s.txn c.session).state with
    | .opened => .done s Status.busy []
    | .pending => .done s Status.busy []
    | _ =>
      let id := s.host.txnIds + 1
      let s := s.modTxn c.session fun _ => { state := .opened, id := id }
      .done { s with host := { s.host with txnIds := id } } Status.ok (le 4 id))

/-- The entries of TXN_STAGE's parameters. -/
def stageEntries (p : Bytes) : List TxnEntry :=
  (List.range (num p 0 4)).map fun k =>
    let a := num p (4 + 12 * k) 4
    ⟨a / 2 ^ 24, a % 2 ^ 24, word (num p (8 + 12 * k) 4), word (num p (12 + 12 * k) 4)⟩

/-- TXN_STAGE. -/
def txnStageSpec : OpSpec where
  code := 0x0101
  timeout := 100
  length p := decide (4 ≤ p.length) && p.length == 4 + 12 * num p 0 4
  range _ p := decide (1 ≤ num p 0 4) && decide (num p 0 4 ≤ 339)

/-- TXN_STAGE stages all its entries, or none. -/
def execTxnStage (c : Cmd) (p : Bytes) (s : State) : Host.Outcome State Fault Refusal :=
  .next (s.run txnStageSpec c p fun s =>
    let have_ := (s.txn c.session).entries.length
    match s.stageState c.session (num p 0 4) with
    | some status => .done s status (if status = Status.txnFull then le 2 have_ else [])
    | none =>
      match s.stage c.session (stageEntries p) with
      | .inl (k, status, _) => .fail status (le 2 have_ ++ le 2 k)
      | .inr s => .done s Status.ok (le 2 (s.txn c.session).entries.length))

/-- Two masks overlap on a register. -/
def overlaps (a b : Word) : Bool := a &&& b != 0

/-- The first write of another session, or its pending commit, that a commit conflicts with (R73): device, session,
address. (DEDUCED: log 31.) -/
def State.conflict (s : State) (n : Nat) : Option (Nat × Nat × Nat) :=
  let t := s.txn n
  t.entries.findSome? fun e =>
    let d := s.ownOr (if e.device = 0xFE then s.device else e.device)
    let shown := if d = 0xFE then s.device else d
    match t.foreign.find? fun f => f.device == d && f.address == e.address && overlaps f.mask e.mask with
    | some f => some (shown, f.session, e.address)
    | none =>
      let holds (t : Txn) : Bool := t.state == .pending && t.entries.any fun x =>
        s.ownOr (if x.device = 0xFE then s.device else x.device) == d && x.address == e.address && overlaps x.mask e.mask
      (((List.range 4).find? fun k => k != n && holds (s.txn k)).map fun k => (shown, k, e.address))
        <|> ((s.host.orphans.find? fun o => holds o.2).map fun o => (shown, o.1, e.address))

/-- The instant of an immediate commit (R31, R528). -/
def State.immediateInstant (s : State) (others : List Nat) : Nat :=
  if others.isEmpty then 100000 + s.netNs
  else 2000000 + s.netNs + 20000 * (others.map fun d => (s.hopsTo d).getD 0).foldl max 0

/-- TXN_COMMIT. -/
def txnCommitSpec : OpSpec where
  code := 0x0102
  timeout := 100
  length p := p.length == 12
  range _ p := decide (num p 0 1 ≤ 1) && num p 1 1 == 0 && (num p 0 1 == 0 || decide (num p 8 4 < 1000000000))

/-- TXN_COMMIT arms an immediate or a timed commit (R70 to R75, R528). -/
def execTxnCommit (c : Cmd) (p : Bytes) (s : State) : Host.Outcome State Fault Refusal :=
  let timed := num p 0 1 = 1
  let named := 1000000000 * num p 2 6 + num p 8 4
  let out := s.run txnCommitSpec c p fun s =>
    let t := s.txn c.session
    match t.state with
    | .none => .done s Status.txnNone []
    | .applied => .done s Status.txnNone []
    | .pending => .done s Status.busy []
    | .opened =>
      if timed ∧ named ≤ 1000000 + s.netNs then .done s Status.txnExpired []
      else if timed ∧ 86400000000000 + s.netNs < named then .fail Status.paramRange []
      else
        match s.conflict c.session with
        | some (d, n, a) => .done (s.modTxn c.session fun _ => {}) Status.txnConflict (le 1 d ++ le 1 n ++ le 4 a)
        | none =>
          let others := s.devicesOf t.entries
          let instant := if timed then named else s.immediateInstant others
          let s := s.modTxn c.session fun t => { t with
            state := .pending, timed := decide timed, instant := instant, tag := c.tag, armed := [], waiting := others, failed := none
            go := others.isEmpty, late := false, devices := 2 ^ s.device, record := [], tokens := [], exact := false }
          let s := others.foldl (fun (s : State) d => s.sendControl d (.share c.session instant (s.entriesFor t.entries d))) s
          .wait s .txnCommit (decide timed && others.isEmpty)
  .next (if timed then out.hintAfter s c .txnCommit named else out)

/-- The code of a transaction's state (R70). -/
def TxnState.code : TxnState → Nat
  | .none => 0
  | .opened => 1
  | .pending => 2
  | .applied => 3

/-- TXN_ABORT. -/
def txnAbortSpec : OpSpec where
  code := 0x0103
  timeout := 100
  length p := p.isEmpty

/-- TXN_ABORT discards, disarms or rolls back (Table 2-11). (DEDUCED: log 30.) -/
def execTxnAbort (c : Cmd) (p : Bytes) (s : State) : Host.Outcome State Fault Refusal :=
  .next (s.run txnAbortSpec c p fun s =>
    let n := c.session
    let t := s.txn n
    match t.state with
    | .none => .done s Status.txnNone []
    | .opened => .done (s.modTxn n fun _ => {}) Status.ok [1]
    | .pending =>
      if t.timed ∧ 1000000 + s.netNs < t.instant then .done (s.disarm n Status.cancelled) Status.ok [2]
      else .done s Status.notPermitted []
    | .applied =>
      if t.exact then
        let s := (s.rollBack t.record t.tokens).undoShares n t
        let s := t.entries.foldl (fun (s : State) e => s.noteWrite n (if e.device = 0xFE then s.device else e.device) e.address e.mask) s
        .done (s.modTxn n fun _ => {}) Status.ok [3]
      else .done s Status.notPermitted [])

/-- The report of a transaction (TXN_STATUS). -/
def Txn.report (t : Txn) : Bytes :=
  let shown := t.state == .pending || t.state == .applied
  let at_ := if shown then t.instant else 0
  le 1 t.state.code ++ [0] ++ le 2 t.entries.length ++ le 6 (at_ / 1000000000) ++ le 4 (at_ % 1000000000)
    ++ le 8 (if shown then t.devices else 0)

/-- TXN_STATUS. -/
def txnStatusSpec : OpSpec where
  code := 0x0104
  timeout := 100
  length p := p.isEmpty

/-- TXN_STATUS reports the transaction. -/
def execTxnStatus (c : Cmd) (p : Bytes) (s : State) : Host.Outcome State Fault Refusal :=
  .next (s.run txnStatusSpec c p fun s => .done s Status.ok (s.txn c.session).report)

/-! ### Control messages of a commit (R528, R529) -/

/-- A share arrives at a device: it is checked and armed, or refused. -/
def State.shareArrives (s : State) (n instant : Nat) (l : List (Nat × Word × Word)) : State :=
  let entries := l.map fun x => (⟨0xFE, x.1, x.2.1, x.2.2⟩ : TxnEntry)
  if instant ≤ 1000000 + s.netNs then s.sendControl 0 (.armed n Status.txnExpired [])
  else
    match s.firstFailing entries 0 with
    | some (_, status, result) => s.sendControl 0 (.armed n status result)
    | none =>
      let s := { s with chain := { s.chain with
        shares := (s.chain.shares.filter fun (x : Nat × Nat × Bool × List TxnEntry) => x.1 != n) ++ [(n, instant, false, entries)] } }
      s.sendControl 0 (.armed n Status.ok [])

/-- A device reports its share armed, or refuses it. (DEDUCED: log 30.) -/
def State.shareArmed (s : State) (n d status : Nat) (result : Bytes) : State :=
  let t := s.txn n
  if !t.isPending || t.go then s
  else if status ≠ Status.ok then
    let s := s.undoShares n t
    let s := s.modTxn n fun t => { t with state := .opened, armed := [], devices := 0 }
    s.commitEnds n status (le 1 d ++ result)
  else
    let s := s.modTxn n fun t => { t with
      armed := (t.armed.filter (· != d)) ++ [d], devices := if bit t.devices d then t.devices else t.devices + 2 ^ d }
    if (s.devicesOf t.entries).all fun x => (s.txn n).armed.contains x then
      let s := s.modTxn n fun t => { t with go := true }
      let s := (s.devicesOf t.entries).foldl (fun (s : State) x => s.sendControl x (.go n)) s
      (s.outstandingOf fun o => o.work == .txnCommit && o.origin.session == n).foldl (fun (s : State) o => s.acceptReply o.origin) s
    else s

/-- The go block arrives at a device, before its arming deadline. -/
def State.goArrives (s : State) (n : Nat) : State :=
  { s with chain := { s.chain with
      shares := s.chain.shares.map fun (x : Nat × Nat × Bool × List TxnEntry) => if x.1 = n ∧ 1000000 + s.netNs ≤ x.2.1 then (x.1, x.2.1, true, x.2.2.2) else x } }

/-- A device reports that its share has applied, or failed. -/
def State.shareApplied (s : State) (n d status : Nat) : State :=
  let t := s.txn n
  if t.waiting.contains d then
    let s := s.modTxn n fun t => { t with
      waiting := t.waiting.filter (· != d)
      devices := if status = Status.ok ∧ t.state = .applied ∧ !bit t.devices d then t.devices + 2 ^ d else t.devices
      failed := if status = Status.ok then t.failed else some (t.failed.getD (d, status, [])) }
    if (s.txn n).waiting.isEmpty && t.state == .applied then s.concludeCommit n else s
  else s

/-- The head orders a share discarded, or rolled back. -/
def State.undoArrives (s : State) (n : Nat) : State :=
  let s := { s with chain := { s.chain with shares := s.chain.shares.filter fun x => x.1 != n } }
  match Table.find s.chain.shareRecords n with
  | some r =>
    let s := s.rollBack r []
    let s := { s with chain := { s.chain with shareRecords := Table.drop s.chain.shareRecords n } }
    s.sendControl 0 (.undone n)
  | none => s

/-! ### Profile commands (R68) -/

/-- A profile command's writes, made as one immediate commit or staged. The result counts its registers; LANE_POOL_SET and
PLAIT_SET, which have no result, report only what they stage. (DEDUCED: log 6.) -/
def State.commitProfile (s : State) (c : Cmd) (l : List (Nat × Word × Word)) (degraded : Bool := false) (quiet : Bool := false) : Verdict :=
  let entries := l.map fun x => (⟨0xFE, x.1, x.2.1, x.2.2⟩ : TxnEntry)
  if c.inTxn then
    match s.stageState c.session l.length with
    | some status => .done s status []
    | none =>
      match s.stage c.session entries with
      | .inl (_, status, result) => .fail status result
      | .inr s => .done s (okUnless degraded) (le 2 l.length)
  else
    match s.applyEntries entries with
    | .inl (status, result) => .fail status result
    | .inr s =>
      let s := l.foldl (fun (s : State) x => s.noteWrite c.session s.device x.1 x.2.1) s
      .done s (okUnless degraded) (if quiet then [] else le 2 l.length)

/-- A write of a whole register. -/
def whole (a v : Nat) : Nat × Word × Word := (a, 0xFFFFFFFF, word v)

end Sys2Proof.Machine
end

