-- ==== Sys2Proof/Machine/Profiles.lean ====
section
/-! DEFINITION. The profile commands (R68): each expands into register writes, made as one immediate commit. -/

namespace Sys2Proof.Machine

/-- A write of the bits of a mask. -/
def under (a mask v : Nat) : Nat × Word × Word := (a, word mask, word v)

/-! ### Radio roles (Table 3-8, R118) -/

/-- RADIO_PROFILE_APPLY. -/
def radioProfileApplySpec : OpSpec where
  code := 0x1000
  length p := p.length == 8
  range _ p := decide (num p 0 1 < 8) && decide (num p 1 1 ≤ 3) && tunable (num p 4 4)

/-- The power a role sets, 0.25 dBm: the limit of the band of its centre, or −20 dBm. (DEDUCED: log 33.) -/
def State.rolePower (s : State) (n role centre : Nat) : Int :=
  if role = 3 then -80
  else
    match s.bandAt centre with
    | some b => max (-80) (s.powerLimit b n)
    | none => -80

/-- The registers a role writes. -/
def State.roleWrites (s : State) (n role centre : Nat) : List (Nat × Word × Word) :=
  let state := if role = 0 ∨ role = 3 then 6 else 5
  [whole (Reg.trxSynFreq n) centre,
    under (Reg.trxTxPwr n) 0xFF (unsigned 8 (s.rolePower n role centre)),
    under (Reg.trxSynCtl n) 1 (bitOf (role != 2))]
    ++ (if 2 ≤ role then [under (Reg.trxCoexCtl n) 1 (bitOf (role == 2))] else [])
    ++ [under (Reg.trxStateCtl n) 0x10F (state + 256 * bitOf (role == 3))]

/-- RADIO_PROFILE_APPLY writes or stages the registers of a role. (DEDUCED: log 33.) -/
def execRadioProfileApply (c : Cmd) (p : Bytes) (s : State) : Host.Outcome State Fault Refusal :=
  .next (s.run radioProfileApplySpec c p fun s =>
    let role := num p 1 1
    let centre := num p 4 4
    let radios := bitsSet 3 (num p 0 1)
    if num p 2 2 ≠ s.fld Reg.rglCertStat 31 16 ∨ (role ≠ 3 ∧ (s.bandAt centre).isNone) then .fail Status.regLocked []
    else
      s.commitProfile c (radios.flatMap fun n => s.roleWrites n role centre)
        (radios.any fun n => s.single n || s.radioOut n))

/-! ### Profile slots (Table 4-11, R159) -/

/-- TRXn_PROF_CFGk and TRXn_PROF_SUNk of a preset: rate code, h = 1.0, SUN-FSK, code rate, preamble, and the SUN word. -/
def slotPreset (k : Nat) : Nat × Nat :=
  let cfg (rate index mode code pre : Nat) : Nat := 1 + 2 * rate + 16 * index + 32 * mode + 64 * code + 512 * pre
  [(cfg 0 1 0 0 8, 0), (cfg 1 0 0 0 8, 0), (cfg 2 0 0 0 8, 0), (cfg 3 0 0 1 8, 0), (cfg 4 0 0 2 12, 0),
    (cfg 5 0 0 2 12, 0), (cfg 6 0 0 3 16, 0), (cfg 0 1 1 0 8, 0x16), (cfg 1 0 1 0 8, 2)].getD k (0, 0)

/-- MOD_PROFILE_APPLY. -/
def modProfileApplySpec : OpSpec where
  code := 0x1100
  length p := p.length == 4
  range _ p := decide (num p 0 1 < 8) && decide (num p 2 1 ≤ 8) && num p 3 1 == 0

/-- MOD_PROFILE_APPLY writes or stages the slots of a preset. -/
def execModProfileApply (c : Cmd) (p : Bytes) (s : State) : Host.Outcome State Fault Refusal :=
  .next (s.run modProfileApplySpec c p fun s =>
    let v := slotPreset (num p 2 1)
    s.commitProfile c ((bitsSet 3 (num p 0 1)).flatMap fun n => (bitsSet 8 (num p 1 1)).flatMap fun k =>
      [whole (Reg.profCfg n k) v.1, whole (Reg.profSun n k) v.2]))

/-! ### Search (Table 5-4, R184) -/

/-- SEARCH_n_CTL, SEARCH_n_DET_THR and the sub-bands of a preset. -/
def searchPreset (k : Nat) : Nat × Nat × Nat × Nat :=
  let ctl (margin hold extra qualifier : Nat) : Nat := margin + 16 * hold + 256 * extra + 65536 * qualifier
  let thr (narrow : Int) (corr : Nat) : Nat := unsigned 8 narrow + 256 * unsigned 8 (-120) + 65536 * corr
  [(ctl 6 1 16 16, thr (-110) 24, 0xFFFFFFFF, 0xFFFFFFFF), (ctl 6 1 16 16, thr (-110) 24, 0xFFFF0000, 0x0000FFFF),
    (ctl 6 1 16 24, thr (-110) 28, 0xFFFFFFFF, 0xFFFFFFFF), (ctl 10 0 8 32, thr (-100) 32, 0xFFFFFFFF, 0xFFFFFFFF)].getD k (0, 0, 0, 0)

/-- SEARCH_PROFILE_APPLY. -/
def searchProfileApplySpec : OpSpec where
  code := 0x1200
  length p := p.length == 4
  range _ p := decide (num p 0 1 < 8) && decide (num p 1 1 ≤ 3) && num p 2 2 == 0

/-- SEARCH_PROFILE_APPLY writes or stages a search preset. -/
def execSearchProfileApply (c : Cmd) (p : Bytes) (s : State) : Host.Outcome State Fault Refusal :=
  .next (s.run searchProfileApplySpec c p fun s =>
    let (ctl, thr, lo, hi) := searchPreset (num p 1 1)
    s.commitProfile c ((bitsSet 3 (num p 0 1)).flatMap fun n =>
      [whole (Reg.searchCtl n) ctl, whole (Reg.searchDetThr n) thr, whole (Reg.searchSbEnLo n) lo, whole (Reg.searchSbEnHi n) hi])
      (s.exhausted 0))

/-- LANE_POOL_SET. -/
def lanePoolSetSpec : OpSpec where
  code := 0x1201
  length p := p.length == 8
  range _ p := num p 3 1 == 0 && num p 7 1 == 0

/-- LANE_POOL_SET writes or stages the reservations and caps. (DEDUCED: log 34.) -/
def execLanePoolSet (c : Cmd) (p : Bytes) (s : State) : Host.Outcome State Fault Refusal :=
  .next (s.run lanePoolSetSpec c p fun s =>
    s.commitProfile c [whole Reg.poolRes (num p 0 3), whole Reg.poolCap (num p 4 3)] (s.exhausted 0) true)

/-! ### Medium access (Table 6-5, R219) -/

/-- WMAC_n_LBT, _BO, _CTL (cca_max and defer_rx) and _ACK of a preset. -/
def macPreset (k : Nat) : Nat × Nat × Nat × Nat :=
  let lbt (enable : Nat) (thr : Int) (listen : Nat) : Nat := enable + 256 * unsigned 8 thr + 65536 * listen
  let bo (unit least most : Nat) : Nat := unit + 65536 * least + 1048576 * most
  [(lbt 1 (-85) 160, bo 320 3 5, 4 * 256 + 4000 * 65536, 40 + 7 * 65536),
    (lbt 0 (-85) 160, bo 320 2 4, 4 * 256 + 4000 * 65536, 40 + 7 * 65536),
    (lbt 1 (-90) 5000, bo 1000 2 6, 6 * 256, 60 + 5 * 65536)].getD k (0, 0, 0, 0)

/-- MAC_PROFILE_APPLY. -/
def macProfileApplySpec : OpSpec where
  code := 0x1300
  length p := p.length == 4
  range _ p := decide (num p 0 1 < 8) && decide (num p 1 1 ≤ 2) && num p 2 2 == 0

/-- MAC_PROFILE_APPLY writes or stages a medium access preset. -/
def execMacProfileApply (c : Cmd) (p : Bytes) (s : State) : Host.Outcome State Fault Refusal :=
  .next (s.run macProfileApplySpec c p fun s =>
    let (lbt, bo, ctl, ack) := macPreset (num p 1 1)
    s.commitProfile c ((bitsSet 3 (num p 0 1)).flatMap fun n =>
      [whole (Reg.wmacLbt n) lbt, whole (Reg.wmacBo n) bo, under (Reg.wmacCtl n) 0xFFFFFF00 ctl, whole (Reg.wmacAck n) ack]))

/-- A word of a plait's registers has no reserved bit set. -/
def plainFor (a v : Nat) : Bool :=
  match findReg a with
  | some (r, _, _) => word v &&& ~~~r.mask == 0
  | none => false

/-- PLAIT_SET. -/
def plaitSetSpec : OpSpec where
  code := 0x1303
  length p := p.length == 20
  range _ p := decide (num p 0 1 < 64) && num p 1 3 == 0
    && (List.range 4).all fun k => plainFor (Reg.pltCfg (num p 0 1) + 4 * k) (num p (4 + 4 * k) 4)

/-- PLAIT_SET configures a plait (R215). (DEDUCED: log 34.) -/
def execPlaitSet (c : Cmd) (p : Bytes) (s : State) : Host.Outcome State Fault Refusal :=
  .next (s.run plaitSetSpec c p fun s =>
    s.commitProfile c ((List.range 4).map fun k => whole (Reg.pltCfg (num p 0 1) + 4 * k) (num p (4 + 4 * k) 4)) false true)

/-! ### Scheduled access (Table 7-6, R245) -/

/-- Length, init_ppm and learn_w of a preset. -/
def schedPreset (k : Nat) : Nat × Nat × Nat := [(60000, 40, 3), (30000, 40, 3), (1024, 20, 2)].getD k (0, 0, 0)

/-- SCHED_PROFILE_APPLY. -/
def schedProfileApplySpec : OpSpec where
  code := 0x1400
  length p := p.length == 4
  range _ p := decide (num p 0 1 < 8) && decide (num p 1 1 ≤ 2) && num p 2 2 == 0

/-- SCHED_PROFILE_APPLY writes or stages a pattern preset. -/
def execSchedProfileApply (c : Cmd) (p : Bytes) (s : State) : Host.Outcome State Fault Refusal :=
  .next (s.run schedProfileApplySpec c p fun s =>
    let (len, ppm, w) := schedPreset (num p 1 1)
    s.commitProfile c ((bitsSet 3 (num p 0 1)).flatMap fun n =>
      [whole (Reg.schedPat n) (65536 + len), whole (Reg.schedDrift n) (ppm + 256 * w)]))

/-! ### Ethernet, forwarding and traffic (Tables 8-3, 9-10, 10-5) -/

/-- The bits of EMAC_n_CTL that a preset sets: enable, speed, an_en, pause_rx, pause_tx, rate_low_en. -/
def emacPreset (k : Nat) : Nat := [0x0B, 0x2B, 0x0D, 0x09].getD k 0

/-- EMAC_PROFILE_APPLY. -/
def emacProfileApplySpec : OpSpec where
  code := 0x2000
  length p := p.length == 4
  range _ p := decide (num p 0 1 < 16) && decide (num p 1 1 ≤ 3) && num p 2 2 == 0

/-- EMAC_PROFILE_APPLY writes or stages an Ethernet preset. (DEDUCED: log 34.) -/
def execEmacProfileApply (c : Cmd) (p : Bytes) (s : State) : Host.Outcome State Fault Refusal :=
  .next (s.run emacProfileApplySpec c p fun s =>
    s.commitProfile c ((bitsSet 4 (num p 0 1)).flatMap fun e =>
      [under (Reg.emacCtl e) 0x3F (emacPreset (num p 1 1)), whole (Reg.emacMaxlen e) 9600,
        whole (Reg.emacRate e) (resetValue (Reg.emacRate e)).toNat]))

/-- FWD_PROFILE_APPLY. -/
def fwdProfileApplySpec : OpSpec where
  code := 0x2100
  length p := p.length == 4
  range _ p := decide (num p 0 1 ≤ 1) && num p 1 3 == 0

/-- FWD_PROFILE_APPLY writes or stages a forwarding preset. (DEDUCED: log 34.) -/
def execFwdProfileApply (c : Cmd) (p : Bytes) (s : State) : Host.Outcome State Fault Refusal :=
  .next (s.run fwdProfileApplySpec c p fun s => s.commitProfile c [under Reg.fwdCtl 6 (2 + 4 * num p 0 1)])

/-- The registers of a template (Table 10-5). (DEDUCED: log 34.) -/
def templateWrites (k : Nat) : List (Nat × Word × Word) :=
  let radio (n : Nat) : Bool := decide (7 ≤ n) && decide (n ≤ 12)
  ((List.range 16).map fun n => whole (Reg.tmPortOvh n) ((if n ≤ 4 then 20 else 0) + 65536 * 256))
    ++ ((List.range 16).map fun n =>
      if radio n then whole (Reg.tmPortCfg n) (8 * 256 + 2000 * 65536)
      else under (Reg.tmPortCfg n) 0xFFFF0003 (if n ≤ 3 then 2 else 0))
    ++ [Reg.tmClassMapLo, Reg.tmClassMapHi, Reg.tmDropGy 0, Reg.tmDropR 0].map (fun a => whole a (resetValue a).toNat)
    ++ ((List.range 4).map fun e => whole (Reg.tmIng e) (if k = 0 then 2048 else 3072))
    ++ [whole Reg.tmPrivRes (if k = 0 then 1024 else 2048)]

/-- TM_TEMPLATE_APPLY. -/
def tmTemplateApplySpec : OpSpec where
  code := 0x2200
  length p := p.length == 4
  range _ p := decide (num p 0 1 ≤ 1) && num p 1 3 == 0

/-- TM_TEMPLATE_APPLY writes or stages a template. -/
def execTmTemplateApply (c : Cmd) (p : Bytes) (s : State) : Host.Outcome State Fault Refusal :=
  .next (s.run tmTemplateApplySpec c p fun s => s.commitProfile c (templateWrites (num p 0 1)))

/-! ### Time, metering, DRAM and darning -/

/-- TIME_PTP_e_CFG under a preset (Table 11-12): fields that the table does not name take their reset values. -/
def ptpPreset (k : Nat) (named : Bool) : Nat :=
  let base := 0x301D00
  match k with
  | 0 => if named then base + 5 else base + 6
  | 1 => if named then base + 7 else base + 3
  | _ => base + 6

/-- TIME_PROFILE_APPLY. -/
def timeProfileApplySpec : OpSpec where
  code := 0x3000
  length p := p.length == 4
  range _ p := decide (num p 0 1 ≤ 2) && decide (num p 1 1 ≤ 3) && num p 2 2 == 0

/-- TIME_PROFILE_APPLY writes or stages TIME_CTL and the IEEE 1588 settings of the ports (R595). -/
def execTimeProfileApply (c : Cmd) (p : Bytes) (s : State) : Host.Outcome State Fault Refusal :=
  .next (s.run timeProfileApplySpec c p fun s =>
    let k := num p 0 1
    s.commitProfile c (whole Reg.timeCtl (0x6400 + (if k = 2 then 0 else 1))
      :: (List.range 4).map fun e => whole (Reg.timePtpCfg e) (ptpPreset k (e == num p 1 1))))

/-- MEAS_PROFILE_APPLY. -/
def measProfileApplySpec : OpSpec where
  code := 0x4000
  length p := p.length == 4
  range _ p := decide (num p 0 2 < 512) && decide (1 ≤ num p 2 1) && decide (num p 2 1 ≤ 100) && num p 3 1 == 0

/-- MEAS_PROFILE_APPLY writes or stages a metering setup: the pairs of the mask metered, every other input off, and MEAS_CTL
with its interval and enable. (DEDUCED: log 34.) -/
def execMeasProfileApply (c : Cmd) (p : Bytes) (s : State) : Host.Outcome State Fault Refusal :=
  .next (s.run measProfileApplySpec c p fun s =>
    let on (i : Nat) : Bool := bit (num p 0 2) (i / 2)
    let (used, unused) := (List.range 18).partition on
    s.commitProfile c ((unused.map fun i => under (Reg.measInCfg i) 3 0)
      ++ (used.map fun i => under (Reg.measInCfg i) 3 (1 + i % 2))
      ++ [whole Reg.measCtl (1 + 256 * num p 2 1)]) (s.exhausted 2))

/-- DRAM_PROFILE_APPLY. -/
def dramProfileApplySpec : OpSpec where
  code := 0x5100
  length p := p.length == 4
  range _ p := decide (num p 0 1 ≤ 1) && num p 1 3 == 0

/-- DRAM_PROFILE_APPLY writes or stages port weights. (DEDUCED: log 34.) -/
def execDramProfileApply (c : Cmd) (p : Bytes) (s : State) : Host.Outcome State Fault Refusal :=
  .next (s.run dramProfileApplySpec c p fun s =>
    s.commitProfile c (if num p 0 1 = 0 then
        (List.range 5).map fun k => whole (Reg.dramPortCfg k) (resetValue (Reg.dramPortCfg k)).toNat
      else [under (Reg.dramPortCfg 3) 0xFF 32, under (Reg.dramPortCfg 4) 0xFF 40]) s.dramDegraded)

/-- DARN_PROFILE_APPLY. -/
def darnProfileApplySpec : OpSpec where
  code := 0x7004
  length p := p.length == 4
  range _ p := decide (num p 0 1 ≤ 1) && num p 1 3 == 0

/-- DARN_PROFILE_APPLY writes or stages the class thresholds. -/
def execDarnProfileApply (c : Cmd) (p : Bytes) (s : State) : Host.Outcome State Fault Refusal :=
  .next (s.run darnProfileApplySpec c p fun s =>
    s.commitProfile c (if num p 0 1 = 0 then
        (List.range 7).map fun k => whole (Reg.darnClassCfg k) (resetValue (Reg.darnClassCfg k)).toNat
      else (List.range 4).map fun k => under (Reg.darnClassCfg k) 0xFF00 (24 * 256)))

end Sys2Proof.Machine
end

