-- ==== Sys2Proof/Machine/TimeStep.lean ====
section
/-! DEFINITION. Measurements of the offset and steps of the time base, with all that a step moves (R326 to R336, R76). -/

namespace Sys2Proof.Machine

/-! ### Steps -/

/-- Commits and releases whose instant a step has passed apply at the step (R76, R331). -/
def State.passedCommits (s : State) : State :=
  (List.range 4).foldl (fun (s : State) n =>
    ((s.due n).filter fun x => decide (x.1 ≤ s.netNs)).foldl (fun (s : State) x => s.applyDue n none x.2) s) s

/-- A measurement with all its consequences: one that steps the time base also moves pending instants (R76).
(DEDUCED: log 71.) -/
def State.measured (s : State) (c : Int) : Measured × State :=
  let (m, stepped, s) := s.measure c
  (m, if stepped then s.passedCommits else s)

/-- What the master of a measurement makes known. (DEDUCED: log 71.) -/
def State.heedMaster (s : State) (source : Nat) (i : MasterInfo) : State :=
  let s := { s with time := { s.time with
    master := i.identity, utcOffset := i.utcOffset, leap := i.leap
    masters := if source = 1 ∧ !s.time.masters.contains i.port then s.time.masters ++ [i.port] else s.time.masters
    offers := if source = 1 then Table.put s.time.offers i.port i.identity else s.time.offers } }
  let s := s.setFld Reg.timeState 15 8 i.steps
  if source = 1 then s.setSlave i.port else s

/-- TIME_MEASUREMENT: a measurement of the offset from a source counts if TIME_CTL.source selects it.
(DEDUCED: log 71.) -/
def execTimeMeasurement (source : Nat) (correction : Int) (master : MasterInfo) (s : State) : Host.Outcome State Fault Refusal :=
  .next (
    let heard := match source with
      | 1 => s.ptpOn master.port && s.flag (Reg.timePtpCfg master.port) 2 && s.flag (Reg.emacStat master.port) 0
        && !({ s with time := { s.time with offers := Table.put s.time.offers master.port master.identity } } : State).notSlave master.port
      | 2 => s.sourcePresent
      | _ => false
    if s.on .pkt && s.awake && s.timeSource == source && heard then ((s.heedMaster source master).measured correction).2 else s)

/-! ### Commands -/

/-- TIME_ADJUST. -/
def timeAdjustSpec : OpSpec where
  code := 0x3003
  session0 := true
  length p := p.length == 8

/-- TIME_ADJUST is a measurement of source 3 (R327). -/
def execTimeAdjust (c : Cmd) (p : Bytes) (s : State) : Host.Outcome State Fault Refusal :=
  .next (s.run timeAdjustSpec c p fun s =>
    if s.timeSource ≠ 3 then .fail Status.notPermitted []
    else
      match s.measured (signed 64 (num p 0 8)) with
      | (.accepted, s) => .done s Status.ok []
      | (.jump, s) => .done s Status.timeJumpRefused []
      | (.range, s) => .done (s.bump Reg.sysCmdErr) Status.paramRange [])

/-- TIME_FORCE_SET. -/
def timeForceSetSpec : OpSpec where
  code := 0x3004
  session0 := true
  length p := p.length == 14
  range _ p := decide (num p 0 1 ≤ 1) && num p 1 3 == 0 && (num p 0 1 == 1 || decide (num p 10 4 < 1000000000))

/-- The state that TIME_FORCE_SET leaves (Table 11-3). -/
def State.forcedState (s : State) : Nat :=
  if s.timeSource = 3 then 2 else if s.sourcePresent then 1 else 3

/-- The time base stepped by TIME_FORCE_SET, with client contexts, triggers and pending commits (R329).
(DEDUCED: log 72.) -/
def State.forceStep (s : State) (d : Int) : State :=
  (((s.stepContexts d).stepTime d 1).toTimeState s.forcedState).passedCommits

/-- TIME_FORCE_SET steps the time base by Δ. (DEDUCED: log 72.) -/
def execTimeForceSet (c : Cmd) (p : Bytes) (s : State) : Host.Outcome State Fault Refusal :=
  .next (s.run timeForceSetSpec c p fun s =>
    if num p 0 1 = 1 ∧ s.timeState ≠ 4 then .fail Status.notPermitted []
    else
      let d : Int := if num p 0 1 = 1 then s.refused
        else ((1000000000 * num p 4 6 + num p 10 4 : Nat) : Int) - (s.netNs : Int)
      if !s.timeFits d then .fail Status.paramRange []
      else .done (s.forceStep d) Status.ok (le 8 (unsigned 64 d)))

/-- TIME_CLIENT_STEP. -/
def timeClientStepSpec : OpSpec where
  code := clientStepCode
  session0 := true
  length p := p.length == 8
  range s p := decide (num p 0 2 < 4096) && num p 2 2 == 0 && s.clientValid (num p 0 2)

/-- TIME_CLIENT_STEP queues a step order for a client (R333, R334). (DEDUCED: log 57.) -/
def execTimeClientStep (c : Cmd) (p : Bytes) (s : State) : Host.Outcome State Fault Refusal :=
  .next (s.run timeClientStepSpec c p fun s =>
    let k := num p 0 2
    if (s.clientQueue k).any fun f => f.step.isSome then .fail Status.resourceBusy []
    else
      let id := s.sched.frames
      let budget := s.clientBudget k (1000000 * (if c.timeout = 0 then 1000 else c.timeout))
      let s := s.orderStep k (signed 32 (num p 4 4))
      let s := s.setClientQueue k ((s.clientQueue k).map fun f => if f.id = id then { f with budget := budget } else f)
      .wait s (.clientFrame k id) false)

/-- TIME_ANNOUNCE_DUE: every announce seconds, each radio queues a time announcement (R335). -/
def execTimeAnnounceDue (radio : Nat) (s : State) : Host.Outcome State Fault Refusal :=
  .next (
    if s.fld Reg.timeRadioCfg 31 16 = 0 ∨ ¬ s.awake then s
    else (s.sendBroadcast (s.fld (Reg.fwdRadioCfg radio) 31 16) 3 false (List.replicate 20 0) none none).2)

end Sys2Proof.Machine
end

