-- ==== Sys2Proof/Machine/Serve.lean ====
section
/-! DEFINITION. Port nodes served (R292, R302), what becomes of the copy a node hands over, and the debug port
(R503). -/

namespace Sys2Proof.Machine

/-! ### What a port node feeds -/

/-- Frames that a consumer still holds from its node. -/
def State.heldFrom (s : State) (p : Nat) : Nat := (Table.find s.tm.held p).getD 0

/-- Table 10-1: a port node takes a frame. -/
def State.nodeReady (s : State) (p : Nat) : Bool :=
  if p < 4 then s.lineFree p
  else if p < 7 then decide (s.heldFrom p < 4)
  else if p < 13 then decide (s.heldFrom p < s.fld (Reg.tmPortCfg p) 15 8)
  else true

/-- The one's complement sum of a string of 16-bit words. -/
def onesSum : Bytes → Nat
  | a :: b :: t => a.toNat * 256 + b.toNat + onesSum t
  | [a] => a.toNat * 256
  | [] => 0

/-- The one's complement of a sum folded to 16 bits. -/
def onesFold (n : Nat) : Nat :=
  let a := n % 65536 + n / 65536
  let b := a % 65536 + a / 65536
  65535 - (b % 65536 + b / 65536)

/-- The UDP checksum of an untagged IPv6 frame without FCS (RFC 8200). -/
def udp6Checksum (f : Bytes) : Nat :=
  let length := numBe f 58 2
  let c := onesFold (onesSum (slice f 22 32) + length + 17 + onesSum (patch (slice f 54 length) 6 [0, 0]))
  if c = 0 then 0xFFFF else c

/-- A one-step Sync with its transmit time in ns, and the UDP checksum that follows from it (R324).
(PRESUMED: log 69.) -/
def State.stampSync (s : State) (p : Nat) (f : Bytes) (now : Nat) : Bytes :=
  let stamp := be 6 (now / 1000000000) ++ be 4 (now % 1000000000)
  match s.fld (Reg.timePtpCfg p) 6 5 with
  | 0 => patch f 48 stamp
  | 1 => patch (patch f 76 stamp) 40 [0, 0]
  | _ =>
    let f := patch f 96 stamp
    patch f 60 (be 2 (udp6Checksum f))

/-- The first octet of a frame's message of IEEE 1588, behind its transport. (PRESUMED: log 69.) -/
def ptpTypeAt (transport : Nat) : Nat :=
  match transport with
  | 0 => 14
  | 1 => 42
  | _ => 62

/-- Whether a copy is a Sync of the time function that leaves one-step. (PRESUMED: log 69.) -/
def State.oneStep (s : State) (p : Nat) (c : Copy) : Bool :=
  s.ptpOn p && c.stamp.isSome && !s.flag (Reg.timePtpCfg p) 3
    && num c.bytes (ptpTypeAt (s.fld (Reg.timePtpCfg p) 6 5)) 1 % 16 == 0

/-- A copy on an Ethernet port's transmit line: too long it is dropped; its stamp is taken as it starts (R263,
R318, R320, R321, R324). `fails` says that the stamp fails its check. -/
def State.startLine (s : State) (p : Nat) (c : Copy) (fails : Bool) : State :=
  if s.fld (Reg.emacMaxlen p) 13 0 < c.length then (s.emacCount p 43).dropCopy c.buffer
  else
    let (c, s) := match c.stamp with
      | some id =>
        let (t, firmware, u) := s.stampFor p true fails
        (if s.oneStep p c then { c with bytes := s.stampSync p c.bytes t.1 } else c, u.pushStamp p id t firmware)
      | none => (c, s)
    s.modPort p fun e => { e with line := some c, pauseOnLine := false }

/-- A node has one frame more in its consumer. -/
def State.holdFrom (s : State) (p : Nat) : State :=
  { s with tm := { s.tm with held := Table.put s.tm.held p (s.heldFrom p + 1) } }

/-- The copy that a port node hands to what it feeds (Table 10-1, R287, R294). (DEDUCED: log 66.) -/
def State.handOver (s : State) (p : Nat) (c : Copy) (fails : Bool) : State :=
  let gone := fun (s : State) => s.dropCopy c.buffer
  if p < 4 then s.startLine p c fails
  else if p = 4 then gone (s.linkSend c)
  else if p = 5 then
    gone (s.toHost 0xFF { port := c.ingress, bytes := c.bytes, report := c.report, buffer := c.buffer, length := c.length } c.vlan c.bytes)
  else if p = 6 then gone (s.toFirmware 0xFF c.bytes)
  else if p < 13 then
    if 0x2400 ≤ c.port then
      ((s.holdFrom p).sendBroadcast (s.fld (Reg.fwdRadioCfg (p - 7)) 31 16) c.macType c.secured c.bytes (some p) (some c.buffer)).2
    else if s.flag (Reg.peerCfg (c.port - 0x2000)) 0 then
      ((s.holdFrom p).sendPeer (c.port - 0x2000) c.macType c.ackReq c.secured c.bytes (some p) (some c.buffer) none).2
    else gone s
  else if s.clientValid (c.port - 0x1000) then gone (s.forwardClient (c.port - 0x1000) c.bytes c.macType c.secured)
  else gone s

/-- The frame that a port node would send has a cell that cannot be read: it is dropped, in flush_drop (R542).
(DEDUCED: log 120.) -/
def State.loseHead (s : State) (p : Nat) : State :=
  match s.serveNode p with
  | none => s
  | some (c, _) =>
    match (s.nodeQueues p).find? fun q => (s.queue q).head? == some c with
    | some q => (((s.setQueue q ((s.queue q).drop 1)).discard [c]).emptied q).tmCount p 9
    | none => s

/-- TM_PORT_SERVE: a ready port node makes one scheduling decision and sends a frame. A PAUSE that an Ethernet port
owes goes first (R254). `trouble` is what goes wrong with the frame's cells or with its stamp (R542, Table 21-3).
(DESIGN CHOICE: log 119.) -/
def execTmPortServe (node : Nat) (trouble : UnitFault) (s : State) : Host.Outcome State Fault Refusal :=
  .next (
    if !(s.on .pkt && s.awake) || decide (16 ≤ node) then s
    else
      let s := if node < 4 then s.startPause node else s
      if !s.nodeReady node then s
      else
        let s := s.ageQueues node
        match trouble with
        | .uncorrectable row => ((s.sramError row true).loseHead node).pauseAll
        | .corrected row =>
          match (s.sramError row false).serveNode node with
          | some (c, s) => (s.handOver node c false).pauseAll
          | none => (s.sramError row false).pauseAll
        | .check =>
          match s.serveNode node with
          | some (c, s) =>
            let s := (s.handOver node c (node < 4)).pauseAll
            if node < 4 then s.unitError 8 node else s
          | none => s.pauseAll
        | .clean =>
          match s.serveNode node with
          | some (c, s) => (s.handOver node c false).pauseAll
          | none => s.pauseAll)

/-! ### The debug port (R503, R431) -/

/-- The least level of Table 19-5 that an access needs; `none` where no level allows it. -/
def debugNeed : DebugAccess → Option Nat
  | .bypass => some 0
  | .idcode => some 0
  | .readReg a => if islandOf a = some .sec then none else some 1
  | .trace => some 1
  | .halt _ => some 2
  | .resume _ => some 2
  | .step _ => some 2
  | .writeReg a _ => if islandOf a = some .sec then none else some 2
  | .boundaryScan => some 2

/-- A register write by the debug port, under the checks of a register write. -/
def State.debugWrite (s : State) (a : Nat) (value : Word) : State :=
  match s.writeOf a 0xFFFFFFFF value with
  | none => s
  | some w => if s.unpowered a || s.deaf a || (s.writeCheck w false false).isSome then s else s.write w

/-- What an access that the level allows does: a processor is halted or resumes, a register is written.
(DESIGN CHOICE: log 109.) -/
def State.debugServe (s : State) : DebugAccess → State
  | .halt n =>
    let s := s.settleTimers
    { s with sec := { s.sec with debugHalted := n % 2 :: s.sec.debugHalted.filter (· != n % 2) } }
  | .resume n =>
    let s := s.settleTimers
    { s with sec := { s.sec with debugHalted := s.sec.debugHalted.filter (· != n % 2) } }
  | .writeReg a v => s.debugWrite a v
  | .bypass => s
  | .idcode => s
  | .readReg _ => s
  | .trace => s
  | .step _ => s
  | .boundaryScan => s

/-- DEBUG_ACCESS: a TAP access is served or refused by the debug level. The port is unpowered in Standby and
Backup (Table 19-8). (DESIGN CHOICE: log 109.) -/
def execDebugAccess (access : DebugAccess) (s : State) : Host.Outcome State Fault Refusal :=
  .next (
    if 3 ≤ s.powerState then s
    else
      match debugNeed access with
      | none => s.secCount 6
      | some n => if s.debugLevel < n then s.secCount 6 else s.debugServe access)

end Sys2Proof.Machine
end

