-- ==== Sys2Proof/Machine/Replay.lean ====
section
/-! DEFINITION. The configuration image (R477 to R481): its records, what CFG_SAVE records, and the replay. -/

namespace Sys2Proof.Machine

/-! ### Images and records (R477, Table 18-5) -/

/-- The header a record or a command of the device's own carries. -/
def replayCmd (s : State) : Cmd :=
  { ep := .replay, session := 0, tag := 0, trailer := 0, target := s.device, timeout := 0, wantReply := false, inTxn := false, urgent := false, forward := false }

/-- A record: its offset in the image, its opcode and its parameters. -/
structure ImageRecord where
  offset : Nat
  opcode : Nat
  params : Bytes
  deriving DecidableEq, Repr

/-- A length rounded up to a multiple of 4. -/
def padded (n : Nat) : Nat := (n + 3) / 4 * 4

/-- The records of a body that begins at an offset; one that does not fit the body has the opcode 0, which no record may
carry. -/
def parseRecords : (fuel offset : Nat) → Bytes → List ImageRecord
  | 0, _, _ => []
  | _ + 1, _, [] => []
  | fuel + 1, offset, b =>
    let n := num b 2 2
    if b.length < 4 + n then [⟨offset, 0, []⟩]
    else ⟨offset, num b 0 2, slice b 4 n⟩ :: parseRecords fuel (offset + 4 + padded n) (b.drop (4 + padded n))

/-- The records of an image. -/
def imageRecords (image : Bytes) : List ImageRecord := parseRecords image.length 32 (slice image 32 (num image 12 4))

/-- The check word of an image's header and body. -/
def imageCheck (image : Bytes) : Nat := crc32c (slice image 0 28 ++ image.drop 32)

/-- The header of an image, its check word apart. -/
def imageForm (image : Bytes) : Bool :=
  decide (32 ≤ image.length) && decide (image.length ≤ 0x40000) && num image 0 4 == 0x4C434647 && num image 4 2 == 1
    && num image 6 2 == 0 && num image 26 2 == 0 && image.length == 32 + num image 12 4

/-- The check of an image (R477, R480). -/
def imageOk (image : Bytes) : Bool := imageForm image && num image 28 4 == imageCheck image

/-- The sequence number of an image. -/
def imageSeq (image : Bytes) : Nat := num image 8 4

/-- An image of a body. -/
def makeImage (seq version seconds : Nat) (body : Bytes) : Bytes :=
  let head := le 4 0x4C434647 ++ le 2 1 ++ le 2 0 ++ le 4 seq ++ le 4 body.length ++ le 4 version ++ le 6 seconds ++ le 2 0
  head ++ le 4 (crc32c (head ++ body)) ++ body

/-- A record as it stands in a body. -/
def recordBytes (opcode : Nat) (p : Bytes) : Bytes := padTo (4 + padded p.length) (le 2 opcode ++ le 2 p.length ++ p)

/-! ### What a record may carry (R478) -/

/-- The meaning of an opcode that a record may carry. -/
def configOp : Nat → Option (Cmd → Bytes → State → Host.Outcome State Fault Refusal)
  | 0x0201 => some execRegWrite
  | 0x1000 => some execRadioProfileApply
  | 0x1003 => some execRglCertApply
  | 0x1100 => some execModProfileApply
  | 0x1101 => some execLoadTableWrite
  | 0x1200 => some execSearchProfileApply
  | 0x1201 => some execLanePoolSet
  | 0x1300 => some execMacProfileApply
  | 0x1301 => some execPeerWrite
  | 0x1303 => some execPlaitSet
  | 0x1400 => some execSchedProfileApply
  | 0x1401 => some execClientWrite
  | 0x2000 => some execEmacProfileApply
  | 0x2100 => some execFwdProfileApply
  | 0x2101 => some execFwdMacWrite
  | 0x2104 => some execFwdVlanWrite
  | 0x2106 => some execFwdRouteWrite
  | 0x2107 => some execFwdNhWrite
  | 0x2108 => some execFwdAclWrite
  | 0x2200 => some execTmTemplateApply
  | 0x2201 => some execTmMapWrite
  | 0x3000 => some execTimeProfileApply
  | 0x4000 => some execMeasProfileApply
  | 0x4010 => some execCtlpProgramWrite
  | 0x4011 => some execCtlpProgramCommit
  | 0x4013 => some execCtlpMsgWrite
  | 0x4014 => some execCtlpGroupWrite
  | 0x5100 => some execDramProfileApply
  | 0x7004 => some execDarnProfileApply
  | _ => none

/-- The state that an outcome leaves. -/
def outcomeState (s : State) : Host.Outcome State Fault Refusal → State
  | .next s' => s'
  | .fault _ => s
  | .refused _ => s

/-- A record run as a command of session 0, with the status of its failure. -/
def State.runRecord (s : State) (r : ImageRecord) : Option Nat × State :=
  match (if r.opcode = 0x4011 ∧ num r.params 0 1 ≠ 0 then none else configOp r.opcode) with
  | none => (some Status.paramRange, s)
  | some f =>
    let s' := outcomeState s (f (replayCmd s) r.params s)
    (s'.boot.replayFault, { s' with boot := { s'.boot with replayFault := none } })

/-- Records replayed in order: the state, or the record that fails. (DEDUCED: log 100.) -/
def State.replayAll (s : State) : List ImageRecord → ImageRecord ⊕ State
  | [] => .inr s
  | r :: l =>
    match s.runRecord r with
    | (some _, _) => .inl r
    | (none, s) => s.replayAll l

/-- The first record of an image that R478 or a check of steps 12 and 13 refuses (R486). (DEDUCED: log 100.) -/
def State.badRecord (s : State) (l : List ImageRecord) : Option ImageRecord :=
  l.find? fun r => match (s.runRecord r).1 with
    | some status => status == Status.paramRange || status == Status.lengthRange
    | none => false

/-! ### The running configuration (R479) -/

/-- Registers that hold a calendar or a count, which the running configuration does not record. (DEDUCED: log 100.) -/
def unrecorded (base : Nat) : Bool := [Reg.rtcTimeW, Reg.rtcDateW, Reg.tmrCnt 0].contains base

/-- The order in which registers are recorded: what another one is checked against first, then what starts a unit, then
the clock gates. (DEDUCED: log 100.) -/
def recordRank (base : Nat) : Nat :=
  if base = Reg.rtcCtl then 0
  else if [Reg.tmMtrRate 0, Reg.plsCtl 0, Reg.tmrCtl 0, Reg.trxStateCtl 0, Reg.timePtpCfg 0, Reg.emacCtl 0, Reg.chainCtl,
      Reg.ctlpCtl, Reg.measCtl].contains base then 2
  else if base = Reg.clkGateCtl then 3
  else 1

/-- A register as a record, where it is one that is recorded and differs from its reset value. -/
def State.registerRecord (s : State) (a : Nat) : Option (Nat × Bytes) :=
  match findReg a with
  | none => none
  | some (r, i, j) =>
    let recorded := match r.access with
      | .rw => !unrecorded r.base
      | .txn => true
      | .seal => !s.isSealed
      | _ => false
    let peer := (r.base == Reg.peerCfg 0 || r.base == Reg.peerAddr 0) && s.flag (Reg.peerCfg i) 0
    let v := s.reg a &&& r.mask
    if recorded && !peer && v != (r.resetAt i j &&& r.mask) then
      some (recordRank r.base, recordBytes 0x0201 (le 4 a ++ le 4 r.mask.toNat ++ le 4 v.toNat))
    else none

/-- The registers, in the order they are recorded. A drop profile's red limit is first recorded as 0, so that its limits
keep their order throughout (R308). -/
def State.registerRecords (s : State) : Bytes :=
  let l := s.regs.filterMap fun e => s.registerRecord e.1
  let red := (List.range 16).filter fun d => s.reg (Reg.tmDropGy d) != resetValue (Reg.tmDropGy d)
  let redAll := (red.filter fun d => s.reg (Reg.tmDropR d) == resetValue (Reg.tmDropR d)).flatMap fun d =>
    recordBytes 0x0201 (le 4 (Reg.tmDropR d) ++ le 4 0x7FFF ++ le 4 (s.reg (Reg.tmDropR d)).toNat)
  red.flatMap (fun d => recordBytes 0x0201 (le 4 (Reg.tmDropR d) ++ le 4 0x7FFF ++ le 4 0))
    ++ ([0, 1].flatMap fun k => (l.filter fun (x : Nat × Bytes) => x.1 == k).flatMap fun (x : Nat × Bytes) => x.2)
    ++ redAll
    ++ ([2, 3].flatMap fun k => (l.filter fun (x : Nat × Bytes) => x.1 == k).flatMap fun (x : Nat × Bytes) => x.2)

/-- The tables of R479, as records. -/
def State.tableRecords (s : State) : Bytes :=
  ((List.range 512).filter fun q => s.flag (Reg.peerCfg q) 0).flatMap (fun q =>
      recordBytes 0x1301 (le 4 q ++ le 4 (s.reg (Reg.peerCfg q)).toNat ++ le 4 (s.reg (Reg.peerAddr q)).toNat))
    ++ (s.sched.contexts.filter fun e => bit (num e.2 2 1) 0).flatMap (fun e => recordBytes 0x1401 (le 4 e.1 ++ e.2.take 20))
    ++ (s.loading.tables.filter fun e => e.1 % 4 < 2 && tableValid e.2).flatMap (fun e =>
      recordBytes 0x1101 (le 1 (e.1 / 4) ++ le 1 (e.1 % 4) ++ le 2 0 ++ e.2))
    ++ (s.fwd.mac.filter fun e => num e.2 8 1 % 4 == 3).flatMap (fun e => recordBytes 0x2101 (e.2.take 12 ++ le 4 0))
    ++ s.fwd.vlans.flatMap (fun e => recordBytes 0x2104 e.2)
    ++ s.fwd.nextHops.flatMap (fun e => recordBytes 0x2107 (le 4 e.1 ++ e.2))
    ++ (s.fwd.routes.filter fun e => bit (num e.2 0 1) 0).flatMap (fun e => recordBytes 0x2106 (le 4 e.1 ++ e.2))
    ++ (s.fwd.acl.filter fun e => bit (num e.2 0 1) 0).flatMap (fun e => recordBytes 0x2108 (le 4 e.1 ++ e.2))
    ++ s.tm.maps.flatMap (fun e => recordBytes 0x2201 (le 2 e.1 ++ le 2 e.2))
    ++ s.ctl.running.flatMap (fun e => recordBytes 0x4010 (le 1 e.1 ++ [1] ++ le 2 0 ++ e.2))
    ++ (if s.ctl.running.isEmpty then [] else recordBytes 0x4011 (List.replicate 14 0))
    ++ s.ctl.messages.flatMap (fun e => recordBytes 0x4013 (le 1 e.1 ++ le 1 e.2.length ++ e.2))
    ++ s.ctl.groups.flatMap (fun e => recordBytes 0x4014 (le 2 e.1 ++ le 2 1 ++ le 1 e.2))

/-- The body of the running configuration: what the table entries are checked against comes first, and what runs comes
last. (DEDUCED: log 100.) -/
def State.runningConfig (s : State) : Bytes := s.registerRecords ++ s.tableRecords

/-! ### The configuration areas (R480, R482) -/

/-- The image in the area of a role; empty where the area is retired. -/
def State.roleImage (s : State) (role : Nat) : Bytes :=
  let a := s.boot.areas.getD (s.areaOf role) {}
  if a.retired then [] else a.image

/-- Whether sequence `a` is newer than `b` (R472). -/
def seqNewer (a b : Nat) : Bool := a != b && decide ((a + 2 ^ 32 - b) % 2 ^ 32 < 2 ^ 31)

/-- The roles whose images pass their check, the newer one first. -/
def State.validRoles (s : State) : List Nat :=
  let a := imageOk (s.roleImage 0)
  let b := imageOk (s.roleImage 1)
  if a && b then (if seqNewer (imageSeq (s.roleImage 1)) (imageSeq (s.roleImage 0)) then [1, 0] else [0, 1])
  else if a then [0] else if b then [1] else []

/-- The registers that show the configuration areas. -/
def State.showAreas (s : State) : State :=
  let s := (List.range 2).foldl (fun (s : State) r => s.setFlag Reg.sysCfgStat r (imageOk (s.roleImage r))) s
  s.setReg Reg.sysCfgSeq (word ((s.validRoles.head?.map fun r => imageSeq (s.roleImage r)).getD 0))

end Sys2Proof.Machine
end

