-- ==== Sys2Proof/Machine/Boot.lean ====
section
/-! DEFINITION. The boot flash and its commands (R468 to R486): firmware images, their slots and status records, and
configuration images on their way into an area. -/

namespace Sys2Proof.Machine

/-! ### The boot flash (R468, R483) -/

/-- Bytes of a sector (PRESUMED: the manual states no sector size). (PRESUMED: log 102.) -/
abbrev sectorBytes : Nat := 4096

/-- Bytes of a firmware slot. -/
abbrev slotBytes : Nat := 0x400000

/-- Octets of the flash: what was written, and the erased value beyond. -/
def flashBytes (image : Bytes) (off n : Nat) : Bytes :=
  let b := slice image off n
  b ++ List.replicate (n - b.length) Config.erased

/-- Octets written over the flash. (PRESUMED: log 102.) -/
def flashWrite (image : Bytes) (off : Nat) (new : Bytes) : Bytes :=
  patch (image ++ List.replicate (off - image.length) Config.erased) off new

/-- A slot changed. -/
def State.modSlot (s : State) (k : Nat) (f : FwSlot → FwSlot) : State :=
  { s with boot := { s.boot with slots := setAt s.boot.slots k f } }

/-- A slot. -/
def State.slot (s : State) (k : Nat) : FwSlot := s.boot.slots.getD k {}

/-- The slot that runs. -/
def State.running (s : State) : Nat := s.fld Reg.sysBootStat 0 0

/-- The slot that does not run. -/
def State.otherSlot (s : State) : Nat := 1 - s.running

/-- Whether the running slot is in trial. -/
def State.inTrial (s : State) : Bool := s.flag Reg.sysBootStat 1

/-! ### Firmware images (R470 to R472) -/

/-- Bytes of the two signatures. -/
abbrev signatureBytes : Nat := 16608

/-- Step 1 of R471: magic, part, stepping, reserved bytes and length. -/
def fwFormOk (image : Bytes) : Bool :=
  num image 0 4 == 0x4C444657 && num image 16 2 == 0x6430 && decide (num image 18 1 ≤ 1) && allZero (slice image 19 45)
    && decide (image.length ≤ slotBytes) && image.length == 64 + num image 12 4 + signatureBytes

/-- Steps 2 and 3 of R471. -/
def fwSigned (image : Bytes) : Bool :=
  signaturesOk (Config.authority 0) (imageSigned image) (image.drop (64 + num image 12 4))

/-- The rollback level of an image. -/
def fwLevel (image : Bytes) : Nat := num image 8 4

/-- Step 4 of R471. -/
def State.fwFresh (s : State) (image : Bytes) : Bool := decide ((s.reg Reg.secRollback).toNat ≤ fwLevel image)

/-- The image that a slot's own header delimits. -/
def slotImage (x : FwSlot) : Bytes := flashBytes x.image 0 (64 + num (flashBytes x.image 12 4) 0 4 + signatureBytes)

/-- R471 on the image of a slot. -/
def State.fwPasses (s : State) (x : FwSlot) : Bool :=
  let image := slotImage x
  fwFormOk image && fwSigned image && s.fwFresh image

/-- A status record as the flash holds it (R472). -/
def recordStatus (r : Option FwRecord) : Bytes :=
  match r with
  | none => List.replicate 20 Config.erased
  | some r =>
    let b := le 4 0x4C445352 ++ le 4 r.seq ++ le 1 r.state ++ le 1 r.trialBoots ++ List.replicate 6 0
    b ++ le 4 (crc32c b)

/-- FW_WRITE. -/
def fwWriteSpec : OpSpec where
  code := 0x0400
  timeout := 30000
  session0 := true
  noTxn := true
  length p := decide (8 ≤ p.length) && decide (p.length ≤ 4072)
  range _ p := num p 0 4 % 4 == 0 && decide (num p 0 4 + (p.length - 4) ≤ slotBytes)

/-- The sectors that a write enters first, erased. (PRESUMED: log 102.) -/
def eraseEntered (image : Bytes) (next off n : Nat) : Bytes :=
  let first := max ((next + sectorBytes - 1) / sectorBytes) (off / sectorBytes)
  let last := (off + n - 1) / sectorBytes
  (List.range (last + 1 - first)).foldl (fun image k =>
    flashWrite image ((first + k) * sectorBytes) (List.replicate sectorBytes Config.erased)) image

/-- FW_WRITE writes image bytes into the slot that is not running (R474). (DEDUCED: log 103.) -/
def execFwWrite (c : Cmd) (p : Bytes) (s : State) : Host.Outcome State Fault Refusal :=
  .next (s.run fwWriteSpec c p fun s =>
    let off := num p 0 4
    let data := p.drop 4
    let x := s.slot s.otherSlot
    if off ≠ 0 ∧ off < x.next then .fail Status.paramRange []
    else if s.inTrial then .fail Status.notPermitted []
    else
      match s.flashBusy with
      | some h => .fail Status.resourceBusy h
      | none =>
        let s := s.modSlot s.otherSlot fun x =>
          let x := if off = 0 then { x with record := none, next := 0, erases := x.erases + 1 } else x
          { x with image := flashWrite (eraseEntered x.image x.next off data.length) off data, next := off + data.length }
        .done (if off = 0 then s.checkWear else s) Status.ok [])

/-- FW_ACTIVATE. -/
def fwActivateSpec : OpSpec where
  code := 0x0401
  timeout := 30000
  session0 := true
  noTxn := true
  length p := p.length == 8
  range _ p := (num p 4 1 == 1 || num p 4 1 == 2) && allZero (slice p 5 3)

/-- FW_ACTIVATE checks the form of the written image, replies ACCEPTED and starts its verification (R471, R475).
(DEDUCED: log 103.) -/
def execFwActivate (c : Cmd) (p : Bytes) (s : State) : Host.Outcome State Fault Refusal :=
  .next (s.run fwActivateSpec c p fun s =>
    match s.flashBusy with
    | some h => .fail Status.resourceBusy h
    | none =>
      let n := num p 0 4
      if slotBytes < n then .fail Status.paramRange []
      else if !fwFormOk (flashBytes (s.slot s.otherSlot).image 0 n) then .fail Status.paramRange []
      else
        let s := { s with boot := { s.boot with activating := some (n, num p 4 1) } }
        .wait (s.holdFlash true) .fwActivate true)

/-- Whether a command's work is the activation of an image. -/
def Work.isActivate (w : Work) : Bool := w == .fwActivate

/-- A reset that begins 1 ms from now (R466). -/
def State.planReset (s : State) (cold hold : Bool) (cause : Nat) : State :=
  { s with boot := { s.boot with reset := some ⟨cold, hold, cause, 1000000 + s.elapsed⟩ } }

/-- FIRMWARE_VERIFY_DONE: signatures and rollback level decide; on success the slot is in trial and the reset is due
1 ms after the final reply, a cold reset where start-up had halted (R473, R475). (DEDUCED: log 103.) -/
def execFirmwareVerifyDone (s : State) : Host.Outcome State Fault Refusal :=
  .next (match s.boot.activating with
    | none => s
    | some (n, kind) =>
      let s := ({ s with boot := { s.boot with activating := none } }).holdFlash false
      let image := flashBytes (s.slot s.otherSlot).image 0 n
      if fwSigned image && s.fwFresh image then
        let seq := (((s.slot s.running).record.map (·.seq)).getD 0 + 1) % 2 ^ 32
        let s := s.modSlot s.otherSlot fun x => { x with record := some ⟨seq, 1, 0⟩ }
        let s := s.finishWork Work.isActivate Status.ok (le 4 seq)
        s.planReset s.boot.halted (kind == 2 && !s.boot.halted) 5
      else s.finishWork Work.isActivate Status.notPermitted [])

/-- FW_CONFIRM. -/
def fwConfirmSpec : OpSpec where
  code := 0x0402
  session0 := true
  noTxn := true
  length p := p.isEmpty

/-- The rollback floor raised to a level (R496). -/
def State.raiseFloor (s : State) (level : Nat) : State :=
  let s := { s with sec := { s.sec with rollback := s.sec.rollback ++ [level] } }
  ((s.setReg Reg.secRollback (word level)).setFld Reg.secLifecycle 13 8 s.sec.rollback.length).checkWear

/-- FW_CONFIRM confirms firmware in trial and raises the rollback floor (R476, R496). -/
def execFwConfirm (c : Cmd) (p : Bytes) (s : State) : Host.Outcome State Fault Refusal :=
  .next (s.run fwConfirmSpec c p fun s =>
    if !s.inTrial then .done s Status.ok (le 4 (s.reg Reg.secRollback).toNat)
    else
      let level := fwLevel (s.slot s.running).image
      let s := s.modSlot s.running fun x => { x with record := x.record.map fun r => { r with state := 2 } }
      let s := { s.setFlag Reg.sysBootStat 1 false with boot := { s.boot with confirmDue := none } }
      if level ≤ (s.reg Reg.secRollback).toNat then .done s Status.ok (le 4 (s.reg Reg.secRollback).toNat)
      else if 64 ≤ s.sec.rollback.length then .done s Status.okDegraded (le 4 (s.reg Reg.secRollback).toNat)
      else
        let s := s.raiseFloor level
        .done s Status.ok (le 4 (s.reg Reg.secRollback).toNat))

/-- FW_STATUS. -/
def fwStatusSpec : OpSpec where
  code := 0x0403
  length p := p.isEmpty

/-- FW_STATUS returns the status records and the headers of both slots. -/
def execFwStatus (c : Cmd) (p : Bytes) (s : State) : Host.Outcome State Fault Refusal :=
  .next (s.run fwStatusSpec c p fun s =>
    .done s Status.ok (recordStatus (s.slot 0).record ++ recordStatus (s.slot 1).record ++ le 1 s.running ++ le 3 0
      ++ flashBytes (s.slot 0).image 0 64 ++ flashBytes (s.slot 1).image 0 64))

/-! ### Writing a configuration (R482) -/

/-- The areas in roles that are not retired. -/
def State.liveRoles (s : State) : List Nat :=
  [0, 1].filter fun r => !(s.boot.areas.getD (s.areaOf r) {}).retired

/-- The role into which a configuration is written: the one that does not hold the newest valid image; the last area left
is written in place. -/
def State.targetRole (s : State) : Option Nat :=
  match s.liveRoles with
  | [] => none
  | [r] => some r
  | _ =>
    match s.validRoles with
    | [] => some 0
    | r :: _ => some (1 - r)

/-- The sequence number of the next image. -/
def State.nextSeq (s : State) : Nat :=
  match s.validRoles with
  | [] => 1
  | r :: _ => (imageSeq (s.roleImage r) + 1) % 2 ^ 32

/-- The area of a role erased. -/
def State.eraseRole (s : State) (role : Nat) : State :=
  let s := { s with boot := { s.boot with
    areas := setAt s.boot.areas (s.areaOf role) fun a => { a with image := [], erases := a.erases + 1 } } }
  (s.showAreas).checkWear

/-- The writing of an image into a role's area begins: it is erased first. (DEDUCED: log 103.) -/
def State.beginWrite (s : State) (role : Nat) (image : Bytes) : State :=
  let s := (s.eraseRole role).holdFlash true
  { s with boot := { s.boot with writing := some ⟨role, image, 0⟩ } }

/-- CFG_SAVE. -/
def cfgSaveSpec : OpSpec where
  code := 0x0404
  timeout := 30000
  noTxn := true
  length p := p.isEmpty

/-- CFG_SAVE captures the running configuration and starts writing it. (DEDUCED: log 103.) -/
def execCfgSave (c : Cmd) (p : Bytes) (s : State) : Host.Outcome State Fault Refusal :=
  .next (s.run cfgSaveSpec c p fun s =>
    match s.flashBusy with
    | some h => .fail Status.resourceBusy h
    | none =>
      match s.targetRole with
      | none => .fail Status.notPermitted []
      | some role =>
        let image := makeImage s.nextSeq (s.reg Reg.sysFwVer).toNat s.seconds s.runningConfig
        if 0x40000 < image.length then .fail Status.internalFault []
        else .wait (s.beginWrite role image) .cfgSave true)

/-- CFG_WRITE. -/
def cfgWriteSpec : OpSpec where
  code := 0x0405
  timeout := 30000
  noTxn := true
  length p := decide (5 ≤ p.length) && decide (p.length ≤ 4076)
  range _ p := decide (num p 0 4 + (p.length - 4) ≤ 0x40000)

/-- CFG_WRITE writes bytes into the configuration staging buffer. -/
def execCfgWrite (c : Cmd) (p : Bytes) (s : State) : Host.Outcome State Fault Refusal :=
  .next (s.run cfgWriteSpec c p fun s =>
    .done { s with boot := { s.boot with cfgStage := Memory.writeBytes s.boot.cfgStage 0 (num p 0 4) (p.drop 4) } } Status.ok [])

/-- CFG_COMMIT_IMAGE. -/
def cfgCommitSpec : OpSpec where
  code := 0x0406
  timeout := 30000
  noTxn := true
  length p := p.length == 4

/-- A staged image with its sequence number and its check word replaced (R486). -/
def reseal (image : Bytes) (seq : Nat) : Bytes :=
  let image := patch image 8 (le 4 seq)
  patch image 28 (le 4 (imageCheck image))

/-- CFG_COMMIT_IMAGE checks the staged image and starts writing it. (DEDUCED: log 103.) -/
def execCfgCommitImage (c : Cmd) (p : Bytes) (s : State) : Host.Outcome State Fault Refusal :=
  .next (s.run cfgCommitSpec c p fun s =>
    let n := num p 0 4
    let image := if n ≤ 0x40000 then Memory.readBytes s.boot.cfgStage 0 0 n else []
    if !imageForm image then .fail Status.paramRange []
    else if !imageOk image then .fail Status.badCheck []
    else
      match s.badRecord (imageRecords image) with
      | some r => .fail Status.paramRange (le 4 r.offset)
      | none =>
        match s.flashBusy with
        | some h => .fail Status.resourceBusy h
        | none =>
          match s.targetRole with
          | none => .fail Status.notPermitted []
          | some role => .wait (s.beginWrite role (reseal image s.nextSeq)) .cfgCommit true)

/-- A CFG_SAVE or a CFG_COMMIT_IMAGE that writes. -/
def Work.writesConfig : Work → Bool
  | .cfgSave => true
  | .cfgCommit => true
  | _ => false

/-- CONFIG_FLASH_WRITE_DONE: erase, program, read-back and check have ended; `readBack` says whether what was read is what
was written. A second failure retires the area, and its spare is written in its place (R482). (DEDUCED: log 103.) -/
def execConfigFlashWriteDone (readBack : Bool) (s : State) : Host.Outcome State Fault Refusal :=
  .next (match s.boot.writing with
    | none => s
    | some w =>
      let seq := imageSeq w.image
      if readBack then
        let old := s
        let s := { s with boot := { s.boot with
          writing := none, areas := setAt s.boot.areas (s.areaOf w.role) fun a => { a with image := w.image } } }
        let s := ((s.showAreas).holdFlash false).setFlag Reg.sysBootStat 6 false
        let s := (s.raise 0x0402 0 (le 1 w.role ++ le 4 seq)).noteSummary old
        s.finishWork Work.writesConfig (okUnless (s.exhausted 6 && decide (s.liveRoles.length ≤ 1)))
          (le 1 w.role ++ le 3 0 ++ le 4 seq ++ le 4 (num w.image 12 4))
      else if w.failures = 0 then
        let s := s.eraseRole w.role
        { s with boot := { s.boot with writing := some { w with failures := 1 } } }
      else
        let area := s.areaOf w.role
        let s := (s.retireUnit 6 area 1).showAreas
        if s.areaOf w.role = area then
          let s := ({ s with boot := { s.boot with writing := none } }).holdFlash false
          s.finishWork Work.writesConfig Status.internalFault []
        else
          let s := s.eraseRole w.role
          { s with boot := { s.boot with writing := some { w with failures := 0 } } })

/-- CFG_READ. -/
def cfgReadSpec : OpSpec where
  code := 0x0407
  length p := p.length == 8
  range _ p := decide (num p 0 1 ≤ 1) && num p 1 1 == 0 && decide (1 ≤ num p 6 2) && decide (num p 6 2 ≤ 4076)
    && decide (num p 2 4 + num p 6 2 ≤ 0x40000)

/-- CFG_READ returns bytes of a configuration area. -/
def execCfgRead (c : Cmd) (p : Bytes) (s : State) : Host.Outcome State Fault Refusal :=
  .next (s.run cfgReadSpec c p fun s =>
    .done s Status.ok (flashBytes (s.boot.areas.getD (s.areaOf (num p 0 1)) {}).image (num p 2 4) (num p 6 2)))

end Sys2Proof.Machine
end

