-- ==== Sys2Proof/Machine/Dram.lean ====
section
/-! DEFINITION. The DRAM controllers (chapter 15): accesses with the page policy, activation counting and error
correction, refresh, drift, scrubbing, and the rows they retire. -/

namespace Sys2Proof.Machine

/-! ### Configuration and addresses (R411, R412) -/

/-- Whether the DRAM can be used: trained, and not in self-refresh. -/
def State.dramReady (s : State) : Bool := s.flag Reg.dramStat 0 && !s.flag Reg.dramStat 1

/-- The channels in use. -/
def State.dramChannels (s : State) : List Nat := (List.range 2).filter fun c => s.flag Reg.dramCfg (3 + c)

/-- Ranks of a channel. -/
def State.dramRanks (s : State) : Nat := if s.flag Reg.dramCfg 5 then 2 else 1

/-- Bytes of usable capacity: 7/8 of what is installed on the channels in use. -/
def State.dramCapacity (s : State) : Nat :=
  s.dramChannels.length * s.dramRanks * ([4, 6, 8, 12, 16].getD (s.fld Reg.dramCfg 9 6) 4) * 2 ^ 27 * 7 / 8

/-- The channel of a usable address, and the address within it. -/
def State.dramLocal (s : State) (a : Nat) : Nat × Nat :=
  match s.dramChannels with
  | [c] => (c, a)
  | _ => (a / 256 % 2, a / 512 * 256 + a % 256)

/-- The row of a usable address, numbered as `rowNumber` numbers rows. -/
def State.dramRow (s : State) (a : Nat) : Nat :=
  let (c, l) := s.dramLocal a
  c * 2 ^ 20 + Config.dramRow c l % (s.dramRanks * 2 ^ 19)

/-- A row's bank: channel · 16 + rank · 8 + bank. -/
def bankOf (row : Nat) : Nat := row / 65536

/-- The row that an access opens: a retired row's spare (R422). -/
def State.openedRow (s : State) (row : Nat) : Nat :=
  let c := row / 2 ^ 20
  match (s.remapped c).find? fun e => s.remapOf c e == remapKey row with
  | some e => 2 ^ 16 + s.fld (Reg.dramRemap c e) 23 21
  | none => row % 65536

/-! ### Panic (R417, R418) -/

/-- Whether a port is in panic. -/
def State.portPanic (s : State) (p : Nat) : Bool := s.flag (Reg.dramPortStat p) 6

/-- Whether any port is in panic. -/
def State.anyPanic (s : State) : Bool := (List.range 4).any s.portPanic

/-- Refreshes and re-centrings that waited for panic to end are made up (R415, R418). -/
def State.afterPanic (s : State) : State :=
  if s.anyPanic then s
  else
    let s := s.bump64 (Reg.dramCntLo 10) s.dram.deferred.length
    { s with dram := { s.dram with postponed := [], deferred := [] } }

/-- The entries that wait in a port's buffer, with its panic. -/
def State.portLevel (s : State) (p level : Nat) : State :=
  let was := s.portPanic p
  let now := decide (p < 4) && decide (s.fld (Reg.dramPortCfg p) 13 8 ≤ level)
  let s := (s.setFld (Reg.dramPortStat p) 5 0 level).setFlag (Reg.dramPortStat p) 6 now
  if now && !was then s.bumpFld (Reg.dramPortStat p) 31 16
  else if was && !now then s.afterPanic else s

/-- Whether the arbiter serves a port before every other: no lower port in panic, and a port that is not in panic only
while none is (R417). (DEDUCED: log 85.) -/
def State.arbitrates (s : State) (p : Nat) : Bool :=
  if s.portPanic p then !((List.range p).any s.portPanic) else !s.anyPanic

/-! ### Activations and the page policy (R419, R420) -/

/-- The MEM clock, MHz (Table 15-2). -/
def State.memClock (s : State) : Nat := [200, 267, 400, 467, 533].getD (s.fld Reg.dramCfg 2 0) 533

/-- An activation of a bank for a port: counted, throttled past the threshold (R420). (DEDUCED: log 85.) -/
def State.activate (s : State) (p bank : Nat) : State :=
  let k := p * 32 + bank
  let gap := s.fld Reg.dramActCtl 31 16
  let late := match Table.find s.dram.lastAct k with
    | some t => s.dram.throttled.contains k && decide (s.elapsed < t + gap)
    | none => false
  let s := if late then (s.reachElapsed (((Table.find s.dram.lastAct k).getD 0) + gap)).bump64 (Reg.dramCntLo 8) else s
  let n := (Table.find s.dram.acts k).getD 0 + 1
  let s := s.bump64 (Reg.dramCntLo 2)
  let s := { s with dram := { s.dram with acts := Table.put s.dram.acts k n, lastAct := Table.put s.dram.lastAct k s.elapsed } }
  if s.fld Reg.dramActCtl 15 0 ≤ n ∧ ¬ s.dram.throttled.contains k then
    let first := !(s.dram.throttled.any fun x => x / 32 == p)
    let s := { s with dram := { s.dram with throttled := s.dram.throttled ++ [k] } }
    let s := (s.setFlag Reg.dramActFlag p true).setFlag (Reg.dramPortStat p) 7 true
    if first then s.raise 0x5102 1 (le 1 p ++ le 1 (bank / 16) ++ le 1 (bank / 8 % 2) ++ le 1 (bank % 8) ++ le 4 n) else s
  else s

/-- The row that stands open in a bank: one idle for idle_close MEM clocks has been closed. -/
def State.openRow (s : State) (bank : Nat) : Option Nat :=
  match Table.find s.dram.openRows bank with
  | some (r, t) => if (s.elapsed - t) * s.memClock < s.fld Reg.dramPageCtl 15 8 * 1000 then some r else none
  | none => none

/-- An access to a row of a bank, for a port. (DEDUCED: log 85.) -/
def State.touchRow (s : State) (p bank row : Nat) : State :=
  let hit := Table.find s.dram.last bank == some row
  let s := if s.openRow bank == some row then s else s.activate p bank
  let s := s.bump64 (Reg.dramCntLo (if hit then 3 else 4))
  let old := (Table.find s.dram.predictors bank).getD 2
  let policy := s.fld Reg.dramPageCtl 1 0
  let new := if policy ≠ 0 then old else if hit then min (old + 1) 3 else old - 1
  let stays := policy = 1 ∨ (policy = 0 ∧ 2 ≤ new)
  { s with dram := { s.dram with
      predictors := if new = 2 then Table.drop s.dram.predictors bank else Table.put s.dram.predictors bank new
      last := Table.put s.dram.last bank row
      openRows := if stays then Table.put s.dram.openRows bank (row, s.elapsed) else Table.drop s.dram.openRows bank } }

/-! ### Errors (R421, R422) -/

/-- What an uncorrectable word does to the data of its region (Table 15-5). -/
def State.loseData (s : State) (region a : Nat) : State :=
  match region with
  | 0 =>
    let c := (a - s.reg64 Reg.schedCtxBaseLo) / 64
    if a < s.reg64 Reg.schedCtxBaseLo ∨ 4096 ≤ c ∨ ¬ s.clientValid c then s
    else
      let b := s.context c
      let s := { s with mac := { s.mac with tuned := s.mac.tuned.filter (· != c) } }
      (s.setContext c (b.take 20 ++ List.replicate 43 0 ++ b.drop 63)).setThread c 2 3
  | 1 =>
    let i := (a - s.reg64 Reg.ciphLrecBaseLo) / 16
    if a < s.reg64 Reg.ciphLrecBaseLo ∨ 4611 ≤ i then s
    else s.setLink i { voided := some (s.pageGeneration (s.fld Reg.ciphRadioCfg 3 0)), generation := s.pageGeneration (s.fld Reg.ciphRadioCfg 3 0) }
  | 2 =>
    let c := Config.queueFrame a / 64 % 4096
    let place := Config.queueFrame a % 64
    (match (s.clientQueue c)[place]? with
    | none => s
    | some f =>
      let s := s.bump (Reg.schedCnt (s.clientRadio c) 10)
      if place = 0 then s.endClientFrame c Status.ok 2
      else
        let s := s.setClientQueue c ((s.clientQueue c).filter fun x => x.id != f.id)
        (s.outstandingOf fun o => o.work == .clientFrame c f.id).foldl (fun (s : State) o =>
          s.finish o Status.ok (if o.origin.opcode = clientStepCode then [2]
            else [2] ++ le 1 f.attempts ++ le 1 f.budget ++ List.replicate 11 0)) s)
  | 3 =>
    let w := s.meas.wave
    let width := (bitsSet 18 w.inputs).length
    let from_ := Config.captureSample a
    let hit (i j : Nat) : Bool := decide (from_ ≤ i * width + j) && decide (i * width + j < from_ + 16)
    let taken := w.taken.zipIdx.map fun e => e.1.zipIdx.map fun x => if hit e.2 x.2 then (-8388608 : Int) else x.1
    { s with meas := { s.meas with wave := { w with taken := taken, flags := Nat.lor w.flags 4 } } }
  | _ => s

/-- A row in error, for DARN_UNIT_READ. (DEDUCED: log 89.) -/
def State.noteRow (s : State) (row : Nat) : State :=
  { s with darn := { s.darn with dramRows := recent row s.darn.dramRows } }

/-- What the error correction of a read finds (R421). (DEDUCED: log 85.) -/
def State.checkRead (s : State) (p a : Nat) (ecc : EccFault) (region : Nat) : State :=
  let row := s.dramRow a
  let found := if s.dram.poison.contains (a / 64) then EccFault.uncorrectable else ecc
  match found with
  | .clean => s
  | .corrected =>
    let s := (s.bump64 (Reg.dramCntLo 5)).noteRow row
    let (past, s) := s.scoreError 4 row
    if past then (s.retireRow row 0).2 else s
  | .uncorrectable =>
    let s := ((s.bump64 (Reg.dramCntLo 6)).noteRow row).setReg64 Reg.dramErrAddrLo a
    let s := s.raise 0x5100 2 (le 8 a ++ le 1 p ++ le 1 region)
    let s := (s.scoreError 4 row).2
    let (entry, s) := s.retireRow row 4
    let s := if entry.isSome ∧ ¬ s.dram.poison.contains (a / 64) then
        { s with dram := { s.dram with poison := s.dram.poison ++ [a / 64] } }
      else s
    s.loseData region a

/-! ### The events -/

/-- DRAM_ACCESS: the arbiter serves one 64-byte access for a port. `write` holds the data of a write, `ecc` what a read
finds, `region` the region of its data (Table 15-8), and `level` the entries of the port's buffer as the access is
taken. (DEDUCED: log 85; DESIGN CHOICE: log 86.) -/
def execDramAccess (port address : Nat) (write : Option Bytes) (ecc : EccFault) (region level : Nat) (s : State) : Host.Outcome State Fault Refusal :=
  if !s.dramReady || 5 ≤ port then .next s
  else if s.dramCapacity ≤ address then .fault (.noDevice address)
  else
    let s' := s.portLevel port level
    if !s'.arbitrates port then .next s'
    else
      let row := s'.dramRow address
      let s' := s'.touchRow port (bankOf row) (s'.openedRow row)
      let s' := s'.portLevel port (level - 1)
      .next (match write with
        | some b =>
          let s' := s'.bump64 (Reg.dramCntLo 1) 64
          { s' with dram := { s'.dram with
              cells := Memory.writeBytes s'.dram.cells 0 (address / 64 * 64) (padTo 64 b)
              poison := s'.dram.poison.filter (· != address / 64) } }
        | none => (s'.bump64 (Reg.dramCntLo 0) 64).checkRead port address ecc region)

/-- SCRUB_READ: the patrol scrubber reads the next address through port 4. (DEDUCED: log 85.) -/
def execScrubRead (ecc : EccFault) (region : Nat) (s : State) : Host.Outcome State Fault Refusal :=
  .next (
    if !s.dramReady || s.dramCapacity == 0 then s
    else
      let a := s.dram.scrub
      let row := s.dramRow a
      let s := s.touchRow 4 (bankOf row) (s.openedRow row)
      let s := { s with dram := { s.dram with scrub := (a + 64) % s.dramCapacity } }
      s.checkRead 4 a ecc region)

/-- Whether a channel and a rank are in use. -/
def State.rankUsed (s : State) (channel rank : Nat) : Bool := s.dramChannels.contains channel && decide (rank < s.dramRanks)

/-- REFRESH_DUE: a refresh of a bank is issued, or postponed under panic, at most 8 a rank (R418). (DEDUCED: log 87.) -/
def execRefreshDue (channel rank bank : Nat) (s : State) : Host.Outcome State Fault Refusal :=
  .next (
    if !s.dramReady || !s.rankUsed channel rank || 8 ≤ bank then s
    else
      let k := channel * 2 + rank
      let n := (Table.find s.dram.postponed k).getD 0
      if s.anyPanic && decide (n < 8) then { s with dram := { s.dram with postponed := Table.put s.dram.postponed k (n + 1) } }
      else
        let s := if s.anyPanic then s.bump64 (Reg.dramCntLo 7) else s
        { s with dram := { s.dram with openRows := Table.drop s.dram.openRows (channel * 16 + rank * 8 + bank) } })

/-- MR4_READ_DUE: every 16 ms. (DEDUCED: log 87.) -/
def execMr4ReadDue (rate : Nat) (s : State) : Host.Outcome State Fault Refusal :=
  .next (
    if !s.dramReady || 2 < rate then s
    else
      let s := s.reachElapsed (16000000 + s.dram.mr4At)
      let s := { s with dram := { s.dram with mr4At := s.elapsed } }
      s.setFld Reg.dramStat 3 2 rate)

/-- DQS_DRIFT_CHECK: a rank's oscillator is read, `drift` in ps; past the limit the rank is re-centred, at the latest one
interval later while a port is in panic. -/
def execDqsDriftCheck (channel rank drift : Nat) (s : State) : Host.Outcome State Fault Refusal :=
  .next (
    if !s.dramReady || !s.rankUsed channel rank then s
    else
      let k := channel * 2 + rank
      let s := s.reachElapsed (((Table.find s.dram.driftAt k).getD 0) + 1000000 * s.fld Reg.dramTrnCtl 15 0)
      let s := { s with dram := { s.dram with driftAt := Table.put s.dram.driftAt k s.elapsed } }
      let past := decide (s.fld Reg.dramTrnCtl 23 16 < drift)
      if s.dram.deferred.contains k || (past && !s.anyPanic) then
        ({ s with dram := { s.dram with deferred := s.dram.deferred.filter (· != k) } }).bump64 (Reg.dramCntLo 10)
      else if past then { s with dram := { s.dram with deferred := s.dram.deferred ++ [k] } }
      else s)

/-- ACT_WINDOW_END: activation counts and throttles start afresh. -/
def execActWindowEnd (s : State) : Host.Outcome State Fault Refusal :=
  .next (
    if !s.dramReady then s
    else
      let s := s.reachElapsed (s.dram.windowStart + (if s.fld Reg.dramStat 3 2 = 0 then 32000000 else 16000000))
      let s := (List.range 5).foldl (fun (s : State) p => s.setFlag (Reg.dramPortStat p) 7 false) s
      { s with dram := { s.dram with acts := [], lastAct := [], throttled := [], windowStart := s.elapsed } })

/-! ### Commands (R423) -/

/-- DRAM_ROW_RETIRE. -/
def dramRowRetireSpec : OpSpec where
  code := 0x5101
  session0 := true
  length p := p.length == 6
  range s p := num p 0 1 < 2 && decide (num p 1 1 < s.dramRanks) && num p 2 1 < 8 && num p 3 1 == 0

/-- DRAM_ROW_RETIRE retires and remaps a row. (DEDUCED: log 89.) -/
def execDramRowRetire (c : Cmd) (p : Bytes) (s : State) : Host.Outcome State Fault Refusal :=
  .next (s.run dramRowRetireSpec c p fun s =>
    let row := rowNumber (num p 0 1) (num p 1 1) (num p 2 1) (num p 4 2)
    if (s.remapped (num p 0 1)).any fun e => s.remapOf (num p 0 1) e == remapKey row then .fail Status.resourceBusy p
    else
      let (entry, s) := s.retireRow row 3
      .done s Status.ok (le 1 ((entry.map (·.1)).getD 0xFF)))

/-- DRAM_STATUS. -/
def dramStatusSpec : OpSpec where
  code := 0x5102
  length p := p.length == 0

/-- DRAM_STATUS returns the configuration and status registers. -/
def execDramStatus (c : Cmd) (p : Bytes) (s : State) : Host.Outcome State Fault Refusal :=
  .next (s.run dramStatusSpec c p fun s =>
    .done s Status.ok ([Reg.dramCfg, Reg.dramStat, Reg.dramSpareStat, Reg.dramActFlag].flatMap fun a => le 4 (s.reg a).toNat))

end Sys2Proof.Machine
end

