-- ==== Sys2Proof/Machine/Reset.lean ====
section
/-! DEFINITION. Resets (R463 to R467): what each kind keeps, how one begins, and what brings one about. -/

namespace Sys2Proof.Machine

/-! ### What a reset keeps (R465) -/

/-- Whether a warm reset keeps the register at an address: the backup domain and AON, identity and lifecycle, timers
0–7, the time base, key pages, duty and energy, and the counters whose chapters keep them. (DEDUCED: log 96.) -/
def keptWarm (a : Nat) : Bool :=
  let off := a % 0x10000
  match a / 0x10000 with
  | 0x1 => decide (0x100 ≤ off)
  | 0x2 => [0x0, 0xC, 0x10].contains off || (decide (0x14 ≤ off) && decide (off < 0x24)) || decide (0x40 ≤ off)
  | 0x10 => decide (0x800 ≤ off) && decide (off < 0x900) && off % 0x10 == 0xC
  | 0x20 => decide (0x100 ≤ off % 0x1000) || off % 0x1000 == 0x28
  | 0x21 => decide (0x100 ≤ off) && decide (off < 0x8000)
  | 0x30 => decide (off < 0x100)
  | 0x31 => true
  | 0x40 => decide (0x400 ≤ off) && decide (off < 0xC00) && decide (0x2C ≤ off % 0x80)
  | 0x50 => (decide (0x100 ≤ off) && decide (off < 0x200)) || off == 0x10 || off == 0x14
  | 0x51 => [0x0, 0x8, 0x20].contains off || decide (0x100 ≤ off)
  | 0x52 => decide (off < 0x100)
  | 0x60 => true
  | 0x61 => off == 0
  | 0x70 => off == 0 || off == 4 || (decide (0x30 ≤ off) && decide (off < 0x80))
  | _ => false

/-- Whether a cold reset keeps the register at an address: the backup domain, OTP, and what the darning log and the flash
hold. (DEDUCED: log 96.) -/
def keptCold (a : Nat) : Bool :=
  let off := a % 0x10000
  match a / 0x10000 with
  | 0x2 => [0x0, 0x10].contains off || (decide (0x14 ≤ off) && decide (off < 0x24))
  | 0x31 => true
  | 0x51 => off == 0x20 || decide (0x200 ≤ off)
  | 0x70 => off == 0 || (decide (0x30 ≤ off) && decide (off < 0x80))
  | _ => false

/-- The units as the darning log holds them: one under test is a spare again. -/
def State.loggedUnits (s : State) : Table UnitState := s.darn.units.filter fun e => e.2 != .testing

/-- The darning engine after a reset. A bring-in under way waits for its class again. (DEDUCED: log 96.) -/
def State.darnAfter (s : State) (cold : Bool) : Darn :=
  let d := s.darn
  if cold then
    { d with
      counts := [0, 0, 0, 0], units := s.loggedUnits, scores := (s.loggedUnits.filter fun e => e.2 == .retired).map fun e => (e.1, ⟨255, 0⟩)
      leaks := ([0, 1, 2, 3, 4, 5, 7, 8, 9, 10].map fun k =>
        (k, s.elapsed + 60000000000 * (if k ≤ 5 then field (resetValue (Reg.darnClassCfg k)) 23 16 else 1)))
      active := [], waiting := [], dramRows := [], sramRows := [], checkpoints := [[], []] }
  else
    { d with
      units := s.loggedUnits, active := [], waiting := (d.active.filter fun b => b.kind != 1).map (fun b => { b with spare := none }) ++ d.waiting
      checkpoints := [[], []] }

/-- A count of a class's units in a state. -/
def State.unitsIn (s : State) (k : Nat) (u : UnitState) : Nat :=
  ((List.range (unitCount k)).filter fun i => s.unitState k i == u).length

/-- The registers that show lanes, converter channels and cipher engines, from the units' states. -/
def State.showUnits (s : State) : State :=
  let lane (s : State) (l : Nat) : State := match s.unitState 0 l with
    | .retired => (s.mapLane l false).setReg (Reg.laneStat l) 6
    | .serving => (s.mapLane l true).setReg (Reg.laneStat l) 0
    | _ => s
  let s := ((List.range 80).filter fun l => s.unitState 0 l != shippedState 0 l).foldl lane s
  let lanes := s.unitsIn 0 .serving
  let s := s.setReg Reg.poolStat (word (lanes + lanes * 256 + 65536 * s.unitsIn 0 .spare))
  let s := s.setReg Reg.measStat (word (s.unitsIn 2 .serving + s.unitsIn 2 .spare * 256))
  let s := (List.range 5).foldl (fun (s : State) e => match s.unitState 3 e with
    | .retired => ((s.setFlag Reg.ciphStat e false).setFld (Reg.ciphEngStat e) 1 0 3).setFld (Reg.ciphEngStat e) 15 8 255
    | .serving => (s.setFlag Reg.ciphStat e true).setFld (Reg.ciphEngStat e) 1 0 0
    | _ => s) s
  let s := s.setFlag Reg.ciphStat 8 (s.unitState 3 4 == .spare)
  [0, 1, 2, 3, 6].foldl (fun (s : State) k =>
    (s.setFld (Reg.darnClassStat k) 7 0 (s.unitsIn k .serving)).setFld (Reg.darnClassStat k) 15 8 (s.unitsIn k .spare)) s

/-- Read-only fields of a unit's place that the darning log rebuilds: a radio's synthesisers, an input's converter channel,
the configuration areas. -/
def State.showPlaces (s old : State) : State :=
  let s := (List.range 3).foldl (fun (s : State) n =>
    if old.flag (Reg.trxState n) 10 then s.setFld (Reg.trxState n) 11 8 (old.fld (Reg.trxState n) 11 8 % 2 + old.fld (Reg.trxState n) 11 8 / 4 * 4)
    else s) s
  let s := (List.range 18).foldl (fun (s : State) i => s.setFld (Reg.measInCfg i) 13 8 (old.fld (Reg.measInCfg i) 13 8)) s
  (s.setReg Reg.sysCfgStat (old.reg Reg.sysCfgStat)).holdFlash false

/-! ### The state after a reset -/

/-- Sealed values stand in the SEAL registers (R500). -/
def State.loadSealed (s : State) : State :=
  match s.sec.sealedValues with
  | some l => l.foldl (fun (s : State) e => s.setReg e.1 e.2) s
  | none => s

/-- Boot flash and start-up state after a reset. (DEDUCED: log 96.) -/
def State.bootAfter (s : State) (plan : ResetPlan) (retained : Option Bytes) : Boot :=
  { slots := s.boot.slots, areas := s.boot.areas, sealedCopies := s.boot.sealedCopies
    retained := retained, starting := some plan
    watchdogResets := if plan.cause = 6 then s.boot.watchdogResets + 1 else 0 }

/-- OTP and the security state after a reset. (DEDUCED: log 96.) -/
def State.secAfter (s : State) (cold : Bool) : Sec :=
  { debugAuthority := s.sec.debugAuthority, rollback := s.sec.rollback, sealedValues := s.sec.sealedValues
    keyPairs := s.sec.keyPairs, privateKeys := s.sec.privateKeys, backupTamper := s.sec.backupTamper
    transportKey := if cold then none else s.sec.transportKey
    anyAlarm := if cold then false else s.sec.anyAlarm }

/-- Every island at its reset values, what the kind of reset keeps apart (R465). (DEDUCED: log 96.) -/
def State.wipe (s : State) (plan : ResetPlan) (retained : Option Bytes) : State :=
  let e := s.elapsed
  let fresh : List Radio := List.replicate 3 { since := e }
  let t : State := {
    pending := s.pending
    elapsed := e
    draws := s.draws
    boot := s.bootAfter plan retained
    sec := s.secAfter plan.cold
    darn := s.darnAfter plan.cold
    rtc := { s.rtc with setInstant := none, cancelled := false, snaps := [] }
    radios := fresh }
  let t := if plan.cold then
      { t with
        regs := s.regs.filter fun x => keptCold x.1
        rgl := { binStart := e }
        dram := { windowStart := e, mr4At := e }
        meas := { timers := List.replicate 16 { since := e } } }
    else
      { t with
        regs := s.regs.filter fun x => keptWarm x.1
        time := { s.time with lastStart := none, lastCycle := none, stepped := false, pulses := List.replicate 4 {} }
        tm := { stats := s.tm.stats }
        sched := { contexts := s.sched.contexts, queues := s.sched.queues, frames := s.sched.frames }
        rgl := { bins := s.rgl.bins, binStart := s.rgl.binStart, high := s.rgl.high }
        cipher := { keys := s.cipher.keys, links := s.cipher.links }
        dram := { cells := s.dram.cells, poison := s.dram.poison, scrub := s.dram.scrub, windowStart := e, mr4At := e }
        power := { s.power with fired := 0, entering := none, exitSince := none }
        meas := {
          outs := s.meas.outs.map (fun (o : Output) => { held := o.held })
          holdDue := s.meas.holdDue
          timers := s.meas.timers.take 8 ++ List.replicate 8 { since := e } } }
  ((t.showUnits).showPlaces s).setFld Reg.darnStat 6 0 0

/-- Registers that a warm reset leaves in part: the tick of RATE_STAT, timers that run, key status, the cause.
(DEDUCED: log 96.) -/
def State.afterWarm (t old : State) (plan : ResetPlan) : State :=
  let t := (List.range 4).foldl (fun (t : State) p => t.setReg (Reg.emacRateStat p) (word (old.fld (Reg.emacRateStat p) 15 0))) t
  let t := t.setReg Reg.tmrRun (word (((List.range 8).filter fun n => t.flag (Reg.tmrCtl n) 0).foldl (fun m n => m + 2 ^ n) 0))
  let t := t.setFld Reg.pwrState 2 0 (if old.powerState = 1 then 1 else 0)
  let t := if t.flag Reg.dramStat 0 then t.setFlag Reg.dramStat 1 true else t
  let t := (t.setFlag Reg.pwrState 3 false).setFlag Reg.sysBootStat 6 (old.flag Reg.sysBootStat 6)
  t.setReg Reg.sysResetCause (word (plan.cause + 256 * bitOf plan.hold + 65536 * min 65535 (old.fld Reg.sysResetCause 31 16 + 1)))

/-- Outputs at a reset: handed to their latches with hold, high-impedance without (R384, R385, R466). After a TCXO failure
they are in their latches already (R457). (DEDUCED: log 80.) -/
def State.resetOutputs (s : State) (plan : ResetPlan) : State :=
  if plan.cold then s.floatOutputs
  else if s.flag Reg.clkSrcStat 3 then
    { s with meas := { s.meas with
        holdDue := if s.flag Reg.clkSrcStat 0 then some (s.meas.holdDue.getD (10000000000 + s.elapsed)) else none } }
  else if plan.hold then
    let was := s.meas.outs.any fun o => o.held.isSome
    let s := s.holdOutputs
    { s with meas := { s.meas with
        holdDue := match (if was then s.meas.holdDue else none) with
          | some t => some t
          | none => some (10000000000 + s.elapsed) } }
  else s.floatOutputs

/-- A reset begins: sessions end, the running configuration goes to DRAM, outputs are held or let go, and everything the
reset does not keep is at its reset value (R55, R465, R466). (DEDUCED: log 96.) -/
def State.beginReset (s : State) (plan : ResetPlan) : State :=
  let s := s.settleTimers
  let s := (s.darn.active.filter fun b => b.kind == 1).foldl (fun (s : State) b =>
    s.concludeRetire 1 b.unit b.cause b.spare ((s.elapsed - b.decided) / 1000) true) s
  let s := (s.closeDebug 3).resetOutputs plan
  let retained := if !plan.cold && s.dramReady then
      some (makeImage (s.reg Reg.sysCfgSeq).toNat (s.reg Reg.sysFwVer).toNat s.seconds s.runningConfig)
    else none
  let t := s.wipe plan retained
  if plan.cold then
    let t := if s.rtc.stopped then t else (t.setFlag Reg.clkSrcStat 1 (s.flag Reg.clkSrcStat 1)).setFlag Reg.clkSrcStat 4 (s.flag Reg.clkSrcStat 4)
    let t := (t.setFlag Reg.secLifecycle 6 false).setReg Reg.darnSvc (word (Nat.land (s.reg Reg.darnSvc).toNat 0xAFFF))
    t.setReg Reg.sysResetCause (word plan.cause)
  else t.afterWarm s plan

/-! ### What brings a reset about -/

/-- RESET. -/
def resetSpec : OpSpec where
  code := 0x0002
  timeout := 100
  session0 := true
  length p := p.length == 1
  range _ p := decide (num p 0 1 ≤ 2)

/-- RESET replies OK and the reset begins 1 ms later (R466). -/
def execReset (c : Cmd) (p : Bytes) (s : State) : Host.Outcome State Fault Refusal :=
  .next (s.run resetSpec c p fun s =>
    .done (s.planReset (num p 0 1 == 0) (num p 0 1 == 2) (2 + num p 0 1)) Status.ok [])

/-- RESET_START: the reset that is due begins. In Backup none but a cold one does (R449). -/
def execResetStart (s : State) : Host.Outcome State Fault Refusal :=
  .next (match s.boot.reset with
    | none => s
    | some plan =>
      if s.powerState = 4 ∧ ¬ plan.cold then s else (s.reachElapsed plan.due).beginReset plan)

/-- SUPPLY_LOSS: a supply below its falling threshold asserts reset (R464, R576). (DEDUCED: log 97.) -/
def execSupplyLoss (supply : Nat) (s : State) : Host.Outcome State Fault Refusal :=
  .next (if 8 ≤ supply then s else s.beginReset ⟨true, false, 0, s.elapsed⟩)

/-- RESET_N_ASSERT: RESET_N low gives a cold reset (R463). (DEDUCED: log 97.) -/
def execResetNAssert (s : State) : Host.Outcome State Fault Refusal := .next (s.beginReset ⟨true, false, 1, s.elapsed⟩)

/-- Start-up has not begun, or a cold reset waits for it. (DEDUCED: log 97.) -/
def State.awaitsStart (s : State) : Bool :=
  match s.boot.starting with
  | some plan => plan.cold
  | none => s.host.fwState == 0 && !s.boot.halted

/-- POWER_ON_RESET: 2 ms after the last supply is good the reset is released; TESTMODE high keeps the device from starting
(R463, R565). (DEDUCED: log 97.) -/
def execPowerOnReset (testmode : Bool) (s : State) : Host.Outcome State Fault Refusal :=
  .next (
    if !s.awaitsStart then s
    else
      let s := { s with elapsed := 2000000 + s.elapsed }
      if testmode then
        let s := s.floatOutputs
        { s with boot := { s.boot with testmode := true }, pins := { s.pins with alive := false } }
      else { s with boot := { s.boot with testmode := false } })

/-- WDT_KICK: firmware restarts the watchdog; a write by the host is refused (R467). -/
def execWdtKick (c : Option Cmd) (mask value : Word) (s : State) : Host.Outcome State Fault Refusal :=
  match c with
  | some c => .next (s.writeRow c Reg.sysWdtKick mask value)
  | none => .next (
      if s.host.fwState = 1 ∧ s.boot.starting.isNone ∧ value &&& mask = 0xA5C3 then
        { s with boot := { s.boot with watchdogDue := s.elapsed + 1000000 * s.fld Reg.sysWdtCfg 15 0 } }
      else s)

/-- WATCHDOG_EXPIRY: firmware has not kicked in time: ALIVE_N is released and a warm reset begins at once (R467).
(DEDUCED: log 97.) -/
def execWatchdogExpiry (s : State) : Host.Outcome State Fault Refusal :=
  .next (
    if s.host.fwState ≠ 1 ∨ s.boot.starting.isSome ∨ 2 < s.powerState ∨ ¬ s.flag Reg.sysWdtCfg 16 then s
    else
      let s := s.reachElapsed s.boot.watchdogDue
      s.beginReset ⟨false, s.flag Reg.sysWdtCfg 17, 6, s.elapsed⟩)

/-- CONFIRM_TIMEOUT: trial firmware has not been confirmed in time: its slot is rejected, and a warm reset with hold begins
(R476). -/
def execConfirmTimeout (s : State) : Host.Outcome State Fault Refusal :=
  .next (match s.boot.confirmDue with
    | none => s
    | some t =>
      if s.boot.starting.isSome then s
      else
        let s := s.reachElapsed t
        let s := s.modSlot s.running fun x => { x with record := x.record.map fun r => { r with state := 0 } }
        s.beginReset ⟨false, true, 7, s.elapsed⟩)

end Sys2Proof.Machine
end

