-- ==== Sys2Proof/Machine/Start.lean ====
section
/-! DEFINITION. Start-up (R469, R472, R480, R484, R487): the firmware that runs, the sealed settings, DRAM, the
configuration that is replayed, and what a cold and a warm start have of their own. -/

namespace Sys2Proof.Machine

/-! ### Firmware (R472, R473) -/

/-- Slots in trial that have been started twice are rejected; those rejected, with their install sequences. -/
def State.rejectTrials (s : State) : List (Nat × Nat) × State :=
  (List.range 2).foldl (fun (x : List (Nat × Nat) × State) k =>
    match (x.2.slot k).record with
    | some r =>
      if r.state = 1 ∧ 2 ≤ r.trialBoots then
        (x.1 ++ [(k, r.seq)], x.2.modSlot k fun y => { y with record := some { r with state := 0 } })
      else x
    | none => x) ([], s)

/-- Whether a slot can be started. -/
def State.candidate (s : State) (k : Nat) : Bool :=
  match (s.slot k).record with
  | some r => (r.state == 1 || r.state == 2) && s.fwPasses (s.slot k)
  | none => false

/-- The install sequence of a slot. -/
def State.slotSeq (s : State) (k : Nat) : Nat := ((s.slot k).record.map (·.seq)).getD 0

/-- The slot that starts: the candidate with the newest install sequence. -/
def State.chooseSlot (s : State) : Option Nat :=
  match s.candidate 0, s.candidate 1 with
  | true, true => some (if seqNewer (s.slotSeq 1) (s.slotSeq 0) then 1 else 0)
  | true, false => some 0
  | false, true => some 1
  | false, false => none

/-- Start-up halts (R473, R413). -/
def State.halt (s : State) : State :=
  { s with
    boot := { s.boot with halted := true, starting := none, reset := none }
    host := { s.host with fwState := 3 }
    pins := { s.pins with alive := false } }

/-- A slot started: a trial is counted, and SYS_BOOT_STAT and SYS_FW_VER show it. (DEDUCED: log 98.) -/
def State.runSlot (s : State) (k : Nat) (rejected : List (Nat × Nat)) : State :=
  let trial := ((s.slot k).record.map fun r => r.state == 1).getD false
  let s := if trial then s.modSlot k fun x => { x with record := x.record.map fun r => { r with trialBoots := r.trialBoots + 1 } } else s
  let s := ((s.setFld Reg.sysBootStat 0 0 k).setFlag Reg.sysBootStat 1 trial).setFlag Reg.sysBootStat 2 (rejected.any fun r => r.1 != k)
  s.setReg Reg.sysFwVer (word (num (s.slot k).image 4 4))

/-! ### Sealed settings (R114, R469, R494, R502) -/

/-- Whether a copy's certificate is valid: steps 1 to 3 of R109 and its identity check. -/
def State.certValid (s : State) (cert : Bytes) : Bool := certFormOk cert && certSigned cert && s.certNames cert

/-- The certificate that start-up uses: the valid copy of the higher version. -/
def State.sealedCert (s : State) : Option Bytes :=
  match (s.boot.sealedCopies.map (·.certificate)).filter s.certValid with
  | [] => none
  | [a] => some a
  | a :: b :: _ => some (if certVersion a < certVersion b then b else a)

/-- The sealed-settings area verified: a copy that fails or is older is rewritten, and without a valid one the device only
receives. -/
def State.verifySealed (s : State) : State :=
  let s := match s.sealedCert with
    | some cert =>
      let s := { s with boot := { s.boot with sealedCopies := s.boot.sealedCopies.map fun (x : SealedCopy) => { x with certificate := cert } } }
      (s.useCert cert).setFlag Reg.sysBootStat 7 true
    | none => s
  match (s.boot.sealedCopies.map (·.deviceCert)).find? s.deviceCertOk with
  | some t =>
    let s := { s with boot := { s.boot with sealedCopies := s.boot.sealedCopies.map fun (x : SealedCopy) => { x with deviceCert := t } } }
    s.setFlag Reg.secLifecycle 4 true
  | none => s.setFlag Reg.secLifecycle 4 false

/-- After a cold start every limited band is charged with exactly its limit (R114). -/
def State.chargeStart (s : State) : State :=
  (List.range s.bandCount).foldl (fun (s : State) b =>
    match s.dutyLimit b with
    | some limit =>
      let r := limit % 3600
      s.setBins b (List.replicate (3600 - r) (limit / 3600) ++ List.replicate r (limit / 3600 + 1))
    | none => s) { s with rgl := { s.rgl with binStart := s.elapsed } }

/-! ### The configuration (R480) -/

/-- An image replayed, or the offset of the record that failed. -/
def State.replayImage (s : State) (records : List ImageRecord) : Nat ⊕ State :=
  match s.replayAll records with
  | .inl r => .inl r.offset
  | .inr t => .inr t

/-- What a replay has come to: the source and the sequence number of the image that stands, and the offset of the first
record that failed. -/
structure Replayed where
  source : Nat
  seq : Nat
  failed : Option Nat
  deriving DecidableEq, Repr

/-- Images tried in order, each from the same reset values; the OTP defaults when none replays. -/
def State.replayFirst (s : State) (failed : Option Nat) : List (Nat × Bytes) → Replayed × State
  | [] =>
    match s.replayImage (parseRecords Config.factoryImage.length 0 Config.factoryImage) with
    | .inl at_ => (⟨3, 0, some (failed.getD at_)⟩, s)
    | .inr t => (⟨3, 0, failed⟩, t)
  | (source, image) :: l =>
    match s.replayImage (imageRecords image) with
    | .inl at_ => s.replayFirst (some (failed.getD at_)) l
    | .inr t => (⟨source, imageSeq image, failed⟩, t)

/-- The images in the roles whose check passes, the newer first. (DEDUCED: log 100.) -/
def State.roleImages (s : State) : List (Nat × Bytes) := s.validRoles.map fun r => (r, s.roleImage r)

/-- The configuration replayed, and what SYS_BOOT_STAT and SYS_CFG_SEQ show of it. (DEDUCED: log 100.) -/
def State.configure (s : State) : Replayed × State :=
  let s := s.showAreas
  let kept := match s.boot.retained with
    | some image => if imageOk image then [(2, image)] else []
    | none => []
  let (r, s) := s.replayFirst none (kept ++ s.roleImages)
  let s := s.setFld Reg.sysBootStat 5 4 r.source
  let s := if r.source = 3 then s.setFlag Reg.sysBootStat 6 true else s
  (r, { s with boot := { s.boot with retained := none } })

/-- CFG_LOADED (Table 18-9). -/
def State.raiseLoaded (s : State) (r : Replayed) : State :=
  s.raise 0x0400 (bitOf (r.source == 3 || r.failed.isSome)) (le 1 r.source ++ le 4 r.seq ++ le 4 (r.failed.getD 0xFFFFFFFF))

/-! ### The end of start-up -/

/-- FW_TRIAL_REJECTED for each slot rejected at this start, and for one whose confirmation time expired (Table 18-9). -/
def State.raiseRejected (s : State) (rejected : List (Nat × Nat)) (expired : Bool) : State :=
  let s := rejected.foldl (fun (s : State) r => s.raise 0x0401 1 (le 1 r.1 ++ le 4 r.2 ++ [0])) s
  if expired then s.raise 0x0401 1 (le 1 s.otherSlot ++ le 4 (s.slotSeq s.otherSlot) ++ [1]) else s

/-- Trim after a start: its domains, and the gates of what it excludes cleared. -/
def State.startPower (s : State) : State :=
  let s := s.setDomains s.powerState
  if s.powerState = 1 then
    let k := s.power.kept
    let cut := ((List.range 3).filter fun n => !bit k n).map (1 + ·) ++ ((List.range 2).filter fun p => !bit k (7 + p)).map (6 + ·)
      ++ ((List.range 4).filter fun p => !bit k (3 + p)).map (9 + ·)
    s.setGates ((bitsSet 15 (s.fld Reg.clkGateCtl 14 0)).foldl (fun g b => if cut.contains b then g else g + 2 ^ b) 0)
  else s

/-- Timers 0–7 that drive an output hold it again (R430, R434). -/
def State.reclaimTimers (s : State) : State :=
  (List.range 8).foldl (fun (s : State) n =>
    let ctl := s.reg (Reg.tmrCtl n)
    if field ctl 12 11 = 0 ∨ s.holderCode (field ctl 16 13) ≠ 0 then s else s.claim (field ctl 16 13) 3 n) s

/-- Firmware runs: the bases of its DRAM regions, the watchdog and the confirmation time, ALIVE_N and the host port (R228,
R403, R467, R476, R484). (DEDUCED: log 98.) -/
def State.serve (s : State) : State :=
  let s := s.setReg64 Reg.schedCtxBaseLo Config.contextBase
  let s := s.setReg64 Reg.ciphLrecBaseLo Config.linkBase
  { s with
    boot := { s.boot with
      starting := none, reset := none
      watchdogDue := s.elapsed + 1000000 * s.fld Reg.sysWdtCfg 15 0
      confirmDue := if s.inTrial then some (s.elapsed + 1000000000 * s.fld Reg.sysFwConfirmCfg 15 0) else none }
    host := { s.host with fwState := 1 }
    pins := { s.pins with alive := true } }

/-- Enumeration where the head starts with `auto_enum` set (R518). -/
def State.startChain (s : State) (walk : ChainWalk) : State :=
  if s.head && s.flag Reg.chainCtl 1 && s.on .link then (s.enumerate walk).1 else s

/-- The phases common to both starts, once firmware has been chosen. (DEDUCED: log 98.) -/
def State.startFirmware (s : State) (k : Nat) (rejected : List (Nat × Nat)) (plan : ResetPlan) (ms : Nat) (walk : ChainWalk) : State :=
  let s := s.runSlot k rejected
  let s := (s.loadSealed.verifySealed).setFlag Reg.darnStat 7 true
  let s := if plan.cold then s.chargeStart else s
  let (r, s) := s.configure
  let s := if plan.cold then s.setFld Reg.dramCfg 2 0 (if r.source = 3 then 4 else s.fld Reg.dramCtl 2 0) else s.reclaimTimers
  let s := s.setFld Reg.sysBootStat 31 16 (min 65535 ms)
  let s := ((s.startPower.serve).raiseRejected rejected (plan.cause = 7)).raiseLoaded r
  s.startChain walk

/-- Whether start-up halts before firmware is chosen: three watchdog resets in a row, or no control processor left (R467,
R549). (DEDUCED: log 98.) -/
def State.startBlocked (s : State) : Bool :=
  decide (3 ≤ s.boot.watchdogResets) || (s.unitState 7 0 == .retired && s.unitState 7 1 == .retired)

/-! ### COLD_START (R411, R413, R422, R484) -/

/-- Step 6 of Table 15-3: a remapped row whose bank can be repaired is repaired, and its entry is free again.
(DESIGN CHOICE: log 88.) -/
def State.repairRows (s : State) (channel : Nat) : State :=
  (s.remapped channel).foldl (fun (s : State) e =>
    let key := s.remapOf channel e
    let row := rowNumber channel (key % 2) (key / 2 % 8) (key / 16)
    if !Config.repairable row then s
    else
      let s := (s.setReg (Reg.dramRemap channel e) 0).setUnit 4 row .serving
      let s := s.setScore 4 row {}
      s.setFld Reg.dramSpareStat (8 * channel + 5) (8 * channel) (s.rowsLeft channel + 1)) s

/-- DRAM as training leaves it. (DEDUCED: log 98.) -/
def State.trainDram (s : State) (found : StartUp) : State :=
  let good := (List.range 2).filter fun c => found.trainFail.getD c 0 == 0
  let cfg := (good.map fun c => 2 ^ (3 + c)).sum + 32 * bitOf found.twoRanks + 64 * (found.density % 16)
  let s := (s.setReg Reg.dramCfg (word (4 + cfg))).setFlag Reg.dramStat 0 true
  let s := good.foldl (fun (s : State) c => s.repairRows c) s
  s.setFld (Reg.darnClassStat 4) 15 8 (min (s.rowsLeft 0) (s.rowsLeft 1))

/-- DRAM_TRAIN_FAIL and the service request for a channel left unused (R413). -/
def State.reportTraining (s : State) (found : StartUp) : State :=
  (List.range 2).foldl (fun (s : State) c =>
    let step := found.trainFail.getD c 0
    if step = 0 then s else (s.raise 0x5103 2 (le 1 c ++ le 1 step)).setSvc 14) s

/-- The tick after a start: where the crystal stands still, the RC oscillator carries it (R358, R458). -/
def State.startTicking (s : State) : State :=
  if s.rtc.stopped then ((s.setFlag Reg.clkSrcStat 1 false).setFlag Reg.clkSrcStat 4 true).startTick else s

/-- A tamper alarm latched in Backup shows (R502). (DEDUCED: log 108.) -/
def State.showTamper (s : State) : State :=
  if s.sec.backupTamper then s.setFlag Reg.secAlarmLatch 6 true else s

/-- COLD_START: the phases of a cold start; without firmware, a control processor or DRAM it halts.
(DEDUCED: log 98.) -/
def execColdStart (found : StartUp) (s : State) : Host.Outcome State Fault Refusal :=
  .next (
    if !s.awaitsStart || s.boot.testmode then s
    else
      let plan : ResetPlan := s.boot.starting.getD ⟨true, false, found.cause, s.elapsed⟩
      let s := { s with elapsed := s.elapsed + 1000000 * found.startMs }
      let s := (s.setReg Reg.sysResetCause (word plan.cause)).startTicking.showTamper
      let (rejected, s) := s.rejectTrials
      if s.startBlocked then s.halt
      else
        match s.chooseSlot with
        | none => s.halt
        | some k =>
          if !found.mr8Ok || (found.trainFail.getD 0 0 != 0 && found.trainFail.getD 1 0 != 0) then s.halt
          else ((s.trainDram found).startFirmware k rejected plan found.startMs found.walk).reportTraining found)

/-! ### WARM_RESET (R414, R457, R465) -/

/-- The longest a warm start takes, ns: phases 3, 4, 6, 7 and 8 of Table 18-7, and 1 ms for DRAM. (DEDUCED: log 99.) -/
def State.warmTime (s : State) (k : Nat) : Nat := 55500000 + 26200000 * (slotImage (s.slot k)).length / 2 ^ 20

/-- The device as it stands while the TCXO has failed (R457). (DEDUCED: log 99.) -/
def State.onRc (s : State) : State :=
  let s := s.settleTimers
  let s := (List.range 3).foldl (fun (s : State) n => (s.abortTx n).radioDown n) s
  let s := ((s.unpinAll.portsDown).selfRefresh.stopGrids).setFld Reg.clkPllStat 8 0 0
  s.setFlag Reg.clkSrcStat 3 true

/-- WARM_RESET: the start that follows a warm reset. (DEDUCED: log 99.) -/
def execWarmReset (walk : ChainWalk) (s : State) : Host.Outcome State Fault Refusal :=
  .next (match s.boot.starting with
    | none => s
    | some plan =>
      if plan.cold || s.boot.testmode then s
      else
        let (rejected, s) := s.rejectTrials
        if s.startBlocked then s.halt
        else
          match s.chooseSlot with
          | none => s.halt
          | some k =>
            let rc := s.flag Reg.clkSrcStat 3
            let s := if rc then (s.setFlag Reg.clkSrcStat 3 false).restartTime else s
            let s := s.reachElapsed (s.elapsed + s.warmTime k)
            let bad := rc && !s.flag Reg.clkSrcStat 0
            let s := if bad then s else s.setFlag Reg.dramStat 1 false
            let s := s.startFirmware k rejected plan (s.warmTime k / 1000000) walk
            if bad then s.onRc.restartTime else s)

end Sys2Proof.Machine
end

