-- ==== Sys2Proof/Machine/Sessions.lean ====
section
/-! DEFINITION. Sessions and what ends a command before its work does (chapter 2): HELLO, STATUS, EVENT_MASK and
SESSION_CLOSE, CANCEL, timeout hints, idle expiry and lost events. -/

namespace Sys2Proof.Machine

/-! ### Stopping work (R59 to R61) -/

/-- Any frame of a client's queue resolved or given up, the head or another. -/
def State.endClientFrameOf (s : State) (c id status outcome : Nat) : State :=
  match (s.clientQueue c).find? fun f => f.id == id with
  | none => s
  | some f => (s.setClientQueue c (f :: (s.clientQueue c).filter fun x => x.id != id)).endClientFrame c status outcome

/-- A queued frame of a client, and whether it is the head and an attempt of it is in progress. -/
def State.clientWork (s : State) (c id : Nat) : Option (ClientFrame × Bool) :=
  ((s.clientQueue c).find? fun f => f.id == id).map fun f =>
    (f, ((s.clientQueue c).head?.map (·.id)) == some id && s.inFlight c id)

/-- A frame that ends, with a status, when its attempt in progress is over. -/
def State.stopClientFrame (s : State) (c id status : Nat) : State :=
  s.setClientQueue c ((s.clientQueue c).map fun f => if f.id = id then { f with stopping := some status } else f)

/-- A command's work taken back as if it had never started; none where it can no longer be stopped with no effect (R60,
R201, R244). A frame's command gets its reply here, with the status given. (DEDUCED: log 20, 56.) -/
def State.withdraw (s : State) (status : Nat) : Work → Option State
  | .frame id =>
    match s.frame id with
    | some f => if f.reachedAir then none else some (s.endFrame id status none 0 0)
    | none => none
  | .clientFrame c id =>
    match s.clientWork c id with
    | some (f, busy) => if f.attempts = 0 ∧ !busy then some (s.endClientFrameOf c id status 2) else none
    | none => none
  | .certVerify => some ((({ s with rgl := { s.rgl with checking := none } }).clearStage).holdFlash false)
  | .fwActivate => some (({ s with boot := { s.boot with activating := none } }).holdFlash false)
  | .attest => some { s with sec := { s.sec with attesting := none } }
  | .cipher id => some { s with cipher := { s.cipher with
      queues := s.cipher.queues.map fun (q : List Request) => q.filter fun r => r.purpose != .run id
      engines := s.cipher.engines.filter fun e => e.2.request.purpose != .run id } }
  | .cancel _ => some s
  | _ => none

/-- A commit can still be disarmed: it is timed, and its arming deadline has not passed (R61). -/
def State.beforeDeadline (s : State) (t : Txn) : Bool := t.isPending && t.timed && decide (1000000 + s.netNs < t.instant)

/-- What a cancel still changes of work that it cannot stop with no effect: frames end with the attempt in progress, a timed
commit is disarmed up to its deadline (R61), RTC_SET releases the RTC (R356); everything else runs to its end.
(DEDUCED: log 21.) -/
def State.curtail (s : State) (n : Nat) : Work → State
  | .frame id => s.modFrame id fun f => { f with stopping := some Status.completedAfterCancel }
  | .clientFrame c id =>
    match s.clientWork c id with
    | some (_, true) => s.stopClientFrame c id Status.completedAfterCancel
    | _ => s.endClientFrameOf c id Status.completedAfterCancel 2
  | .txnCommit =>
    if s.beforeDeadline (s.txn n) then s.disarm n Status.cancelled else s.modTxn n fun t => { t with late := true }
  | .rtcSet =>
    match s.rtc.setInstant with
    | some i =>
      if 1000000 + s.netNs < i then s.releaseRtc Status.completedAfterCancel
      else { s with rtc := { s.rtc with cancelled := true } }
    | none => s
  | _ => s

/-- The final reply of a command whose work has been stopped, if it has not been given yet. -/
def State.finishOnce (s : State) (o : Outstanding) (status : Nat) (result : Bytes) : State :=
  if (s.session o.origin.session).outstanding.contains o then s.finish o status result else s

/-- A session closed (R51): its commands are cancelled with no further reply to them, a commit apart, which stays armed
(R78). (DEDUCED: log 21.) -/
def State.endSession (s : State) (n reason : Nat) : State :=
  if s.isOpen n then
    let l := (s.session n).outstanding
    let s := s.modSession n fun e => { e with outstanding := [] }
    let s := l.foldl (fun (s : State) o =>
      if o.work = .txnCommit then s else (s.withdraw Status.cancelled o.work).getD (s.curtail n o.work)) s
    s.closeSession n reason
  else s

/-! ### HELLO, STATUS, EVENT_MASK, SESSION_CLOSE (Table 2-6) -/

/-- HELLO. -/
def helloSpec : OpSpec where
  code := 0x0000
  timeout := 100
  length p := p.length == 4
  range _ p := decide (num p 0 2 < 2) || num p 2 2 == 0

/-- The result of HELLO. (DEDUCED: log 19.) -/
def State.helloResult (s : State) : Bytes :=
  le 2 0x6430 ++ le 1 (s.fld Reg.sysId 7 0) ++ le 1 (s.fld Reg.chainStat 7 0)
    ++ le 1 (if s.numbered then s.fld Reg.chainStat 14 8 else 1) ++ le 1 (s.fld Reg.sysResetCause 7 0) ++ le 2 2
    ++ le 4 (s.reg Reg.sysFwVer).toNat ++ le 2 4076

/-- The endpoint that holds a session, as RESOURCE_BUSY names it (R50). -/
def endpointName (e : Endpoint) : Bytes :=
  match e with
  | .inband mac vlan _ => [3, 0] ++ padTo 6 mac ++ le 2 vlan
  | e => le 1 (bindingCode e) ++ le 9 0

/-- Whether an endpoint may open a session: a ring pair opens its own. (DEDUCED: log 19.) -/
def mayBind (n : Nat) : Endpoint → Bool
  | .pcie ring => ring == n
  | .spi => true
  | .inband .. => true
  | .replay => false
  | .chain _ => false

/-- A session opened on an endpoint (R50, R62, R63, R498). (DEDUCED: log 19.) -/
def State.openSession (s : State) (n : Nat) (ep : Endpoint) : State :=
  let old := s
  let inband := bindingCode ep == 3
  let open_ := !inband || s.lifecycle != 2
  let due := if open_ then none else some (s.elapsed + 1000000000 * s.fld Reg.secInbandCfg 15 8)
  let s := s.modSession n fun _ => {
    ep := some ep, authenticated := open_, authDue := due, lastCommand := s.elapsed, mask := 2 ^ 256 - 1 }
  { s with boot := { s.boot with watchdogResets := 0 } }.noteSummary old

/-- HELLO opens, reopens or refuses a session. (DEDUCED: log 19.) -/
def execHello (c : Cmd) (p : Bytes) (s : State) : Host.Outcome State Fault Refusal :=
  .next (s.run helloSpec c p fun s =>
    if num p 0 2 < 2 then .fail Status.badVersion []
    else
      let status := okUnless (s.unitState 7 0 == .retired || s.unitState 7 1 == .retired)
      match c.ep with
      | .chain _ => .done s status s.helloResult
      | ep =>
        if (s.numbered && !s.head) || !mayBind c.session ep then .fail Status.notPermitted []
        else
          match (s.session c.session).ep with
          | some e =>
            if sameEndpoint e ep then
              let s := (s.endSession c.session 1).openSession c.session ep
              .done s status s.helloResult
            else .fail Status.resourceBusy (endpointName e)
          | none =>
            let s := s.openSession c.session ep
            .done s status s.helloResult)

/-- STATUS. -/
def statusSpec : OpSpec where
  code := 0x0001
  timeout := 100
  length p := p.isEmpty

/-- STATUS returns the summary and the session's transaction state. -/
def execStatus (c : Cmd) (p : Bytes) (s : State) : Host.Outcome State Fault Refusal :=
  .next (s.run statusSpec c p fun s =>
    .done s (okUnless (s.reg Reg.darnSvc != 0)) (le 4 s.summary.toNat ++ le 1 (s.txn c.session).state.code ++ le 3 0))

/-- EVENT_MASK. -/
def eventMaskSpec : OpSpec where
  code := 0x0005
  timeout := 100
  length p := p.length == 32

/-- EVENT_MASK sets the event classes raised to the session. -/
def execEventMask (c : Cmd) (p : Bytes) (s : State) : Host.Outcome State Fault Refusal :=
  .next (s.run eventMaskSpec c p fun s =>
    .done (s.modSession c.session fun e => { e with mask := num p 0 32 }) Status.ok [])

/-- SESSION_CLOSE. -/
def sessionCloseSpec : OpSpec where
  code := 0x0006
  timeout := 100
  length p := p.isEmpty

/-- SESSION_CLOSE replies, then closes the session. (DEDUCED: log 21.) -/
def execSessionClose (c : Cmd) (p : Bytes) (s : State) : Host.Outcome State Fault Refusal :=
  .next (s.run sessionCloseSpec c p fun s =>
    if c.target = 0xFF then .done (s.endSession c.session 0) Status.ok []
    else if s.bound c.session c.ep then
      .ended ((s.reply (originOf c 0x0006) Status.ok []).endSession c.session 0) Status.ok
    else .done s Status.ok [])

/-- SESSION_IDLE_EXPIRY: an in-band session has had no command for SYS_SESSION_IDLE seconds (R52). -/
def execSessionIdleExpiry (session : Nat) (s : State) : Host.Outcome State Fault Refusal :=
  .next (
    let idle := s.fld Reg.sysSessionIdle 15 0
    match (s.session session).ep with
    | some (.inband ..) =>
      if idle = 0 then s
      else (s.reachElapsed ((s.session session).lastCommand + 1000000000 * idle)).endSession session 3
    | _ => s)

/-- AUTH_TIMEOUT: an in-band session that has not authenticated in time closes (R498). -/
def execAuthTimeout (session : Nat) (s : State) : Host.Outcome State Fault Refusal :=
  .next (match (s.session session).authDue with
    | none => s
    | some t =>
      if (s.session session).authenticated || !s.isOpen session then s
      else (s.reachElapsed t).endSession session 3)

/-- PCIE_FUNDAMENTAL_RESET: every PCIe ring is disabled, and with it its session; the edge is an exit source (R463,
R447). (DEDUCED: log 97.) -/
def execPcieFundamentalReset (s : State) : Host.Outcome State Fault Refusal :=
  .next (
    let s := (List.range 4).foldl (fun (s : State) n =>
      let s := match (s.session n).ep with
        | some (.pcie _) => s.endSession n 2
        | _ => s
      s.modRing n fun _ => {}) s
    s.wakeSource 3)

/-! ### CANCEL (R60) -/

/-- CANCEL. -/
def cancelSpec : OpSpec where
  code := 0x0004
  timeout := 100
  length p := p.length == 2

/-- A final reply marked COMPLETED_AFTER_CANCEL. (DEDUCED: log 20.) -/
def Reply.afterCancel (r : Reply) : Reply := { r with status := Status.completedAfterCancel }

/-- The final reply of a tag that a full reply ring holds is overtaken by a CANCEL. (DEDUCED: log 20.) -/
def State.cancelHeld (s : State) (n tag : Nat) : State :=
  let hit (r : Reply) : Bool := r.final && r.session == n && r.tag == tag
  let s := match (s.session n).ep with
    | some (.pcie ring) => s.modRing ring fun x => { x with held := x.held.map fun r => if hit r then r.afterCancel else r }
    | _ => s
  s.modSession n fun e => { e with cache := e.cache.map fun x => if x.1 = tag then (x.1, x.2.1, x.2.2.afterCancel) else x }

/-- CANCEL stops an outstanding tag, or lets it complete. (DEDUCED: log 20.) -/
def execCancel (c : Cmd) (p : Bytes) (s : State) : Host.Outcome State Fault Refusal :=
  .next (s.run cancelSpec c p fun s =>
    let n := c.session
    let tag := num p 0 2
    let l := (s.session n).outstanding.filter fun o => o.origin.tag == tag
    match l with
    | [] => if s.tagOutstanding n tag then .done (s.cancelHeld n tag) Status.ok [1] else .done s Status.ok [0]
    | o :: _ =>
      if l.any (·.work.isBroadcast) then .wait s (.cancel tag) false
      else
        match o.work with
        | .forwarded d => .wait (s.chainSend d (packetOf c 0x0004 p)) (.forwarded d) false
        | w =>
          match s.withdraw Status.cancelled w with
          | some s' => .done (s'.finishOnce o Status.cancelled []) Status.ok [1]
          | none =>
            let s' := s.curtail n w
            if (s'.session n).outstanding.contains o then .wait s' (.cancel tag) false else .done s' Status.ok [1])

/-! ### Timeout hints (R59) -/

/-- A commit whose hint has elapsed: one that still waits is disarmed; one that has applied here names the devices whose
report has not arrived (R529). -/
def State.expireCommit (s : State) (n : Nat) : State :=
  let t := s.txn n
  if t.isPending then s.disarm n Status.timeout
  else
    let left := t.waiting
    let s := s.modTxn n fun t => { t with waiting := [] }
    if t.failed.isSome then s.concludeCommit n else s.commitEnds n Status.timeout (left.flatMap fun d => le 1 d)

/-- Work whose hint has elapsed stops at its next safe point, and its command ends with TIMEOUT there.
(DEDUCED: log 22.) -/
def State.expire (s : State) (o : Outstanding) : State :=
  let last := Status.timeout
  match o.work with
  | .frame id =>
    match s.frame id with
    | some f =>
      if f.started then s.modFrame id fun f => { f with stopping := some last }
      else (s.modFrame id fun f => { f with attempt := 0 }).endFrame id last none 0 0
    | none => s.finish o last []
  | .clientFrame c id =>
    match s.clientWork c id with
    | some (_, true) => s.stopClientFrame c id last
    | some _ => s.endClientFrameOf c id last 2
    | none => s.finish o last []
  | .txnCommit => s.expireCommit o.origin.session
  | .rtcSet => s.releaseRtc last
  | .waveCapture =>
    ({ s with meas := { s.meas with wave := { s.meas.wave with running := false } } }).finish o last (le 4 s.meas.wave.taken.length)
  | .cfgSave => (({ s with boot := { s.boot with writing := none } }).holdFlash false).finish o last []
  | .cfgCommit => (({ s with boot := { s.boot with writing := none } }).holdFlash false).finish o last []
  | .programCommit => (({ s with ctl := { s.ctl with commit := none } }).setFlag Reg.ctlpStat 9 false).finish o last []
  | .forwarded _ => s
  | .broadcast waiting _ => waiting.foldl (fun (s : State) d => s.answerBroadcast o.origin.session o.origin.tag d last) s
  | w => ((s.withdraw last w).getD s).finishOnce o last []

/-- COMMAND_TIMEOUT: a command's timeout hint elapses. -/
def execCommandTimeout (session tag : Nat) (s : State) : Host.Outcome State Fault Refusal :=
  .next (
    let l := (s.session session).outstanding.filter fun o => o.origin.tag == tag
    match l with
    | [] => s
    | o :: _ =>
      let s := (l.filter fun x => !x.work.isBroadcast).foldl
        (fun (s : State) x => if (s.session session).outstanding.contains x then s.expire x else s) (s.reachElapsed o.deadline)
      match (s.session session).outstanding.find? fun x => x.origin.tag == tag && x.work.isBroadcast with
      | some b => s.expire b
      | none => s)

/-! ### Lost events, and crossings that do not answer (R14, R64) -/

/-- EVENTS_LOST: space has freed after drops. (DESIGN CHOICE: log 23.) -/
def execEventsLost (session : Nat) (s : State) : Host.Outcome State Fault Refusal :=
  .next (
    let e := s.session session
    if e.lost = 0 ∨ 240 ≤ e.events.length ∨ !s.isOpen session then s
    else
      let s := s.modSession session fun e => { e with lost := 0 }
      s.raiseTo session 0x0001 (Config.eventSeverity 0x0001 % 3) Status.ok s.device false (le 4 e.lost ++ le 4 e.firstLost))

/-- CROSSING_TIMEOUT: the access that made a handshake is abandoned, its command fails, and the crossing channel is
scored. A word that fails its parity is sent again and scored, with no other effect (Table 21-3). (DEDUCED: log 123.) -/
def execCrossingTimeout (source dest : Nat) (command : Option (Nat × Nat)) (parity : Bool) (s : State) : Host.Outcome State Fault Refusal :=
  .next (
    let s := if parity then s else match command with
      | none => s
      | some (n, tag) =>
        match (s.session n).outstanding.find? fun (o : Outstanding) => o.origin.tag == tag with
        | some o => ((s.withdraw Status.internalFault o.work).getD s).finishOnce o Status.internalFault []
        | none => s
    s.unitError 10 (source * 11 + dest))

end Sys2Proof.Machine
end

