-- ==== Sys2Proof/Machine/Host.lean ====
section
/-! DEFINITION. How commands reach the interpreter: the packet checks of steps 1 to 4 of Table 2-5 and the table of
opcodes, the direct window's rings, the quad SPI port, in-band frames, and frames from the Cordonnet ports. -/

namespace Sys2Proof.Machine

/-! ### The opcodes -/

/-- An opcode with what it does. -/
structure Opcode where
  code : Nat
  run : Cmd → Bytes → State → Host.Outcome State Fault Refusal

/-- The chain as it is presently known, for a CHAIN_ENUM that a packet brings. -/
def State.knownWalk (s : State) : ChainWalk :=
  let ring := s.flag Reg.chainStat 15
  let port (k : Nat) : Nat := ((List.range 2).map fun p => bitOf (s.flag (Reg.chainPortStat p) k) * 2 ^ p).sum
  { down := s.chain.down.map s.identityAt, up := if ring then [] else s.chain.up.map s.identityAt
    closed := ring, conflict := false, miswired := port 2, links := port 0 }

/-- The opcodes 0x00xx. -/
def systemOpcodes : List Opcode := [
  ⟨0x0000, execHello⟩,
  ⟨0x0001, execStatus⟩,
  ⟨0x0002, execReset⟩,
  ⟨0x0003, execPowerState⟩,
  ⟨0x0004, execCancel⟩,
  ⟨0x0005, execEventMask⟩,
  ⟨0x0006, execSessionClose⟩]

/-- The opcodes 0x01xx. -/
def transactionOpcodes : List Opcode := [
  ⟨0x0100, execTxnBegin⟩,
  ⟨0x0101, execTxnStage⟩,
  ⟨0x0102, execTxnCommit⟩,
  ⟨0x0103, execTxnAbort⟩,
  ⟨0x0104, execTxnStatus⟩]

/-- The opcodes 0x02xx. -/
def registerOpcodes : List Opcode := [
  ⟨0x0200, execRegRead⟩,
  ⟨0x0201, execRegWrite⟩,
  ⟨0x0202, execRegReadBlock⟩]

/-- The opcodes 0x03xx. -/
def chainOpcodes : List Opcode := [
  ⟨0x0300, fun c p s => execChainEnum c p s.knownWalk s⟩,
  ⟨0x0301, execChainStatus⟩,
  ⟨0x0302, execChainPortSet⟩]

/-- The opcodes 0x04xx. -/
def bootAndSecurityOpcodes : List Opcode := [
  ⟨0x0400, execFwWrite⟩,
  ⟨0x0401, execFwActivate⟩,
  ⟨0x0402, execFwConfirm⟩,
  ⟨0x0403, execFwStatus⟩,
  ⟨0x0404, execCfgSave⟩,
  ⟨0x0405, execCfgWrite⟩,
  ⟨0x0406, execCfgCommitImage⟩,
  ⟨0x0407, execCfgRead⟩,
  ⟨0x0410, execSecStageWrite⟩,
  ⟨0x0411, execLifecycleSet⟩,
  ⟨0x0412, execIdentityGen⟩,
  ⟨0x0413, execDevCertWrite⟩,
  ⟨0x0414, execDevCertRead⟩,
  ⟨0x0415, execAttest⟩,
  ⟨0x0416, execAttestRead⟩,
  ⟨0x0417, execKtkLoad⟩,
  ⟨0x0418, execDbgAuthSet⟩,
  ⟨0x0419, execDbgNonce⟩,
  ⟨0x041A, execDbgUnlock⟩,
  ⟨0x041B, execDbgLock⟩,
  ⟨0x041C, execSecAuth⟩]

/-- The opcodes 0x10xx. -/
def radioOpcodes : List Opcode := [
  ⟨0x1000, execRadioProfileApply⟩,
  ⟨0x1001, execRadioCal⟩,
  ⟨0x1002, execRglCertWrite⟩,
  ⟨0x1003, execRglCertApply⟩,
  ⟨0x1004, execRglRead⟩]

/-- The opcodes 0x11xx. -/
def modulationOpcodes : List Opcode := [
  ⟨0x1100, execModProfileApply⟩,
  ⟨0x1101, execLoadTableWrite⟩,
  ⟨0x1102, execLoadTableRead⟩,
  ⟨0x1103, execFiletSound⟩]

/-- The opcodes 0x12xx. -/
def receiveOpcodes : List Opcode := [
  ⟨0x1200, execSearchProfileApply⟩,
  ⟨0x1201, execLanePoolSet⟩,
  ⟨0x1202, execLanePoolRead⟩,
  ⟨0x1203, execSearchNoiseRead⟩]

/-- The opcodes 0x13xx. -/
def accessOpcodes : List Opcode := [
  ⟨0x1300, execMacProfileApply⟩,
  ⟨0x1301, execPeerWrite⟩,
  ⟨0x1302, execPeerRead⟩,
  ⟨0x1303, execPlaitSet⟩,
  ⟨0x1304, execPlaitRead⟩,
  ⟨0x1305, execRadioSend⟩]

/-- The opcodes 0x14xx. -/
def scheduleOpcodes : List Opcode := [
  ⟨0x1400, execSchedProfileApply⟩,
  ⟨0x1401, execClientWrite⟩,
  ⟨0x1402, execClientRead⟩,
  ⟨0x1403, execClientSend⟩]

/-- The opcodes 0x20xx. -/
def ethernetOpcodes : List Opcode := [
  ⟨0x2000, execEmacProfileApply⟩,
  ⟨0x2001, execEmacStatsRead⟩]

/-- The opcodes 0x21xx. -/
def forwardingOpcodes : List Opcode := [
  ⟨0x2100, execFwdProfileApply⟩,
  ⟨0x2101, execFwdMacWrite⟩,
  ⟨0x2102, execFwdMacRead⟩,
  ⟨0x2103, execFwdMacFlush⟩,
  ⟨0x2104, execFwdVlanWrite⟩,
  ⟨0x2105, execFwdVlanRead⟩,
  ⟨0x2106, execFwdRouteWrite⟩,
  ⟨0x2107, execFwdNhWrite⟩,
  ⟨0x2108, execFwdAclWrite⟩,
  ⟨0x2109, execFwdTableRead⟩,
  ⟨0x210A, execFwdFrameSend⟩]

/-- The opcodes 0x22xx. -/
def trafficOpcodes : List Opcode := [
  ⟨0x2200, execTmTemplateApply⟩,
  ⟨0x2201, execTmMapWrite⟩,
  ⟨0x2202, execTmMapRead⟩,
  ⟨0x2203, execTmNodeRead⟩,
  ⟨0x2204, execTmMeterRead⟩,
  ⟨0x2205, execTmStatsRead⟩]

/-- The opcodes 0x30xx. -/
def timeOpcodes : List Opcode := [
  ⟨0x3000, execTimeProfileApply⟩,
  ⟨0x3001, execTimeStatus⟩,
  ⟨0x3002, execTimeRead⟩,
  ⟨0x3003, execTimeAdjust⟩,
  ⟨0x3004, execTimeForceSet⟩,
  ⟨0x3005, execTimeStampRead⟩,
  ⟨0x3006, execTimeFrameSend⟩,
  ⟨0x3007, execTimeClientStep⟩]

/-- The opcodes 0x31xx. -/
def rtcOpcodes : List Opcode := [
  ⟨0x3100, execRtcSet⟩,
  ⟨0x3101, execRtcRead⟩]

/-- The opcodes 0x40xx. -/
def controlOpcodes : List Opcode := [
  ⟨0x4000, execMeasProfileApply⟩,
  ⟨0x4001, execMeasRead⟩,
  ⟨0x4002, execMeasWaveCapture⟩,
  ⟨0x4003, execMeasWaveRead⟩,
  ⟨0x4010, execCtlpProgramWrite⟩,
  ⟨0x4011, execCtlpProgramCommit⟩,
  ⟨0x4012, execCtlpProgramRead⟩,
  ⟨0x4013, execCtlpMsgWrite⟩,
  ⟨0x4014, execCtlpGroupWrite⟩,
  ⟨0x4015, execCtlpReportRead⟩,
  ⟨0x4016, execOutSet⟩,
  ⟨0x4017, execOutOverride⟩,
  ⟨0x4018, execSerWrite⟩,
  ⟨0x4019, execSerRead⟩]

/-- The opcodes 0x50xx. -/
def cipherOpcodes : List Opcode := [
  ⟨0x5000, execKeyLoad⟩,
  ⟨0x5001, execKeyErase⟩,
  ⟨0x5002, execKeyStatus⟩,
  ⟨0x5003, execCipherRun⟩]

/-- The opcodes 0x51xx. -/
def dramOpcodes : List Opcode := [
  ⟨0x5100, execDramProfileApply⟩,
  ⟨0x5101, execDramRowRetire⟩,
  ⟨0x5102, execDramStatus⟩]

/-- The opcodes 0x52xx. -/
def timerOpcodes : List Opcode := [
  ⟨0x5200, execTmrCaptureRead⟩]

/-- The opcodes 0x60xx. -/
def powerOpcodes : List Opcode := [
  ⟨0x6000, execPwrStatus⟩,
  ⟨0x6001, execClkStatus⟩]

/-- The opcodes 0x70xx. -/
def faultOpcodes : List Opcode := [
  ⟨0x7000, execDarnStatus⟩,
  ⟨0x7001, execDarnUnitRead⟩,
  ⟨0x7002, execDarnRetire⟩,
  ⟨0x7003, execDarnLogRead⟩,
  ⟨0x7004, execDarnProfileApply⟩]

/-- Every opcode that is defined. -/
def opcodes : List Opcode :=
  systemOpcodes
    ++ transactionOpcodes
    ++ registerOpcodes
    ++ chainOpcodes
    ++ bootAndSecurityOpcodes
    ++ radioOpcodes
    ++ modulationOpcodes
    ++ receiveOpcodes
    ++ accessOpcodes
    ++ scheduleOpcodes
    ++ ethernetOpcodes
    ++ forwardingOpcodes
    ++ trafficOpcodes
    ++ timeOpcodes
    ++ rtcOpcodes
    ++ controlOpcodes
    ++ cipherOpcodes
    ++ dramOpcodes
    ++ timerOpcodes
    ++ powerOpcodes
    ++ faultOpcodes

/-- An opcode that is not defined. -/
def noOpcode (code : Nat) : OpSpec where
  code := code
  defined := false
  length _ := true

/-- A command with its opcode, from step 5 of Table 2-5 on. -/
def State.command (s : State) (c : Cmd) (code : Nat) (p : Bytes) : Host.Outcome State Fault Refusal :=
  match opcodes.find? fun o => o.code == code with
  | some o => o.run c p s
  | none => .next (s.run (noOpcode code) c p fun _ => .fail Status.badOpcode [])

/-! ### Receipt of a packet (R35, R46, R47) -/

/-- What follows a step that may have stopped the machine. -/
def andThen (o : Host.Outcome State Fault Refusal) (f : State → Host.Outcome State Fault Refusal) :
    Host.Outcome State Fault Refusal :=
  match o with
  | .next s => f s
  | .fault x => .fault x
  | .refused x => .refused x

/-- The header of a packet (Table 2-1). -/
def headerOf (ep : Endpoint) (b : Bytes) : Cmd :=
  let flags := num b 1 1
  { ep := ep, session := num b 7 1, tag := num b 2 2, trailer := num b (16 + num b 8 2) 4, target := num b 6 1, timeout := num b 10 2
    wantReply := bit flags 0, inTxn := bit flags 1, urgent := bit flags 2, forward := bit flags 3 }

/-- The status of the first of steps 1 to 4 that a packet fails. `sized` says that the bytes received are counted, `padded`
that they may exceed the packet (R46). -/
def packetFails (b : Bytes) (sized padded : Bool) : Option Nat :=
  let n := num b 8 2
  if num b 0 1 ≠ 2 then some Status.badVersion
  else if 4076 < n ∨ (sized && b.length != 20 + n && !(padded && decide (20 + n < b.length))) then some Status.lengthRange
  else if crc32c (b.take (16 + n)) ≠ num b (16 + n) 4 then some Status.badCheck
  else if 16 ≤ num b 1 1 ∨ num b 12 4 ≠ 0 ∨ num b 2 2 = 0 ∨ 4 ≤ num b 7 1 ∨ (64 ≤ num b 6 1 ∧ num b 6 1 ≠ 0xFF) then
    some Status.paramRange
  else none

/-- A discard counted in the framing field of SYS_CMD_DROP (R44). (DEDUCED: log 15.) -/
def State.dropFraming (s : State) : State := s.bumpFld Reg.sysCmdDrop 15 0

/-- The final reply of a packet that fails one of steps 1 to 4: it belongs to no session yet. -/
def State.refusePacket (s : State) (o : Origin) (status : Nat) : State :=
  let s := (s.bump64 Reg.sysCmdRxLo).bump Reg.sysCmdErr
  s.deliver o.session o.ep { final := true, event := false, replayed := false, forwarded := false, tag := o.tag, code := o.opcode, source := s.device, session := o.session, status := status, result := [] }

/-- A packet as the interpreter copies it. -/
def State.receive (s : State) (ep : Endpoint) (b : Bytes) (sized padded : Bool) : Host.Outcome State Fault Refusal :=
  if !s.portServes ep then .next s
  else if b.length < 16 then .next s.dropFraming
  else
    let c := headerOf ep b
    match packetFails b sized padded with
    | some status => .next (s.refusePacket (originOf c (num b 4 2)) status)
    | none => s.command c (num b 4 2) (slice b 16 (num b 8 2))

/-! ### The direct window (R38 to R42) -/

/-- DW_RING_CFG_WRITE: a session's ring pair is enabled or disabled. (DEDUCED: log 17.) -/
def execDwRingCfgWrite (session : Nat) (value : Word) (s : State) : Host.Outcome State Fault Refusal :=
  .next (
    let r := s.ring session
    let size (n : Nat) : Bool := decide (4 ≤ n) && decide (n ≤ 10)
    if 4 ≤ session ∨ !s.portServes (.pcie session) then s
    else if r.enabled then
      if field value 8 8 = 1 then s
      else
        let s := if s.bound session (.pcie session) then s.endSession session 2 else s
        s.modRing session fun r => { r with cfg := withField r.cfg 8 8 0, held := [] }
    else
      let value := word (field value 9 0)
      if !(size (field value 3 0) && size (field value 7 4) && field r.cmdBaseLo 11 0 == 0 && field r.rplBaseLo 11 0 == 0) then
        s.modRing session fun r => { r with cfg := withField value 8 8 0, irq := withField r.irq 1 1 1 }
      else if field value 8 8 = 1 then
        s.modRing session fun r => { r with
          cfg := value, cmdTail := 0, cmdHead := 0, rplTail := 0, rplHead := 0, slots := [], held := [] }
      else s.modRing session fun r => { r with cfg := value })

/-- The packets of a batch in the order in which they start: an urgent one ahead of every one that has not started
(R54). (DEDUCED: log 16.) -/
def startOrder (slots : List Bytes) : List Bytes :=
  slots.foldl (fun (l : List Bytes) b => if bit (num b 1 1) 2 then b :: l else l ++ [b]) []

/-- DW_CMD_TAIL_WRITE: the device copies the published slots, which advances DW_CMD_HEAD, and serves them.
(DEDUCED: log 16.) -/
def execDwCmdTailWrite (session : Nat) (value : Word) (slots : List Bytes) (s : State) : Host.Outcome State Fault Refusal :=
  let r := s.ring session
  if 4 ≤ session ∨ !s.portServes (.pcie session) ∨ !r.enabled then .next s
  else
    let tail := field value 15 0
    let published := (65536 + tail - r.cmdHead.toNat) % 65536
    let s := s.modRing session fun r => { r with cmdTail := word tail, cmdHead := word tail }
    (startOrder ((slots.take published).map fun b => padTo 4096 (b.take 4096))).foldl
      (fun o b => andThen o fun (s : State) => s.receive (.pcie session) b false false) (.next s)

/-- DW_RPL_HEAD_WRITE: the host frees reply slots. (DEDUCED: log 16.) -/
def execDwRplHeadWrite (session : Nat) (value : Word) (s : State) : Host.Outcome State Fault Refusal :=
  .next (
    let r := s.ring session
    if 4 ≤ session ∨ !s.portServes (.pcie session) ∨ !r.enabled then s
    else
      let head := field value 15 0
      let freed := (65536 + head - r.rplHead.toNat) % 65536
      s.modRing session fun r => { r with rplHead := word head, slots := r.slots.drop freed })

/-- HELD_REPLY_WRITE: what was held for a full reply ring is written as far as there is room. (DEDUCED: log 17.) -/
def execHeldReplyWrite (session : Nat) (s : State) : Host.Outcome State Fault Refusal := .next (s.pumpRing session session)

/-! ### The quad SPI port (R43, R44) -/

/-- SPI_STATUS: the read clears the discard bit. -/
def execSpiStatus (s : State) : Host.Outcome State Fault Refusal :=
  .next (if s.portServes .spi then { s with host := { s.host with spiDiscard := false } } else s)

/-- A transaction on the SPI port that is discarded. (DEDUCED: log 15.) -/
def State.discardSpi (s : State) : State := ({ s with host := { s.host with spiDiscard := true } }).dropFraming

/-- SPI_PUT: a packet on the SPI port; `instruction` is the instruction byte, whatever it is. -/
def execSpiPut (instruction : Nat) (bytes : Bytes) (s : State) : Host.Outcome State Fault Refusal :=
  if !s.portServes .spi then .next s
  else if instruction = 0x31 then
    if bytes.length < 16 then .next s.discardSpi else s.receive .spi bytes true false
  else if instruction = 0x05 ∨ instruction = 0x32 then .next s
  else .next s.discardSpi

/-- The sessions bound to the SPI port. -/
def State.spiSessions (s : State) : List Nat := (List.range 4).filter fun n => (s.session n).ep == some .spi

/-- What SPI_GET reads next: a reply of a session that has closed, else a reply, else an event.
(DESIGN CHOICE: log 18.) -/
def State.spiNext (s : State) : Option Reply :=
  s.host.spiLeft.head? <|> (s.spiSessions.findSome? fun n => (s.session n).held.head?)
    <|> (s.spiSessions.findSome? fun n => (s.session n).events.head?)

/-- What SPI_GET has read is taken away. (DESIGN CHOICE: log 18.) -/
def State.spiTake (s : State) : State :=
  match s.host.spiLeft with
  | _ :: l => { s with host := { s.host with spiLeft := l } }
  | [] =>
    match s.spiSessions.find? fun n => !(s.session n).held.isEmpty with
    | some n => s.modSession n fun e => { e with held := e.held.drop 1 }
    | none =>
      match s.spiSessions.find? fun n => !(s.session n).events.isEmpty with
      | some n => s.modSession n fun e => { e with events := e.events.drop 1 }
      | none => s

/-- SPI_GET: one reply or event read to its end is taken away; `clocked` counts the bytes out, length included. -/
def execSpiGet (clocked : Nat) (s : State) : Host.Outcome State Fault Refusal :=
  .next (
    if !s.portServes .spi then s
    else
      match s.spiNext with
      | some r => if 2 + r.packet.length ≤ clocked then s.spiTake else s
      | none => s)

/-! ### In-band commands (R45, R46) -/

/-- ETH_FRAME_RX: a whole frame arrives on an Ethernet port; `stampFails` says that its stamp fails the check against the
time base (Table 21-3). (DEDUCED: log 15, 60; DESIGN CHOICE: log 119.) -/
def execEthFrameRx (port : Nat) (frame : Bytes) (codeError stampFails : Bool) (s : State) : Host.Outcome State Fault Refusal :=
  let (cmd, t) := s.ethReceive port frame codeError stampFails
  let t := if stampFails && s.on .pkt && s.ethOn port && s.linkOn port then t.unitError 8 port else t
  match cmd with
  | some (mac, vlan, payload) => t.receive (.inband mac vlan port) payload true (decide (frame.length = 64))
  | none =>
    let discarded := s.on .pkt && s.ethOn port && s.linkOn port && s.rxFails port frame codeError == some 24
      && (frameOf frame).type == 0x88B5
    .next (if discarded then t.dropFraming else t)

/-! ### Frames from the chain (R520 to R528) -/

/-- A reply or an event as it was laid out. -/
def replyOf (b : Bytes) : Reply :=
  let flags := num b 1 1
  { final := bit flags 0, event := bit flags 1, replayed := bit flags 2, forwarded := bit flags 3, tag := num b 2 2, code := num b 4 2, source := num b 6 1, session := num b 7 1, status := num b 12 2, result := slice b 16 (num b 8 2) }

/-- A final reply to a command forwarded by the head, handed to the session's transport and cached (R524).
(DEDUCED: log 22.) -/
def State.forwardedEnds (s : State) (o : Outstanding) (r : Reply) : State :=
  let n := o.origin.session
  let s := s.modSession n fun e => { e with outstanding := e.outstanding.filter fun x => x != o }
  let s := if s.bound n o.origin.ep then
      s.modSession n fun e => { e with cache := cacheAdd e.cache o.origin.tag o.origin.trailer r }
    else s
  let s := if !o.origin.wantReply && quiet r.status then s else s.deliver n o.origin.ep r
  s.answerCancel n o.origin.tag

/-- A reply from a device of the chain at the head (R524, R527). (DEDUCED: log 22.) -/
def State.replyArrives (s : State) (d : Nat) (r : Reply) : State :=
  match (s.session r.session).outstanding.find? fun o => o.origin.tag == r.tag && (o.work == .forwarded d || o.work.isBroadcast) with
  | none => s
  | some o =>
    let r := { r with forwarded := true, source := d }
    if o.work.isBroadcast then if r.final then s.answerBroadcast r.session r.tag d r.status else s
    else if r.final then s.forwardedEnds o r
    else s.deliver r.session o.origin.ep r

/-- An event from a device of the chain raised at the head, with its own time (R526). (DEDUCED: log 22.) -/
def State.eventArrives (s : State) (d : Nat) (r : Reply) : State :=
  s.raiseHere r.code (num r.result 14 1) r.status d true (slice r.result 4 10) (r.result.drop 16)

/-- What a frame of kind 3 says (R518, R528, R529, R532). (DESIGN CHOICE: log 26.) -/
def State.controlArrives (s : State) (d : Nat) : ChainControl → State
  | .ack _ => s
  | .number n head =>
    let s := s.setFld Reg.chainStat 7 0 n
    { s with chain := { s.chain with identities := Table.put s.chain.identities 0 head } }
  | .paths down up ring => s.applyTopology down up ring true
  | .broken port neighbour => s.chainBroken d port neighbour
  | .found port beyond ring => s.join d port beyond ring
  | .share n instant entries => s.shareArrives n instant entries
  | .armed n status result => s.shareArmed n d status result
  | .go n => s.goArrives n
  | .applied n status => s.shareApplied n d status
  | .undo n => s.undoArrives n
  | .undone _ => s

/-- A packet of kind 2 at its destination: at the head a reply or an event, elsewhere a command (R524, R526). -/
def State.packetArrives (s : State) (d : Nat) (b : Bytes) : Host.Outcome State Fault Refusal :=
  let n := num b 8 2
  if b.length ≠ 20 + n ∨ crc32c (b.take (16 + n)) ≠ num b (16 + n) 4 then .next s
  else if s.head then
    let r := replyOf b
    .next (if r.event then s.eventArrives d r else s.replyArrives d r)
  else s.command (headerOf (.chain d) b) (num b 4 2) (slice b 16 n)

/-- A frame passed on out of the other port, or back where that has no link (R520, R532). (DEDUCED: log 110.) -/
def State.relay (s : State) (port : Nat) (f : Bytes) (content : Bytes) : State :=
  let hop := num f 3 1 - 1
  if hop = 0 then s.chainCount port 5
  else
    let out := if s.chainLink (1 - port) || num f 0 1 % 4 == 1 then 1 - port else port
    (s.chainCount port 3).linkOut out (num f 0 1 % 4) (num f 1 1) (num f 2 1) hop (num f 4 2) (num f 6 2) content

/-- Whether a frame is for this device: by its number, or, as a number is given hop by hop, because it gives one.
(DEDUCED: log 110.) -/
def State.forThis (s : State) (f : Bytes) (control : Option ChainControl) : Bool :=
  (s.numbered && num f 2 1 == s.device) || (match control with
    | some (.number ..) => true
    | _ => false)

/-- A good frame, once it has been acknowledged: discarded, delivered or relayed. (DEDUCED: log 110.) -/
def State.chainFrame (s : State) (port : Nat) (f : Bytes) (control : Option ChainControl) : Host.Outcome State Fault Refusal :=
  let kind := num f 0 1 % 4
  let src := num f 1 1
  let content := slice f 12 (num f 8 2)
  if (s.numbered && src == s.device) || num f 3 1 == 0 then .next (s.chainCount port 5)
  else if kind = 1 then
    let s := if s.on .pkt then (s.enter (0x40 + src) (num f 4 2 % 4096) content [] (some 0xFFFF)).2 else s
    .next (s.relay port f content)
  else if s.forThis f control then
    if kind = 0 then
      .next (if s.on .pkt then (s.enter (0x40 + src) (num f 4 2 % 4096) content [] (some (num f 6 2))).2 else s)
    else if kind = 2 then s.packetArrives src content
    else .next (match control with
      | some m => s.controlArrives src m
      | none => s)
  else .next (s.relay port f content)

/-- CORDONNET_FRAME_RX: a frame arrives on a chain port; `control` is what a frame of kind 3 says. -/
def execCordonnetFrameRx (port : Nat) (frame : Bytes) (control : Option ChainControl) (s : State) : Host.Outcome State Fault Refusal :=
  if !(s.on .link && s.chainLink port) then .next s
  else if frame.length < 16 ∨ crc32 (frame.take (frame.length - 4)) ≠ ofLe (frame.drop (frame.length - 4)) then
    .next (s.chainCount port 2)
  else
    let s := s.chainCount port 1
    let kind := num frame 0 1 % 4
    let seq := num frame 0 1 / 4
    match control with
    | some (.ack q) => .next { s with chain := { s.chain with unacked := s.chain.unacked.filter fun h => !(h.port == port && h.seq == q) } }
    | _ =>
      if kind < 2 then s.chainFrame port frame none
      else
        let s := s.chainCount port 0
        let seen := s.chain.accepted.getD port []
        if seen.contains seq then .next s
        else
          let s := { s with chain := { s.chain with accepted := setAt s.chain.accepted port fun l => (seq :: l).take 32 } }
          s.chainFrame port frame (if kind = 3 then control else none)

end Sys2Proof.Machine
end

