-- ==== Sys2Proof/Machine/Dispatch.lean ====
section
/-! DEFINITION. The dispatch: one arm for each command of the table. -/

namespace Sys2Proof.Machine

/-- The effect of a command on everything but the queue. -/
def exec (i : Instr) (s : State) : Host.Outcome State Fault Refusal :=
  match i with
  | .dwRingCfgWrite session value => Sys2Proof.Machine.execDwRingCfgWrite session value s
  | .dwCmdTailWrite session value slots => Sys2Proof.Machine.execDwCmdTailWrite session value slots s
  | .dwRplHeadWrite session value => Sys2Proof.Machine.execDwRplHeadWrite session value s
  | .heldReplyWrite session => Sys2Proof.Machine.execHeldReplyWrite session s
  | .spiStatus => Sys2Proof.Machine.execSpiStatus s
  | .spiPut instruction bytes => Sys2Proof.Machine.execSpiPut instruction bytes s
  | .spiGet clocked => Sys2Proof.Machine.execSpiGet clocked s
  | .hello c p => Sys2Proof.Machine.execHello c p s
  | .status c p => Sys2Proof.Machine.execStatus c p s
  | .reset c p => Sys2Proof.Machine.execReset c p s
  | .resetStart => Sys2Proof.Machine.execResetStart s
  | .powerState c p => Sys2Proof.Machine.execPowerState c p s
  | .cancel c p => Sys2Proof.Machine.execCancel c p s
  | .eventMask c p => Sys2Proof.Machine.execEventMask c p s
  | .sessionClose c p => Sys2Proof.Machine.execSessionClose c p s
  | .sessionIdleExpiry session => Sys2Proof.Machine.execSessionIdleExpiry session s
  | .commandTimeout session tag => Sys2Proof.Machine.execCommandTimeout session tag s
  | .eventsLost session => Sys2Proof.Machine.execEventsLost session s
  | .crossingTimeout source dest command parity => Sys2Proof.Machine.execCrossingTimeout source dest command parity s
  | .regRead c p => Sys2Proof.Machine.execRegRead c p s
  | .regWrite c p => Sys2Proof.Machine.execRegWrite c p s
  | .regReadBlock c p => Sys2Proof.Machine.execRegReadBlock c p s
  | .latchingWordRead requester address => Sys2Proof.Machine.execLatchingWordRead requester address s
  | .txnBegin c p => Sys2Proof.Machine.execTxnBegin c p s
  | .txnStage c p => Sys2Proof.Machine.execTxnStage c p s
  | .txnCommit c p => Sys2Proof.Machine.execTxnCommit c p s
  | .txnAbort c p => Sys2Proof.Machine.execTxnAbort c p s
  | .txnStatus c p => Sys2Proof.Machine.execTxnStatus c p s
  | .txnArmingDeadline session => Sys2Proof.Machine.execTxnArmingDeadline session s
  | .commitApply session failed => Sys2Proof.Machine.execCommitApply session failed s
  | .synFreqWrite c radio mask value => Sys2Proof.Machine.execSynFreqWrite c radio mask value s
  | .hopFreqWrite c radio mask value => Sys2Proof.Machine.execHopFreqWrite c radio mask value s
  | .stateRequestWrite c radio mask value => Sys2Proof.Machine.execStateRequestWrite c radio mask value s
  | .txPwrWrite c radio mask value => Sys2Proof.Machine.execTxPwrWrite c radio mask value s
  | .stateTransitionDone radio => Sys2Proof.Machine.execStateTransitionDone radio s
  | .synthLockDone radio synthB => Sys2Proof.Machine.execSynthLockDone radio synthB s
  | .synthLockTimeout radio synthB => Sys2Proof.Machine.execSynthLockTimeout radio synthB s
  | .calTempTrigger radio temp => Sys2Proof.Machine.execCalTempTrigger radio temp s
  | .calIntervalExpiry radio => Sys2Proof.Machine.execCalIntervalExpiry radio s
  | .calGapStart radio => Sys2Proof.Machine.execCalGapStart radio s
  | .calDeferExpiry radio => Sys2Proof.Machine.execCalDeferExpiry radio s
  | .calDone radio bandFails => Sys2Proof.Machine.execCalDone radio bandFails s
  | .txDecision radio frame => Sys2Proof.Machine.execTxDecision radio frame s
  | .lateLimitExpiry radio frame => Sys2Proof.Machine.execLateLimitExpiry radio frame s
  | .coexReqRaise radio => Sys2Proof.Machine.execCoexReqRaise radio s
  | .coexGrantSample radio grant => Sys2Proof.Machine.execCoexGrantSample radio grant s
  | .coexGrantArrival radio => Sys2Proof.Machine.execCoexGrantArrival radio s
  | .coexGrantWaitExpiry radio => Sys2Proof.Machine.execCoexGrantWaitExpiry radio s
  | .coexGrantWithdrawn radio radiated => Sys2Proof.Machine.execCoexGrantWithdrawn radio radiated s
  | .txFrameEnd radio => Sys2Proof.Machine.execTxFrameEnd radio s
  | .dutyBinAdvance => Sys2Proof.Machine.execDutyBinAdvance s
  | .radioProfileApply c p => Sys2Proof.Machine.execRadioProfileApply c p s
  | .radioCal c p => Sys2Proof.Machine.execRadioCal c p s
  | .rglCertWrite c p => Sys2Proof.Machine.execRglCertWrite c p s
  | .rglCertApply c p => Sys2Proof.Machine.execRglCertApply c p s
  | .rglCertVerifyDone => Sys2Proof.Machine.execRglCertVerifyDone s
  | .rglRead c p => Sys2Proof.Machine.execRglRead c p s
  | .profCfgWrite c radio slot mask value => Sys2Proof.Machine.execProfCfgWrite c radio slot mask value s
  | .modProfileApply c p => Sys2Proof.Machine.execModProfileApply c p s
  | .loadTableWrite c p => Sys2Proof.Machine.execLoadTableWrite c p s
  | .loadTableRead c p => Sys2Proof.Machine.execLoadTableRead c p s
  | .filetSound c p => Sys2Proof.Machine.execFiletSound c p s
  | .soundingRx lane snr offset => Sys2Proof.Machine.execSoundingRx lane snr offset s
  | .detection d => Sys2Proof.Machine.execDetection d s
  | .syncFound lane slot stamp stampFails => Sys2Proof.Machine.execSyncFound lane slot stamp stampFails s
  | .syncTimeout lane => Sys2Proof.Machine.execSyncTimeout lane s
  | .headerReceived lane header => Sys2Proof.Machine.execHeaderReceived lane header s
  | .receiveComplete lane crcOk body snr ferr trouble => Sys2Proof.Machine.execReceiveComplete lane crcOk body snr ferr trouble s
  | .stitchWindowOpen radio => Sys2Proof.Machine.execStitchWindowOpen radio s
  | .stitchWindowClose radio => Sys2Proof.Machine.execStitchWindowClose radio s
  | .laneSelfTestStart lane => Sys2Proof.Machine.execLaneSelfTestStart lane s
  | .laneSelfTestDone lane pass => Sys2Proof.Machine.execLaneSelfTestDone lane pass s
  | .laneStarved radio => Sys2Proof.Machine.execLaneStarved radio s
  | .poolLimitsWrite c cap mask value => Sys2Proof.Machine.execPoolLimitsWrite c cap mask value s
  | .searchProfileApply c p => Sys2Proof.Machine.execSearchProfileApply c p s
  | .lanePoolSet c p => Sys2Proof.Machine.execLanePoolSet c p s
  | .lanePoolRead c p => Sys2Proof.Machine.execLanePoolRead c p s
  | .searchNoiseRead c p => Sys2Proof.Machine.execSearchNoiseRead c p s
  | .queueHead frame => Sys2Proof.Machine.execQueueHead frame s
  | .backoffExpiry frame => Sys2Proof.Machine.execBackoffExpiry frame s
  | .listenDone frame busy => Sys2Proof.Machine.execListenDone frame busy s
  | .deferRxExpiry frame => Sys2Proof.Machine.execDeferRxExpiry frame s
  | .ackWindowClose frame => Sys2Proof.Machine.execAckWindowClose frame s
  | .reorderTimeout plait seq => Sys2Proof.Machine.execReorderTimeout plait seq s
  | .plaitHistoryAge plait => Sys2Proof.Machine.execPlaitHistoryAge plait s
  | .peerHistoryAge peer => Sys2Proof.Machine.execPeerHistoryAge peer s
  | .plaitProbeDue plait member => Sys2Proof.Machine.execPlaitProbeDue plait member s
  | .lbtWrite c radio mask value => Sys2Proof.Machine.execLbtWrite c radio mask value s
  | .macEnableWrite c radio mask value => Sys2Proof.Machine.execMacEnableWrite c radio mask value s
  | .macProfileApply c p => Sys2Proof.Machine.execMacProfileApply c p s
  | .peerWrite c p => Sys2Proof.Machine.execPeerWrite c p s
  | .peerRead c p => Sys2Proof.Machine.execPeerRead c p s
  | .plaitSet c p => Sys2Proof.Machine.execPlaitSet c p s
  | .plaitRead c p => Sys2Proof.Machine.execPlaitRead c p s
  | .radioSend c p => Sys2Proof.Machine.execRadioSend c p s
  | .contextFetch client occurrence trouble => Sys2Proof.Machine.execContextFetch client occurrence trouble s
  | .stitchPrepare client occurrence => Sys2Proof.Machine.execStitchPrepare client occurrence s
  | .ctxLate radio => Sys2Proof.Machine.execCtxLate radio s
  | .stitchEnd radio => Sys2Proof.Machine.execStitchEnd radio s
  | .contextWriteBack client => Sys2Proof.Machine.execContextWriteBack client s
  | .schedProfileApply c p => Sys2Proof.Machine.execSchedProfileApply c p s
  | .clientWrite c p => Sys2Proof.Machine.execClientWrite c p s
  | .clientRead c p => Sys2Proof.Machine.execClientRead c p s
  | .clientSend c p => Sys2Proof.Machine.execClientSend c p s
  | .ethFrameRx port frame codeError stampFails => Sys2Proof.Machine.execEthFrameRx port frame codeError stampFails s
  | .pauseExpiry port => Sys2Proof.Machine.execPauseExpiry port s
  | .pauseRepeat port => Sys2Proof.Machine.execPauseRepeat port s
  | .pcsSyncChange port sync => Sys2Proof.Machine.execPcsSyncChange port sync s
  | .linkUp port partner => Sys2Proof.Machine.execLinkUp port partner s
  | .linkDown port reason remoteFault => Sys2Proof.Machine.execLinkDown port reason remoteFault s
  | .emacCtlWrite c port mask value => Sys2Proof.Machine.execEmacCtlWrite c port mask value s
  | .restartIdleEnd port => Sys2Proof.Machine.execRestartIdleEnd port s
  | .rateWindowEnd port percent => Sys2Proof.Machine.execRateWindowEnd port percent s
  | .rateIdleEnd port => Sys2Proof.Machine.execRateIdleEnd port s
  | .rateRetrainTimeout port => Sys2Proof.Machine.execRateRetrainTimeout port s
  | .ethTxEnd port => Sys2Proof.Machine.execEthTxEnd port s
  | .emacProfileApply c p => Sys2Proof.Machine.execEmacProfileApply c p s
  | .emacStatsRead c p => Sys2Proof.Machine.execEmacStatsRead c p s
  | .fwdLookup trouble => Sys2Proof.Machine.execFwdLookup trouble s
  | .macAgeScan => Sys2Proof.Machine.execMacAgeScan s
  | .fwdProfileApply c p => Sys2Proof.Machine.execFwdProfileApply c p s
  | .fwdMacWrite c p => Sys2Proof.Machine.execFwdMacWrite c p s
  | .fwdMacRead c p => Sys2Proof.Machine.execFwdMacRead c p s
  | .fwdMacFlush c p => Sys2Proof.Machine.execFwdMacFlush c p s
  | .fwdVlanWrite c p => Sys2Proof.Machine.execFwdVlanWrite c p s
  | .fwdVlanRead c p => Sys2Proof.Machine.execFwdVlanRead c p s
  | .fwdRouteWrite c p => Sys2Proof.Machine.execFwdRouteWrite c p s
  | .fwdNhWrite c p => Sys2Proof.Machine.execFwdNhWrite c p s
  | .fwdAclWrite c p => Sys2Proof.Machine.execFwdAclWrite c p s
  | .fwdTableRead c p => Sys2Proof.Machine.execFwdTableRead c p s
  | .fwdFrameSend c p => Sys2Proof.Machine.execFwdFrameSend c p s
  | .tmPortServe node trouble => Sys2Proof.Machine.execTmPortServe node trouble s
  | .tmTemplateApply c p => Sys2Proof.Machine.execTmTemplateApply c p s
  | .tmMapWrite c p => Sys2Proof.Machine.execTmMapWrite c p s
  | .tmMapRead c p => Sys2Proof.Machine.execTmMapRead c p s
  | .tmNodeRead c p => Sys2Proof.Machine.execTmNodeRead c p s
  | .tmMeterRead c p => Sys2Proof.Machine.execTmMeterRead c p s
  | .tmStatsRead c p => Sys2Proof.Machine.execTmStatsRead c p s
  | .timeMeasurement source correction master => Sys2Proof.Machine.execTimeMeasurement source correction master s
  | .announceTimeout port => Sys2Proof.Machine.execAnnounceTimeout port s
  | .ptpMessageDue port kind => Sys2Proof.Machine.execPtpMessageDue port kind s
  | .timeCtlWrite c mask value => Sys2Proof.Machine.execTimeCtlWrite c mask value s
  | .ptpCfgWrite c port mask value => Sys2Proof.Machine.execPtpCfgWrite c port mask value s
  | .timeAnnounceDue radio => Sys2Proof.Machine.execTimeAnnounceDue radio s
  | .converterStart samples failing => Sys2Proof.Machine.execConverterStart samples failing s
  | .pulseEnableWrite c generator mask value => Sys2Proof.Machine.execPulseEnableWrite c generator mask value s
  | .pulseEdge generator => Sys2Proof.Machine.execPulseEdge generator s
  | .timeStampOverflow port => Sys2Proof.Machine.execTimeStampOverflow port s
  | .timeProfileApply c p => Sys2Proof.Machine.execTimeProfileApply c p s
  | .timeStatus c p => Sys2Proof.Machine.execTimeStatus c p s
  | .timeRead c p => Sys2Proof.Machine.execTimeRead c p s
  | .timeAdjust c p => Sys2Proof.Machine.execTimeAdjust c p s
  | .timeForceSet c p => Sys2Proof.Machine.execTimeForceSet c p s
  | .timeStampRead c p => Sys2Proof.Machine.execTimeStampRead c p s
  | .timeFrameSend c p => Sys2Proof.Machine.execTimeFrameSend c p s
  | .timeClientStep c p => Sys2Proof.Machine.execTimeClientStep c p s
  | .rtcSecond => Sys2Proof.Machine.execRtcSecond s
  | .vbatSwitchover => Sys2Proof.Machine.execVbatSwitchover s
  | .vddioReturn => Sys2Proof.Machine.execVddioReturn s
  | .rtcTimeWWrite c mask value => Sys2Proof.Machine.execRtcTimeWWrite c mask value s
  | .rtcDateWWrite c mask value => Sys2Proof.Machine.execRtcDateWWrite c mask value s
  | .rtcHaltWrite c mask value => Sys2Proof.Machine.execRtcHaltWrite c mask value s
  | .rtcWakeWrite c mask value => Sys2Proof.Machine.execRtcWakeWrite c mask value s
  | .rtcPeriodicWake => Sys2Proof.Machine.execRtcPeriodicWake s
  | .rtcOscStop => Sys2Proof.Machine.execRtcOscStop s
  | .calendarSnapshotExpiry requester => Sys2Proof.Machine.execCalendarSnapshotExpiry requester s
  | .rtcSet c p => Sys2Proof.Machine.execRtcSet c p s
  | .rtcRead c p => Sys2Proof.Machine.execRtcRead c p s
  | .meterWindowPublish => Sys2Proof.Machine.execMeterWindowPublish s
  | .controlCycle => Sys2Proof.Machine.execControlCycle s
  | .cycleOutputApply evaluated => Sys2Proof.Machine.execCycleOutputApply evaluated s
  | .reportAgeExpiry client => Sys2Proof.Machine.execReportAgeExpiry client s
  | .outReadbackCheck output level => Sys2Proof.Machine.execOutReadbackCheck output level s
  | .outHoldExpiry => Sys2Proof.Machine.execOutHoldExpiry s
  | .captureEdge input level stamp => Sys2Proof.Machine.execCaptureEdge input level stamp s
  | .serRxByte port byte => Sys2Proof.Machine.execSerRxByte port byte s
  | .serRx port => Sys2Proof.Machine.execSerRx port s
  | .measInCfgWrite c input mask value => Sys2Proof.Machine.execMeasInCfgWrite c input mask value s
  | .measProfileApply c p => Sys2Proof.Machine.execMeasProfileApply c p s
  | .measRead c p => Sys2Proof.Machine.execMeasRead c p s
  | .measWaveCapture c p => Sys2Proof.Machine.execMeasWaveCapture c p s
  | .measWaveDone => Sys2Proof.Machine.execMeasWaveDone s
  | .measWaveRead c p => Sys2Proof.Machine.execMeasWaveRead c p s
  | .ctlpProgramWrite c p => Sys2Proof.Machine.execCtlpProgramWrite c p s
  | .ctlpProgramCommit c p => Sys2Proof.Machine.execCtlpProgramCommit c p s
  | .ctlpProgramRead c p => Sys2Proof.Machine.execCtlpProgramRead c p s
  | .ctlpMsgWrite c p => Sys2Proof.Machine.execCtlpMsgWrite c p s
  | .ctlpGroupWrite c p => Sys2Proof.Machine.execCtlpGroupWrite c p s
  | .ctlpReportRead c p => Sys2Proof.Machine.execCtlpReportRead c p s
  | .outSet c p => Sys2Proof.Machine.execOutSet c p s
  | .outOverride c p => Sys2Proof.Machine.execOutOverride c p s
  | .serWrite c p => Sys2Proof.Machine.execSerWrite c p s
  | .serRead c p => Sys2Proof.Machine.execSerRead c p s
  | .cipherOpStart engine => Sys2Proof.Machine.execCipherOpStart engine s
  | .cipherOpDone engine selfCheck => Sys2Proof.Machine.execCipherOpDone engine selfCheck s
  | .alarmDetected alarm => Sys2Proof.Machine.execAlarmDetected alarm s
  | .prevPageHoldExpiry => Sys2Proof.Machine.execPrevPageHoldExpiry s
  | .keyLoad c p => Sys2Proof.Machine.execKeyLoad c p s
  | .keyErase c p => Sys2Proof.Machine.execKeyErase c p s
  | .keyStatus c p => Sys2Proof.Machine.execKeyStatus c p s
  | .cipherRun c p => Sys2Proof.Machine.execCipherRun c p s
  | .dramAccess port address write ecc region level => Sys2Proof.Machine.execDramAccess port address write ecc region level s
  | .refreshDue channel rank bank => Sys2Proof.Machine.execRefreshDue channel rank bank s
  | .mr4ReadDue rate => Sys2Proof.Machine.execMr4ReadDue rate s
  | .dqsDriftCheck channel rank drift => Sys2Proof.Machine.execDqsDriftCheck channel rank drift s
  | .actWindowEnd => Sys2Proof.Machine.execActWindowEnd s
  | .scrubRead ecc region => Sys2Proof.Machine.execScrubRead ecc region s
  | .dramProfileApply c p => Sys2Proof.Machine.execDramProfileApply c p s
  | .dramRowRetire c p => Sys2Proof.Machine.execDramRowRetire c p s
  | .dramStatus c p => Sys2Proof.Machine.execDramStatus c p s
  | .timerWrap timer => Sys2Proof.Machine.execTimerWrap timer s
  | .timerCompare timer => Sys2Proof.Machine.execTimerCompare timer s
  | .tmrPeriodWrite c timer mask value => Sys2Proof.Machine.execTmrPeriodWrite c timer mask value s
  | .tmrCntWrite c timer mask value => Sys2Proof.Machine.execTmrCntWrite c timer mask value s
  | .tmrCtlWrite c timer mask value => Sys2Proof.Machine.execTmrCtlWrite c timer mask value s
  | .tmrGoWrite c mask value => Sys2Proof.Machine.execTmrGoWrite c mask value s
  | .tmrGoRelease => Sys2Proof.Machine.execTmrGoRelease s
  | .tmrCaptureRead c p => Sys2Proof.Machine.execTmrCaptureRead c p s
  | .lowPowerExit => Sys2Proof.Machine.execLowPowerExit s
  | .wakeFrame address probe stop => Sys2Proof.Machine.execWakeFrame address probe stop s
  | .hostWakeSignal => Sys2Proof.Machine.execHostWakeSignal s
  | .clockMonitorWindow source count => Sys2Proof.Machine.execClockMonitorWindow source count s
  | .pllLockLoss pll => Sys2Proof.Machine.execPllLockLoss pll s
  | .pllRelock pll => Sys2Proof.Machine.execPllRelock pll s
  | .clkGateCtlWrite c mask value => Sys2Proof.Machine.execClkGateCtlWrite c mask value s
  | .clkSscWrite c group mask value => Sys2Proof.Machine.execClkSscWrite c group mask value s
  | .pwrStatus c p => Sys2Proof.Machine.execPwrStatus c p s
  | .clkStatus c p => Sys2Proof.Machine.execClkStatus c p s
  | .supplyLoss supply => Sys2Proof.Machine.execSupplyLoss supply s
  | .powerOnReset testmode => Sys2Proof.Machine.execPowerOnReset testmode s
  | .resetNAssert => Sys2Proof.Machine.execResetNAssert s
  | .pcieFundamentalReset => Sys2Proof.Machine.execPcieFundamentalReset s
  | .coldStart found => Sys2Proof.Machine.execColdStart found s
  | .warmReset walk => Sys2Proof.Machine.execWarmReset walk s
  | .wdtKick c mask value => Sys2Proof.Machine.execWdtKick c mask value s
  | .watchdogExpiry => Sys2Proof.Machine.execWatchdogExpiry s
  | .confirmTimeout => Sys2Proof.Machine.execConfirmTimeout s
  | .fwWrite c p => Sys2Proof.Machine.execFwWrite c p s
  | .fwActivate c p => Sys2Proof.Machine.execFwActivate c p s
  | .firmwareVerifyDone => Sys2Proof.Machine.execFirmwareVerifyDone s
  | .fwConfirm c p => Sys2Proof.Machine.execFwConfirm c p s
  | .fwStatus c p => Sys2Proof.Machine.execFwStatus c p s
  | .cfgSave c p => Sys2Proof.Machine.execCfgSave c p s
  | .cfgWrite c p => Sys2Proof.Machine.execCfgWrite c p s
  | .cfgCommitImage c p => Sys2Proof.Machine.execCfgCommitImage c p s
  | .configFlashWriteDone readBack => Sys2Proof.Machine.execConfigFlashWriteDone readBack s
  | .cfgRead c p => Sys2Proof.Machine.execCfgRead c p s
  | .secStageWrite c p => Sys2Proof.Machine.execSecStageWrite c p s
  | .lifecycleSet c p => Sys2Proof.Machine.execLifecycleSet c p s
  | .identityGen c p => Sys2Proof.Machine.execIdentityGen c p s
  | .devCertWrite c p => Sys2Proof.Machine.execDevCertWrite c p s
  | .devCertRead c p => Sys2Proof.Machine.execDevCertRead c p s
  | .attest c p => Sys2Proof.Machine.execAttest c p s
  | .attestSignDone => Sys2Proof.Machine.execAttestSignDone s
  | .attestRead c p => Sys2Proof.Machine.execAttestRead c p s
  | .ktkLoad c p => Sys2Proof.Machine.execKtkLoad c p s
  | .dbgAuthSet c p => Sys2Proof.Machine.execDbgAuthSet c p s
  | .dbgNonce c p => Sys2Proof.Machine.execDbgNonce c p s
  | .dbgNonceExpiry => Sys2Proof.Machine.execDbgNonceExpiry s
  | .dbgUnlock c p => Sys2Proof.Machine.execDbgUnlock c p s
  | .dbgLock c p => Sys2Proof.Machine.execDbgLock c p s
  | .debugLifetimeExpiry => Sys2Proof.Machine.execDebugLifetimeExpiry s
  | .debugAccess access => Sys2Proof.Machine.execDebugAccess access s
  | .secAuth c p => Sys2Proof.Machine.execSecAuth c p s
  | .authTimeout session => Sys2Proof.Machine.execAuthTimeout session s
  | .chainEnum c p walk => Sys2Proof.Machine.execChainEnum c p walk s
  | .chainStatus c p => Sys2Proof.Machine.execChainStatus c p s
  | .chainPortSet c p => Sys2Proof.Machine.execChainPortSet c p s
  | .chainCtlWrite c mask value => Sys2Proof.Machine.execChainCtlWrite c mask value s
  | .cordonnetFrameRx port frame control => Sys2Proof.Machine.execCordonnetFrameRx port frame control s
  | .hopResend port seq => Sys2Proof.Machine.execHopResend port seq s
  | .chainLinkLoss port lost => Sys2Proof.Machine.execChainLinkLoss port lost s
  | .chainLinkUp port beyond ring => Sys2Proof.Machine.execChainLinkUp port beyond ring s
  | .delayBlockDue port t1 t2 t3 t4 => Sys2Proof.Machine.execDelayBlockDue port t1 t2 t3 t4 s
  | .timeBlockDue => Sys2Proof.Machine.execTimeBlockDue s
  | .forwardedTagOrphaned session tag => Sys2Proof.Machine.execForwardedTagOrphaned session tag s
  | .scoreLeak kind => Sys2Proof.Machine.execScoreLeak kind s
  | .spareBringIn kind => Sys2Proof.Machine.execSpareBringIn kind s
  | .spareSelfTestDone kind pass took => Sys2Proof.Machine.execSpareSelfTestDone kind pass took s
  | .heartbeatLoss processor took memoryError => Sys2Proof.Machine.execHeartbeatLoss processor took memoryError s
  | .checkpointDue processor => Sys2Proof.Machine.execCheckpointDue processor s
  | .wearHour hot => Sys2Proof.Machine.execWearHour hot s
  | .darnStatus c p => Sys2Proof.Machine.execDarnStatus c p s
  | .darnUnitRead c p => Sys2Proof.Machine.execDarnUnitRead c p s
  | .darnRetire c p => Sys2Proof.Machine.execDarnRetire c p s
  | .darnLogRead c p => Sys2Proof.Machine.execDarnLogRead c p s
  | .darnProfileApply c p => Sys2Proof.Machine.execDarnProfileApply c p s
  | .lifecycleTransitionDone => Sys2Proof.Machine.execLifecycleTransitionDone s

end Sys2Proof.Machine
end

