-- ==== Sys2Proof/Machine/Idle.lean ====
section
/-! DEFINITION. What passes while no command waits: one cycle of the packet engine's clock (R314). -/

namespace Sys2Proof.Machine

/-- One 2 ns cycle: elapsed time and the time base advance. (DESIGN CHOICE: log 3.) -/
def State.idle (s : State) : State := s.passNs 2

end Sys2Proof.Machine
end

