-- ==== Sys2Proof/Machine/Step.lean ====
section
/-! DEFINITION. One step: the command at the front of the queue, or, on an empty queue, one cycle of the packet
engine's clock. -/

namespace Sys2Proof.Machine

/-- The command at the front of the queue runs on the state with the rest of it; with none, a cycle passes.
(DESIGN CHOICE: log 3.) -/
def step (s : State) : Host.Outcome State Fault Refusal :=
  match s.pending with
  | [] => .next (State.idle s)
  | c :: rest => exec c { s with pending := rest }

/-- A table word put in front of the queue: no word spells a command. (DESIGN CHOICE: log 7.) -/
def State.withFetchWord (s : State) (nbits w : Nat) : State :=
  match decodeTableWord nbits w with
  | some c => { s with pending := c :: s.pending }
  | none => s

end Sys2Proof.Machine
end

