-- ==== Sys2Proof/Safety.lean ====
section
/-! DEFINITION. The terms in which claims speak of the device: the canonical register file, and a command that passes the
checks of Table 2-5. -/

namespace Sys2Proof.Machine

/-- The register file lists only what differs from reset, each address once, in rising order. -/
def State.RegsCanonical (s : State) : Prop :=
  Table.Sorted s.regs ∧ ∀ e ∈ s.regs, e.2 ≠ resetValue e.1

/-- A transport of R50 that a host uses. -/
def Endpoint.fromHost : Endpoint → Bool
  | .pcie _ => true
  | .spi => true
  | .inband .. => true
  | .replay => false
  | .chain _ => false

/-- A command of this device's host that passes steps 5 to 13 of Table 2-5 and the in-transaction check. -/
structure State.Ready (s : State) (spec : OpSpec) (c : Cmd) (p : Bytes) : Prop where
  host : Endpoint.fromHost c.ep = true
  serves : s.portServes c.ep = true
  bound : s.bound c.session c.ep = true
  fresh : s.tagOutstanding c.session c.tag = false
  unseen : s.cached c = none
  single : c.target ≠ 0xFF
  here : c.target = (s.received c).device
  defined : spec.defined = true
  permitted : (s.received c).permits spec c = true
  room : (s.received c).outstandingCount c.session < 32
  length : spec.length p = true
  range : spec.range (s.received c) p = true
  direct : (spec.noTxn && c.inTxn) = false

/-- A command, outside a transaction, that writes a register and passes every check of the write. -/
structure State.Writes (s : State) (c : Cmd) (a : Nat) (mask value : Word) (w : RegWrite) : Prop where
  ready : s.Ready regWriteSpec c (regParams a mask value)
  direct : c.inTxn = false
  named : (s.received c).writeOf a mask value = some w
  allowed : (s.received c).writeCheck w false false = none
  awake : ((s.received c).openGate a).deaf a = false

/-- What such a write leaves before its reply: the register's own effect, and the note that transactions take of it. -/
def State.wrote (s : State) (c : Cmd) (a : Nat) (mask : Word) (w : RegWrite) : State :=
  (((s.received c).openGate a).write w).noteWrite c.session (((s.received c).openGate a).write w).device a mask

/-- A command, outside a transaction, that names a register that it may not write as it does. -/
structure State.WriteFails (s : State) (c : Cmd) (a : Nat) (mask value : Word) (status : Nat) (result : Bytes) : Prop where
  ready : s.Ready regWriteSpec c (regParams a mask value)
  direct : c.inTxn = false
  refused : ∃ w, (s.received c).writeOf a mask value = some w ∧ (s.received c).writeCheck w false false = some (status, result)
  known : status ≠ Status.dateInvalid

end Sys2Proof.Machine
end

