-- ==== Sys2Proof/Certificates/Slice0/Obligations.lean ====
section
/-! DEFINITION. The statements about the model: what each family of commands does, what each leaves alone, and what holds
of every step. -/

open Sys2Proof Sys2Proof.Machine

/-- A step runs the command at the front of the queue. For every command c and state s, step of s with c at the front of
its queue is exec of c on s with the rest of the queue. On an empty queue a step lets one 2 ns cycle of the packet
engine pass (the model's choice, log entry 3). -/
def Obligations.QueueFrontRuns : Prop :=
  (∀ (s : State) (c : Instr) (rest : List Instr), s.pending = c :: rest → step s = exec c { s with pending := rest })
  ∧ ∀ s : State, s.pending = [] → step s = .next (s.passNs 2)

/-- Reset leaves every register at the value its table gives. In State.reset every register reads its reset value, no
command waits, no session is open, and the register file lists nothing that differs from reset. -/
def Obligations.ResetRegisters : Prop :=
  (∀ a : Nat, State.reset.reg a = resetValue a) ∧ State.reset.RegsCanonical ∧ State.reset.pending = []
  ∧ (∀ n : Nat, State.reset.isOpen n = false)
  ∧ resetValue Reg.sysId = 0x64300001 ∧ resetValue Reg.sysSessionIdle = 60 ∧ resetValue (Reg.emacMaxlen 3) = 0x2580
  ∧ resetValue Reg.timeJumpLim = 1000000 ∧ resetValue (Reg.tmPortShape 15) = 0x10000

/-- Every step keeps the register file in its canonical form. For every state whose register file lists, in strictly
rising order of address, only registers that differ from their reset value, a step that answers a next state leaves
it so, whichever of the 288 commands it runs. -/
def Obligations.StepKeepsRegisterFile : Prop :=
  ∀ s t : State, s.RegsCanonical → step s = .next t → t.RegsCanonical

/-- Writes of DW_RING_CFG enable, refuse and disable a ring pair. While the ring pair of a session is disabled, a
DW_RING_CFG value that sets enable with both sizes within 4 to 10 and aligned bases enables it with all four indices
at 0 and nothing in it; a size outside 4 to 10 sets DW_IRQ_STAT[1] and leaves it disabled. While it is enabled, a
value with enable set changes nothing, and one with enable clear closes the session bound to it with reason 2 and
discards what is held for the ring. -/
def Obligations.RingPairWrites : Prop :=
  ∀ (s : State) (n : Nat) (v : Word), n < 4 → s.portServes (.pcie n) = true →
    ((s.ring n).enabled = false → 4 ≤ field v 3 0 → field v 3 0 ≤ 10 → 4 ≤ field v 7 4 → field v 7 4 ≤ 10 →
        field (s.ring n).cmdBaseLo 11 0 = 0 → field (s.ring n).rplBaseLo 11 0 = 0 → field v 8 8 = 1 →
      exec (.dwRingCfgWrite n v) s = .next (s.modRing n fun r => { r with
        cfg := word (field v 9 0), cmdTail := 0, cmdHead := 0, rplTail := 0, rplHead := 0, slots := [], held := [] }))
    ∧ ((s.ring n).enabled = false → (field v 3 0 < 4 ∨ 10 < field v 3 0 ∨ field v 7 4 < 4 ∨ 10 < field v 7 4) →
      exec (.dwRingCfgWrite n v) s = .next (s.modRing n fun r => { r with
        cfg := withField (word (field v 9 0)) 8 8 0, irq := withField r.irq 1 1 1 }))
    ∧ ((s.ring n).enabled = true → field v 8 8 = 1 → exec (.dwRingCfgWrite n v) s = .next s)
    ∧ ((s.ring n).enabled = true → field v 8 8 = 0 →
      exec (.dwRingCfgWrite n v) s = .next ((if s.bound n (.pcie n) then s.endSession n 2 else s).modRing n fun r => { r with
        cfg := withField r.cfg 8 8 0, held := [] }))

/-- Doorbell, reply head and held replies. A doorbell that publishes no slot only moves DW_CMD_TAIL and DW_CMD_HEAD; one
that publishes one slot also hands that slot, cut or padded to 4,096 bytes, to the checks of Table 2-5, and a slot
whose version is not 2 ends with BAD_VERSION. A write of DW_RPL_HEAD frees the slots it passes. Both are ignored
while the ring is disabled. HELD_REPLY_WRITE on an enabled ring with room writes everything held, replies before
events (the order is the model's, log entry 4). -/
def Obligations.RingIndexWrites : Prop :=
  ∀ (s : State) (n : Nat) (v : Word) (b : Bytes), n < 4 →
    ((s.ring n).enabled = false → exec (.dwCmdTailWrite n v [b]) s = .next s ∧ exec (.dwRplHeadWrite n v) s = .next s)
    ∧ (s.portServes (.pcie n) = true → (s.ring n).enabled = true →
      exec (.dwCmdTailWrite n v []) s = .next (s.modRing n fun r => { r with cmdTail := word (field v 15 0), cmdHead := word (field v 15 0) })
      ∧ ((65536 + field v 15 0 - (s.ring n).cmdHead.toNat) % 65536 = 1 →
          let t := s.modRing n fun r => { r with cmdTail := word (field v 15 0), cmdHead := word (field v 15 0) }
          let slot := padTo 4096 (b.take 4096)
          exec (.dwCmdTailWrite n v [b]) s = t.receive (.pcie n) slot false false
          ∧ (t.portServes (.pcie n) = true → num slot 0 1 ≠ 2 →
              exec (.dwCmdTailWrite n v [b]) s = .next (t.refusePacket (originOf (headerOf (.pcie n) slot) (num slot 4 2)) Status.badVersion)))
      ∧ exec (.dwRplHeadWrite n v) s = .next (s.modRing n fun r => { r with
          rplHead := word (field v 15 0)
          slots := r.slots.drop ((65536 + field v 15 0 - (s.ring n).rplHead.toNat) % 65536) }))
    ∧ ((s.ring n).enabled = true → field (s.ring n).cfg 9 9 = 0 → (s.ring n).held ≠ [] →
        (s.ring n).held.length + (s.session n).events.length ≤ (s.ring n).free →
      exec (.heldReplyWrite n) s = .next ((s.modRing n fun r =>
          { r.write ((s.ring n).held ++ (s.session n).events) with held := r.held.drop (s.ring n).held.length }).modSession n fun e =>
          { e with events := e.events.drop (s.session n).events.length }))

/-- SPI_STATUS, SPI_PUT and SPI_GET. While the port serves, a status read clears the discard bit; a PUT of fewer than 16
bytes and any unknown instruction set that bit and are counted in the framing field of SYS_CMD_DROP; a PUT of 16
bytes or more goes to the checks of Table 2-5 and, with a version other than 2, ends with BAD_VERSION. A GET that is
clocked to the end of what waits takes it away, and a shorter one leaves it in place. -/
def Obligations.SpiPortTransactions : Prop :=
  ∀ (s : State) (i clocked : Nat) (b : Bytes), s.portServes .spi = true →
    exec .spiStatus s = .next { s with host := { s.host with spiDiscard := false } }
    ∧ (b.length < 16 → exec (.spiPut 0x31 b) s = .next s.discardSpi)
    ∧ (i ≠ 0x05 → i ≠ 0x31 → i ≠ 0x32 → exec (.spiPut i b) s = .next s.discardSpi)
    ∧ (16 ≤ b.length → exec (.spiPut 0x31 b) s = s.receive .spi b true false
      ∧ (num b 0 1 ≠ 2 → exec (.spiPut 0x31 b) s = .next (s.refusePacket (originOf (headerOf .spi b) (num b 4 2)) Status.badVersion)))
    ∧ (∀ r, s.spiNext = some r → exec (.spiGet clocked) s = .next (if 2 + r.packet.length ≤ clocked then s.spiTake else s))
    ∧ (s.spiNext = none → exec (.spiGet clocked) s = .next s)

/-- HELLO opens a closed session, reopens its own, and is refused another endpoint's. A HELLO that passes steps 8 to 13
with a version of 2 or more, at a device that is unnumbered or heads its chain, from an endpoint that may bind the
session: on a closed session it opens and binds it; on a session bound to the same endpoint it closes it with reason
1 and opens it again; both answer the result of HELLO (that a retired control processor makes the status OK_DEGRADED
is Table 21-5). On a session bound to another endpoint it answers RESOURCE_BUSY with the 10 bytes that name that
endpoint. -/
def Obligations.HelloBindsSession : Prop :=
  ∀ (s : State) (c : Cmd) (p : Bytes), 2 ≤ num p 0 2 → mayBind c.session c.ep = true →
    (s.Ready helloSpec c p → ((s.received c).numbered && !(s.received c).head) = false →
      let r := ((s.received c).endSession c.session 1).openSession c.session c.ep
      let status := okUnless ((s.received c).unitState 7 0 == .retired || (s.received c).unitState 7 1 == .retired)
      exec (.hello c p) s = .next (r.reply (originOf c 0) status r.helloResult))
    ∧ (Endpoint.fromHost c.ep = true → s.portServes c.ep = true → s.bound c.session c.ep = false →
        c.target ≠ 0xFF → c.target = (s.bump64 Reg.sysCmdRxLo).device →
        (s.bump64 Reg.sysCmdRxLo).permits helloSpec c = true → (s.bump64 Reg.sysCmdRxLo).outstandingCount c.session < 32 →
        p.length = 4 → num p 2 2 = 0 →
        ((s.bump64 Reg.sysCmdRxLo).numbered && !(s.bump64 Reg.sysCmdRxLo).head) = false →
      ((s.session c.session).ep = none →
        let r := (s.bump64 Reg.sysCmdRxLo).openSession c.session c.ep
        let status := okUnless ((s.bump64 Reg.sysCmdRxLo).unitState 7 0 == .retired || (s.bump64 Reg.sysCmdRxLo).unitState 7 1 == .retired)
        exec (.hello c p) s = .next (r.reply (originOf c 0) status r.helloResult))
      ∧ (∀ e, (s.session c.session).ep = some e →
        exec (.hello c p) s = .next ((s.bump64 Reg.sysCmdRxLo).refuse (originOf c 0) Status.resourceBusy (endpointName e))))

/-- STATUS, EVENT_MASK and SESSION_CLOSE. STATUS answers SYS_SUMMARY and the code of the session's transaction state;
EVENT_MASK stores the 256 enable bits; SESSION_CLOSE gives its OK and then closes the session with reason 0. Nothing
else changes. -/
def Obligations.SessionCommands : Prop :=
  ∀ (s : State) (c : Cmd) (p : Bytes),
    (s.Ready statusSpec c p → exec (.status c p) s = .next ((s.received c).reply (originOf c 0x0001)
      (okUnless ((s.received c).reg Reg.darnSvc != 0))
      (le 4 (s.received c).summary.toNat ++ le 1 ((s.received c).txn c.session).state.code ++ le 3 0)))
    ∧ (s.Ready eventMaskSpec c p → exec (.eventMask c p) s =
      .next (((s.received c).modSession c.session fun e => { e with mask := num p 0 32 }).reply (originOf c 0x0005) Status.ok []))
    ∧ (s.Ready sessionCloseSpec c p → (s.received c).bound c.session c.ep = true →
      exec (.sessionClose c p) s = .next (((s.received c).reply (originOf c 0x0006) Status.ok []).endSession c.session 0))

/-- CANCEL of a tag that is not outstanding, and of work that can be stopped. CANCEL of a tag that is not outstanding
answers OK with a result byte of 0 and changes nothing else. CANCEL of an attestation, a cipher request, a
certificate or firmware verification that is outstanding under its tag alone takes the work back, ends it with
CANCELLED, and then answers OK with a result byte of 1. -/
def Obligations.CancelOutcomes : Prop :=
  ∀ (s : State) (c : Cmd) (p : Bytes), s.Ready cancelSpec c p →
    ((s.received c).tagOutstanding c.session (num p 0 2) = false →
      exec (.cancel c p) s = .next ((s.received c).reply (originOf c 0x0004) Status.ok [0]))
    ∧ ∀ o : Outstanding, ((s.received c).session c.session).outstanding.filter (fun x => x.origin.tag == num p 0 2) = [o] →
        (o.work = .attest ∨ o.work = .certVerify ∨ o.work = .fwActivate ∨ ∃ id, o.work = .cipher id) →
      ∃ t, (s.received c).withdraw Status.cancelled o.work = some t
        ∧ exec (.cancel c p) s = .next ((t.finishOnce o Status.cancelled []).reply (originOf c 0x0004) Status.ok [1])

/-- Timeout hints, idle expiry, lost events and crossings that do not answer. A timeout hint that elapses ends an
attestation under a tag of its own with TIMEOUT at the hint's end. An in-band session whose idle limit is not 0
closes with reason 3 once the limit has passed since its last command. A session that has lost events and has fewer
than 240 queued gets one EVENTS_LOST with the count and the first number (its severity is the model's free value,
log entry 5). A crossing that times out, with no command behind it, is scored against its channel. -/
def Obligations.SessionLimits : Prop :=
  ∀ (s : State) (n tag source dest : Nat),
    (∀ o : Outstanding, (s.session n).outstanding = [o] → o.origin.tag = tag → o.work = .attest →
        ((s.reachElapsed o.deadline).session n).outstanding = [o] →
      ∃ t, exec (.commandTimeout n tag) s = .next t
        ∧ t = (match ((s.reachElapsed o.deadline).expire o).session n |>.outstanding.find? (fun x => x.origin.tag == tag && x.work.isBroadcast) with
          | some b => ((s.reachElapsed o.deadline).expire o).expire b
          | none => (s.reachElapsed o.deadline).expire o))
    ∧ (∀ mac vlan port, (s.session n).ep = some (.inband mac vlan port) → s.fld Reg.sysSessionIdle 15 0 ≠ 0 →
      exec (.sessionIdleExpiry n) s =
        .next ((s.reachElapsed ((s.session n).lastCommand + 1000000000 * s.fld Reg.sysSessionIdle 15 0)).endSession n 3))
    ∧ ((s.session n).lost ≠ 0 → (s.session n).events.length < 240 → s.isOpen n = true →
      exec (.eventsLost n) s = .next ((s.modSession n fun e => { e with lost := 0 }).raiseTo n 0x0001 (Config.eventSeverity 0x0001 % 3) Status.ok
        (s.modSession n fun e => { e with lost := 0 }).device false (le 4 (s.session n).lost ++ le 4 (s.session n).firstLost)))
    ∧ exec (.crossingTimeout source dest none false) s = .next (s.unitError 10 (source * 11 + dest))
    ∧ (∀ command, exec (.crossingTimeout source dest command true) s = .next (s.unitError 10 (source * 11 + dest)))

/-- REG_READ, REG_READ_BLOCK and reads that latch. A read of registers whose islands are powered opens the clock gates
it needs and, where every island then has its clock, answers the words in address order, least significant byte
first, each from the requester's own snapshot where it holds one; an address in an island that is off answers
NOT_PERMITTED. Reading a latching word takes the requester's snapshot. -/
def Obligations.RegisterReads : Prop :=
  ∀ (s : State) (c : Cmd) (p : Bytes),
    (s.Ready regReadSpec c p → (s.received c).unpowered (num p 0 4) = false →
        ((s.received c).openGate (num p 0 4)).deaf (num p 0 4) = false →
      exec (.regRead c p) s = .next ((((s.received c).openGate (num p 0 4)).readWord c.session (num p 0 4)).2.reply (originOf c 0x0200) Status.ok
        (le 4 (((s.received c).openGate (num p 0 4)).readWord c.session (num p 0 4)).1.toNat)))
    ∧ (s.Ready regReadSpec c p → (s.received c).unpowered (num p 0 4) = true →
      exec (.regRead c p) s = .next ((s.received c).refuse (originOf c 0x0200) Status.notPermitted []))
    ∧ (s.Ready regReadBlockSpec c p → (blockAddresses p).any (s.received c).unpowered = false →
        let r := (blockAddresses p).foldl (fun (s : State) a => s.openGate a) (s.received c)
        (blockAddresses p).find? r.deaf = none →
      exec (.regReadBlock c p) s = .next ((r.readWords c.session (num p 0 4) (num p 4 2)).2.reply (originOf c 0x0202) Status.ok
        (r.readWords c.session (num p 0 4) (num p 4 2)).1))
    ∧ ∀ (k a : Nat) (row : RegRow) (i j : Nat), findReg a = some (row, i, j) → row.access = .rsn → s.unpowered a = false → s.deaf a = false →
      exec (.latchingWordRead k a) s = .next ((s.ageCalendar k).latch k row.base a)

/-- A register write that passes its checks stores its word, takes its effect and answers. A REG_WRITE outside a
transaction that passes the checks of Table 2-5, of its fields, of its access type and of the chapter that owns the
register, in a powered island with its clock, answers OK, or OK_DEGRADED where R180 or R553 says so, after the
register's own effect. The same holds of each row of the command table that writes a register with an effect of its
own. A write of TMR_GO arms the timers it names and stays outstanding until the strobe edge. -/
def Obligations.RegisterRowWrites : Prop :=
  ∀ (s : State) (c : Cmd) (m v : Word),
    let W := fun (i : Instr) (a : Nat) => ∀ w : RegWrite, s.Writes c a m v w → a ≠ Reg.tmrGo →
      exec i s = .next ((s.wrote c a m w).reply (originOf c 0x0201) ((s.wrote c a m w).writeStatus w) [])
    (∀ (p : Bytes) (w : RegWrite), p = regParams (num p 0 4) (word (num p 4 4)) (word (num p 8 4)) →
        s.Writes c (num p 0 4) (word (num p 4 4)) (word (num p 8 4)) w → num p 0 4 ≠ Reg.tmrGo →
      exec (.regWrite c p) s = .next ((s.wrote c (num p 0 4) (word (num p 4 4)) w).reply (originOf c 0x0201)
        ((s.wrote c (num p 0 4) (word (num p 4 4)) w).writeStatus w) []))
    ∧ (∀ radio : Nat, W (.synFreqWrite c radio m v) (Reg.trxSynFreq radio))
    ∧ (∀ radio : Nat, W (.hopFreqWrite c radio m v) (Reg.trxHopFreq radio))
    ∧ (∀ radio : Nat, W (.stateRequestWrite c radio m v) (Reg.trxStateCtl radio))
    ∧ (∀ radio : Nat, W (.txPwrWrite c radio m v) (Reg.trxTxPwr radio))
    ∧ (∀ radio slot : Nat, W (.profCfgWrite c radio slot m v) (Reg.profCfg radio slot))
    ∧ (∀ cap : Bool, W (.poolLimitsWrite c cap m v) (if cap then Reg.poolCap else Reg.poolRes))
    ∧ (∀ radio : Nat, W (.lbtWrite c radio m v) (Reg.wmacLbt radio))
    ∧ (∀ radio : Nat, W (.macEnableWrite c radio m v) (Reg.wmacCtl radio))
    ∧ (∀ port : Nat, W (.emacCtlWrite c port m v) (Reg.emacCtl port))
    ∧ (W (.timeCtlWrite c m v) (Reg.timeCtl))
    ∧ (∀ port : Nat, W (.ptpCfgWrite c port m v) (Reg.timePtpCfg port))
    ∧ (∀ generator : Nat, W (.pulseEnableWrite c generator m v) (Reg.plsCtl generator))
    ∧ (W (.rtcTimeWWrite c m v) (Reg.rtcTimeW))
    ∧ (W (.rtcDateWWrite c m v) (Reg.rtcDateW))
    ∧ (W (.rtcHaltWrite c m v) (Reg.rtcCtl))
    ∧ (W (.rtcWakeWrite c m v) (Reg.rtcWake))
    ∧ (∀ input : Nat, W (.measInCfgWrite c input m v) (Reg.measInCfg input))
    ∧ (∀ timer : Nat, W (.tmrPeriodWrite c timer m v) (Reg.tmrPeriod timer))
    ∧ (∀ timer : Nat, W (.tmrCntWrite c timer m v) (Reg.tmrCnt timer))
    ∧ (∀ timer : Nat, W (.tmrCtlWrite c timer m v) (Reg.tmrCtl timer))
    ∧ (W (.clkGateCtlWrite c m v) (Reg.clkGateCtl))
    ∧ (∀ group : Nat, W (.clkSscWrite c group m v) (Reg.clkSsc group))
    ∧ (W (.chainCtlWrite c m v) (Reg.chainCtl))
    ∧ ∀ w : RegWrite, s.Writes c Reg.tmrGo m v w →
      exec (.tmrGoWrite c m v) s = .next ((s.wrote c Reg.tmrGo m w).start regWriteSpec c .tmrGo)

/-- Every opcode but HELLO from an endpoint that has not opened the session is refused. A command of any defined opcode
other than HELLO, from a PCIe function, the quad SPI port or an in-band host to which its session is not bound, is
counted as a packet and refused with NOT_PERMITTED whatever its operands are; nothing else about the device changes. -/
def Obligations.UnboundSessionRefused : Prop :=
  ∀ (s : State) (o : Opcode) (c : Cmd) (p : Bytes), o ∈ opcodes → o.code ≠ 0 → Endpoint.fromHost c.ep = true →
    s.portServes c.ep = true → s.bound c.session c.ep = false →
    s.command c o.code p = .next ((s.bump64 Reg.sysCmdRxLo).refuse (originOf c o.code) Status.notPermitted [])

/-- The opcodes that belong to session 0 are refused to every other session. RESET, POWER_STATE, TIME_FORCE_SET, the
firmware, lifecycle, regulatory certificate and key-page opcodes, and the others that their chapters keep to session
0, for this device and from sessions 1 to 3, are refused with NOT_PERMITTED whatever their operands are; nothing
else changes. -/
def Obligations.SessionZeroOnly : Prop :=
  ∀ (s : State) (c : Cmd) (p : Bytes) (code : Nat),
    code ∈ [0x0002, 0x0003, 0x0300, 0x0302, 0x0400, 0x0401, 0x0402, 0x0410, 0x0411, 0x0412, 0x0413, 0x0417, 0x0418, 0x0419, 0x041A, 0x041B,
      0x1002, 0x1003, 0x3003, 0x3004, 0x3006, 0x3007, 0x4017, 0x5000, 0x5001, 0x5101, 0x7002] →
    Endpoint.fromHost c.ep = true → s.portServes c.ep = true → s.bound c.session c.ep = true → s.tagOutstanding c.session c.tag = false →
    s.cached c = none → c.target ≠ 0xFF → c.target = (s.received c).device → c.session ≠ 0 →
    s.command c code p = .next ((s.received c).refuse (originOf c code) Status.notPermitted [])

/-- TXN_BEGIN, TXN_STAGE and TXN_STATUS. TXN_BEGIN in NONE or APPLIED opens a transaction with the next identifier and
answers it; in OPEN or PENDING it answers BUSY and changes nothing. TXN_STAGE in OPEN, where the count fits and
every entry passes, appends its entries and answers how many are staged; where the count would exceed 512 it answers
TXN_FULL with the present count; an entry that fails stages none and the result gives the count and the index of the
first that fails. TXN_STATUS reports. -/
def Obligations.TransactionOpensAndStages : Prop :=
  ∀ (s : State) (c : Cmd) (p : Bytes),
    (s.Ready txnBeginSpec c p →
      (((s.received c).txn c.session).state = .none ∨ ((s.received c).txn c.session).state = .applied →
        let id := (s.received c).host.txnIds + 1
        let t := (s.received c).modTxn c.session fun _ => { state := .opened, id := id }
        exec (.txnBegin c p) s = .next ({ t with host := { t.host with txnIds := id } }.reply (originOf c 0x0100) Status.ok (le 4 id)))
      ∧ (((s.received c).txn c.session).state = .opened ∨ ((s.received c).txn c.session).state = .pending →
        exec (.txnBegin c p) s = .next ((s.received c).reply (originOf c 0x0100) Status.busy [])))
    ∧ (s.Ready txnStageSpec c p → ((s.received c).txn c.session).state = .opened →
      (((s.received c).txn c.session).entries.length + num p 0 4 ≤ 512 →
        (∀ t, (s.received c).stage c.session (stageEntries p) = .inr t →
          exec (.txnStage c p) s = .next (t.reply (originOf c 0x0101) Status.ok (le 2 (t.txn c.session).entries.length)))
        ∧ (∀ k status r, (s.received c).stage c.session (stageEntries p) = .inl (k, status, r) →
          exec (.txnStage c p) s = .next ((s.received c).refuse (originOf c 0x0101) status
            (le 2 ((s.received c).txn c.session).entries.length ++ le 2 k))))
      ∧ (512 < ((s.received c).txn c.session).entries.length + num p 0 4 →
        exec (.txnStage c p) s = .next ((s.received c).reply (originOf c 0x0101) Status.txnFull
          (le 2 ((s.received c).txn c.session).entries.length))))
    ∧ (s.Ready txnStatusSpec c p →
      exec (.txnStatus c p) s = .next ((s.received c).reply (originOf c 0x0104) Status.ok ((s.received c).txn c.session).report))

/-- A commit is armed, applies as one, or leaves the device as it was. An immediate TXN_COMMIT of writes for this device
alone, in OPEN and without conflict, leaves the transaction PENDING with its instant 100 µs ahead and the command
outstanding. COMMIT_APPLY reaches that instant: where every write passes, all are made in the one step, the record
of what they overwrote is kept, and the command answers OK; where one fails, no register changes, the transaction is
OPEN with its writes kept, and the command answers the failure's status. A timed commit whose instant is not later
than receipt plus 1 ms answers TXN_EXPIRED, and one that conflicts answers TXN_CONFLICT and is discarded. -/
def Obligations.CommitLifecycle : Prop :=
  ∀ (s : State) (c : Cmd) (p : Bytes),
    (s.Ready txnCommitSpec c p → ((s.received c).txn c.session).state = .opened →
      let r := s.received c
      (num p 0 1 = 0 → r.conflict c.session = none → r.devicesOf (r.txn c.session).entries = [] →
        exec (.txnCommit c p) s = .next ((r.modTxn c.session fun t => { t with
          state := .pending, timed := false, instant := 100000 + r.netNs, tag := c.tag, armed := [], waiting := [], failed := none
          go := true, late := false, devices := 2 ^ r.device, record := [], tokens := [], exact := false }).start txnCommitSpec c .txnCommit))
      ∧ (num p 0 1 = 1 → 1000000000 * num p 2 6 + num p 8 4 ≤ 1000000 + r.netNs →
        exec (.txnCommit c p) s = .next (r.reply (originOf c 0x0102) Status.txnExpired []))
      ∧ (num p 0 1 = 0 → ∀ d n a, r.conflict c.session = some (d, n, a) →
        exec (.txnCommit c p) s = .next ((r.modTxn c.session fun _ => {}).reply (originOf c 0x0102) Status.txnConflict
          (le 1 d ++ le 1 n ++ le 4 a))))
    ∧ ∀ n instant, n < 4 → s.firstDue n = some (instant, .own) → (s.reach instant).devicesOf ((s.reach instant).txn n).entries = [] →
        ((s.reach instant).txn n).waiting = [] → ((s.reach instant).txn n).failed = none → n < (s.reach instant).host.sessions.length →
      let b := s.reach instant
      let mine := b.localEntries (b.txn n).entries
      (∀ a, b.applyEntries mine = .inr a →
        let t := (b.txn n).entries.foldl (fun (s : State) e => s.noteWrite n (if e.device = 0xFE then s.device else e.device) e.address e.mask)
          (a.modTxn n fun t => { t with state := .applied, record := b.recordOf mine, tokens := b.tokensOf mine, devices := bitmap [b.device] })
        exec (.commitApply n none) s = .next (t.concludeCommit n))
      ∧ (∀ status r, b.applyEntries mine = .inl (status, r) → 
        exec (.commitApply n none) s = .next ((b.modTxn n fun t => { t with
          state := .opened, armed := [], waiting := [], go := false, late := false, devices := 0, record := [], tokens := [], failed := none
          exact := false }).commitEnds n status (le 1 b.device ++ r)))

/-- TXN_ABORT by state, and a commit not armed everywhere expires. TXN_ABORT discards an OPEN transaction (result 1); on
an APPLIED one whose registers nothing has written since it restores them and the shapers' tokens (result 3), and
otherwise answers NOT_PERMITTED; on a PENDING timed commit more than 1 ms before its instant it disarms it (result
2), and on an immediate one answers NOT_PERMITTED. At the arming deadline, a commit that waits for another device is
disarmed everywhere with TXN_EXPIRED. -/
def Obligations.AbortAndDeadline : Prop :=
  ∀ (s : State) (c : Cmd) (p : Bytes),
    (s.Ready txnAbortSpec c p →
      let r := s.received c
      let n := c.session
      ((r.txn n).state = .none → exec (.txnAbort c p) s = .next (r.reply (originOf c 0x0103) Status.txnNone []))
      ∧ ((r.txn n).state = .opened → exec (.txnAbort c p) s = .next ((r.modTxn n fun _ => {}).reply (originOf c 0x0103) Status.ok [1]))
      ∧ ((r.txn n).state = .pending → (r.txn n).timed = true → 1000000 + r.netNs < (r.txn n).instant →
        exec (.txnAbort c p) s = .next ((r.disarm n Status.cancelled).reply (originOf c 0x0103) Status.ok [2]))
      ∧ ((r.txn n).state = .pending → (r.txn n).timed = false →
        exec (.txnAbort c p) s = .next (r.reply (originOf c 0x0103) Status.notPermitted []))
      ∧ ((r.txn n).state = .applied → (r.txn n).exact = false →
        exec (.txnAbort c p) s = .next (r.reply (originOf c 0x0103) Status.notPermitted []))
      ∧ ((r.txn n).state = .applied → (r.txn n).exact = true →
        let t := (r.txn n).entries.foldl (fun (s : State) e => s.noteWrite n (if e.device = 0xFE then s.device else e.device) e.address e.mask)
          ((r.rollBack (r.txn n).record (r.txn n).tokens).undoShares n (r.txn n))
        exec (.txnAbort c p) s = .next ((t.modTxn n fun _ => {}).reply (originOf c 0x0103) Status.ok [3])))
    ∧ ∀ n : Nat, (s.txn n).state = .pending → (s.txn n).go = false → s.devicesOf (s.txn n).entries ≠ [] →
      exec (.txnArmingDeadline n) s = .next ((s.reach ((s.txn n).instant - 1000000)).disarm n Status.txnExpired)

/-- A profile command succeeds entirely or has no effect. Each basic-level profile command, outside a transaction and
past its checks, writes all the registers of its expansion at one instant and answers how many it wrote
(LANE_POOL_SET and PLAIT_SET have no result); where one of those writes may not be made, none is, and the command
answers that write's failure. That the immediate commit applies with the command is the model's choice (log entry
6). -/
def Obligations.ProfileCommands : Prop :=
  ∀ (s : State) (c : Cmd) (p : Bytes), c.inTxn = false →
    let r := s.received c
    let P := fun (i : Instr) (code : Nat) (l : List (Nat × Word × Word)) (degraded quiet : Bool) =>
      (∀ t, r.applyEntries (l.map fun x => ⟨0xFE, x.1, x.2.1, x.2.2⟩) = .inr t →
        exec i s = .next ((l.foldl (fun (s : State) x => s.noteWrite c.session s.device x.1 x.2.1) t).reply (originOf c code) (okUnless degraded)
          (if quiet then [] else le 2 l.length)))
      ∧ ∀ status result, r.applyEntries (l.map fun x => ⟨0xFE, x.1, x.2.1, x.2.2⟩) = .inl (status, result) →
        exec i s = .next (r.refuse (originOf c code) status result)
    (s.Ready radioProfileApplySpec c p → num p 2 2 = r.fld Reg.rglCertStat 31 16 ∧ (num p 1 1 = 3 ∨ (r.bandAt (num p 4 4)).isSome = true) →
      P (.radioProfileApply c p) 0x1000 ((bitsSet 3 (num p 0 1)).flatMap fun n => r.roleWrites n (num p 1 1) (num p 4 4))
        ((bitsSet 3 (num p 0 1)).any fun n => r.single n || r.radioOut n) false)
    ∧ (s.Ready modProfileApplySpec c p →
      P (.modProfileApply c p) 0x1100 ((bitsSet 3 (num p 0 1)).flatMap fun n => (bitsSet 8 (num p 1 1)).flatMap fun k => [whole (Reg.profCfg n k) (slotPreset (num p 2 1)).1, whole (Reg.profSun n k) (slotPreset (num p 2 1)).2])
        (false) false)
    ∧ (s.Ready searchProfileApplySpec c p →
      P (.searchProfileApply c p) 0x1200 ((bitsSet 3 (num p 0 1)).flatMap fun n => [whole (Reg.searchCtl n) (searchPreset (num p 1 1)).1, whole (Reg.searchDetThr n) (searchPreset (num p 1 1)).2.1, whole (Reg.searchSbEnLo n) (searchPreset (num p 1 1)).2.2.1, whole (Reg.searchSbEnHi n) (searchPreset (num p 1 1)).2.2.2])
        (r.exhausted 0) false)
    ∧ (s.Ready lanePoolSetSpec c p →
      P (.lanePoolSet c p) 0x1201 ([whole Reg.poolRes (num p 0 3), whole Reg.poolCap (num p 4 3)])
        (r.exhausted 0) true)
    ∧ (s.Ready macProfileApplySpec c p →
      P (.macProfileApply c p) 0x1300 ((bitsSet 3 (num p 0 1)).flatMap fun n => [whole (Reg.wmacLbt n) (macPreset (num p 1 1)).1, whole (Reg.wmacBo n) (macPreset (num p 1 1)).2.1, under (Reg.wmacCtl n) 0xFFFFFF00 (macPreset (num p 1 1)).2.2.1, whole (Reg.wmacAck n) (macPreset (num p 1 1)).2.2.2])
        (false) false)
    ∧ (s.Ready plaitSetSpec c p →
      P (.plaitSet c p) 0x1303 ((List.range 4).map fun k => whole (Reg.pltCfg (num p 0 1) + 4 * k) (num p (4 + 4 * k) 4))
        (false) true)
    ∧ (s.Ready schedProfileApplySpec c p →
      P (.schedProfileApply c p) 0x1400 ((bitsSet 3 (num p 0 1)).flatMap fun n => [whole (Reg.schedPat n) (65536 + (schedPreset (num p 1 1)).1), whole (Reg.schedDrift n) ((schedPreset (num p 1 1)).2.1 + 256 * (schedPreset (num p 1 1)).2.2)])
        (false) false)
    ∧ (s.Ready emacProfileApplySpec c p →
      P (.emacProfileApply c p) 0x2000 ((bitsSet 4 (num p 0 1)).flatMap fun e => [under (Reg.emacCtl e) 0x3F (emacPreset (num p 1 1)), whole (Reg.emacMaxlen e) 9600, whole (Reg.emacRate e) (resetValue (Reg.emacRate e)).toNat])
        (false) false)
    ∧ (s.Ready fwdProfileApplySpec c p →
      P (.fwdProfileApply c p) 0x2100 ([under Reg.fwdCtl 6 (2 + 4 * num p 0 1)])
        (false) false)
    ∧ (s.Ready tmTemplateApplySpec c p →
      P (.tmTemplateApply c p) 0x2200 (templateWrites (num p 0 1))
        (false) false)
    ∧ (s.Ready timeProfileApplySpec c p →
      P (.timeProfileApply c p) 0x3000 (whole Reg.timeCtl (0x6400 + (if num p 0 1 = 2 then 0 else 1)) :: (List.range 4).map fun e => whole (Reg.timePtpCfg e) (ptpPreset (num p 0 1) (e == num p 1 1)))
        (false) false)
    ∧ (s.Ready dramProfileApplySpec c p →
      P (.dramProfileApply c p) 0x5100 (if num p 0 1 = 0 then (List.range 5).map fun k => whole (Reg.dramPortCfg k) (resetValue (Reg.dramPortCfg k)).toNat else [under (Reg.dramPortCfg 3) 0xFF 32, under (Reg.dramPortCfg 4) 0xFF 40])
        (r.dramDegraded) false)
    ∧ (s.Ready darnProfileApplySpec c p →
      P (.darnProfileApply c p) 0x7004 (if num p 0 1 = 0 then (List.range 7).map fun k => whole (Reg.darnClassCfg k) (resetValue (Reg.darnClassCfg k)).toNat else (List.range 4).map fun k => under (Reg.darnClassCfg k) 0xFF00 (24 * 256))
        (false) false)
    ∧ (s.Ready measProfileApplySpec c p →
      P (.measProfileApply c p) 0x4000 (((List.range 18).filter fun i => !bit (num p 0 2) (i / 2)).map (fun i => under (Reg.measInCfg i) 3 0) ++ ((List.range 18).filter fun i => bit (num p 0 2) (i / 2)).map (fun i => under (Reg.measInCfg i) 3 (1 + i % 2)) ++ [whole Reg.measCtl (1 + 256 * num p 2 1)])
        (r.exhausted 2) false)

/-- Radio states, locks and calibrations take the times their tables give. A radio in service leaves OFF for SLEEP 2,000
µs after it entered OFF, and goes from IDLE to a requested receive state in 20 µs. A lock takes 4 µs by hop and
otherwise 60, 110 or 160 µs by the step from the present frequency; the hop synthesiser's lock shows in TRXn_STATE,
and a lock not declared after twice its time is scored and retried. A temperature move of temp_delta or more and the
end of the interval raise a calibration, which starts in a gap free of stitches or at the defer limit, and ends
after 1,200 µs with the calibration valid, counted, and the on-air synthesiser locked on TRXn_SYN_FREQ. -/
def Obligations.RadioStateChanges : Prop :=
  ∀ (s : State) (n : Nat),
    (s.radioOut n = false → s.trimmed n = false → s.on (Island.trx n) = true →
      (s.trx n = 0 → s.trxReq n ≠ 0 → exec (.stateTransitionDone n) s = .next ((s.reachElapsed (2000000 + (s.radio n).since)).setTrx n 1))
      ∧ (s.trx n = 2 → (s.radio n).retuneFor = none → s.trxReq n = 5 ∨ s.trxReq n = 6 →
        exec (.stateTransitionDone n) s = .next ((s.reachElapsed (20000 + (s.radio n).since)).setTrx n (s.trxReq n))))
    ∧ (∀ (b : Bool) (f : Nat), (s.synth n (bitOf b)).target = some f → s.synthRetired n (bitOf b) = false →
        let y := s.synth n (bitOf b)
        let r := (s.reachElapsed (y.began + y.lockTime)).modSynth n (bitOf b) fun _ => { present := some f }
        (bitOf b ≠ r.onAir n → exec (.synthLockDone n b) s =
          .next (r.setFlag (Reg.trxState n) 9 (r.hopping n && f == (r.reg (Reg.trxHopFreq n)).toNat)))
        ∧ (bitOf b = r.onAir n → r.trx n = 3 → exec (.synthLockDone n b) s = .next ((r.leaveSynth n).synthServing n))
        ∧ (∀ t, (s.reachElapsed (y.began + 2 * y.lockTime)).scoreError 1 (2 * n + bitOf b) = (false, t) → y.retries < 3 →
          exec (.synthLockTimeout n b) s =
            .next ((t.modSynth n (bitOf b) fun y => { y with began := t.elapsed, retries := (s.synth n (bitOf b)).retries + 1 }).bump (Reg.trxCnt n 9))))
    ∧ (∀ p t : Nat, tunable p = true → tunable t = true →
        lockNs true (some p) t = 4000 ∧ lockNs false none t = 160000
        ∧ (tuningRange p = tuningRange t → max p t - min p t ≤ 12800000 → lockNs false (some p) t = 60000)
        ∧ (tuningRange p = tuningRange t → 12800000 < max p t - min p t → lockNs false (some p) t = 110000)
        ∧ (tuningRange p ≠ tuningRange t → lockNs false (some p) t = 160000))
    ∧ (∀ temp : Int, -32768 ≤ temp → temp ≤ 32767 →
        let r := s.setFld (Reg.trxTemp n) 15 0 (unsigned 16 temp)
        ((temp - (s.radio n).calTemp).natAbs < s.fld (Reg.trxCalCtl n) 7 0 * 16 → exec (.calTempTrigger n temp) s = .next r)
        ∧ (s.fld (Reg.trxCalCtl n) 7 0 * 16 ≤ (temp - (s.radio n).calTemp).natAbs → exec (.calTempTrigger n temp) s = .next (r.raiseCal n)))
    ∧ (s.fld (Reg.trxCalCtl n) 23 8 ≠ 0 → s.flag (Reg.trxCalStat n) 0 = true →
        exec (.calIntervalExpiry n) s =
          .next ((s.reachElapsed ((s.radio n).calAt + 1000000000 * s.fld (Reg.trxCalCtl n) 23 8)).raiseCal n))
    ∧ (s.flag (Reg.trxCalStat n) 2 = true → s.calReady n = true →
        (s.stitchWithin n s.netNs (1500000 + (s.netNs : Int)) = false → exec (.calGapStart n) s = .next (s.startCal n))
        ∧ (s.stitchWithin n s.netNs (1500000 + (s.netNs : Int)) = true → exec (.calGapStart n) s = .next s))
    ∧ (∀ t, (s.radio n).calRaised = some t → s.flag (Reg.trxCalStat n) 2 = true →
        (s.reachElapsed (t + 1000000000 * s.fld (Reg.trxCalCtl n) 31 24)).calReady n = true →
        exec (.calDeferExpiry n) s = .next ((s.reachElapsed (t + 1000000000 * s.fld (Reg.trxCalCtl n) 31 24)).startCal n))
    ∧ (s.trx n = 4 → n < s.radios.length → ∃ u v : State, exec (.calDone n none) s = .next v
        ∧ v = ((if (u.radio n).fromSleep then (u.modRadio n fun r => { r with fromSleep := false }).setTrx n 2
            else u.settleTrx n (u.restState n)).calEnded n none).synthServing n
        ∧ u.elapsed = max s.elapsed (1200000 + (s.radio n).since)
        ∧ u.flag (Reg.trxCalStat n) 0 = true ∧ u.flag (Reg.trxCalStat n) 1 = false
        ∧ (u.radio n).calTemp = s.sfld (Reg.trxTemp n) 15 0)
    ∧ (∀ k t, s.trx n = 4 → k < 2 → (s.reachElapsed (1200000 + (s.radio n).since)).scoreError 1 (2 * n + k) = (true, t) → exec (.calDone n (some k)) s = .next (t.retireSynth (2 * n + k) 0))

/-- A transmission asks for its grant, waits for it, and is charged for what it radiates. COEXn_REQ rises at the later
of the decision and req_lead before the first symbol. With the grant present at the sample, 8 µs before the first
symbol, the frame goes to the air if its full projected air time fits the band's duty; an acknowledgement without a
grant is dropped and counted, and any other frame waits at most grant_wait and not past its late limit less 8 µs. A
grant that comes in time starts the ramp-up at once; a wait that ends without one fails the attempt. A withdrawn
grant ends the frame 2 µs later, charged only for what it radiated; a frame that ends is charged 16 µs more than its
air time. A scheduled frame held past its late limit ends with SLOT_MISSED. -/
def Obligations.TransmissionGrants : Prop :=
  ∀ (s : State) (n x : Nat) (t : Transmission), (s.radio n).tx = some t →
    let ctl := s.reg (Reg.trxCoexCtl n)
    (field ctl 0 0 = 1 → t.phase = .turnaround →
      (let r := s.reachElapsed (max t.decided (t.first - field ctl 15 8 * 1000))
       exec (.coexReqRaise n) s = .next ((r.setFlag (Reg.trxCoexStat n) 0 true).setFlag (Reg.trxCoexStat n) 2 (bit (field ctl 7 4) t.cls)))
      ∧ (t.ready = true →
        (let r := (s.reachElapsed (t.first - 8000)).setFlag (Reg.trxCoexStat n) 1 true
         (r.dutyFits t.band (16000 + t.airNs) = true → exec (.coexGrantSample n true) s =
            .next ((r.modRadio n fun x => { x with tx := some { t with phase := .air, first := t.first } }).bump (Reg.trxCnt n 0)))
         ∧ (r.dutyFits t.band (16000 + t.airNs) = false → exec (.coexGrantSample n true) s = .next ((r.dutyRefused n t.frame).leaveTx n)))
        ∧ (let r := (s.reachElapsed (t.first - 8000)).setFlag (Reg.trxCoexStat n) 1 false
         (t.cls = 0 → exec (.coexGrantSample n false) s = .next ((r.refuseShot n t.frame Status.notPermitted true).leaveTx n))
         ∧ (t.cls ≠ 0 → t.latest = none → exec (.coexGrantSample n false) s =
            .next (r.modRadio n fun x => { x with tx := some { t with phase := .granting, grantBy := r.elapsed + field ctl 31 16 * 1000 } }))
         ∧ ∀ l, t.cls ≠ 0 → t.latest = some l → exec (.coexGrantSample n false) s =
            .next (r.modRadio n fun x => { x with tx := some { t with phase := .granting, grantBy := min (r.elapsed + field ctl 31 16 * 1000) (l - 8000) } }))))
    ∧ (t.phase = .granting →
      (s.elapsed ≤ t.grantBy → exec (.coexGrantArrival n) s = .next ((s.setFlag (Reg.trxCoexStat n) 1 true).rampUp n t (s.elapsed + 8000)))
      ∧ (t.grantBy < s.elapsed → exec (.coexGrantArrival n) s = .next s)
      ∧ (t.latest = none → exec (.coexGrantWaitExpiry n) s =
          .next ((((s.reachElapsed t.grantBy).bump (Reg.trxCnt n 2)).failShot n t.frame).leaveTx n))
      ∧ (t.latest ≠ none → exec (.coexGrantWaitExpiry n) s = .next (((s.reachElapsed t.grantBy).slotMissed n t.frame).leaveTx n)))
    ∧ (∀ radiated, s.flag (Reg.trxCoexCtl n) 0 = true → t.phase = .air → radiated * 1000 ≤ t.airNs →
        let stop := t.first + radiated * 1000 + 2000
        let r := (((s.reachElapsed stop).setReg (Reg.trxCoexStat n) 0).chargeDuty t.band (t.first - 8000) stop).bump (Reg.trxCnt n 1)
        exec (.coexGrantWithdrawn n radiated) s =
          .next ((r.modRadio n fun x => { x with tx := some { t with phase := .tail }, lastEnd := some stop }).failShot n t.frame))
    ∧ (t.phase = .air →
        let stop := t.first + t.airNs + 8000
        let r := ((s.reachElapsed stop).chargeDuty t.band (t.first - 8000) stop).setReg (Reg.trxCoexStat n) 0
        exec (.txFrameEnd n) s = .next ((r.modRadio n fun x => { x with
          tx := some { t with phase := .tail }, lastEnd := some (t.first + t.airNs), retuneFor := none }).frameSent n t))
    ∧ ∀ (w : Window) (f : ClientFrame) (l : Nat), s.clientTurn n x = some (w, f) → (s.clientShot w f).latest = some l →
        exec (.lateLimitExpiry n x) s = .next ((s.reachElapsed l).slotMissed n x)

/-- What a transmit decision refuses, and the turnaround it starts. On a radio that is locked and holds nothing back, a
frame is refused with NOT_PERMITTED while tx_inhibit is set, ends with SLOT_MISSED where its first symbol would pass
its late limit, is refused with REG_LOCKED and counted where it lies in no band of the certificate, overlaps a cell
that is not permitted or exceeds the power limit (and always while no certificate is applied), and, with coexistence
off, is refused by duty. Otherwise an unsecured frame inside the span enters TX. In CAL or SYNTH it waits, or misses
its slot. -/
def Obligations.TransmitDecision : Prop :=
  ∀ (s : State) (n x : Nat) (h : Shot), s.shot n x = some h → s.radioOut n = false →
    (s.trx n = 3 ∨ s.trx n = 4 →
      (∀ l, h.latest = some l → l < 100000 + s.lockBound n → exec (.txDecision n x) s = .next (s.slotMissed n x))
      ∧ (h.latest = none → exec (.txDecision n x) s = .next s))
    ∧ (s.trx n = 2 ∨ s.trx n = 6 → s.holdBack n x h = none →
      (s.flag (Reg.trxStateCtl n) 8 = true → exec (.txDecision n x) s = .next (s.refuseShot n x Status.notPermitted false))
      ∧ (s.flag (Reg.trxStateCtl n) 8 = false → s.lifecycle ≠ 4 → (h.unicast = false ∨ s.macAddress n ≠ 0xFFFE) →
        (∀ l, h.latest = some l → l < s.firstSymbol n h → exec (.txDecision n x) s = .next (s.slotMissed n x))
        ∧ (h.latest = none →
          (s.licensed = false → exec (.txDecision n x) s = .next ((s.bump (Reg.trxCnt n 5)).refuseShot n x Status.regLocked false))
          ∧ (s.bandFor n h = none → exec (.txDecision n x) s = .next ((s.bump (Reg.trxCnt n 5)).refuseShot n x Status.regLocked false))
          ∧ ∀ b, s.bandFor n h = some b → h.secured = false →
            (s.flag (Reg.trxCoexCtl n) 0 = false → s.dutyFits b (16000 + h.airNs) = false →
              exec (.txDecision n x) s = .next ((s.bump (Reg.trxCnt n 4)).refuseShot n x Status.dutyLimit true))
            ∧ (s.flag (Reg.trxCoexCtl n) 0 = true ∨ s.dutyFits b (16000 + h.airNs) = true → s.outsideSpan n h = false →
              exec (.txDecision n x) s = .next (s.enterTx n x h b)))))

/-- The certificate, the duty window and the commands of the radio front end. RGL_CERT_WRITE writes into the staging
buffer; RGL_CERT_APPLY of a certificate that fails step 1 of R109 ends with PARAM_RANGE, and of one that passes goes
on to its signatures with ACCEPTED; when they are checked, a certificate that verifies, names this device and has a
greater version is sealed and applied, and any other changes nothing. Either way the staging buffer is cleared.
RGL_READ returns a band's 160 bytes, or zeros. RADIO_CAL starts a calibration, or answers at once for a radio in OFF
or SLEEP. A duty bin that closes shifts the 3,600 bins by one. -/
def Obligations.RegulatoryCommands : Prop :=
  ∀ (s : State) (c : Cmd) (p : Bytes),
    (s.Ready rglCertWriteSpec c p → exec (.rglCertWrite c p) s = .next
      ({ s.received c with rgl := { (s.received c).rgl with stage := (s.received c).rgl.stage.writeBytes 0 (num p 0 4) (p.drop 4) } }.reply
        (originOf c 0x1002) Status.ok []))
    ∧ (s.Ready rglCertApplySpec c p → (s.received c).flashBusy = none → num p 0 4 ≤ 20480 →
      let r := s.received c
      let cert := r.rgl.stage.readBytes 0 0 (num p 0 4)
      (certFormOk cert = false → exec (.rglCertApply c p) s = .next (r.clearStage.reply (originOf c 0x1003) Status.paramRange []))
      ∧ (certFormOk cert = true → exec (.rglCertApply c p) s =
        .next (((({ r with rgl := { r.rgl with checking := some cert } }).holdFlash true).start rglCertApplySpec c .certVerify).acceptReply (originOf c 0x1003))))
    ∧ (∀ cert, s.rgl.checking = some cert →
      let r := (({ s with rgl := { s.rgl with checking := none } }).clearStage).holdFlash false
      (certSigned cert = false ∨ r.certNames cert = false ∨ certVersion cert ≤ (r.reg Reg.rglCertVer).toNat →
        exec .rglCertVerifyDone s = .next (r.finishWork Work.isCert Status.notPermitted []))
      ∧ (certSigned cert = true → r.certNames cert = true → (r.reg Reg.rglCertVer).toNat < certVersion cert → r.lifecycle ≠ 4 →
        ∃ t : State, exec .rglCertVerifyDone s = .next (t.finishWork Work.isCert Status.ok (le 4 (certVersion cert)))
          ∧ t.rgl.certificate = certBody cert ∧ t.rgl.bins.length = r.rgl.bins.length
          ∧ t.boot.sealedCopies = r.boot.sealedCopies.map fun x => { x with certificate := cert }))
    ∧ (s.Ready rglReadSpec c p → exec (.rglRead c p) s = .next ((s.received c).reply (originOf c 0x1004) Status.ok
        (if (s.received c).licensed = true ∧ num p 0 1 < (s.received c).bandCount
          then slice (s.received c).rgl.certificate (64 + 160 * num p 0 1) 160 else List.replicate 160 0)))
    ∧ (s.Ready radioCalSpec c p →
      (num p 0 1 = 1 → (s.received c).radioOut 0 = false → (s.received c).trimmed 0 = false →
        ((s.received c).trx 0 = 0 → (s.received c).single 0 = false → exec (.radioCal c p) s = .next ((s.received c).reply (originOf c 0x1001) Status.ok []))
        ∧ ((s.received c).trx 0 = 5 ∨ (s.received c).trx 0 = 6 →
          exec (.radioCal c p) s = .next (((s.received c).startCal 0).start radioCalSpec c (.radioCal 9))))
      ∧ (∀ n, bit (num p 0 1) n = true → n < 3 → (s.received c).radioOut n = true →
        exec (.radioCal c p) s = .next ((s.received c).refuse (originOf c 0x1001) Status.notPermitted [])))
    ∧ (s.rgl.bins = [] → exec .dutyBinAdvance s = .next
      { s.reachElapsed (1000000000 + s.rgl.binStart) with
        rgl := { (s.reachElapsed (1000000000 + s.rgl.binStart)).rgl with
          binStart := 1000000000 + (s.reachElapsed (1000000000 + s.rgl.binStart)).rgl.binStart } })

/-- Loading tables are written, read, sounded and derived. LOAD_TABLE_WRITE stores a transmit table, or installs a
receive table whose valid predecessor becomes the previous one, stamped with the time of the write; LOAD_TABLE_READ
returns the 128 bytes that stand. FILET_SOUND queues a sounding frame, or answers NOT_PERMITTED where the radio
cannot send one. The end of a sounding's symbols counts it, releases its lane, derives a loading from the ratios of
its data subcarriers, and installs it as the next version where the receive table has auto set and the sum is at
least 48; otherwise it becomes the proposal. LOADING_DERIVED reports it. -/
def Obligations.LoadingTableCommands : Prop :=
  ∀ (s : State) (c : Cmd) (p : Bytes),
    (s.Ready loadTableWriteSpec c p →
      let r := s.received c
      let t := patch (p.drop 4) 106 (le 4 r.seconds)
      (num p 1 1 = 0 → exec (.loadTableWrite c p) s = .next ((r.installReceive (num p 0 1) t).reply (originOf c 0x1101) Status.ok []))
      ∧ (num p 1 1 = 1 → exec (.loadTableWrite c p) s = .next ((r.setTable (num p 0 1) 1 t).reply (originOf c 0x1101) Status.ok [])
        ∧ (r.setTable (num p 0 1) 1 t).loadTable (num p 0 1) 1 = t))
    ∧ (∀ (q : Nat) (t : Bytes), t.length = 128 → tableValid t = true → (s.installReceive q t).loadTable q 0 = t
        ∧ (tableValid (s.loadTable q 0) = true → (s.installReceive q t).loadTable q 3 = s.loadTable q 0))
    ∧ (s.Ready loadTableReadSpec c p →
      exec (.loadTableRead c p) s = .next ((s.received c).reply (originOf c 0x1102) Status.ok ((s.received c).loadTable (num p 0 1) (num p 1 1))))
    ∧ (s.Ready filetSoundSpec c p →
      let r := s.received c
      let n := num p 0 1
      (r.radioOut n = false → r.trimmed n = false → r.macOn n = true → r.flag (Reg.filetCfg n) 0 = true →
        let q := r.queueFrame { target := .sounding n (num p 1 1) (num p 2 1), macType := 2, ackReq := false, secured := false, payload := [], node := none, buffer := none, plait := none } none (8 + 2 * n)
        exec (.filetSound c p) s = .next (q.2.start filetSoundSpec c (.frame q.1)))
      ∧ (r.flag (Reg.filetCfg n) 0 = false → exec (.filetSound c p) s = .next (r.refuse (originOf c 0x1103) Status.notPermitted [])))
    ∧ ∀ (lane : Nat) (snr : List Int) (offset : Int) (r : Reception) (h : Nat), s.reception lane = some r → r.header = some h → r.sounding = true →
        let b := ((s.reachElapsed (r.syncAt + 120000 * (1 + bits h 12 0))).bump (Reg.modCnt r.detection.radio 7)).releaseLane lane
        let peer := bits h 31 24
        let old := b.loadTable peer 0
        let l := deriveLoading (if tableValid old then bits (num old 0 1) 3 2 else 2) (if tableValid old then num old 3 1 else 12)
          (snr.take (if field r.profile 1 1 = 1 then 192 else 96) ++ List.replicate ((if field r.profile 1 1 = 1 then 192 else 96) - snr.length) (-400))
        let version := if tableValid old then num old 1 1 % 255 + 1 else 1
        (tableValid old = true → bit (num old 0 1) 4 = true → 48 ≤ l.sum → ∃ t : Bytes,
          exec (.soundingRx lane snr offset) s = .next ((b.installReceive peer t).raise 0x1100 0
            (le 1 peer ++ le 1 version ++ le 2 l.sum ++ [1] ++ le 1 r.detection.radio))
          ∧ tableValid t = true ∧ num t 1 1 = version ∧ num t 4 2 = l.sum ∧ num t 2 1 = peer)
        ∧ (tableValid old = false → ∃ t : Bytes,
          exec (.soundingRx lane snr offset) s = .next ((b.setTable peer 2 t).raise 0x1100 0
            (le 1 peer ++ [1] ++ le 2 (if 48 ≤ l.sum then l.sum else 0) ++ [0] ++ le 1 r.detection.radio)))

/-- The loading that a sounding derives fits its thresholds and sums to a multiple of 12. For every code rate, margin
and list of signal-to-noise ratios, the loading derived has one entry for each subcarrier, none above 8 and none
above what its ratio carries at that rate and margin; its sum is a multiple of 12, and less than 12 bits were taken
away. -/
def Obligations.DerivedLoading : Prop :=
  ∀ (rate : Nat) (margin : Int) (snr : List Int),
    let extra := loadOffset rate + margin
    let l := deriveLoading rate margin snr
    l.length = snr.length ∧ l.sum % 12 = 0 ∧ (snr.map (bitsFor extra)).sum < l.sum + 12 ∧ l.sum ≤ (snr.map (bitsFor extra)).sum
    ∧ ∀ d : Nat, d < snr.length → l.getD d 0 ≤ 8
      ∧ (l.getD d 0 ≠ 0 → loadThreshold (l.getD d 0) + extra ≤ snr.getD d 0)

/-- The allocator never takes a lane that another radio's reservation needs. For every detection, in every state in
which the free lanes cover what the radios have left of their reservations, the state after it does too. A radio
below its reservation obtains the lowest free lane, whatever the other radios hold, unless a lane is held for the
detection or it meets a reception of its own kind or place; and a radio that loses a lane to a capture keeps at
least its reservation. -/
def Obligations.LaneReservationsHold : Prop :=
  ∀ (s t : State) (d : Detection), exec (.detection d) s = .next t →
    ((List.range 3).map fun m => s.reserved m - s.heldBy m).sum ≤ s.freeLanes →
    ((List.range 3).map fun m => t.reserved m - t.heldBy m).sum ≤ t.freeLanes
    ∧ (∀ m, m < 3 → t.heldBy m < s.heldBy m → s.reserved m ≤ t.heldBy m)
    ∧ ∀ l, s.detectable d = true → s.heldBy d.radio < s.reserved d.radio → s.freeLane = some l →
        let e := s.placed d
        let b := s.bump (Reg.searchCnt d.radio 0)
        s.heldFor e = none → s.rival e = none → (s.receptionsOn d.radio).all (fun x => !s.overlapping e x.2.detection) = true →
        t = ((b.needGate 4).takeLane l d.radio (laneWord e false)).setReception l (b.begin_ e)

/-- A lane finds its sync word, takes its header and passes its frame on. A radio that is not receiving raises no
detection. A sync word moves the lane to DECODE and stamps the frame; a sync window that closes without one counts
it and releases the lane. A header whose check or reserved bits fail, or whose length is out of range, is counted
and releases the lane; one that passes is kept. At the frame's end a failed CRC-32 is counted and delivers nothing,
and a passed one goes on as a received frame; either way the lane is released. A fault of the lane, or of a buffer,
ends the reception instead and is scored. -/
def Obligations.ReceptionsRun : Prop :=
  ∀ (s : State) (lane : Nat) (r : Reception), s.reception lane = some r →
    (∀ d : Detection, s.receiving d.radio = false → exec (.detection d) s = .next s)
    ∧ (s.laneState lane = 1 →
      exec (.syncTimeout lane) s = .next (((s.reachElapsed r.syncDue).bump (Reg.searchCnt r.detection.radio 5)).releaseLane lane)
      ∧ ∀ slot stamp, r.detection.filet = false → slot = r.detection.slot → slot ∈ r.slots →
        s.unitState 8 (4 + r.detection.radio) ≠ .retired → exec (.syncFound lane slot stamp false) s = .next (((s.reach (stamp / 65536)).setFld (Reg.laneStat lane) 2 0 2).setReception lane
          { r with slot := some slot, syncAt := ((s.reach (stamp / 65536)).setFld (Reg.laneStat lane) 2 0 2).elapsed, stamp := stamp, firmware := false }))
    ∧ (s.laneState lane = 2 → r.header = none → r.detection.filet = false → isSun r.profile = false → ∀ h : Nat,
      (bits h 31 24 ≠ crc8 (le 3 h) ∨ bits h 23 16 ≠ 0 →
        exec (.headerReceived lane h) s = .next (((s.sight r).bump (Reg.modCnt r.detection.radio 0)).releaseLane lane))
      ∧ (bits h 31 24 = crc8 (le 3 h) → bits h 23 16 = 0 → 2047 < bits h 12 0 ∨ bits h 12 0 < 4 →
        exec (.headerReceived lane h) s = .next (((s.sight r).bump (Reg.modCnt r.detection.radio 1)).releaseLane lane))
      ∧ (bits h 31 24 = crc8 (le 3 h) → bits h 23 16 = 0 → 4 ≤ bits h 12 0 → bits h 12 0 ≤ 2047 →
        exec (.headerReceived lane h) s = .next (s.setReception lane { r with header := some h, table := none })))
    ∧ ∀ (h : Nat) (body : Bytes) (snr ferr : Int), s.laneState lane = 2 → r.header = some h → r.sounding = false →
      let e := (s.reachElapsed (r.syncAt + s.receptionNs r))
      exec (.receiveComplete lane false body snr ferr .clean) s = .next (((e.releaseLane lane).sight r).bump (Reg.modCnt r.detection.radio 2))
      ∧ exec (.receiveComplete lane true body snr ferr .clean) s =
        .next ((e.releaseLane lane).frameReceived r.detection.radio lane r (padTo (r.len - r.check) body) snr ferr)
      ∧ (∀ ok, exec (.receiveComplete lane ok body snr ferr .check) s = .next ((e.loseReception lane r).classError 0 lane)
        ∧ ∀ row, exec (.receiveComplete lane ok body snr ferr (.uncorrectable row)) s = .next ((e.loseReception lane r).sramError row true))

/-- Held lanes, self-tests, starvation reports and the reads of the pool. A scheduled window that opens without
stitch_hold changes only the occurrence and the request of R106; with it, it holds a lane or counts the failure.
When it closes, an unused hold is released and counted. A self-test takes a free lane that no reservation needs for
40 µs; a passed one returns it. The end of a second in which detections starved raises LANE_STARVED once.
LANE_POOL_READ and SEARCH_NOISE_READ report. -/
def Obligations.LaneWindowsAndTests : Prop :=
  ∀ (s : State) (n lane : Nat) (w : Window),
    ((s.radio n).windows.find? (fun w => !w.opened) = some w →
      let b := s.reach w.laneOpens.toNat
      let o := (b.modWindow n w.client fun w => { w with opened := true, unscored := w.unscored || (!b.hears n w.chan && b.trx n != 7) }).windowRequest n true
      (o.flag (Reg.searchCtl n) 4 = false → exec (.stitchWindowOpen n) s = .next o)
      ∧ (o.flag (Reg.searchCtl n) 4 = true → ∀ held t, o.holdLane n (.stitch n w.client) = (held, t) →
        exec (.stitchWindowOpen n) s = .next (if held then t.needGate 4 else t.bump (Reg.searchCnt n 7))))
    ∧ (s.openWindow n = some w →
      let b := s.reach w.closes.toNat
      ∀ unused t, b.dropHold (.stitch n w.client) = (unused, t) →
      exec (.stitchWindowClose n) s = .next (((if unused then t.bump (Reg.searchCnt n 8) else t).modWindow n w.client fun w => { w with
        closed := true, unscored := w.unscored || (!b.hears n w.chan && b.trx n != 7) }).windowRequest n false))
    ∧ (lane < 80 → s.laneState lane = 0 → ((List.range 3).map fun n => s.reserved n - s.heldBy n).sum < s.freeLanes → s.on .lane = true →
      ∃ t : State, exec (.laneSelfTestStart lane) s = .next t ∧ t.laneState lane = 4 ∧ t.freeLanes = s.freeLanes - 1
        ∧ Table.find t.lanes.tests lane = some s.elapsed)
    ∧ (∀ k, Table.find s.lanes.tests lane = some k →
      let b := s.reachElapsed (40000 + k)
      let t := { b with lanes := { b.lanes with tests := Table.drop b.lanes.tests lane } }
      let u := t.setFld Reg.poolStat 31 24 (t.fld Reg.poolStat 31 24 - 1)
      exec (.laneSelfTestDone lane true) s = .next ((u.setFld Reg.poolStat 15 8 (u.freeLanes + 1)).setReg (Reg.laneStat lane) 0)
      ∧ exec (.laneSelfTestDone lane false) s = .next ((b.scoreError 0 lane).2.retireUnit 0 lane 1))
    ∧ ((s.radio n).starved ≠ 0 →
      let b := (s.reachElapsed (1000000000 + 1000000000 * s.elapsedSecond)).modRadio n fun r => { r with starved := 0 }
      exec (.laneStarved n) s = .next (b.raise 0x1200 1 (le 1 n ++ le 4 (s.radio n).starved ++ le 1 (b.heldBy n) ++ le 1 b.freeLanes)))
    ∧ ∀ (c : Cmd) (p : Bytes),
      (s.Ready lanePoolReadSpec c p → ∃ b : Bytes, exec (.lanePoolRead c p) s = .next ((s.received c).reply (originOf c 0x1202) Status.ok b)
        ∧ b.length = 340 ∧ num b 0 4 = ((s.received c).reg Reg.poolStat).toNat ∧ num b 4 4 = ((s.received c).reg Reg.poolHeld).toNat
        ∧ ∀ l, l < 80 → num b (20 + 4 * l) 4 = ((s.received c).reg (Reg.laneStat l)).toNat)
      ∧ (s.Ready searchNoiseReadSpec c p → ∃ b : Bytes, exec (.searchNoiseRead c p) s = .next ((s.received c).reply (originOf c 0x1203) Status.ok b)
        ∧ b.length = 64 ∧ ((s.received c).trx (num p 0 1) ≠ 6 → b = List.replicate 64 0x80))

/-- A contention frame backs off, listens, is decided, and waits for its acknowledgement. A frame at the head of its
peer's queue takes the peer's 12-bit sequence and begins its first attempt. A backoff is a whole number of slots
below 2^be. At its end the copy listens where listen-before-talk applies and is decided at once elsewhere; a clear
listen decides it, a busy one counts cca_busy and draws a new backoff, or past cca_max ends the attempt. A frame
that must stop ends at these points. Spent deferral sends it to its next listen, and a window that closes without an
acknowledgement or a reception still pending ends the attempt. The slots are drawn from the free random source of
log entry 1. -/
def Obligations.ContentionAttempts : Prop :=
  ∀ (s : State) (x : Nat) (f : AirFrame) (c : AirCopy), s.copy x = some (f, c) →
    let n := chanRadio c.chan
    let b := s.reachElapsed c.due
    let decided : State → State := fun t => t.modCopy (x / 4) (x % 4) fun c => { c with phase := .decide, due := t.elapsed }
    (∀ q, f.target = .peer q → f.plait = none → f.started = false →
      (s.mayStart (x / 4) f = false → exec (.queueHead (x / 4)) s = .next s)
      ∧ (s.mayStart (x / 4) f = true → exec (.queueHead (x / 4)) s = .next
        (((s.setFld (Reg.peerSeq q) 11 0 ((s.fld (Reg.peerSeq q) 11 0 + 1) % 4096)).modFrame (x / 4) fun f => { f with
          started := true, seq := s.fld (Reg.peerSeq q) 11 0 }).startAttempt (x / 4))))
    ∧ (s.macOn n = true → ∃ (t : State) (k : Nat) (f' : AirFrame), s.enterBackoff (x / 4) (x % 4) = t ∧ k < 2 ^ c.be
      ∧ t.copy x = some (f', { c with phase := .backoff, due := s.elapsed + k * field (f.set n).bo 15 0 * 1000 }))
    ∧ (s.macOn n = true → f.stopping = none →
      (c.phase = .backoff →
        (b.listenFor (f.set n).lbt c.chan = none → exec (.backoffExpiry x) s = .next (decided b))
        ∧ ∀ thr ns, b.listenFor (f.set n).lbt c.chan = some (thr, ns) →
          let e := b.enterListen n c.chan
          exec (.backoffExpiry x) s = .next (e.modCopy (x / 4) (x % 4) fun c => { c with
            phase := .listen, due := e.elapsed + (if b.trx n = 2 then 20000 else 0) + ns }))
      ∧ (c.phase = .listen →
        (b.receptionIn c.chan = false → exec (.listenDone x false) s = .next (decided b))
        ∧ let e := (b.bump (Reg.wmacCnt n 4)).modCopy (x / 4) (x % 4) fun c => { c with
            busy := c.busy + 1, be := min (c.be + 1) (field (f.set n).bo 23 20) }
          exec (.listenDone x true) s = .next (if field (f.set n).ctl 15 8 < c.busy + 1 then
            ((e.bump (Reg.wmacCnt n 5)).countPeer f 7).copyEnded (x / 4) (x % 4) true else e.enterBackoff (x / 4) (x % 4))))
    ∧ (s.macOn n = true → f.stopping.isSome = true →
      (c.phase = .backoff → exec (.backoffExpiry x) s = .next (b.copyEnded (x / 4) (x % 4) false))
      ∧ ∀ busy, c.phase = .listen → exec (.listenDone x busy) s = .next (b.copyEnded (x / 4) (x % 4) false))
    ∧ (∀ since, c.phase = .decide → c.waitSince = some since →
      let d := (s.passNs (s.deferLeft f c)).modCopy (x / 4) (x % 4) fun c => { c with
        waited := max c.waited (field (f.set n).ctl 31 16 * 1000), waitSince := none }
      (d.listenFor (f.set n).lbt c.chan = none → exec (.deferRxExpiry x) s = .next d)
      ∧ ∀ thr ns, d.listenFor (f.set n).lbt c.chan = some (thr, ns) →
        exec (.deferRxExpiry x) s = .next (d.modCopy (x / 4) (x % 4) fun c => { c with phase := .listen, due := d.elapsed + ns }))
    ∧ (c.phase = .ackWait →
      (s.ackPending n c.chan c.due = true → exec (.ackWindowClose x) s = .next s)
      ∧ (s.ackPending n c.chan c.due = false →
        exec (.ackWindowClose x) s = .next (((b.countPeer f 9).dropHold (.ack n x)).2.copyEnded (x / 4) (x % 4) false)))

/-- Plait reception, the ageing of histories, and the commands of peers and radio frames. A plait frame newer than top
moves top and the bitmap; one already marked is a duplicate, one 64 or more behind top is too old, and neither is
kept. A held frame that reaches its age releases everything before it; histories and plaits that hear nothing for
the age clear valid; a member that is down is probed. PEER_WRITE with another address clears the entry's sequence,
signal, offset and counters, and with the same address, still valid, changes the two words it carries. PEER_READ and
PLAIT_READ return their registers, and RADIO_SEND queues a frame where the engine is enabled. -/
def Obligations.PlaitsAndPeers : Prop :=
  ∀ (s : State) (p seq q m n : Nat) (frame report : Bytes) (c : Cmd) (b : Bytes),
    (s.flag (Reg.pltRx p) 30 = true →
      let d := (s.plaitTop p + 4096 - seq) % 4096
      let h := s.modPlait p fun y => { y with heard := s.elapsed }
      (2048 ≤ d → (s.plaitFrame p n seq frame report).1 = true)
      ∧ (64 ≤ d → d < 2048 → s.plaitFrame p n seq frame report = (false, h.countPlait p 2))
      ∧ (d < 64 → bit (s.plait p).map d = true → s.plaitFrame p n seq frame report = (false, h.countPlait p 1))
      ∧ (d < 64 → bit (s.plait p).map d = false → (s.plaitFrame p n seq frame report).1 = true))
    ∧ (∀ e, Table.find (s.plait p).held seq = some e →
      let r := s.reachElapsed (e.accepted + 1000000 * s.fld (Reg.pltTime p) 8 0)
      exec (.reorderTimeout p seq) s = .next (State.deliverHeld 65 (State.releaseMany ((seq + 4096 - r.plaitNext p) % 4096 + 1) r p) p))
    ∧ (p < 64 → s.flag (Reg.pltRx p) 30 = true → (s.plait p).held = [] →
      exec (.plaitHistoryAge p) s = .next ((s.reachElapsed ((s.plait p).heard + 1000000000 * s.fld Reg.wmacGlbHist 11 0)).setFlag (Reg.pltRx p) 30 false))
    ∧ (∀ e, Table.find s.mac.refreshed q = some e →
      let r := s.reachElapsed (e + 1000000000 * s.fld Reg.wmacGlbHist 11 0)
      exec (.peerHistoryAge q) s = .next ({ r with mac := { r.mac with refreshed := Table.drop r.mac.refreshed q } }.setFlag (Reg.peerSeq q) 24 false))
    ∧ (m ∈ (s.plait p).down → m ∉ (s.plait p).probe →
      exec (.plaitProbeDue p m) s = .next ((s.passNs (1000000000 * s.fld (Reg.pltTime p) 31 16)).modPlait p fun x => { x with probe := x.probe ++ [m] }))
    ∧ (s.Ready peerWriteSpec c b →
      exec (.peerWrite c b) s = .next (((s.received c).writePeer (num b 0 2) (word (num b 4 4)) (word (num b 8 4))).reply (originOf c 0x1301) Status.ok []))
    ∧ (∀ cfg addr : Word, q < 512 → let t := s.writePeer q cfg addr
      t.reg (Reg.peerCfg q) = cfg ∧ t.reg (Reg.peerAddr q) = addr
      ∧ (s.peerAddress q ≠ field addr 15 0 → t.reg (Reg.peerSeq q) = 0 ∧ t.reg (Reg.peerSig q) = 0 ∧ t.reg (Reg.peerAfc q) = 0
        ∧ ∀ j, j < 10 → t.reg (Reg.peerCnt q j) = 0)
      ∧ (s.peerAddress q = field addr 15 0 → field cfg 0 0 = 1 → t = (s.setReg (Reg.peerCfg q) cfg).setReg (Reg.peerAddr q) addr))
    ∧ (s.Ready peerReadSpec c b → ∃ r : Bytes,
      exec (.peerRead c b) s = .next ((s.received c).reply (originOf c 0x1302) Status.ok r) ∧ r.length = 64
        ∧ ∀ i, i < 16 → num r (4 * i) 4 = ((s.received c).reg (Reg.peerCfg (num b 0 2) + 4 * i)).toNat)
    ∧ (s.Ready plaitReadSpec c b → ∃ r : Bytes,
      exec (.plaitRead c b) s = .next ((s.received c).reply (originOf c 0x1304) Status.ok r) ∧ r.length = 56
        ∧ (∀ i, i < 6 → num r (4 * i) 4 = ((s.received c).reg (Reg.pltCfg (num b 0 1) + 4 * i)).toNat)
        ∧ num r 24 8 = ((s.received c).plait (num b 0 1)).map % 2 ^ 64)
    ∧ (s.Ready radioSendSpec c b →
      let r := s.received c
      let dest := num b 0 2
      let secured := bit (num b 4 1) 1
      let queued := if dest = 0xFFFF then r.sendBroadcast (num b 2 2) (num b 5 1) secured (b.drop 6) none none
        else r.sendPeer dest (num b 5 1) (bit (num b 4 1) 0) secured (b.drop 6) none none (some (1000000 * (if c.timeout = 0 then 2000 else c.timeout)))
      (r.radioOut (r.sendRadio b) = false → r.trimmed (r.sendRadio b) = false → r.macOn (r.sendRadio b) = true →
        exec (.radioSend c b) s = .next (queued.2.start radioSendSpec c (.frame queued.1)))
      ∧ (r.macOn (r.sendRadio b) = false → exec (.radioSend c b) s = .next (r.refuse (originOf c 0x1305) Status.notPermitted [])))

/-- The end of a stitch scores its occurrence and moves the client between its levels. For every stitch that ends, of a
client that is valid and not LOST: heard, the client is SCHEDULED at level 0, with CLIENT_REGAINED where it was
re-threading; missed, it goes from level 0 to level 1 and RETHREAD, from level 1 to level 2, from level 2 to level
3, and from level 3 to LOST with CLIENT_LOST_SYNC; sighted and unscored occurrences are counted and leave it as it
was. A stitch whose score is still open stays. -/
def Obligations.StitchesScored : Prop :=
  ∀ (s : State) (n : Nat) (w : Window), (s.radio n).windows.find? (fun w => w.opened && w.closed) = some w →
    (s.stitchBusy n w = true → exec (.stitchEnd n) s = .next s)
    ∧ (s.stitchBusy n w = false → s.clientValid w.client = true → s.clientState w.client ≠ 3 → s.clientRadio w.client = n →
      let c := w.client
      let b := (s.reach w.stitchEnd.toNat).modRadio n fun r => { r with windows := r.windows.filter fun x => x.client != c }
      (∀ x, w.heard = some x → ∃ t : State, exec (.stitchEnd n) s = .next t ∧ t.clientLevel c = 0 ∧ t.clientState c = 1
        ∧ let u := ((b.bump (Reg.schedCnt n 0)).bump (Reg.schedCnt n 1)).setThread c 1 0
          t = if s.clientLevel c = 0 then u else (u.bump (Reg.schedCnt n 7)).raise 0x1401 0 (le 2 c ++ le 1 n ++ le 1 (s.clientLevel c) ++ le 4 (unsigned 32 x)))
      ∧ (w.heard = none → w.sighted = true → exec (.stitchEnd n) s = .next (b.bump (Reg.schedCnt n 3)))
      ∧ (w.heard = none → w.sighted = false → w.unscored = true → exec (.stitchEnd n) s = .next (b.bump (Reg.schedCnt n 4)))
      ∧ (w.heard = none → w.sighted = false → w.unscored = false →
        let m := (b.bump (Reg.schedCnt n 0)).bump (Reg.schedCnt n 2)
        (s.clientSamples c = 0 → exec (.stitchEnd n) s = .next m)
        ∧ (s.clientSamples c ≠ 0 → ∃ t : State, exec (.stitchEnd n) s = .next t
          ∧ (s.clientLevel c = 0 → t = (m.setThread c 2 1).bump (Reg.schedCnt n 6) ∧ t.clientLevel c = 1 ∧ t.clientState c = 2)
          ∧ (s.clientLevel c = 1 → t = m.setThread c 2 2 ∧ t.clientLevel c = 2)
          ∧ (s.clientLevel c = 2 → t = m.setThread c 2 3 ∧ t.clientLevel c = 3)
          ∧ (s.clientLevel c = 3 → t.clientState c = 3
            ∧ let u := (m.setThread c 3 3).bump (Reg.schedCnt n 8)
              t = u.raise 0x1400 1 (le 2 c ++ le 1 n ++ le 2 (u.clientAddress c) ++ slice (u.context c) 32 4 ++ le 1 (u.clientQueue c).length)))))

/-- The fetch and preparation of a client's context, and the commands that write, read and send to it. Three stitch
lengths before a stitch the context is fetched and pinned while the store has room; one length before it, the window
is placed, or, where the context is not resident, the occurrence is skipped. The write-back unpins it; the end of a
second with skipped occurrences raises CTX_LATE. CLIENT_WRITE is refused where an address or a stitch is held; a
fresh client starts SCHEDULED at level 0 with its learned fields clear and its queue empty, and one that keeps its
address keeps them. CLIENT_READ returns the context; CLIENT_SEND queues a frame, or answers outcome 3 when the queue
is full. -/
def Obligations.ClientsServed : Prop :=
  ∀ (s : State) (k n : Nat) (c : Cmd) (p : Bytes),
    (∀ o : Nat, s.served k = true → (s.netNs : Int) ≤ s.nominalStart k o →
      let f := (s.reach (s.nominalStart k o - 3 * (s.stitchNs k : Int)).toNat).takeStaged k
      (s.sched.pinned.contains k = false → (f.makeResident k).1 = true → exec (.contextFetch k o .clean) s =
        .next { (f.makeResident k).2 with sched := { (f.makeResident k).2.sched with pinned := (f.makeResident k).2.sched.pinned ++ [k] } })
      ∧ (∀ row, s.sched.pinned.contains k = false → ∃ t : State, exec (.contextFetch k o (.uncorrectable row)) s = .next t ∧ (k, o) ∈ t.sched.spoiled)
      ∧ (((s.radio (s.clientRadio k)).windows.any fun w => w.client == k) = false →
        let b := s.reach (s.nominalStart k o - (s.stitchNs k : Int)).toNat
        (s.sched.resident.contains k = true → s.sched.pinned.contains k = true → exec (.stitchPrepare k o) s =
          .next (({ (b.makeResident k).2 with sched := { (b.makeResident k).2.sched with spoiled := (b.makeResident k).2.sched.spoiled.filter (· != (k, o)) } } : State).modRadio
            (s.clientRadio k) fun r => { r with windows := r.windows ++ [(b.makeResident k).2.planWindow k o] }))
        ∧ (s.sched.resident.contains k = false → exec (.stitchPrepare k o) s =
          .next ((b.bump (Reg.schedCnt (s.clientRadio k) 5)).modRadio (s.clientRadio k) fun r => { r with skipped := r.skipped + 1 }))))
    ∧ (s.sched.pinned.contains k = true → ((s.radio (s.clientRadio k)).windows.any fun w => w.client == k) = false →
      exec (.contextWriteBack k) s = .next { s with sched := { s.sched with pinned := s.sched.pinned.filter (· != k) } })
    ∧ ((s.radio n).skipped ≠ 0 → exec (.ctxLate n) s =
      .next (((s.reachElapsed (1000000000 + 1000000000 * s.elapsedSecond)).modRadio n fun r => { r with skipped := 0 }).raise 0x1402 1 (le 1 n ++ le 2 (s.radio n).skipped)))
    ∧ (s.Ready clientWriteSpec c p →
      let r := s.received c
      let holder := if bit (num (p.drop 4) 2 1) 0 then r.clientHolder (num p 0 2) (p.drop 4) else none
      (holder = none → exec (.clientWrite c p) s =
        .next ((r.writeClient (num p 0 2) (p.drop 4)).reply (originOf c 0x1401) (okUnless r.dramDegraded) []))
      ∧ ∀ h, holder = some h → exec (.clientWrite c p) s = .next (r.refuse (originOf c 0x1401) Status.resourceBusy h))
    ∧ (∀ b : Bytes, b.length = 20 → bit (num b 2 1) 0 = true → let t := s.writeClient k b
      (s.clientValid k = false ∨ s.clientAddress k ≠ num b 0 2 → t.clientQueue k = []
        ∧ t.context k = b.take 2 ++ le 1 (withBits (withBits (num b 2 1) 2 1 1) 4 3 0) ++ slice b 3 17 ++ List.replicate 44 0)
      ∧ (s.clientValid k = true → s.clientAddress k = num b 0 2 → s.sched.pinned.contains k = false → (s.context k).length = 64 → s.clientState k ≠ 3 →
        t.context k = b.take 2 ++ le 1 (withBits (withBits (num b 2 1) 2 1 (s.clientState k)) 4 3 (s.clientLevel k)) ++ slice b 3 17 ++ (s.context k).drop 20))
    ∧ (s.Ready clientReadSpec c p →
      exec (.clientRead c p) s = .next ((s.received c).reply (originOf c 0x1402) Status.ok ((s.received c).shownContext (num p 0 2))))
    ∧ (s.Ready clientSendSpec c p →
      let r := s.received c
      let q := r.newFrame
      (r.clientFull (num p 0 2) = true → exec (.clientSend c p) s = .next (r.reply (originOf c 0x1403) Status.ok ([3] ++ List.replicate 13 0)))
      ∧ (r.clientFull (num p 0 2) = false → exec (.clientSend c p) s = .next ((q.2.queueClient (num p 0 2) {
          id := q.1, bytes := p.drop 4, macType := num p 3 1, ackReq := bit (num p 2 1) 0, secured := bit (num p 2 1) 1, attempts := 0, step := none
          budget := q.2.clientBudget (num p 0 2) (1000000 * (if c.timeout = 0 then 65535 else c.timeout)) }).start clientSendSpec c (.clientFrame (num p 0 2) q.1))))

/-- A received Ethernet frame meets the checks of Table 8-1 in order, and a good one goes on. On a disabled port, or one
whose link is down, a frame changes nothing. Otherwise its length, at most 9,601, is added to rx_octets_all, and a
frame with a code error, too long, oversize, short with a wrong or a right FCS, or with a wrong FCS adds to that one
counter alone and is dropped. A good PAUSE is obeyed for its quanta of 512 bit times and a good data frame is
counted by size and address, takes its cells and waits for its lookup; a stamp that fails its check is scored
against the port's stamper. -/
def Obligations.EthernetReceiveChecks : Prop :=
  ∀ (s : State) (p : Nat) (frame : Bytes),
    ((s.on .pkt && s.ethOn p && s.linkOn p) = false → ∀ bad fails, exec (.ethFrameRx p frame bad fails) s = .next s)
    ∧ ((s.on .pkt && s.ethOn p && s.linkOn p) = true →
      let n := frame.length
      let most := s.fld (Reg.emacMaxlen p) 13 0
      let dropped : Nat → Host.Outcome State Fault Refusal := fun k => .next ((s.emacCount p 1 (min n 9601)).emacCount p k)
      exec (.ethFrameRx p frame true false) s = dropped 22
      ∧ (9600 < n → exec (.ethFrameRx p frame false false) s = dropped 21)
      ∧ (n ≤ 9600 → most < n → exec (.ethFrameRx p frame false false) s = dropped 20)
      ∧ (n ≤ 9600 → n ≤ most → n < 64 → exec (.ethFrameRx p frame false false) s = dropped (if fcsOk frame then 18 else 19))
      ∧ (n ≤ 9600 → n ≤ most → 64 ≤ n → fcsOk frame = false → exec (.ethFrameRx p frame false false) s = dropped 17)
      ∧ (s.rxFails p frame false = none →
        let f := frameOf frame
        let g := (s.emacCount p 1 (min n 9601)).countGood p n f (f.type == 0x8808)
        (f.type = 0x8808 → exec (.ethFrameRx p frame false false) s = .next ((g.obeyPause p (numBe f.body 4 2)).startPause p))
        ∧ (f.type ≠ 0x8808 → f.type ≠ 0x88B5 → f.isPtp = false ∨ s.unitState 8 p ≠ .retired → ∀ id t, g.takeCells (cellsOf n) (some p) false = (id, t) →
          exec (.ethFrameRx p frame false false) s = .next (t.pushInbound {
            port := p, bytes := frame.take (n - 4), report := [], buffer := id, length := n, stamp := (t.stampNow p false).1 }).pauseAll
          ∧ (f.isPtp = false → exec (.ethFrameRx p frame false true) s = .next ((t.pushInbound {
            port := p, bytes := frame.take (n - 4), report := [], buffer := id, length := n, stamp := (t.stampNow p false).1 }).pauseAll.unitError 8 p)))))
    ∧ ∀ q, p < s.eth.length → (s.obeyPause p q).port p = { s.port p with pausedUntil := s.elapsed + s.bitTimes p q }

/-- PAUSE, link state and rate changes of a port, and the read of its counters. A received pause ends at its time; an
own PAUSE is repeated while the share stays above half. A link comes up 1 ms after synchronisation and goes down
after link_hold ms of loss. A restart idles for 2 ms and then takes the setting's speed; a rate change idles for 2
ms, switches the rate, and returns when the link is not up within 500 ms. A quiet window counts toward lowering and
a busy one begins raising. A frame that leaves the line is counted as sent. EMAC_STATS_READ returns the status and
the 44 counters. -/
def Obligations.EthernetLinks : Prop :=
  ∀ (s : State) (p : Nat) (c : Cmd) (b : Bytes),
    let e := s.port p
    let rate := s.reg (Reg.emacRate p)
    (s.flag (Reg.emacStat p) 5 = true →
      exec (.pauseExpiry p) s = .next (((s.reachElapsed e.pausedUntil).setFlag (Reg.emacStat p) 5 false).startPause p))
    ∧ (e.pausing = true → s.fld (Reg.tmIng p) 14 0 < 2 * s.fld (Reg.tmIngStat p) 14 0 →
      exec (.pauseRepeat p) s = .next (((s.reachElapsed (e.pauseSent + s.bitTimes p 0x8000)).modPort p fun e => { e with pauseOwed := some 0xFFFF }).startPause p))
    ∧ (s.awake = true → s.on .pkt = true → s.ethOn p = true →
      (∀ sync, s.flag (Reg.emacStat p) 3 ≠ sync → exec (.pcsSyncChange p sync) s =
        .next ((s.setFlag (Reg.emacStat p) 3 sync).modPort p fun e => { e with
          syncSince := if sync then some s.elapsed else none, lossSince := if sync then none else some s.elapsed }))
      ∧ (∀ t, s.linkOn p = false → e.idle = 0 → e.syncSince = some t → e.change = none → s.flag (Reg.emacCtl p) 2 = false →
        let u := (((s.reachElapsed (1000000 + t)).setFlag (Reg.emacStat p) 0 true).setFlag (Reg.emacStat p) 2 false).setFlag (Reg.emacStat p) 4 false
        exec (.linkUp p none) s = .next ((u.raise 0x2000 0 (le 1 p ++ le 1 (u.fld (Reg.emacStat p) 1 1) ++ [0])).startPause p))
      ∧ (s.linkOn p = true → s.flag (Reg.emacStat p) 7 = false → s.flag (Reg.emacCtl p) 5 = true → s.flag (Reg.emacCtl p) 1 = true → p < s.eth.length → ∀ percent,
        let u := s.setFld (Reg.emacRateStat p) 23 16 (min percent 255)
        (s.flag (Reg.emacStat p) 1 = true → percent < field rate 7 0 → e.quietWindows + 1 < field rate 27 16 →
          exec (.rateWindowEnd p percent) s = .next (u.modPort p fun e => { e with quietWindows := e.quietWindows + 1 }))
        ∧ (s.flag (Reg.emacStat p) 1 = true → percent < field rate 7 0 → field rate 27 16 ≤ e.quietWindows + 1 →
          exec (.rateWindowEnd p percent) s = .next ((u.modPort p fun e => { e with quietWindows := e.quietWindows + 1 }).changeRate p 0 percent))
        ∧ (s.flag (Reg.emacStat p) 1 = true → field rate 7 0 ≤ percent →
          exec (.rateWindowEnd p percent) s = .next (u.modPort p fun e => { e with quietWindows := 0 }))
        ∧ (s.flag (Reg.emacStat p) 1 = false → exec (.rateWindowEnd p percent) s = .next (if field rate 15 8 < percent then u.changeRate p 1 percent else u))))
    ∧ (∀ t fault, s.linkOn p = true → s.flag (Reg.emacStat p) 7 = false → e.lossSince = some t →
      exec (.linkDown p 0 fault) s = .next (((s.reachElapsed (t + 1000000 * s.fld (Reg.emacCtl p) 25 16)).linkLost p).raiseLinkDown p 0))
    ∧ (e.idle = 1 → exec (.restartIdleEnd p) s = .next (((s.reachElapsed (2000000 + e.idleSince)).setFlag (Reg.emacStat p) 1
        (s.flag (Reg.emacCtl p) 1)).modPort p fun e => { e with idle := 0 }))
    ∧ (e.idle = 2 → let fast := !s.flag (Reg.emacStat p) 1
      exec (.rateIdleEnd p) s = .next ((((s.reachElapsed (2000000 + e.idleSince)).setFlag (Reg.emacStat p) 1 fast).setFlag (Reg.emacStat p) 6 (!fast)).modPort p fun e => { e with idle := 0 }))
    ∧ (∀ cause, e.change = some cause → s.linkOn p = false → e.idle = 0 →
      let u := s.reachElapsed (500000000 + e.idleSince)
      (cause ≠ 2 → exec (.rateRetrainTimeout p) s = .next (u.changeRate p 2 e.deciding))
      ∧ (cause = 2 → exec (.rateRetrainTimeout p) s = .next ((((u.setFlag (Reg.emacStat p) 7 false).setFlag (Reg.emacCtl p) 5 false).modPort p fun e => { e with
          change := none }).raiseLinkDown p 0)))
    ∧ (∀ f, e.line = some f → e.pauseOnLine = false → e.idle ≠ 3 →
      exec (.ethTxEnd p) s = .next ((((s.countSent p f false).dropCopy f.buffer).modPort p fun e => { e with line := none, pauseOnLine := false }).pauseAll))
    ∧ (s.Ready emacStatsReadSpec c b → ∃ r : Bytes, exec (.emacStatsRead c b) s = .next ((s.received c).reply (originOf c 0x2001) Status.ok r)
      ∧ r.length = 356 ∧ num r 0 4 = ((s.received c).reg (Reg.emacStat (num b 0 1))).toNat
      ∧ ∀ k, k < 44 → num r (4 + 8 * k) 8 = (s.received c).reg64 (Reg.emacCntLo (num b 0 1) k))

/-- The commands that write and read the forwarding tables. FWD_MAC_WRITE replaces the entry of its key, else takes a
free way, else the dynamic way least recently seen, and is refused where all four ways are static; what it wrote is
found by its key. FWD_MAC_FLUSH removes the dynamic entries of a port and a VLAN and no static one. VLAN, prefix,
next-hop and access-control writes set one entry and leave the others; a second prefix of the same family, length
and address is refused. Reads return what was written; direct FWD_FRAME_SEND is for session 0. A next hop never
written reads as discard, the choice of the log. -/
def Obligations.ForwardingTables : Prop :=
  ∀ (s : State) (c : Cmd) (p : Bytes),
    let r := s.received c
    let mac := p.take 6
    let vlan := num p 6 2
    let b := macBucket mac vlan
    let put : Nat → State := fun w => r.setMac (4 * b + w) (patch p 12 (le 4 r.seconds))
    (s.Ready fwdMacWriteSpec c p → bit (num p 8 1) 0 = true →
      (∀ w, r.macWay mac vlan = some w → exec (.fwdMacWrite c p) s = .next ((put w).reply (originOf c 0x2101) Status.ok (le 2 b ++ le 1 w))
        ∧ (put w).macFind mac vlan = some (4 * b + w, patch p 12 (le 4 r.seconds)))
      ∧ (r.macWay mac vlan = none → exec (.fwdMacWrite c p) s = .next (r.refuse (originOf c 0x2101) Status.resourceBusy (le 2 b))))
    ∧ (∀ k e, r.macFind mac vlan = some (k, e) → r.macWay mac vlan = some (k % 4))
    ∧ (r.macFind mac vlan = none →
      (∀ w, r.macFree b = some w → r.macWay mac vlan = some w)
      ∧ (r.macFree b = none → ∀ w, r.macWay mac vlan = some w → ∃ e, Table.find r.fwd.mac (4 * b + w) = some e ∧ bit (num e 8 1) 1 = false
        ∧ ∀ w' e', w' < 4 → Table.find r.fwd.mac (4 * b + w') = some e' → bit (num e' 8 1) 1 = false → num e 12 4 ≤ num e' 12 4))
    ∧ (s.Ready fwdMacReadSpec c p → exec (.fwdMacRead c p) s =
      .next (r.reply (originOf c 0x2102) Status.ok (((r.macFind mac vlan).map (·.2)).getD (List.replicate 16 0))))
    ∧ (s.Ready fwdMacFlushSpec c p →
      let hit : Bytes → Bool := fun e => !bit (num e 8 1) 1 && ((num p 0 2 == 0xFFFF || num e 10 2 == num p 0 2) && (num p 2 2 == 0 || num e 6 2 % 4096 == num p 2 2))
      exec (.fwdMacFlush c p) s = .next ({ r with fwd := { r.fwd with mac := r.fwd.mac.filter fun (e : Nat × Bytes) => !hit e.2 } }.reply (originOf c 0x2103) Status.ok
        (le 2 (r.fwd.mac.filter fun (e : Nat × Bytes) => hit e.2).length)))
    ∧ (s.Ready fwdVlanWriteSpec c p → ∃ t : State, exec (.fwdVlanWrite c p) s = .next (t.reply (originOf c 0x2104) Status.ok [])
      ∧ t = { r with fwd := { r.fwd with vlans := t.fwd.vlans } } ∧ ∀ v, t.vlan v = if v = num p 0 2 then p else r.vlan v)
    ∧ (s.Ready fwdVlanReadSpec c p → exec (.fwdVlanRead c p) s = .next (r.reply (originOf c 0x2105) Status.ok (r.vlan (num p 0 2))))
    ∧ (s.Ready fwdRouteWriteSpec c p →
      (∀ k, r.routeTwin (num p 0 2) (p.drop 4) = some k → exec (.fwdRouteWrite c p) s = .next (r.refuse (originOf c 0x2106) Status.resourceBusy (le 2 k)))
      ∧ (r.routeTwin (num p 0 2) (p.drop 4) = none → ∃ t : State, exec (.fwdRouteWrite c p) s = .next (t.reply (originOf c 0x2106) Status.ok [])
        ∧ t = { r with fwd := { r.fwd with routes := t.fwd.routes } }
        ∧ ∀ i, Table.find t.fwd.routes i = if i = num p 0 2 then some (p.drop 4) else Table.find r.fwd.routes i))
    ∧ (s.Ready fwdNhWriteSpec c p → ∃ t : State, exec (.fwdNhWrite c p) s = .next (t.reply (originOf c 0x2107) Status.ok [])
      ∧ t = { r with fwd := { r.fwd with nextHops := t.fwd.nextHops } }
      ∧ ∀ i, Table.find t.fwd.nextHops i = if i = num p 0 2 then some (p.drop 4) else Table.find r.fwd.nextHops i)
    ∧ (s.Ready fwdAclWriteSpec c p → ∃ t : State, exec (.fwdAclWrite c p) s = .next (t.reply (originOf c 0x2108) Status.ok [])
      ∧ t = ({ r with fwd := { r.fwd with acl := t.fwd.acl } }).setReg64 (Reg.fwdAclHitLo (num p 0 2)) 0 ∧ t.reg64 (Reg.fwdAclHitLo (num p 0 2)) = 0
      ∧ ∀ i, Table.find t.fwd.acl i = if i = num p 0 2 then some (p.drop 4) else Table.find r.fwd.acl i)
    ∧ (s.Ready fwdTableReadSpec c p → exec (.fwdTableRead c p) s = .next (r.reply (originOf c 0x2109) Status.ok
      (if num p 0 1 = 0 then (Table.find r.fwd.routes (num p 2 2)).getD (List.replicate 20 0)
        else if num p 0 1 = 1 then (Table.find r.fwd.nextHops (num p 2 2)).getD (2 :: List.replicate 15 0)
        else (Table.find r.fwd.acl (num p 2 2)).getD (List.replicate 96 0))))
    ∧ (s.Ready fwdFrameSendSpec c p →
      (num p 0 1 = 0 → ∀ t, r.enter 0x80 (num p 4 2) (p.drop 8) [] = (true, t) → exec (.fwdFrameSend c p) s = .next (t.reply (originOf c 0x210A) Status.ok []))
      ∧ (num p 0 1 = 1 → c.session ≠ 0 → exec (.fwdFrameSend c p) s = .next (r.refuse (originOf c 0x210A) Status.notPermitted []))
      ∧ (num p 0 1 = 1 → c.session = 0 → ∀ t, r.sendDirect (p.drop 8) (num p 2 2) none = some t →
        exec (.fwdFrameSend c p) s = .next (t.reply (originOf c 0x210A) Status.ok [])))

/-- The lookup of a frame: its VLAN, its bridging, its learning, and the ageing of entries. The oldest frame that waits
is looked up. A frame of a VLAN its port is no member of counts vlan_in_drop and gives its cells back. A unicast
that hits an entry goes to that entry's port alone, is dropped on the port it came from, and counts dest_invalid
where the port cannot be reached. A flood never returns a frame to its ingress port, and no missed unicast reaches a
radio. Learning evicts no entry and changes no static one. The scan removes exactly the dynamic entries of the age
or more. -/
def Obligations.FramesForwarded : Prop :=
  ∀ (s : State),
    (∀ i l, s.fwd.inbox = i :: l → s.awake = true →
      let b := { s with fwd := { s.fwd with inbox := l } }
      exec (.fwdLookup .clean) s = .next (b.lookup i).pauseAll
      ∧ (i.chainPort = none → i.unknown = false → (b.fwdCount 0).ingressVlan i (frameOf i.bytes) = none →
        exec (.fwdLookup .clean) s = .next (((b.fwdCount 0).fwdCount 6).freeBuffer i.buffer).pauseAll))
    ∧ (∀ row, s.on .pkt = true → exec (.fwdLookup (.uncorrectable row)) s = .next (s.sramError row true).loseNext)
    ∧ (∀ (f : Frame) (vlan ingress k : Nat) (e : Bytes) (chain : Bool), s.macFind f.dst vlan = some (k, e) →
      (bit (num e 8 1) 2 = true → s.bridge f vlan ingress chain = (none, s.fwdCount 24))
      ∧ (bit (num e 8 1) 2 = false → isGroup f.dst = false →
        (num e 10 2 = ingress → s.bridge f vlan ingress chain = (none, s.fwdCount 24))
        ∧ (num e 10 2 ≠ ingress → s.portReachable (num e 10 2) = false → s.bridge f vlan ingress chain = (none, s.fwdCount 21))
        ∧ (num e 10 2 ≠ ingress → s.portReachable (num e 10 2) = true → s.bridge f vlan ingress chain = (some [num e 10 2], s.fwdCount 1))))
    ∧ (∀ (f : Frame) (vlan ingress : Nat) (chain : Bool),
      (ingress < 4 ∨ ingress = 0x80 → ingress ∉ (s.flood f vlan ingress chain).1)
      ∧ (chain = true → chainFlood ∉ (s.flood f vlan ingress chain).1)
      ∧ (∀ q ∈ (s.flood f vlan ingress chain).1, isRadio q = true → isGroup f.dst = true ∧ bit (num (s.vlan vlan) 2 1) 3 = true)
      ∧ (∀ q ∈ (s.flood f vlan ingress chain).1, q < 4 → s.vlanMember vlan q = true))
    ∧ (∀ (src : Bytes) (vlan port k : Nat) (e : Bytes), Table.find s.fwd.mac k = some e →
      ∃ e', Table.find (s.learn src vlan port).2.fwd.mac k = some e'
        ∧ (e.length = 16 → e'.take 10 = e.take 10 ∧ (bit (num e 8 1) 1 = true → e'.take 12 = e.take 12)))
    ∧ (s.awake = true → s.fld Reg.fwdAge 19 0 ≠ 0 →
      let old : Bytes → Bool := fun e => !bit (num e 8 1) 1 && decide (s.fld Reg.fwdAge 19 0 ≤ (s.seconds + 2 ^ 32 - num e 12 4) % 2 ^ 32)
      exec .macAgeScan s = .next ({ s with fwd := { s.fwd with mac := s.fwd.mac.filter fun (e : Nat × Bytes) => !old e.2 } }.fwdCount 12 (s.fwd.mac.filter fun (e : Nat × Bytes) => old e.2).length))

/-- What a shaper of the traffic manager charges and gives, and when a node may send. A shaped node gains its rate in
each microsecond up to its burst, is eligible while its tokens are not negative, and is charged 8,000 millibits a
byte down to its floor; an unshaped node is always eligible and never charged. A frame served from a class queue
charges its subscriber, its service node and its port node by the same accounted length and no other node; a
privileged frame charges its port node alone, whatever its tokens. -/
def Obligations.ShapersHold : Prop :=
  ∀ (s : State) (k a p : Nat),
    (s.rate k ≠ 0 →
      let cap : Int := ((s.burst k * 8000 : Nat) : Int)
      let t := s.charge k a
      s.eligible k = decide (0 ≤ s.tokensNow k)
      ∧ t.tokensNow k = max (-(((s.burst k + 9663) * 8000 : Nat) : Int)) (s.tokensNow k - ((8000 * a : Nat) : Int))
      ∧ (∀ j, j ≠ k → t.tokensNow j = s.tokensNow j)
      ∧ ∀ n, (t.passNs n).tokensNow k = min cap (t.tokensNow k + ((s.rate k * ((s.elapsed + n) / 1000 - s.elapsed / 1000) : Nat) : Int)))
    ∧ (s.rate k = 0 → s.eligible k = true ∧ s.charge k a = s)
    ∧ (∀ c l, s.queue p = c :: l → ∃ t : State, s.serveNode p = some (c, t) ∧ t.tm.tokens = (s.charge p c.length).tm.tokens ∧ t.queue p = l)
    ∧ (s.queue p = [] → s.eligible p = false → s.serveNode p = none)
    ∧ (p < 16 → s.queue p = [] → ∀ c t, s.serveNode p = some (c, t) → ∃ sub v : Nat, v = s.subParent sub ∧ p = s.svcParent v
      ∧ s.eligible (subKey sub) = true ∧ s.eligible (svcKey v) = true ∧ s.eligible p = true
      ∧ t.tm.tokens = (((s.charge (subKey sub) (s.accounted p c)).charge (svcKey v) (s.accounted p c)).charge p (s.accounted p c)).tm.tokens)

/-- Port nodes are served, copies are admitted, and the traffic manager's tables are read and mapped. A port node that
is not ready, or has nothing to serve, hands over nothing; one that serves a copy hands it to what it feeds. A copy
that would take its class queue above the limit of its colour is refused and counted, and its queues stay.
TM_MAP_WRITE maps a logical port to a subscriber whose path ends at its node; the reads return a port's subscriber
and node, a node's registers and tokens, a meter's settings and counts, and a port node's twelve counters. -/
def Obligations.TrafficServed : Prop :=
  ∀ (s : State) (n : Nat) (c : Cmd) (p : Bytes),
    let r := s.received c
    (n < 16 → s.on .pkt = true → s.awake = true →
      let b := if n < 4 then s.startPause n else s
      (b.nodeReady n = false → exec (.tmPortServe n .clean) s = .next b)
      ∧ (b.nodeReady n = true →
        ((b.ageQueues n).serveNode n = none → exec (.tmPortServe n .clean) s = .next (b.ageQueues n).pauseAll)
        ∧ ∀ f t, (b.ageQueues n).serveNode n = some (f, t) → exec (.tmPortServe n .clean) s = .next (t.handOver n f false).pauseAll)
        ∧ ∀ row, exec (.tmPortServe n (.uncorrectable row)) s = .next (((b.ageQueues n).sramError row true).loseHead n).pauseAll)
    ∧ (∀ (port cls colour : Nat) (f : Copy), s.subPort (s.mapOf port) = s.portNode port → cls < 8 →
      let q := 16 + 8 * s.mapOf port + cls
      let d := s.fld (Reg.tmSubCfg (s.mapOf port)) 23 20
      let limit := if colour = 0 then s.fld (Reg.tmDropGy d) 14 0 else if colour = 1 then s.fld (Reg.tmDropGy d) 30 16 else s.fld (Reg.tmDropR d) 14 0
      (limit < s.queueCells q + s.copyCells f →
        s.takeCopy port cls colour f = (s.tmCount (s.portNode port) (3 + min colour 2)).countDrop (s.mapOf port))
      ∧ (s.queueCells q + s.copyCells f ≤ limit → s.unusedReserve ≤ s.freeCells →
        (s.takeCopy port cls colour f).queue q = s.queue q ++ [{ f with colour := colour, born := s.elapsed, port := port }]))
    ∧ (s.Ready tmMapWriteSpec c p → ∃ t : State, exec (.tmMapWrite c p) s = .next (t.reply (originOf c 0x2201) Status.ok [])
      ∧ t = { r with tm := { r.tm with maps := t.tm.maps } } ∧ t.subPort (num p 2 2) = t.portNode (num p 0 2)
      ∧ ∀ q, t.mapOf q = if q = num p 0 2 then num p 2 2 else r.mapOf q)
    ∧ (s.Ready tmMapReadSpec c p → exec (.tmMapRead c p) s =
      .next (r.reply (originOf c 0x2202) Status.ok (le 2 (r.mapOf (num p 0 2)) ++ le 1 (r.portNode (num p 0 2)))))
    ∧ (s.Ready tmNodeReadSpec c p → ∃ b : Bytes, exec (.tmNodeRead c p) s = .next (r.reply (originOf c 0x2203) Status.ok b)
      ∧ b.length = 52
      ∧ (num p 0 1 = 0 → num b 0 4 = (r.reg (Reg.tmSubCfg (num p 2 2))).toNat ∧ num b 8 8 = unsigned 64 (r.tokensNow (subKey (num p 2 2))))
      ∧ (num p 0 1 = 1 → num b 0 4 = (r.reg (Reg.tmSvcCfg (num p 2 2))).toNat ∧ num b 8 8 = unsigned 64 (r.tokensNow (svcKey (num p 2 2))))
      ∧ (num p 0 1 = 2 → num b 0 4 = (r.reg (Reg.tmPortCfg (num p 2 2))).toNat ∧ num b 8 8 = unsigned 64 (r.tokensNow (num p 2 2))))
    ∧ (s.Ready tmMeterReadSpec c p → ∃ b : Bytes, exec (.tmMeterRead c p) s = .next (r.reply (originOf c 0x2204) Status.ok b)
      ∧ b.length = 48 ∧ num b 0 4 = (r.reg (Reg.tmMtrRate (num p 0 2))).toNat ∧ num b 4 4 = (r.reg (Reg.tmMtrBurst (num p 0 2))).toNat
      ∧ num b 24 8 = (r.meterNow (num p 0 2)).green % 2 ^ 64)
    ∧ (s.Ready tmStatsReadSpec c p → ∃ b : Bytes, exec (.tmStatsRead c p) s = .next (r.reply (originOf c 0x2205) Status.ok b)
      ∧ b.length = 96 ∧ ∀ k, k < 12 → num b (8 * k) 8 = (Table.find r.tm.stats (num p 0 1 * 16 + k)).getD 0 % 2 ^ 64)

/-- What a measurement of network time does in each time state, and TIME_FORCE_SET. A measurement of a source that is
not selected changes nothing. In FREE any correction that keeps time in range is stepped; in LOCKING and LOCKED one
within TIME_JUMP_LIM is slewed, and the eighth in LOCKING within 100 ns reaches LOCKED; one within the limit brings
HOLDOVER and REFUSED to LOCKING; one beyond it leads to REFUSED. TIME_ADJUST is the measurement of source 3 and
answers TIME_JUMP_REFUSED or PARAM_RANGE where it is refused. TIME_FORCE_SET steps to the given time, or by the
refused correction in REFUSED only; the time base then reads exactly the step later. -/
def Obligations.TimeFollowsItsSource : Prop :=
  ∀ (s : State) (v : Int),
    let o := s.setFld Reg.timeOffset 31 0 (unsigned 32 (saturate 32 (-v)))
    let within := v.natAbs ≤ s.fld Reg.timeJumpLim 29 0
    (s.timeFits v = false → s.measure v = (.range, false, o))
    ∧ (s.timeFits v = true →
      (s.timeState = 0 → s.measure v = (.accepted, true, (o.stepTime v 0).toTimeState 1))
      ∧ (within → s.timeState = 1 ∨ s.timeState = 2 → ∃ t : State, s.measure v = (.accepted, false, t) ∧ t.time.slew = slewOf v ∧ t.time.now = s.time.now
        ∧ t.timeState = if s.timeState = 1 ∧ v.natAbs ≤ 100 ∧ 7 ≤ s.time.settled then 2 else s.timeState)
      ∧ (within → s.timeState = 3 ∨ s.timeState = 4 → ∃ t : State, s.measure v = (.accepted, false, t) ∧ t.timeState = 1 ∧ t.time.slew = slewOf v)
      ∧ (¬ within → s.timeState ≠ 0 → s.measure v = (.jump, false, o.refuseTime v) ∧ (o.refuseTime v).timeState = 4 ∧ (o.refuseTime v).time.now = s.time.now))
    ∧ (∀ d cause, s.timeFits d = true → ((s.stepTime d cause).netNs : Int) = (s.netNs : Int) + d ∧ (s.stepTime d cause).elapsed = s.elapsed)
    ∧ (∀ m source, s.timeSource ≠ source → exec (.timeMeasurement source v m) s = .next s)
    ∧ (∀ m, s.timeSource = 1 → s.on .pkt = true → s.awake = true → s.ptpOn m.port = true → s.flag (Reg.timePtpCfg m.port) 2 = true → s.flag (Reg.emacStat m.port) 0 = true →
      exec (.timeMeasurement 1 v m) s = .next ((s.heedMaster 1 m).measured v).2)
    ∧ ∀ (c : Cmd) (p : Bytes), let r := s.received c
      (s.Ready timeAdjustSpec c p →
        (r.timeSource ≠ 3 → exec (.timeAdjust c p) s = .next (r.refuse (originOf c 0x3003) Status.notPermitted []))
        ∧ (r.timeSource = 3 → ∀ m t, r.measured (signed 64 (num p 0 8)) = (m, t) → exec (.timeAdjust c p) s =
          .next (if m = .accepted then t.reply (originOf c 0x3003) Status.ok []
            else if m = .jump then t.reply (originOf c 0x3003) Status.timeJumpRefused []
            else (t.bump Reg.sysCmdErr).reply (originOf c 0x3003) Status.paramRange [])))
      ∧ (s.Ready timeForceSetSpec c p →
        let d : Int := if num p 0 1 = 1 then r.refused else ((1000000000 * num p 4 6 + num p 10 4 : Nat) : Int) - (r.netNs : Int)
        (num p 0 1 = 1 → r.timeState ≠ 4 → exec (.timeForceSet c p) s = .next (r.refuse (originOf c 0x3004) Status.notPermitted []))
        ∧ (num p 0 1 = 0 ∨ r.timeState = 4 → r.timeFits d = false → exec (.timeForceSet c p) s = .next (r.refuse (originOf c 0x3004) Status.paramRange []))
        ∧ (num p 0 1 = 0 ∨ r.timeState = 4 → r.timeFits d = true →
          exec (.timeForceSet c p) s = .next ((r.forceStep d).reply (originOf c 0x3004) Status.ok (le 8 (unsigned 64 d)))))

/-- Announcements, messages, triggers, stamps and the reads of the time function. An announce receipt timeout on the
slave port loses the source. A due message enters its port's privileged queue with the next sequence, and each radio
queues a time announcement. A converter start falls on the grid, and no sooner than half a period after the last. A
pulse begins at its instant and ends a width later; the last releases its output. Stamp overflow is reported once a
second. TIME_STATUS and TIME_READ report; TIME_STAMP_READ takes entries oldest first; TIME_FRAME_SEND is refused
where the time function takes the stamps; TIME_CLIENT_STEP queues one step order. -/
def Obligations.TimeServed : Prop :=
  ∀ (s : State) (n k : Nat) (c : Cmd) (p : Bytes),
    let r := s.received c
    (s.ptpOn n = true → let b := { s with time := { s.time with masters := s.time.masters.filter (· != n) } }
      exec (.announceTimeout n) s = .next (if s.timeSource = 1 ∧ s.slavePort = n then (b.setSlave 0xF).loseSource else b))
    ∧ (s.ptpOn n = true → s.flag (Reg.emacStat n) 0 = true → s.flag (Reg.timePtpCfg n) 1 = true → s.slavePort ≠ n → k < 2 →
      let sequence := (Table.find s.time.sequences (n * 4 + k)).getD 0
      let b := { s with time := { s.time with sequences := Table.put s.time.sequences (n * 4 + k) ((sequence + 1) % 65536) } }
      exec (.ptpMessageDue n k) s = .next (b.pushPrivileged n {
        buffer := 0, bytes := b.ptpFrame n k sequence, length := (b.ptpFrame n k sequence).length + 4, port := n, stamp := if k = 1 then none else some sequence }))
    ∧ (s.fld Reg.timeRadioCfg 31 16 ≠ 0 → s.awake = true →
      exec (.timeAnnounceDue n) s = .next (s.sendBroadcast (s.fld (Reg.fwdRadioCfg n) 31 16) 3 false (List.replicate 20 0) none none).2)
    ∧ (s.on .meas = true → s.awake = true → s.flag Reg.measCtl 0 = true → ∀ samples, ∃ (t : State) (at_ : Nat), exec (.converterStart samples []) s = .next t
      ∧ t.time.lastStart = some (at_ : Int) ∧ at_ % 125000 = s.fld Reg.timeConvPhase 16 0 % 125000 ∧ t.meas.samples.length = s.meas.samples.length + 1
      ∧ ∀ last, s.time.lastStart = some last → 62500 + last ≤ (at_ : Int) ∧ ((s.fld Reg.timeConvPhase 16 0 : Int) ≤ last → (at_ : Int) < 125000 + (62500 + last)))
    ∧ (s.on .meas = true → s.awake = true → s.flag Reg.measCtl 0 = true → ∀ samples k, k < 18 → s.unitState 2 k = .serving → ∃ u : State, exec (.converterStart samples [k]) s = .next (u.classError 2 k)
      ∧ ∀ i, i < 18 → s.channelOf i = k → (u.meas.samples.getLast?.map fun (x : Sample) => x.codes.getD i none) = some none)
    ∧ (let g := s.pulse n
      g.running = true →
      (g.active = true → let e := ((s.reach (g.last.getD 0 + (g.width : Int)).toNat).drivePulse g false).modPulse n fun g => { g with active := false }
        exec (.pulseEdge n) s = .next (if g.count ≠ 0 ∧ g.count ≤ g.emitted then (e.stopPulse n).raise 0x3004 0 (le 1 n ++ [0] ++ le 1 g.output) else e))
      ∧ (g.active = false → g.last = none → let b := s.reach g.start
        exec (.pulseEdge n) s = .next (((b.drivePulse g true).modPulse n fun g => { g with
          active := true, emitted := g.emitted + 1, last := some ((max g.start b.netNs : Nat) : Int) }).bumpFld (Reg.plsStat n) 31 16)))
    ∧ ((s.port n).stampDrops ≠ 0 → (s.port n).stampSecond ≠ some s.elapsedSecond →
      exec (.timeStampOverflow n) s = .next ((s.modPort n fun e => { e with stampDrops := 0, stampSecond := some s.elapsedSecond }).raise 0x3003 1 (le 1 n ++ le 4 (s.port n).stampDrops)))
    ∧ (s.Ready timeStatusSpec c p → r.on .pkt = true → ∃ b : Bytes, exec (.timeStatus c p) s = .next (r.reply (originOf c 0x3001) Status.ok b)
      ∧ num b 0 1 = r.timeState ∧ num b 1 1 = r.timeSource ∧ num b 4 4 = (r.reg Reg.timeOffset).toNat ∧ num b 8 4 = (r.reg Reg.timeFreq).toNat)
    ∧ (s.Ready timeReadSpec c p → r.on .pkt = true → ∃ b : Bytes, exec (.timeRead c p) s = .next (r.reply (originOf c 0x3002) Status.ok b)
      ∧ b.length = 13 ∧ num b 0 6 = r.seconds % 2 ^ 48 ∧ num b 6 4 = r.nanos ∧ num b 10 2 = r.time.now % 65536 ∧ num b 12 1 = r.timeState)
    ∧ (s.Ready timeStampReadSpec c p → let e := num p 0 1
      let l := (r.port e).stamps.take (num p 1 1)
      let t := r.modPort e fun x => { x with stamps := x.stamps.drop l.length }
      exec (.timeStampRead c p) s = .next ((t.setFld (Reg.timeSqStat e) 4 0 (t.port e).stamps.length).reply (originOf c 0x3005) Status.ok
        (le 1 l.length ++ [0, 0, 0] ++ l.flatMap stampEntry)))
    ∧ (s.Ready timeFrameSendSpec c p →
      (r.ptpOn (num p 0 1) = true → exec (.timeFrameSend c p) s = .next (r.refuse (originOf c 0x3006) Status.resourceBusy ([1] ++ le 1 (num p 0 1))))
      ∧ (r.ptpOn (num p 0 1) = false → ∀ t, r.sendDirect (p.drop 4) (num p 0 1) (some (num p 2 2)) = some t →
        exec (.timeFrameSend c p) s = .next (t.reply (originOf c 0x3006) Status.ok [])))
    ∧ (s.Ready timeClientStepSpec c p → let q := num p 0 2
      (((r.clientQueue q).any fun f => f.step.isSome) = true → exec (.timeClientStep c p) s = .next (r.refuse (originOf c 0x3007) Status.resourceBusy []))
      ∧ (((r.clientQueue q).any fun f => f.step.isSome) = false →
        let t := r.orderStep q (signed 32 (num p 4 4))
        exec (.timeClientStep c p) s = .next ((t.setClientQueue q ((t.clientQueue q).map fun f => if f.id = r.sched.frames then { f with
          budget := r.clientBudget q (1000000 * (if c.timeout = 0 then 1000 else c.timeout)) } else f)).start timeClientStepSpec c (.clientFrame q r.sched.frames))))

/-- Every second the calendar holds the next second of the Gregorian calendar of 2000 to 2399. For every state whose
calendar holds a real date and time and is not halted or stopped, the completed prescaler leaves the date and time
one second later, counted in seconds since 2000-01-01, still a real date, with its weekday; the prescaler restarts
at 0 when its 32,768 cycles are due. After 2399-12-31 23:59:59 comes 2000-01-01 00:00:00, with RTC_EVT.wrapped set
and RTC_WRAPPED raised, and the weekday is continuous. A leap year is one divisible by 4 and, if by 100, then by
400; 2000-01-01 is a Saturday. A halted calendar stays. -/
def Obligations.CalendarCounts : Prop :=
  ∀ (s : State) (y m d h mi sec : Nat), s.date = (y, m, d) → s.timeOfDay = (h, mi, sec) → dateOk y m d = true → timeOk h mi sec = true →
    (s.rtcHalted = true → exec .rtcSecond s = .next s)
    ∧ (s.rtcHalted = false → s.rtc.stopped = false → ∃ (u : State) (y' m' d' h' mi' sec' : Nat),
      let last := (y, m, d) = (2399, 12, 31) ∧ (h, mi, sec) = (23, 59, 59)
      exec .rtcSecond s = .next (if last then u.raise 0x3101 0 [] else u)
      ∧ u.date = (y', m', d') ∧ u.timeOfDay = (h', mi', sec') ∧ dateOk y' m' d' = true ∧ timeOk h' mi' sec' = true
      ∧ (¬ last → 86400 * dayNumber y' m' d' + h' * 3600 + mi' * 60 + sec' = 86400 * dayNumber y m d + h * 3600 + mi * 60 + sec + 1)
      ∧ (last → (y', m', d') = (2000, 1, 1) ∧ (h', mi', sec') = (0, 0, 0) ∧ u.flag Reg.rtcEvt 2 = true)
      ∧ ((y', m', d') ≠ (y, m, d) → u.fld Reg.rtcDay 10 8 = weekday y' m' d' ∧ weekday y' m' d' = (weekday y m d + 1) % 7)
      ∧ u.reg Reg.rtcSsec = 0 ∧ s.rtc.since + 1000000000 * (32768 - (s.reg Reg.rtcSsec).toNat) / 32768 ≤ u.elapsed)
    ∧ (leapYear y = true ↔ y % 4 = 0 ∧ (y % 100 ≠ 0 ∨ y % 400 = 0)) ∧ weekday 2000 1 1 = 6

/-- Supplies, the oscillator, the periodic wake and the commands of the RTC. The first switch-over to VBAT while bkp is
0 stamps the calendar and sets bkp; a later one keeps the stamp. The return of VDDIO_A clears on_vbat. The periodic
wake fires at its period, sets its event, and raises RTC_WAKE or requests an exit. A calendar snapshot ends 2 ms
after it was taken. RTC_SET fails for a holder, a date that is not real and an instant too close, changing nothing;
in mode 0 it leaves the clock running at the value set; in mode 1 it leaves it halted until its instant. RTC_READ
returns one copy. -/
def Obligations.RtcServed : Prop :=
  ∀ (s : State),
    (∀ y m d h mi sec, s.date = (y, m, d) → s.timeOfDay = (h, mi, sec) → s.flag Reg.rtcStat 1 = false →
      let b := s.setFlag Reg.rtcStat 1 true
      (s.flag Reg.rtcEvt 0 = true → exec .vbatSwitchover s = .next b)
      ∧ (s.flag Reg.rtcEvt 0 = false → exec .vbatSwitchover s = .next
        (((b.setReg Reg.rtcBkpStampT (word (sec + mi * 2 ^ 8 + h * 2 ^ 16 + s.ssec / 128 * 2 ^ 24))).setReg Reg.rtcBkpStampD
          (word (d + m * 2 ^ 8 + y * 2 ^ 16 + 2 ^ 30 + bitOf s.rtcHalted * 2 ^ 31))).setFlag Reg.rtcEvt 0 true)))
    ∧ exec .vddioReturn s = .next (s.setFlag Reg.rtcStat 1 false)
    ∧ (s.flag Reg.rtcCtl 1 = true → s.rtc.stopped = false →
      let e := s.rtc.wakeSince + 3906250 * s.wakeN
      let b := s.reachElapsed e
      let w := ({ b with rtc := { b.rtc with wakeSince := e } }).setFlag Reg.rtcEvt 1 true
      exec .rtcPeriodicWake s = .next (if w.awake then (if w.flag Reg.rtcCtl 2 then w.raise 0x3102 0 (le 4 w.wakeN) else w) else w.wakeSource 1))
    ∧ (exec .rtcOscStop s = .next (s.crystalFails (s.fld (Reg.clkMonCnt 1) 15 0)) ∧ (s.flag Reg.clkSrcStat 1 = false → exec .rtcOscStop s = .next s)
      ∧ (s.flag Reg.clkSrcStat 1 = true → s.powerState = 4 → ∃ t : State, exec .rtcOscStop s = .next t
        ∧ t.flag Reg.rtcStat 0 = true ∧ t.rtc.stopped = true ∧ t.reg Reg.rtcSsec = word s.ssec))
    ∧ (∀ q t, Table.find s.rtc.snaps q = some t → exec (.calendarSnapshotExpiry q) s = .next ((s.reachElapsed (2000000 + t)).dropCalendar q)
      ∧ Table.find ((s.reachElapsed (2000000 + t)).dropCalendar q).rtc.snaps q = none)
    ∧ ∀ (c : Cmd) (p : Bytes), let r := s.received c
      (s.Ready rtcSetSpec c p → num p 0 1 = 0 →
        let ok := dateOk (num p 2 2) (num p 4 1) (num p 5 1) && timeOk (num p 6 1) (num p 7 1) (num p 8 1)
        (∀ h, r.rtcHolder = some h → exec (.rtcSet c p) s = .next (r.refuse (originOf c 0x3100) Status.resourceBusy h))
        ∧ (r.rtcHolder = none → ok = false → ∃ t : State, exec (.rtcSet c p) s = .next t ∧ t = r.refuse (originOf c 0x3100) Status.dateInvalid [] ∧ r.date = s.date ∧ r.timeOfDay = s.timeOfDay)
        ∧ (r.rtcHolder = none → ok = true → ∃ t : State, exec (.rtcSet c p) s = .next (t.reply (originOf c 0x3100) Status.ok [])
          ∧ t.date = (num p 2 2, num p 4 1, num p 5 1) ∧ t.timeOfDay = (num p 6 1, num p 7 1, num p 8 1)
          ∧ t.rtcHalted = false ∧ t.reg Reg.rtcSsec = 0 ∧ t.flag Reg.rtcStat 0 = false))
      ∧ (s.Ready rtcReadSpec c p → ∃ b : Bytes, exec (.rtcRead c p) s = .next (r.reply (originOf c 0x3101) Status.ok b) ∧ b.length = 12
        ∧ num b 0 2 = r.date.1 % 65536 ∧ num b 2 1 = r.date.2.1 % 256 ∧ num b 3 1 = r.date.2.2 ∧ num b 7 1 = r.timeOfDay.2.2 % 256)

/-- OUT_SET and OUT_OVERRIDE by holder, and rule writes while an output is overridden. For every state and output 0 to
15: OUT_SET drives an output that no one holds and claims nothing; on a held output it fails with RESOURCE_BUSY
naming the holder. OUT_OVERRIDE is permitted to session 0 only. With force 1 it forces an output held by the control
program and marks it overridden, drives a free output as OUT_SET does with no mark, and fails with RESOURCE_BUSY on
one held by a generator or a timer. With force 0 it releases an overridden output and else changes nothing. The
writes of a cycle reach the outputs the program holds, except overridden ones, which keep their value and are
counted in override_supp. -/
def Obligations.OutputsCommanded : Prop :=
  ∀ (s : State),
    (∀ k v, k < 16 → (s.drive k v).holderCode k = s.holderCode k ∧ (s.drive k v).fld (Reg.outVal k) 15 0 = v % 65536 ∧ (s.drive k v).flag (Reg.outVal k) 16 = true
      ∧ (s.drive k v).flag (Reg.outStat k) 2 = s.flag (Reg.outStat k) 2)
    ∧ (∀ writes trigger, s.ctl.writes = some (writes, trigger) → (writes.map (·.1)).Nodup → (∀ e ∈ writes, e.1 < 16) → ∃ t : State, exec (.cycleOutputApply true) s = .next t
      ∧ t.ctl.writes = none
      ∧ (∀ k v, (k, v) ∈ writes → s.holderCode k = 1 → if s.flag (Reg.outStat k) 2 then t.reg (Reg.outVal k) = s.reg (Reg.outVal k) else t.fld (Reg.outVal k) 16 0 = 65536 + v % 65536)
      ∧ (∀ k, k < 16 → k ∉ writes.map (·.1) ∨ s.holderCode k ≠ 1 → t.reg (Reg.outVal k) = s.reg (Reg.outVal k))
      ∧ (t.reg (Reg.ctlpCnt 6)).toNat = min ((s.reg (Reg.ctlpCnt 6)).toNat + (writes.filter fun (e : Nat × Nat) => decide (s.holderCode e.1 = 1) && s.flag (Reg.outStat e.1) 2).length) (2 ^ 32 - 1))
    ∧ ∀ (c : Cmd) (p : Bytes), let r := s.received c; let k := num p 0 1; let v := num p 2 2
      (s.Ready outSetSpec c p → r.on .meas = true →
        (r.holderCode k = 0 → exec (.outSet c p) s = .next ((r.drive k v).reply (originOf c 0x4016) Status.ok []))
        ∧ (r.holderCode k ≠ 0 → exec (.outSet c p) s = .next (r.refuse (originOf c 0x4016) Status.resourceBusy [BitVec.ofNat 8 (r.holderCode k - 1), BitVec.ofNat 8 (r.output k).index])))
      ∧ (c.session ≠ 0 → r.permits outOverrideSpec c = false)
      ∧ (s.Ready outOverrideSpec c p → r.on .meas = true →
        (num p 1 1 = 1 → r.holderCode k = 1 → exec (.outOverride c p) s = .next (((r.drive k v).setFlag (Reg.outStat k) 2 true).reply (originOf c 0x4017) Status.ok []))
        ∧ (num p 1 1 = 1 → r.holderCode k = 0 → exec (.outOverride c p) s = .next ((r.drive k v).reply (originOf c 0x4017) Status.ok []))
        ∧ (num p 1 1 = 1 → 2 ≤ r.holderCode k → exec (.outOverride c p) s = .next (r.refuse (originOf c 0x4017) Status.resourceBusy [BitVec.ofNat 8 (r.holderCode k - 1), BitVec.ofNat 8 (r.output k).index]))
        ∧ (num p 1 1 = 0 → r.flag (Reg.outStat k) 2 = true → exec (.outOverride c p) s = .next ((r.setFlag (Reg.outStat k) 2 false).reply (originOf c 0x4017) Status.ok []))
        ∧ (num p 1 1 = 0 → r.flag (Reg.outStat k) 2 = false → exec (.outOverride c p) s = .next (r.reply (originOf c 0x4017) Status.ok [])))

/-- Windows, relay read-back, held outputs, waveform capture and MEAS_READ. With no change of interval waiting, the
window of the oldest sample is published 200 µs after its end: each metered pair shows the window number, its nine
quantities over that window's samples with the constants in force, and the samples leave. A read-back that differs
for rb_ms sets mismatch and raises OUT_MISMATCH once; agreement for rb_ms clears it. Held outputs not passed back go
high-impedance with OUT_HOLD_EXPIRED. MEAS_READ returns a pair's 19 words, zeros for a pair that is not metered. A
second MEAS_WAVE_CAPTURE is refused; the capture ends with its event, and MEAS_WAVE_READ returns its samples. -/
def Obligations.MeteringServed : Prop :=
  ∀ (s : State) (k : Nat) (c : Cmd) (p : Bytes),
    let r := s.received c
    (∀ x rest, s.meas.samples = x :: rest → s.meas.nextInterval = none →
      let period := 10000000 * s.meas.interval; let n := (x.instant / (period : Int)).toNat
      let xs := s.meas.samples.takeWhile fun (y : Sample) => decide (y.instant / (period : Int) = (n : Int))
      let b := (s.reach (200000 + (n + 1) * period)).applyConstants (n * period : Nat)
      ∃ t : State, exec .meterWindowPublish s = .next t ∧ t.meas.samples = s.meas.samples.drop xs.length ∧ 200000 + (n + 1) * period ≤ t.netNs
        ∧ ∀ f, f < 9 →
          (s.metered f = false → ∀ q, q < 9 → t.reg (Reg.measQ f q) = s.reg (Reg.measQ f q))
          ∧ (s.metered f = true → t.reg (Reg.measWin f) = word n
            ∧ ∀ q, q < 9 → t.reg (Reg.measQ f q) = word (unsigned 32
              ((pairResult xs n f (b.meas.constants.getD (2 * f) {}) (b.meas.constants.getD (2 * f + 1) {})).quantities.getD q 0))))
    ∧ (s.meas.samples = [] → exec .meterWindowPublish s = .next s)
    ∧ (∀ level : Bool, 8 ≤ k → k < 16 → k < s.meas.outs.length → s.on .meas = true → s.flag (Reg.outVal k) 16 = true →
      let agrees := level = (s.flag (Reg.outVal k) 0 != s.flag (Reg.outCfg k) 26)
      let d := if agrees then 0 else (s.output k).differ + 1
      let a := if agrees then (s.output k).agree + 1 else 0
      let ms := s.fld (Reg.outCfg k) 25 16
      let rises := s.flag (Reg.outStat k) 1 = false ∧ ms ≤ d
      ∃ u : State, exec (.outReadbackCheck k level) s = .next (if rises then u.raise 0x4001 1 (le 1 k ++ le 1 (s.fld (Reg.outVal k) 0 0) ++ le 1 (bitOf level)) else u)
        ∧ u.flag (Reg.outStat k) 0 = level ∧ (u.output k).differ = d ∧ (u.output k).agree = a
        ∧ (u.flag (Reg.outStat k) 1 = true ↔ rises ∨ (s.flag (Reg.outStat k) 1 = true ∧ a < ms)))
    ∧ (∀ due, s.meas.holdDue = some due → s.meas.outs.length = 16 →
      let held := (List.range 16).filter fun (i : Nat) => (s.output i).held.isSome
      ∃ u : State, exec .outHoldExpiry s = .next (u.raise 0x4003 1 (le 2 ((held.map fun (i : Nat) => 2 ^ i).sum))) ∧ u.meas.holdDue = none ∧ due ≤ u.elapsed
        ∧ ∀ i, i < 16 → (u.output i).held = none ∧ u.flag (Reg.outVal i) 16 = (s.flag (Reg.outVal i) 16 && (s.output i).held.isNone))
    ∧ (s.Ready measReadSpec c p → r.on .meas = true → ∃ b : Bytes, exec (.measRead c p) s = .next (r.reply (originOf c 0x4001) Status.ok b) ∧ b.length = 76
      ∧ ∀ i, i < 19 → num b (4 * i) 4 = if r.metered (num p 0 1) then (r.reg (Reg.measWin (num p 0 1) + 4 * i)).toNat else 0)
    ∧ (s.Ready measWaveCaptureSpec c p →
      (∀ h, r.holder (fun (o : Outstanding) => o.work.isWave) = some h → exec (.measWaveCapture c p) s = .next (r.refuse (originOf c 0x4002) Status.resourceBusy h))
      ∧ (r.holder (fun (o : Outstanding) => o.work.isWave) = none → r.on .meas = true → r.on .mem = true →
        let w : Wave := { inputs := num p 0 3, length := num p 4 4, start := 1000000000 * num p 8 6 + num p 14 4, running := true }
        exec (.measWaveCapture c p) s = .next ((({ r with meas := { r.meas with wave := w } }).start measWaveCaptureSpec c .waveCapture).acceptReply (originOf c 0x4002))))
    ∧ (let w := s.meas.wave
      w.running = true → w.length ≤ w.taken.length → ∃ u : State, u.meas.wave.running = false
        ∧ exec .measWaveDone s = .next ((u.finishWork Work.isWave (okUnless (u.exhausted 4 || u.flag Reg.darnSvc 14)) (le 4 w.taken.length)).raise 0x4006 0 (le 3 w.inputs ++ le 4 w.taken.length ++ le 1 w.flags)))
    ∧ (s.Ready measWaveReadSpec c p → ∃ b : Bytes, exec (.measWaveRead c p) s = .next (r.reply (originOf c 0x4003) Status.ok b) ∧ b.length = 4 * num p 6 2)

/-- The control cycle, its rules and bank swap, reports, messages and the serial ports. A control cycle falls on its
grid; a due commit makes the staging bank the running bank with cleared rule states; with run set the rules are
evaluated in order and the cycle's writes wait for trigger plus 200 µs, else nothing is evaluated; a cycle not
evaluated in time is counted and raised. A rule's counts and state follow its condition. CTLP_PROGRAM_WRITE checks
every rule and names the first bad one; a commit is refused for another under way, a past instant or a held output,
and else is outstanding; tables are written and read. A UART byte enters its buffer or counts as an overrun; SER_RX
delivers the buffer; SER_WRITE and SER_READ move bytes. -/
def Obligations.ControlServed : Prop :=
  ∀ (s : State) (k : Nat) (c : Cmd) (p : Bytes),
    let r := s.received c
    (s.on .ctrl = true → s.on .meas = true → s.awake = true → s.boot.halted = false → s.ctl.writes = none → 0 < s.fld Reg.timeCycCfg 9 0 → ∃ (at_ : Nat) (b : State),
      let period := 1000000 * s.fld Reg.timeCycCfg 9 0
      at_ % period = (1000000 * s.fld Reg.timeCycCfg 25 16) % period ∧ b.time.lastCycle = some (at_ : Int) ∧ at_ ≤ b.netNs
      ∧ (∀ last, s.time.lastCycle = some last → last + (period / 2 : Nat) ≤ (at_ : Int))
      ∧ (s.ctl.commit = none → b.ctl = s.ctl)
      ∧ (∀ due, s.ctl.commit = some due → (s.flag Reg.ctlpCtl 0 = false ∨ due ≤ at_) → s.programBusy = none → b.ctl.running = s.ctl.staging ∧ b.ctl.states = [] ∧ b.ctl.commit = none)
      ∧ (∀ i, i < s.meas.caps.length → i < 8 → (b.capture i).edges = 0)
      ∧ (s.flag Reg.ctlpCtl 0 = false → exec .controlCycle s = .next b)
      ∧ (s.flag Reg.ctlpCtl 0 = true →
        let y := b.endHold.ctl.running.foldl (fun (y : Cycle) (e : Nat × Bytes) => y.eval ((List.range 8).map fun (i : Nat) => (s.capture i).edges) e.1 e.2) ⟨b.endHold, [], 0, false⟩
        ∃ t : State, exec .controlCycle s = .next t ∧ t.ctl.writes = some (y.writes, at_) ∧ t.ctl.cycles = (y.state.ctl.cycles + 1) % 2 ^ 31))
    ∧ (∀ (y : Cycle) (edges : List Nat) (e : Bytes), y.past = false → ruleValid e = true → num e 12 1 ≠ 4 →
      let x := (Table.find y.state.ctl.states k).getD {}
      let a := y.state.operand e y.state.ctl.states edges (num e 2 2); let b := y.state.operand e y.state.ctl.states edges (num e 4 2)
      ∃ held : Bool, (a.2 = false → b.2 = false → bit (num e 0 1) 1 = false → held = compare_ (num e 1 1) a.1 b.1)
        ∧ Table.find (y.eval edges k e).state.ctl.states k = some ⟨if held then min (x.t + 1) 255 else 0, if held then 0 else min (x.f + 1) 255,
          if x.on then !(decide (num e 7 1 ≤ if held then 0 else min (x.f + 1) 255)) else decide (num e 6 1 ≤ if held then min (x.t + 1) 255 else 0)⟩)
    ∧ (∀ writes trigger, s.ctl.writes = some (writes, trigger) → let b := s.reach (200000 + trigger)
      exec (.cycleOutputApply false) s = .next ((({ b with ctl := { b.ctl with writes := none } }).bump (Reg.ctlpCnt 0)).raise 0x4004 1 (le 4 (s.reg Reg.ctlpCycLo).toNat)))
    ∧ (∀ e, Table.find s.ctl.reports k = some e → ∃ t : State, exec (.reportAgeExpiry k) s = .next t ∧ t.ctl = s.ctl ∧ t.freshReport k = none)
    ∧ (s.Ready ctlpProgramWriteSpec c p →
      ((∀ i, i < num p 1 1 → ruleOk (slice p (4 + 24 * i) 24) = true) → ∃ t : State, exec (.ctlpProgramWrite c p) s = .next (t.reply (originOf c 0x4010) Status.ok [])
        ∧ t.ctl.running = r.ctl.running ∧ ∀ i, i < num p 1 1 → ruleAt t.ctl.staging (num p 0 1 + i) = slice p (4 + 24 * i) 24)
      ∧ (∀ i, i < num p 1 1 → ruleOk (slice p (4 + 24 * i) 24) = false → (∀ j, j < i → ruleOk (slice p (4 + 24 * j) 24) = true) →
        exec (.ctlpProgramWrite c p) s = .next (r.refuse (originOf c 0x4010) Status.paramRange (le 1 (num p 0 1 + i)))))
    ∧ (s.Ready ctlpProgramCommitSpec c p → let due := 1000000000 * num p 4 6 + num p 10 4
      (∀ h, r.holder (fun (o : Outstanding) => o.work.isProgram) = some h → exec (.ctlpProgramCommit c p) s = .next (r.refuse (originOf c 0x4011) Status.resourceBusy h))
      ∧ (r.holder (fun (o : Outstanding) => o.work.isProgram) = none →
        (num p 0 1 = 1 ∧ due < r.netNs → exec (.ctlpProgramCommit c p) s = .next (r.refuse (originOf c 0x4011) Status.txnExpired []))
        ∧ (¬ (num p 0 1 = 1 ∧ due < r.netNs) → (∀ h, r.programBusy = some h → exec (.ctlpProgramCommit c p) s = .next (r.refuse (originOf c 0x4011) Status.resourceBusy h))
          ∧ (r.programBusy = none → exec (.ctlpProgramCommit c p) s = .next ((({ r with ctl := { r.ctl with commit := some (if num p 0 1 = 1 then due else 0) } }).setFlag Reg.ctlpStat 9 true).start
            ctlpProgramCommitSpec c .programCommit)))))
    ∧ (s.Ready ctlpProgramReadSpec c p → exec (.ctlpProgramRead c p) s = .next (r.reply (originOf c 0x4012) Status.ok
      ((List.range (num p 2 1)).flatMap fun (i : Nat) => ruleAt (if num p 0 1 = 0 then r.ctl.running else r.ctl.staging) (num p 1 1 + i))))
    ∧ (s.Ready ctlpMsgWriteSpec c p → ∃ t : State, exec (.ctlpMsgWrite c p) s = .next (t.reply (originOf c 0x4013) Status.ok [])
      ∧ Table.find t.ctl.messages (num p 0 1) = (if num p 1 1 = 0 then none else some (p.drop 2)) ∧ ∀ m, m ≠ num p 0 1 → Table.find t.ctl.messages m = Table.find r.ctl.messages m)
    ∧ (s.Ready ctlpGroupWriteSpec c p → ∃ t : State, exec (.ctlpGroupWrite c p) s = .next (t.reply (originOf c 0x4014) Status.ok [])
      ∧ ∀ i, i < num p 2 2 → Table.find t.ctl.groups (num p 0 2 + i) = if num p (4 + i) 1 = 0xFF then none else some (num p (4 + i) 1))
    ∧ (s.Ready ctlpReportReadSpec c p → ∃ b : Bytes, exec (.ctlpReportRead c p) s = .next (r.reply (originOf c 0x4015) Status.ok b)
      ∧ ∀ e, Table.find r.ctl.reports (num p 0 2) = some e → b.take e.payload.length = e.payload)
    ∧ (k < s.meas.serials.length → s.awake = true → s.flag (Reg.serCfg k) 0 = true → s.flag (Reg.serCfg k) 5 = false → s.flag (Reg.serCfg k) 1 = true → ∀ byte,
      ∃ t : State, exec (.serRxByte k byte) s = .next t ∧ (t.serial k).rxLast = s.elapsed
        ∧ ((s.serial k).rx.length < 512 → (t.serial k).rx = (s.serial k).rx ++ [byte]) ∧ (512 ≤ (s.serial k).rx.length → (t.serial k).rx = (s.serial k).rx ∧ (t.serial k).overrun = true))
    ∧ (k < s.meas.serials.length → (s.serial k).rx ≠ [] → ∃ u : State, (u.serial k).rx = []
      ∧ exec (.serRx k) s = .next (u.raise 0x4005 0 (le 1 k ++ le 2 (s.serial k).rx.length ++ le 1 (bitOf (s.serial k).overrun) ++ (s.serial k).rx)))
    ∧ (s.Ready serWriteSpec c p → (r.flag (Reg.serCfg (num p 0 1)) 5 = true → c.session ≠ 0 → exec (.serWrite c p) s = .next (r.refuse (originOf c 0x4018) Status.notPermitted []))
      ∧ (r.flag (Reg.serCfg (num p 0 1)) 5 = false ∨ c.session = 0 → ∃ (t : State) (n : Nat), exec (.serWrite c p) s = .next (t.reply (originOf c 0x4018) Status.ok (le 2 n)) ∧ n ≤ p.length - 4))
    ∧ (s.Ready serReadSpec c p → num p 0 1 < r.meas.serials.length → ∃ t : State, exec (.serRead c p) s = .next (t.reply (originOf c 0x4019) Status.ok ((r.serial (num p 0 1)).rx.take (num p 2 2)))
      ∧ (t.serial (num p 0 1)).rx = (r.serial (num p 0 1)).rx.drop (num p 2 2))

/-- Who may load and erase pages, and what KEY_LOAD accepts. KEY_LOAD and KEY_ERASE are permitted to session 0 only. A
key offered for a loaded page is refused with RESOURCE_BUSY naming the page and its identity, and the page and its
key stay; after KEY_ERASE of that page it is empty. A wrapped key is unwrapped under the key-transport key by RFC
3394; a failed integrity check gives PARAM_RANGE with nothing written. A plain key is accepted in Manufacture and
Provisioned and refused with NOT_PERMITTED in Deployed. A key accepted fills the page with its identity, modes and
generation, and the result is its check value. (With Full debug in Deployed, or without a key-transport key for a
wrapped one, R509 and R497 refuse first.) -/
def Obligations.KeyLoading : Prop :=
  ∀ (s : State) (c : Cmd) (p : Bytes), let r := s.received c; let page := num p 0 1; let wrapped := bit (num p 3 1) 1
    (c.session ≠ 0 → r.permits keyLoadSpec c = false ∧ r.permits keyEraseSpec c = false)
    ∧ (s.Ready keyLoadSpec c p → r.loadClosed = false →
      (wrapped = false → r.lifecycle = 2 → exec (.keyLoad c p) s = .next (r.refuse (originOf c 0x5000) Status.notPermitted []))
      ∧ (r.pageLoaded page = true → (if wrapped then r.sec.transportKey ≠ none else r.lifecycle ≠ 2) →
        exec (.keyLoad c p) s = .next (r.refuse (originOf c 0x5000) Status.resourceBusy [BitVec.ofNat 8 page, BitVec.ofNat 8 (r.fld (Reg.ciphPageCfg page) 5 2)]))
      ∧ (r.pageLoaded page = false → wrapped = true → ∀ kek, r.sec.transportKey = some kek →
        (unwrap kek (p.drop 4) = none → exec (.keyLoad c p) s = .next (r.refuse (originOf c 0x5000) Status.paramRange []))
        ∧ (∀ key, unwrap kek (p.drop 4) = some key → exec (.keyLoad c p) s =
          .next ((r.fillPage page (num p 1 1) (num p 2 1 % 16) (num p 2 1 / 16) key).reply (originOf c 0x5000) Status.ok (le 3 (checkValue key)))))
      ∧ (r.pageLoaded page = false → wrapped = false → r.lifecycle ≠ 2 → exec (.keyLoad c p) s =
          .next ((r.fillPage page (num p 1 1) (num p 2 1 % 16) (num p 2 1 / 16) (p.drop 4)).reply (originOf c 0x5000) Status.ok (le 3 (checkValue (p.drop 4))))))
    ∧ (∀ identity modes generation key, page < 16 → identity < 16 → modes < 16 → generation < 16 → let t := s.fillPage page identity modes generation key
      t.pageLoaded page = true ∧ t.fld (Reg.ciphPageCfg page) 5 2 = identity ∧ t.fld (Reg.ciphPageCfg page) 9 6 = modes ∧ t.fld (Reg.ciphPageCfg page) 13 10 = generation
      ∧ (t.flag (Reg.ciphPageCfg page) 1 = true ↔ 16 < key.length) ∧ Table.find t.cipher.keys page = some key)
    ∧ (s.Ready keyEraseSpec c p → exec (.keyErase c p) s =
        .next ((r.erasePages (num p 0 2)).reply (originOf c 0x5001) Status.ok (le 2 (Nat.land (num p 0 2) r.loadedMask))))
    ∧ (∀ mask q, q < 16 → s.pageLoaded q = true →
      (bit mask q = true → (s.erasePages mask).pageLoaded q = false ∧ Table.find (s.erasePages mask).cipher.keys q = none)
      ∧ (bit mask q = false → (s.erasePages mask).reg (Reg.ciphPageCfg q) = s.reg (Reg.ciphPageCfg q) ∧ Table.find (s.erasePages mask).cipher.keys q = Table.find s.cipher.keys q))

/-- Engines, queues, replay windows, alarms and the commands of the cipher block. A free engine takes the head of the
transmit queue, else of the first queue whose head has waited 100 µs; a request that its page does not serve is
refused and counted, else the engine holds the page's key to the end of the operation, whatever becomes of the page.
A passed self-check releases the result; a CIPHER_RUN whose tag fails answers PARAM_RANGE; a failed one is executed
again, up to 3 times. A verified counter is accepted above top or in the window, once. An alarm that is active
clears, latches and reports; the previous page ends with its hold. KEY_STATUS shows the pages and CIPHER_RUN queues
its request under its session's identity. -/
def Obligations.CipherServed : Prop :=
  ∀ (s : State) (e : Nat) (c : Cmd) (p : Bytes),
    let r := s.received c; let queue := fun (q : Nat) => s.cipher.queues.getD q []
    (queue 0 ≠ [] → s.nextQueue = some 0)
    ∧ (∀ q x l, queue 0 = [] → 1 ≤ q → q ≤ 3 → queue q = x :: l → 100000 + x.queued ≤ s.elapsed →
      (∀ j y m, 1 ≤ j → j < q → queue j = y :: m → s.elapsed < 100000 + y.queued) → s.nextQueue = some q)
    ∧ (∀ q x l, e < 5 → s.unitState 3 e = .serving → Table.find s.cipher.engines e = none → s.on .sec = true → s.nextQueue = some q → queue q = x :: l →
      let b := { s with cipher := { s.cipher with queues := setAt s.cipher.queues q fun _ => l } }
      (s.mayServe x = false → exec (.cipherOpStart e) s = .next (b.refuseRequest x))
      ∧ (s.mayServe x = true → ∃ t : State, exec (.cipherOpStart e) s = .next t ∧ t.cipher.queues.getD q [] = l
        ∧ Table.find t.cipher.engines e = some ⟨x, (Table.find s.cipher.keys x.page).getD [], s.pageGeneration x.page⟩))
    ∧ (∀ mask, (s.erasePages mask).cipher.engines = s.cipher.engines)
    ∧ (∀ o, Table.find s.cipher.engines e = some o →
      let b := { s with cipher := { s.cipher with engines := Table.drop s.cipher.engines e } }
      (∀ id, o.request.purpose = .run id → let d := b.bump (Reg.ciphCnt 0)
        (∀ out, o.result = some out → exec (.cipherOpDone e true) s = .next (d.finishWork (· == .cipher id) (okUnless d.fewEngines) out))
        ∧ (o.result = none → exec (.cipherOpDone e true) s = .next ((d.bump (Reg.ciphCnt 1)).finishWork (· == .cipher id) Status.paramRange [])))
      ∧ (o.request.executions < 3 → (b.scoreError 3 e).1 = false → o.request.purpose.queue < s.cipher.queues.length → ∃ t : State, exec (.cipherOpDone e false) s = .next t
        ∧ Table.find t.cipher.engines e = none ∧ t.cipher.queues.getD o.request.purpose.queue [] = { o.request with executions := o.request.executions + 1 } :: queue o.request.purpose.queue))
    ∧ (∀ (k : LinkRecord) (counter generation current : Nat), k.valid = true → k.topGeneration = generation →
      (k.top < counter → ∃ k', k.accept counter generation current = some k' ∧ k'.top = counter ∧ bit k'.window 0 = true ∧ k'.accept counter generation current = none)
      ∧ (counter ≤ k.top → k.top - counter ≤ 31 → bit k.window (k.top - counter) = false → ∃ k', k.accept counter generation current = some k' ∧ k'.top = k.top ∧ k'.accept counter generation current = none)
      ∧ (counter + 31 < k.top → k.accept counter generation current = none))
    ∧ (∀ alarm, (s.alarmActive alarm = false → exec (.alarmDetected alarm) s = .next s)
      ∧ (s.alarmActive alarm = true → s.powerState ≠ 4 →
        let g := (s.clearBackup.voidNonce).closeDebug 6
        exec (.alarmDetected alarm) s = .next (if alarm = .tamper then (g.sound 0 0).wakeSource 5 else if alarm = .shield then g.sound 1 0 else s.sound (alarmLatch alarm) (alarmReason alarm)))
      ∧ (s.alarmActive alarm = true → s.powerState = 4 → ∃ t : State, exec (.alarmDetected alarm) s = .next t ∧ t.sec.backupTamper = true ∧ ∀ i, i < 8 → t.reg (Reg.rtcBkpData i) = 0))
    ∧ (∀ due, s.cipher.prevDue = some due → ∃ t : State, exec .prevPageHoldExpiry s = .next t ∧ due ≤ t.elapsed ∧ t.cipher.prevDue = none ∧ t.flag Reg.ciphRadioCfg 8 = false
      ∧ t.fld Reg.ciphRadioCfg 7 0 = s.fld Reg.ciphRadioCfg 7 0 ∧ t.fld Reg.ciphRadioCfg 31 16 = s.fld Reg.ciphRadioCfg 31 16)
    ∧ (s.Ready keyStatusSpec c p → ∃ b : Bytes, exec (.keyStatus c p) s = .next (r.reply (originOf c 0x5002) Status.ok b) ∧ b.length = 128
      ∧ ∀ i, i < 16 → num b (8 * i) 4 = (r.reg (Reg.ciphPageCfg i)).toNat ∧ num b (8 * i + 4) 4 = (r.reg (Reg.ciphPageKcv i)).toNat)
    ∧ (s.Ready cipherRunSpec c p → 3 < r.cipher.queues.length → ∃ (t : State) (x : Request), exec (.cipherRun c p) s = .next (t.start cipherRunSpec c (.cipher r.cipher.requests))
      ∧ t.cipher.queues.getD 3 [] = r.cipher.queues.getD 3 [] ++ [x] ∧ x.purpose = .run r.cipher.requests ∧ x.identity = 1 + c.session ∧ x.page = num p 0 1 ∧ x.mode = num p 1 1
      ∧ x.data = slice p (12 + num p 4 1 + num p 6 2) (num p 8 4) ∧ x.queued = r.elapsed)

/-- One 64-byte access: arbitration, the bytes it stores, the page policy and activation counts. With the DRAM ready, an
access beyond its capacity faults by name (the model's stop); one the arbiter does not take changes only the port's
level and panic. An access taken as a write of up to 64 bytes stores its data, zero-padded, at the address aligned
to 64 and changes no other byte; a read stores nothing where it finds no uncorrectable word. A lower port in panic
comes first, then no port while any is in panic. A touched bank's predictor moves by one within 0 to 3, the row
stays open under policy 1, or under policy 0 at 2 or more; hits and conflicts are counted. The activation that
reaches the threshold throttles its port on that bank. -/
def Obligations.DramAccessed : Prop :=
  ∀ (s : State) (port a : Nat),
    (s.dramReady = true → port < 5 → ∀ (write : Option Bytes) (ecc : EccFault) (region level : Nat),
      (s.dramCapacity ≤ a → exec (.dramAccess port a write ecc region level) s = .fault (.noDevice a))
      ∧ (a < s.dramCapacity → let b := s.portLevel port level
        (b.arbitrates port = false → exec (.dramAccess port a write ecc region level) s = .next b)
        ∧ (b.arbitrates port = true →
          (∀ data, write = some data → data.length ≤ 64 → ∃ t : State, exec (.dramAccess port a write ecc region level) s = .next t
            ∧ ∀ x, Memory.read t.dram.cells 0 x = if a / 64 * 64 ≤ x ∧ x < a / 64 * 64 + 64 then data.getD (x - a / 64 * 64) 0 else Memory.read s.dram.cells 0 x)
          ∧ (write = none → ∃ d : State, exec (.dramAccess port a write ecc region level) s = .next (d.checkRead port a ecc region) ∧ d.dram.cells = s.dram.cells
            ∧ (ecc ≠ .uncorrectable → d.dram.poison.contains (a / 64) = false → (d.checkRead port a ecc region).dram.cells = s.dram.cells)
            ∧ (ecc = .clean → d.dram.poison.contains (a / 64) = false → d.checkRead port a ecc region = d)))))
    ∧ (s.arbitrates port = true ↔ if s.portPanic port then ∀ j, j < port → s.portPanic j = false else ∀ j, j < 4 → s.portPanic j = false)
    ∧ (∀ level, port < 5 → level ≤ 32 → ((s.portLevel port level).portPanic port = true ↔ port < 4 ∧ s.fld (Reg.dramPortCfg port) 13 8 ≤ level)
      ∧ (s.portLevel port level).fld (Reg.dramPortStat port) 5 0 = level)
    ∧ (∀ bank row, let t := s.touchRow port bank row; let hit := Table.find s.dram.last bank = some row
      let old := (Table.find s.dram.predictors bank).getD 2; let new := (Table.find t.dram.predictors bank).getD 2; let policy := s.fld Reg.dramPageCtl 1 0
      Table.find t.dram.last bank = some row
      ∧ new = (if policy = 0 then (if hit then min (old + 1) 3 else old - 1) else old)
      ∧ Table.find t.dram.openRows bank = (if policy = 1 ∨ (policy = 0 ∧ 2 ≤ new) then some (row, t.elapsed) else none)
      ∧ (s.openRow bank = some row → hit → t.reg64 (Reg.dramCntLo 3) = (s.reg64 (Reg.dramCntLo 3) + 1) % 2 ^ 64 ∧ t.reg64 (Reg.dramCntLo 4) = s.reg64 (Reg.dramCntLo 4))
      ∧ (s.openRow bank = some row → ¬ hit → t.reg64 (Reg.dramCntLo 4) = (s.reg64 (Reg.dramCntLo 4) + 1) % 2 ^ 64 ∧ t.reg64 (Reg.dramCntLo 3) = s.reg64 (Reg.dramCntLo 3)))
    ∧ (∀ bank, port < 5 → let k := port * 32 + bank; let n := (Table.find s.dram.acts k).getD 0 + 1
      s.dram.throttled.contains k = false →
      (n < s.fld Reg.dramActCtl 15 0 → Table.find (s.activate port bank).dram.acts k = some n ∧ (s.activate port bank).dram.throttled = s.dram.throttled)
      ∧ (s.fld Reg.dramActCtl 15 0 ≤ n → ∃ u : State, Table.find u.dram.acts k = some n ∧ u.dram.throttled = s.dram.throttled ++ [k] ∧ u.flag Reg.dramActFlag port = true ∧ u.flag (Reg.dramPortStat port) 7 = true
        ∧ s.activate port bank = if s.dram.throttled.any (fun (x : Nat) => x / 32 == port) then u
          else u.raise 0x5102 1 (le 1 port ++ le 1 (bank / 16) ++ le 1 (bank / 8 % 2) ++ le 1 (bank % 8) ++ le 4 n)))

/-- Errors, refresh, drift, windows, scrubbing and the DRAM commands. A corrected word is counted; an uncorrectable one
is counted, its address latched and DRAM_ECC_UNCORR raised. A refresh is postponed under panic, at most 8 a rank,
the ninth issued and counted. MR4 is read 16 ms after the last reading. A rank that drifted past its limit is
re-centred, one interval later at most while a port is in panic. A window end clears activation counts and throttles
and keeps DRAM_ACT_FLAG. The scrubber reads the next address, wrapping at capacity. DRAM_ROW_RETIRE is refused for a
remapped row, else answers the entry used (0xFF where none is free: the model's value); DRAM_STATUS returns its four
registers. -/
def Obligations.DramServed : Prop :=
  ∀ (s : State) (channel rank bank : Nat) (c : Cmd) (p : Bytes),
    let r := s.received c; let k := channel * 2 + rank
    (∀ port a region, s.dram.poison.contains (a / 64) = false →
      (let n := (s.bump64 (Reg.dramCntLo 5)).noteRow (s.dramRow a);
        (n.scoreError 4 (s.dramRow a)).1 = false → s.checkRead port a .corrected region = (n.scoreError 4 (s.dramRow a)).2)
      ∧ (let e := ((s.bump64 (Reg.dramCntLo 6)).noteRow (s.dramRow a)).setReg64 Reg.dramErrAddrLo a;
        let u := ((e.raise 0x5100 2 (le 8 a ++ le 1 port ++ le 1 region)).scoreError 4 (s.dramRow a)).2;
        (a < 2 ^ 64 → e.reg64 Reg.dramErrAddrLo = a) ∧ e.reg64 (Reg.dramCntLo 6) = (s.reg64 (Reg.dramCntLo 6) + 1) % 2 ^ 64
        ∧ (u.unitState 4 (s.dramRow a) = .retired → s.checkRead port a .uncorrectable region = u.loseData region a)))
    ∧ (s.dramReady = true → s.rankUsed channel rank = true → bank < 8 → let n := (Table.find s.dram.postponed k).getD 0
      ∃ t : State, exec (.refreshDue channel rank bank) s = .next t ∧
        if s.anyPanic = true ∧ n < 8 then Table.find t.dram.postponed k = some (n + 1) ∧ t.dram.openRows = s.dram.openRows
        else Table.find t.dram.openRows (channel * 16 + rank * 8 + bank) = none ∧ t.dram.postponed = s.dram.postponed
          ∧ t.reg64 (Reg.dramCntLo 7) = if s.anyPanic then (s.reg64 (Reg.dramCntLo 7) + 1) % 2 ^ 64 else s.reg64 (Reg.dramCntLo 7))
    ∧ (∀ rate, s.dramReady = true → rate ≤ 2 → ∃ t : State, exec (.mr4ReadDue rate) s = .next t ∧ t.fld Reg.dramStat 3 2 = rate ∧ t.flag Reg.dramStat 0 = true
      ∧ t.dram.mr4At = t.elapsed ∧ 16000000 + s.dram.mr4At ≤ t.elapsed)
    ∧ (∀ drift, s.dramReady = true → s.rankUsed channel rank = true → let past := s.fld Reg.dramTrnCtl 23 16 < drift
      ∃ t : State, exec (.dqsDriftCheck channel rank drift) s = .next t ∧ (Table.find s.dram.driftAt k).getD 0 + 1000000 * s.fld Reg.dramTrnCtl 15 0 ≤ t.elapsed
        ∧ (s.dram.deferred.contains k = true ∨ (past ∧ s.anyPanic = false) → t.reg64 (Reg.dramCntLo 10) = (s.reg64 (Reg.dramCntLo 10) + 1) % 2 ^ 64 ∧ t.dram.deferred.contains k = false)
        ∧ (s.dram.deferred.contains k = false → past → s.anyPanic = true → t.reg64 (Reg.dramCntLo 10) = s.reg64 (Reg.dramCntLo 10) ∧ t.dram.deferred.contains k = true)
        ∧ (s.dram.deferred.contains k = false → ¬ past → t.reg64 (Reg.dramCntLo 10) = s.reg64 (Reg.dramCntLo 10) ∧ t.dram.deferred = s.dram.deferred))
    ∧ (s.dramReady = true → ∃ t : State, exec .actWindowEnd s = .next t ∧ t.dram.acts = [] ∧ t.dram.throttled = [] ∧ t.reg Reg.dramActFlag = s.reg Reg.dramActFlag
      ∧ s.dram.windowStart + (if s.fld Reg.dramStat 3 2 = 0 then 32000000 else 16000000) ≤ t.elapsed ∧ ∀ port, port < 5 → t.flag (Reg.dramPortStat port) 7 = false)
    ∧ (∀ ecc region, s.dramReady = true → 0 < s.dramCapacity → ∃ b : State, exec (.scrubRead ecc region) s = .next (b.checkRead 4 s.dram.scrub ecc region)
      ∧ b.dram.scrub = (s.dram.scrub + 64) % s.dramCapacity ∧ b.dram.cells = s.dram.cells)
    ∧ (s.dramReady = false → ∀ port a write ecc region level drift rate, exec (.dramAccess port a write ecc region level) s = .next s ∧ exec (.refreshDue channel rank bank) s = .next s
      ∧ exec (.mr4ReadDue rate) s = .next s ∧ exec (.dqsDriftCheck channel rank drift) s = .next s ∧ exec .actWindowEnd s = .next s ∧ exec (.scrubRead ecc region) s = .next s)
    ∧ (s.Ready dramRowRetireSpec c p → let row := rowNumber (num p 0 1) (num p 1 1) (num p 2 1) (num p 4 2)
      let remapped := (r.remapped (num p 0 1)).any fun (e : Nat) => r.remapOf (num p 0 1) e == remapKey row
      (remapped = true → exec (.dramRowRetire c p) s = .next (r.refuse (originOf c 0x5101) Status.resourceBusy p))
      ∧ (remapped = false → exec (.dramRowRetire c p) s = .next ((r.retireRow row 3).2.reply (originOf c 0x5101) Status.ok (le 1 (((r.retireRow row 3).1.map (·.1)).getD 0xFF)))))
    ∧ (s.Ready dramStatusSpec c p → ∃ b : Bytes, exec (.dramStatus c p) s = .next (r.reply (originOf c 0x5102) Status.ok b) ∧ b.length = 16
      ∧ num b 0 4 = (r.reg Reg.dramCfg).toNat ∧ num b 4 4 = (r.reg Reg.dramStat).toNat ∧ num b 8 4 = (r.reg Reg.dramSpareStat).toNat ∧ num b 12 4 = (r.reg Reg.dramActFlag).toNat)

/-- What a wrap, a compare event and a release of timers leave. For a timer that counts its clock: TIMER_WRAP leaves
count 0 at the tick that reaches the period (in the 32.768 kHz states the count less the period), sets the period
event, takes a buffered period, and with a count at or above the period comes at the next tick with short_wrap set
and no compare event. TIMER_COMPARE brings a count below CMP, itself below the period, to CMP, sets the compare
event, makes the output active in mode 1 and toggles it in mode 2. TMR_GO_RELEASE comes at the first microsecond
edge 64 µs after the write, enables each timer named and not yet enabled at its present count, leaves the others,
and replies. -/
def Obligations.TimersRun : Prop :=
  ∀ (s : State) (n : Nat), n < 16 → s.meas.timers.length = 16 →
    let c := (s.reg (Reg.tmrCnt n)).toNat; let period := s.periodOf n; let since := (s.timer n).since
    (s.counting n = true → s.flag (Reg.tmrCtl n) 5 = false → let e := s.tickTime n (if period ≤ c then 1 else period - c)
      ∃ t : State, exec (.timerWrap n) s = .next t ∧ e ≤ t.elapsed ∧ (s.elapsed ≤ e → t.elapsed = e)
        ∧ t.reg (Reg.tmrCnt n) = word (if s.slowTick = true ∧ c < period then c + s.ticks n since e - period else 0)
        ∧ t.flag (Reg.tmrEvt n) 0 = true ∧ t.flag (Reg.tmrEvt n) 2 = (s.flag (Reg.tmrEvt n) 2 || decide (period ≤ c))
        ∧ (period ≤ c → t.flag (Reg.tmrEvt n) 1 = s.flag (Reg.tmrEvt n) 1)
        ∧ t.periodOf n = (match (s.timer n).waiting with | some p => p % 2 ^ 32 | none => period) ∧ (t.timer n).waiting = none ∧ (t.timer n).since = e)
    ∧ (s.counting n = true → s.flag (Reg.tmrCtl n) 5 = false → let cmp := (s.reg (Reg.tmrCmp n)).toNat
      c < cmp → cmp < period → let e := s.tickTime n (cmp - c)
      ∃ t : State, exec (.timerCompare n) s = .next t ∧ e ≤ t.elapsed ∧ t.reg (Reg.tmrCnt n) = word (if s.slowTick then c + s.ticks n since e else cmp)
        ∧ t.flag (Reg.tmrEvt n) 1 = true ∧ t.flag (Reg.tmrEvt n) 0 = s.flag (Reg.tmrEvt n) 0
        ∧ (s.fld (Reg.tmrCtl n) 12 11 = 1 → (t.timer n).active = true) ∧ (s.fld (Reg.tmrCtl n) 12 11 = 2 → (t.timer n).active = !(s.timer n).active)
        ∧ (s.fld (Reg.tmrCtl n) 12 11 = 1 ∨ s.fld (Reg.tmrCtl n) 12 11 = 2 → let k := s.fld (Reg.tmrCtl n) 16 13
          t.fld (Reg.outVal k) 15 0 = levelValue k ((t.timer n).active != s.flag (Reg.tmrCtl n) 17)))
    ∧ (s.counting n = false → exec (.timerWrap n) s = .next s ∧ exec (.timerCompare n) s = .next s)
    ∧ (∀ w, s.meas.goWritten = some w → ∃ u : State, exec .tmrGoRelease s = .next (u.finishWork (· == .tmrGo) Status.ok []) ∧ u.meas.goWritten = none ∧ 64000 + w ≤ u.elapsed
      ∧ ((s.timer n).armed = true → s.flag (Reg.tmrCtl n) 0 = false → u.flag (Reg.tmrCtl n) 0 = true ∧ u.flag Reg.tmrRun n = true ∧ u.reg (Reg.tmrCnt n) = s.reg (Reg.tmrCnt n))
      ∧ ((s.timer n).armed = false ∨ s.flag (Reg.tmrCtl n) 0 = true → u.reg (Reg.tmrCtl n) = s.reg (Reg.tmrCtl n) ∧ u.reg (Reg.tmrCnt n) = s.reg (Reg.tmrCnt n)) ∧ (u.timer n).armed = false)

/-- What an edge at a capture input leaves, and what TMR_CAPTURE_READ takes. A level that persisted for its debounce
time counts as one edge of the input. While capture is enabled and the polarity selected, it enters the input's
queue of four with the instant the level was first taken, the timer's count if asked for, and whether time was
uncertain; a full queue keeps its entries, sets overflow and counts the drop. A level that does not change, and any
edge while MEAS is off, queues nothing. TMR_CAPTURE_READ returns and removes entries oldest first, with the overflow
flag. -/
def Obligations.EdgesCaptured : Prop :=
  ∀ (s : State) (k stamp : Nat) (level : Bool), k < 8 → s.meas.caps.length = 8 →
    ((s.capture k).level = level → exec (.captureEdge k level stamp) s = .next s)
    ∧ ((s.capture k).level ≠ level → s.on .meas = false → ∃ t : State, exec (.captureEdge k level stamp) s = .next t ∧ (t.capture k).level = level ∧ (t.capture k).queue = (s.capture k).queue ∧ (t.capture k).edges = (s.capture k).edges)
    ∧ ((s.capture k).level ≠ level → s.on .meas = true →
      let cfg := s.reg (Reg.tmrCapCfg k); let b := s.reach (stamp + 10000 * s.fld (Reg.measCapCfg k) 7 0)
      let queue := (s.capture k).queue; let selected := field cfg 0 0 = 1 ∧ edgeSelected (field cfg 2 1) level = true
      ∃ t : State, exec (.captureEdge k level stamp) s = .next t ∧ (t.capture k).level = level ∧ (t.capture k).edges = (s.capture k).edges + 1 ∧ (t.capture k).lastEdge = some stamp
        ∧ (∀ j, j < 8 → j ≠ k → t.capture j = s.capture j)
        ∧ (t.capture k).queue = (if selected ∧ queue.length < 4 then queue ++ [⟨stamp, if field cfg 3 3 = 1 then b.count (field cfg 7 4) else 0, level, b.unsure⟩] else queue)
        ∧ (selected → 4 ≤ queue.length → t.flag (Reg.tmrCapFlag k) 0 = true ∧ t.fld (Reg.tmrCapStat k) 31 16 = min (s.fld (Reg.tmrCapStat k) 31 16 + 1) 65535)
        ∧ (¬ (selected ∧ 4 ≤ queue.length) → t.reg (Reg.tmrCapFlag k) = s.reg (Reg.tmrCapFlag k)))
    ∧ ∀ (c : Cmd) (p : Bytes), let r := s.received c; let i := num p 0 1; let taken := (r.capture i).queue.take (num p 1 1)
      s.Ready tmrCaptureReadSpec c p → ∃ (t : State) (b : Bytes), exec (.tmrCaptureRead c p) s = .next (t.reply (originOf c 0x5200) Status.ok b)
        ∧ (t.capture i).queue = (r.capture i).queue.drop (num p 1 1) ∧ b.length = 4 + 16 * taken.length ∧ num b 0 1 = taken.length ∧ num b 1 1 = r.fld (Reg.tmrCapFlag i) 0 0
        ∧ ∀ j (e : CapEntry), taken[j]? = some e → num b (4 + 16 * j) 6 = e.stamp / 1000000000 % 2 ^ 48 ∧ num b (10 + 16 * j) 4 = e.stamp % 1000000000 ∧ num b (14 + 16 * j) 4 = e.count % 2 ^ 32
          ∧ num b (18 + 16 * j) 1 = (if e.rising then 1 else 0) + (if e.held then 2 else 0)

/-- Exit sources, wake frames, the exit from Doze and Standby, and the status commands. A source fires only while
enabled and asleep or entering: its bit in PWR_WAKE_SRC is set and the exit requested. A wake frame without its
stop, or in Backup, does nothing; one for another address is counted as such; a match is counted, and a match that
is no probe fires source 0 and, in Run, Trim and Doze, raises PWR_WAKE_FRAME. A requested exit enters Run or Trim as
PWR_CTL says within 1.5 ms from Doze and 30 ms from Standby, with the lowest source as cause, every island powered
in Run, and PWR_STATE_CHANGED from Doze; a Standby exit drives ALIVE_N and reports its cause. With no exit requested
nothing changes. PWR_STATUS and CLK_STATUS return their registers. -/
def Obligations.LowPowerLeft : Prop :=
  ∀ (s : State) (k : Nat) (c : Cmd) (p : Bytes),
    let r := s.received c
    (k < 9 → (s.flag Reg.pwrWakeEn k = true → s.asleep = true ∨ s.flag Reg.pwrState 3 = true → (s.wakeSource k).flag Reg.pwrWakeSrc k = true ∧ (s.wakeSource k).power.exitSince.isSome = true
        ∧ (∀ t, s.power.exitSince = some t → (s.wakeSource k).power.exitSince = some t) ∧ (s.wakeSource k).powerState = s.powerState ∧ bit (s.wakeSource k).power.fired k = true)
      ∧ (s.flag Reg.pwrWakeEn k = false ∨ (s.asleep = false ∧ s.flag Reg.pwrState 3 = false) → s.wakeSource k = s))
    ∧ exec .hostWakeSignal s = .next (s.wakeSource 3)
    ∧ (∀ a probe stop, a < 128 →
      let matched := (s.flag Reg.pwrWakeAddr 7 = true ∧ a = s.fld Reg.pwrWakeAddr 6 0) ∨ (a = 0x7F ∧ s.flag Reg.pwrWakeAddr 8 = true)
      (stop = false ∨ s.powerState = 4 → exec (.wakeFrame a probe stop) s = .next s)
      ∧ (stop = true → s.powerState ≠ 4 → ¬ matched → ∃ t : State, exec (.wakeFrame a probe stop) s = .next t ∧ t.fld Reg.pwrWakeCnt 31 16 = min (s.fld Reg.pwrWakeCnt 31 16 + 1) 65535
        ∧ t.fld Reg.pwrWakeCnt 15 0 = s.fld Reg.pwrWakeCnt 15 0 ∧ t.power = s.power)
      ∧ (stop = true → s.powerState ≠ 4 → matched → ∃ b : State, b.fld Reg.pwrWakeCnt 15 0 = min (s.fld Reg.pwrWakeCnt 15 0 + 1) 65535 ∧ b.power = s.power
        ∧ exec (.wakeFrame a probe stop) s = .next (if probe then b else if s.powerState ≤ 2 then (b.wakeSource 0).raise 0x6002 0 (le 1 a ++ [0]) else b.wakeSource 0)))
    ∧ (s.power.exitSince = none ∨ s.asleep = false → exec .lowPowerExit s = .next s)
    ∧ (∀ since, s.power.exitSince = some since → s.asleep = true → let target := if s.flag Reg.pwrCtl 0 then 1 else 0
      ∃ u : State, exec .lowPowerExit s = .next (if s.powerState = 2 then u.raise 0x6000 0 (le 1 2 ++ le 1 target ++ le 1 s.exitCause) else u)
        ∧ u.powerState = target ∧ u.flag Reg.pwrState 3 = false ∧ u.fld Reg.pwrState 15 8 = s.exitCause ∧ u.power.exitSince = none ∧ u.power.fired = 0
        ∧ since + (if s.powerState = 2 then 1500000 else 30000000) ≤ u.elapsed
        ∧ (target = 0 → u.reg Reg.pwrDomStat = 0x3FF ∧ u.reg Reg.pwrIsoStat = 0) ∧ (s.powerState = 3 → u.pins.alive = true ∧ u.fld Reg.sysResetCause 7 0 = 8))
    ∧ (s.Ready pwrStatusSpec c p → ∃ b : Bytes, exec (.pwrStatus c p) s = .next (r.reply (originOf c 0x6000) Status.ok b) ∧ b.length = 16
      ∧ num b 0 4 = (r.reg Reg.pwrState).toNat ∧ num b 4 4 = (r.reg Reg.pwrDomStat).toNat ∧ num b 8 4 = (r.reg Reg.pwrWakeSrc).toNat ∧ num b 12 4 = (r.reg Reg.pwrWakeCnt).toNat)
    ∧ (s.Ready clkStatusSpec c p → ∃ b : Bytes, exec (.clkStatus c p) s = .next (r.reply (originOf c 0x6001) Status.ok b) ∧ b.length = 28
      ∧ num b 0 4 = (r.reg Reg.clkSrcStat).toNat ∧ num b 4 4 = (r.reg Reg.clkGateStat).toNat ∧ num b 8 4 = (r.reg Reg.clkPllStat).toNat ∧ num b 12 4 = (r.reg Reg.clkFail).toNat
      ∧ ∀ i, i < 3 → num b (16 + 4 * i) 4 = (r.reg (Reg.clkMonCnt i)).toNat)

/-- Monitor windows and what the failure of a source brings, and the loss and return of a PLL. While the RC oscillator
runs, a window stores its count. A good source fails on a count of 0 or a second bad window running; it is good
again after 100 good windows; else its state stays. The TCXO's failure sets CLK_FAIL and asks for service, and with
a good RC oscillator CTRL goes over to it and every PLL stops; the RC oscillator's failure only sets and raises
CLK_FAIL; the crystal's is that of R458. A PLL that loses lock clears its bit, sets CLK_FAIL with its number, raises
it, is scored and requests an exit (the event's count is free: no rule states it). A PLL whose gate is set relocks;
nothing relocks while CTRL runs on the RC oscillator. -/
def Obligations.ClocksWatched : Prop :=
  ∀ (s : State) (k count : Nat),
    (s.flag Reg.clkPllStat 9 = false ∨ 2 < k → exec (.clockMonitorWindow k count) s = .next s)
    ∧ (s.flag Reg.clkPllStat 9 = true → k ≤ 2 → s.power.failing.length = 3 → s.power.good.length = 3 →
      let bad := s.power.failing.getD k 0; let run := s.power.good.getD k 0; let was := s.flag Reg.clkSrcStat k
      let fails := was = true ∧ goodCount k count = false ∧ (count = 0 ∨ 1 ≤ bad)
      (fails → ∃ b : State, b.fld (Reg.clkMonCnt k) 15 0 = min count 65535 ∧ b.reg Reg.clkSrcStat = s.reg Reg.clkSrcStat
        ∧ (k = 0 → exec (.clockMonitorWindow k count) s = .next (b.tcxoFails count)) ∧ (k = 1 → exec (.clockMonitorWindow k count) s = .next (b.crystalFails count))
        ∧ (k = 2 → ∃ u : State, exec (.clockMonitorWindow k count) s = .next (u.raise 0x6001 3 ([2, 0] ++ le 4 count)) ∧ u.flag Reg.clkSrcStat 2 = false ∧ u.flag Reg.clkFail 2 = true
          ∧ u.flag Reg.clkSrcStat 3 = s.flag Reg.clkSrcStat 3))
      ∧ (¬ fails → ∃ t : State, exec (.clockMonitorWindow k count) s = .next t ∧ t.fld (Reg.clkMonCnt k) 15 0 = min count 65535
        ∧ t.power.failing.getD k 0 = (if goodCount k count then 0 else bad + 1) ∧ t.power.good.getD k 0 = (if goodCount k count then min 100 (run + 1) else 0)
        ∧ t.flag Reg.clkSrcStat k = (was || (goodCount k count && decide (99 ≤ run))) ∧ t.fld (Reg.clkMonCnt k) 31 16 = if goodCount k count then s.fld (Reg.clkMonCnt k) 31 16 else min (s.fld (Reg.clkMonCnt k) 31 16 + 1) 65535))
    ∧ (s.flag Reg.clkSrcStat 2 = false → ∃ u : State, s.tcxoFails count = (u.raise 0x6001 3 ([0, 0] ++ le 4 count)).setSvc 12 ∧ u.flag Reg.clkSrcStat 0 = false ∧ u.flag Reg.clkFail 0 = true
      ∧ u.flag Reg.clkSrcStat 3 = s.flag Reg.clkSrcStat 3)
    ∧ (s.flag Reg.clkSrcStat 2 = true → ∃ u : State, s.tcxoFails count = ((u.wakeSource 6).raise 0x6001 3 ([0, 0] ++ le 4 count)).setSvc 12 ∧ u.flag Reg.clkSrcStat 3 = true ∧ u.fld Reg.clkPllStat 8 0 = 0)
    ∧ (s.flag Reg.clkPllStat k = true → k < 9 → ∃ (x : Nat) (u : State), exec (.pllLockLoss k) s = .next (((u.raise 0x6001 3 ([3] ++ le 1 k ++ le 4 x)).unitError 9 k).wakeSource 6)
      ∧ u.flag Reg.clkPllStat k = false ∧ u.flag Reg.clkFail 3 = true ∧ u.fld Reg.clkFail 15 8 = k ∧ ∀ j, j < 10 → j ≠ k → u.flag Reg.clkPllStat j = s.flag Reg.clkPllStat j)
    ∧ (s.flag Reg.clkPllStat k = false ∨ 9 ≤ k → exec (.pllLockLoss k) s = .next s)
    ∧ (k < 9 → s.flag Reg.clkPllStat k = false → s.flag Reg.clkSrcStat 3 = false → s.powerState ≤ 2 → (∀ g, pllGate k = some g → s.flag Reg.clkGateCtl g = true) → (pllGate k = none → s.awake = true ∨ k = 0 ∨ k = 1 ∨ k = 4) →
      ∃ t : State, exec (.pllRelock k) s = .next t ∧ t.flag Reg.clkPllStat k = true ∧ ∀ j, j < 10 → j ≠ k → t.flag Reg.clkPllStat j = s.flag Reg.clkPllStat j)
    ∧ (s.flag Reg.clkSrcStat 3 = true → exec (.pllRelock k) s = .next s)

/-- What brings a reset about, and what each kind keeps and clears. A reset ends every session without replies and
discards every transaction, share and armed commit; it records its cause and waits for its start. A cold one empties
DRAM and the key pages and lets every output go; a warm one keeps DRAM, keys and network time and counts itself;
with hold each driven output is latched, without hold none. RESET_START begins the reset that is due, in Backup only
a cold one; a supply loss and RESET_N are cold; watchdog and confirmation expiry are warm, the latter rejecting its
slot. Power-on reset takes 2 ms. A PCIe fundamental reset closes PCIe sessions and nothing more than an exit source.
Firmware's kick restarts the watchdog. -/
def Obligations.ResetsTaken : Prop :=
  ∀ (s : State) (plan : ResetPlan),
    (let t := s.beginReset plan;
      t.boot.starting = some plan ∧ t.host.sessions = List.replicate 4 {} ∧ t.host.orphans = [] ∧ t.chain.shares = [] ∧ t.pending = s.pending ∧ t.elapsed = s.elapsed
      ∧ (plan.cause < 256 → t.fld Reg.sysResetCause 7 0 = plan.cause)
      ∧ (plan.cold = true → t.dram.cells = [] ∧ t.cipher.keys = [] ∧ t.time.now = 0 ∧ ∀ k, k < 16 → (t.output k).held = none ∧ t.flag (Reg.outVal k) 16 = false)
      ∧ (plan.cold = false → plan.cause < 256 → t.dram.cells = s.dram.cells ∧ t.cipher.keys = s.cipher.keys ∧ t.time.now = s.time.now
        ∧ t.fld Reg.sysResetCause 31 16 = min 65535 (s.fld Reg.sysResetCause 31 16 + 1) ∧ t.flag Reg.sysResetCause 8 = plan.hold
        ∧ (s.flag Reg.clkSrcStat 3 = false → s.meas.outs.length = 16 → ∀ k, k < 16 → (t.output k).held.isSome = (plan.hold && (s.flag (Reg.outVal k) 16 || (s.output k).held.isSome)))))
    ∧ (s.boot.reset = none → exec .resetStart s = .next s)
    ∧ (s.boot.reset = some plan → exec .resetStart s = .next (if s.powerState = 4 ∧ plan.cold = false then s else (s.reachElapsed plan.due).beginReset plan))
    ∧ (∀ supply, supply < 8 → exec (.supplyLoss supply) s = .next (s.beginReset ⟨true, false, 0, s.elapsed⟩))
    ∧ exec .resetNAssert s = .next (s.beginReset ⟨true, false, 1, s.elapsed⟩)
    ∧ (∀ test : Bool, s.awaitsStart = true → ∃ t : State, exec (.powerOnReset test) s = .next t ∧ t.elapsed = 2000000 + s.elapsed ∧ t.boot.testmode = test ∧ (test = true → t.pins.alive = false ∧ ∀ k, k < 16 → t.flag (Reg.outVal k) 16 = false))
    ∧ (∃ u : State, exec .pcieFundamentalReset s = .next (u.wakeSource 3) ∧ u.dram = s.dram ∧ u.elapsed = s.elapsed ∧ u.host.fwState = s.host.fwState
      ∧ ∀ n, n < 4 → (match (s.session n).ep with | some (.pcie _) => (u.session n).ep = none | _ => (u.session n).ep = (s.session n).ep))
    ∧ (∀ mask value : Word, s.host.fwState = 1 → s.boot.starting = none → value &&& mask = 0xA5C3 →
      exec (.wdtKick none mask value) s = .next { s with boot := { s.boot with watchdogDue := s.elapsed + 1000000 * s.fld Reg.sysWdtCfg 15 0 } })
    ∧ (s.host.fwState = 1 → s.boot.starting = none → s.powerState ≤ 2 → s.flag Reg.sysWdtCfg 16 = true → let e := s.reachElapsed s.boot.watchdogDue
      exec .watchdogExpiry s = .next (e.beginReset ⟨false, s.flag Reg.sysWdtCfg 17, 6, e.elapsed⟩))
    ∧ (s.flag Reg.sysWdtCfg 16 = false → exec .watchdogExpiry s = .next s)
    ∧ (∀ due r, s.boot.confirmDue = some due → s.boot.starting = none → s.running < s.boot.slots.length → (s.slot s.running).record = some r → ∃ b : State, (b.slot s.running).record = some { r with state := 0 }
      ∧ due ≤ b.elapsed ∧ exec .confirmTimeout s = .next (b.beginReset ⟨false, true, 7, b.elapsed⟩))

/-- Cold and warm starts, and the commands of firmware and configuration. A start without a slot to run halts with
DW_FW_STATE 3; one with a slot (and DRAM, for a cold start) runs it: DW_FW_STATE 1, ALIVE_N low. FW_WRITE changes
the slot that does not run, in order; an activation that verifies puts it in trial one sequence up and plans the
reset, else leaves both records; FW_CONFIRM confirms and raises the floor; FW_STATUS returns 172 bytes. The flash
has one holder. CFG_WRITE fills the staging buffer; CFG_SAVE and CFG_COMMIT_IMAGE write the role that does not hold
the newest image, the latter after form (PARAM_RANGE), check word (BAD_CHECK) and records; a read-back that agrees
ends them; a first that differs erases again. CFG_READ returns bytes. -/
def Obligations.DeviceStarted : Prop :=
  ∀ (s : State) (c : Cmd) (p : Bytes),
    let r := s.received c; let other := r.otherSlot
    (∀ found : StartUp, s.awaitsStart = true → s.boot.testmode = false → ∃ (b : State) (rejected : List (Nat × Nat)) (plan : ResetPlan),
      (b.startBlocked = true ∨ b.chooseSlot = none ∨ found.mr8Ok = false → exec (.coldStart found) s = .next b.halt ∧ b.halt.host.fwState = 3 ∧ b.halt.pins.alive = false)
      ∧ (∀ k, b.startBlocked = false → b.chooseSlot = some k → found.mr8Ok = true → found.trainFail.getD 0 0 = 0 ∨ found.trainFail.getD 1 0 = 0 →
        let t := ((b.trainDram found).startFirmware k rejected plan found.startMs found.walk).reportTraining found
        exec (.coldStart found) s = .next t ∧ t.host.fwState = 1 ∧ t.pins.alive = true ∧ t.boot.starting = none))
    ∧ (∀ walk plan, s.boot.starting = some plan → plan.cold = false → s.boot.testmode = false → s.flag Reg.clkSrcStat 3 = false → ∃ (b : State) (rejected : List (Nat × Nat)),
      (b.startBlocked = true ∨ b.chooseSlot = none → exec (.warmReset walk) s = .next b.halt)
      ∧ (∀ k, b.startBlocked = false → b.chooseSlot = some k → ∃ d : State, b.elapsed + b.warmTime k ≤ d.elapsed
        ∧ exec (.warmReset walk) s = .next (d.startFirmware k rejected plan (d.warmTime k / 1000000) walk)))
    ∧ (∀ k, s.chooseSlot = some k → k < 2 ∧ s.candidate k = true ∧ ∀ j, j < 2 → s.candidate j = true → s.slotSeq j < 2 ^ 32 → s.slotSeq k < 2 ^ 32 → seqNewer (s.slotSeq j) (s.slotSeq k) = false)
    ∧ (s.Ready fwWriteSpec c p → r.boot.slots.length = 2 → let off := num p 0 4
      (off ≠ 0 ∧ off < (r.slot other).next → exec (.fwWrite c p) s = .next (r.refuse (originOf c 0x0400) Status.paramRange []))
      ∧ (¬ (off ≠ 0 ∧ off < (r.slot other).next) → (r.inTrial = true → exec (.fwWrite c p) s = .next (r.refuse (originOf c 0x0400) Status.notPermitted []))
        ∧ (r.inTrial = false → (∀ h, r.flashBusy = some h → exec (.fwWrite c p) s = .next (r.refuse (originOf c 0x0400) Status.resourceBusy h))
          ∧ (r.flashBusy = none → ∃ t : State, exec (.fwWrite c p) s = .next (t.reply (originOf c 0x0400) Status.ok []) ∧ slice (t.slot other).image off (p.length - 4) = p.drop 4
            ∧ t.slot r.running = r.slot r.running ∧ (off = 0 → (t.slot other).record = none)))))
    ∧ (∀ n kind, s.boot.activating = some (n, kind) → s.boot.slots.length = 2 → let image := flashBytes (s.slot s.otherSlot).image 0 n; ∃ u : State,
      (fwSigned image = true ∧ s.fwFresh image = true → let seq := (s.slotSeq s.running + 1) % 2 ^ 32
        (u.slot s.otherSlot).record = some ⟨seq, 1, 0⟩ ∧ u.slot s.running = s.slot s.running
        ∧ exec .firmwareVerifyDone s = .next (let v := u.finishWork Work.isActivate Status.ok (le 4 seq); v.planReset v.boot.halted (kind == 2 && !v.boot.halted) 5))
      ∧ (¬ (fwSigned image = true ∧ s.fwFresh image = true) → u.boot.slots = s.boot.slots ∧ exec .firmwareVerifyDone s = .next (u.finishWork Work.isActivate Status.notPermitted [])))
    ∧ (s.Ready fwConfirmSpec c p →
      (r.inTrial = false → exec (.fwConfirm c p) s = .next (r.reply (originOf c 0x0402) Status.ok (le 4 (r.reg Reg.secRollback).toNat)))
      ∧ (r.inTrial = true → r.boot.slots.length = 2 → r.sec.rollback.length < 64 → let level := fwLevel (r.slot r.running).image
        ∃ t : State, exec (.fwConfirm c p) s = .next (t.reply (originOf c 0x0402) Status.ok (le 4 (max level (r.reg Reg.secRollback).toNat)))
          ∧ t.inTrial = false ∧ t.boot.confirmDue = none ∧ (∀ x, (r.slot r.running).record = some x → (t.slot r.running).record = some { x with state := 2 }) ∧ (t.reg Reg.secRollback).toNat = max level (r.reg Reg.secRollback).toNat))
    ∧ (s.Ready fwStatusSpec c p → ∃ b : Bytes, exec (.fwStatus c p) s = .next (r.reply (originOf c 0x0403) Status.ok b) ∧ b.length = 172 ∧ num b 40 1 = r.running
      ∧ ∀ x, (r.slot 0).record = some x → num b 0 4 = 0x4C445352 ∧ num b 4 4 = x.seq % 2 ^ 32 ∧ num b 8 1 = x.state % 256 ∧ num b 9 1 = x.trialBoots % 256 ∧ num b 16 4 = crc32c (b.take 16))
    ∧ (s.Ready cfgSaveSpec c p → let image := makeImage r.nextSeq (r.reg Reg.sysFwVer).toNat r.seconds r.runningConfig
      (∀ h, r.flashBusy = some h → exec (.cfgSave c p) s = .next (r.refuse (originOf c 0x0404) Status.resourceBusy h))
      ∧ (∀ role, r.flashBusy = none → r.targetRole = some role → image.length ≤ 0x40000 → exec (.cfgSave c p) s = .next (((r.beginWrite role image).start cfgSaveSpec c .cfgSave).acceptReply (originOf c 0x0404))))
    ∧ (s.Ready cfgWriteSpec c p → ∃ t : State, exec (.cfgWrite c p) s = .next (t.reply (originOf c 0x0405) Status.ok [])
      ∧ ∀ x, Memory.read t.boot.cfgStage 0 x = if num p 0 4 ≤ x ∧ x < num p 0 4 + (p.length - 4) then (p.drop 4).getD (x - num p 0 4) 0 else Memory.read r.boot.cfgStage 0 x)
    ∧ (s.Ready cfgCommitSpec c p → num p 0 4 ≤ 0x40000 → let image := Memory.readBytes r.boot.cfgStage 0 0 (num p 0 4)
      (imageForm image = false → exec (.cfgCommitImage c p) s = .next (r.refuse (originOf c 0x0406) Status.paramRange []))
      ∧ (imageForm image = true → imageOk image = false → exec (.cfgCommitImage c p) s = .next (r.refuse (originOf c 0x0406) Status.badCheck []))
      ∧ (imageOk image = true → (∀ x, r.badRecord (imageRecords image) = some x → exec (.cfgCommitImage c p) s = .next (r.refuse (originOf c 0x0406) Status.paramRange (le 4 x.offset)))
        ∧ (∀ role, r.badRecord (imageRecords image) = none → r.flashBusy = none → r.targetRole = some role →
          exec (.cfgCommitImage c p) s = .next (((r.beginWrite role (reseal image r.nextSeq)).start cfgCommitSpec c .cfgCommit).acceptReply (originOf c 0x0406)))))
    ∧ (∀ w, s.boot.writing = some w → w.role < 2 → s.areaOf w.role < s.boot.areas.length → (s.boot.areas.getD (s.areaOf w.role) {}).retired = false →
      (∃ (u : State) (status : Nat), exec (.configFlashWriteDone true) s = .next (u.finishWork Work.writesConfig status (le 1 w.role ++ le 3 0 ++ le 4 (imageSeq w.image) ++ le 4 (num w.image 12 4)))
        ∧ u.roleImage w.role = w.image ∧ u.flag Reg.sysBootStat 6 = false ∧ u.flashBusy = none ∧ u.boot.writing = none)
      ∧ (w.failures = 0 → ∃ t : State, exec (.configFlashWriteDone false) s = .next t ∧ t.boot.writing = some { w with failures := 1 } ∧ t.roleImage w.role = []))
    ∧ (s.Ready cfgReadSpec c p → ∃ b : Bytes, exec (.cfgRead c p) s = .next (r.reply (originOf c 0x0407) Status.ok b) ∧ b.length = num p 6 2 ∧ ∀ i x, i < num p 6 2 → (r.roleImage (num p 0 1))[num p 2 4 + i]? = some x → b.getD i 0 = x)

/-- Lifecycle transitions, identity, certificate, the debug authority and the key-transport key. A transition only goes
forward, as Table 19-2; one that is not made, or whose requirement is not met, is refused with NOT_PERMITTED; one
that needs a token goes through the token check. Its effects come first, the state fuses last, with
LIFECYCLE_CHANGED: beyond Provisioned the key pages and the key-transport key are erased, entering Deployed seals,
entering Scrapped zeroises the private keys, and each closes debug. The identity and the debug authority are written
once. A device certificate is stored only if valid for this device. KTK_LOAD takes a plaintext of 32 bytes and else
gives PARAM_RANGE. SEC_STAGE_WRITE changes the bytes it names. -/
def Obligations.LifecycleHeld : Prop :=
  ∀ (s : State) (c : Cmd) (p : Bytes), let r := s.received c
    (s.Ready lifecycleSetSpec c p → let target := num p 0 1; let len := num p 4 4
      (∀ h, r.holder (fun (o : Outstanding) => o.work.isLifecycle) = some h → exec (.lifecycleSet c p) s = .next (r.refuse (originOf c 0x0411) Status.resourceBusy h))
      ∧ (r.holder (fun (o : Outstanding) => o.work.isLifecycle) = none →
        (r.transitionToken target = none → exec (.lifecycleSet c p) s = .next (r.refuse (originOf c 0x0411) Status.notPermitted []))
        ∧ (r.transitionToken target = some 0 → exec (.lifecycleSet c p) s = .next (((r.beginTransition target).start lifecycleSetSpec c (.lifecycle target)).acceptReply (originOf c 0x0411)))
        ∧ (∀ kind, r.transitionToken target = some kind → kind ≠ 0 →
          (len = 0 → exec (.lifecycleSet c p) s = .next (r.refuse (originOf c 0x0411) Status.notPermitted []))
          ∧ (∀ fault body u, len ≠ 0 → r.checkToken kind len = (some fault, body, u) → exec (.lifecycleSet c p) s = .next ((u.bump Reg.sysCmdErr).reply (originOf c 0x0411) fault []))
          ∧ (∀ body u, len ≠ 0 → r.checkToken kind len = (none, body, u) →
            exec (.lifecycleSet c p) s = .next (((u.beginTransition target).start lifecycleSetSpec c (.lifecycle target)).acceptReply (originOf c 0x0411))))))
    ∧ (∀ target kind, s.transitionToken target = some kind → s.lifecycle < target ∧ target ≤ 4 ∧ (s.lifecycle = 2 → kind = target) ∧ (s.lifecycle ≠ 2 → kind = 0))
    ∧ (∀ target, let t := s.beginTransition target
      t.sec.transition = some target ∧ t.lifecycle = s.lifecycle ∧ t.debugLevel = 0 ∧ t.sec.debugHalted = [] ∧ (target = 2 → t.sec.sealedValues.isSome = true) ∧ (target = 4 → t.sec.privateKeys = false)
      ∧ (target = 3 → ∀ i, i < 8 → t.reg (Reg.rtcBkpData i) = 0) ∧ (target = 2 ∨ target = 3 ∨ target = 4 → t.sec.transportKey = none ∧ ∀ k, k < 16 → t.pageLoaded k = false))
    ∧ (∀ target, s.sec.transition = some target → target < 8 → ∃ u : State, u.lifecycle = target ∧ u.sec.transition = none
      ∧ exec .lifecycleTransitionDone s = .next ((u.finishWork Work.isLifecycle Status.ok (le 1 target)).raise 0x0411 1 (le 1 s.lifecycle ++ le 1 target)))
    ∧ (s.Ready identityGenSpec c p → (r.sec.keyPairs.isSome = true → exec (.identityGen c p) s = .next (r.refuse (originOf c 0x0412) Status.notPermitted []))
      ∧ (r.sec.keyPairs = none → ∃ (t : State) (id : Bytes), exec (.identityGen c p) s = .next (t.reply (originOf c 0x0412) Status.ok id) ∧ t.sec.keyPairs.isSome = true ∧ t.sec.privateKeys = true
        ∧ t.flag Reg.secLifecycle 3 = true ∧ ∀ i, i < 4 → t.reg (Reg.secId i) = word (num id (4 * i) 4)))
    ∧ (s.Ready devCertWriteSpec c p → let cert := r.staged 0 17504
      (r.deviceCertOk cert = false → exec (.devCertWrite c p) s = .next (r.refuse (originOf c 0x0413) Status.notPermitted []))
      ∧ (r.deviceCertOk cert = true → ∃ t : State, exec (.devCertWrite c p) s = .next (t.reply (originOf c 0x0413) Status.ok []) ∧ t.flag Reg.secLifecycle 4 = true ∧ ∀ x ∈ t.boot.sealedCopies, x.deviceCert = cert))
    ∧ (s.Ready devCertReadSpec c p → exec (.devCertRead c p) s = .next (r.reply (originOf c 0x0414) Status.ok (slice r.deviceCert (num p 0 4) (num p 4 2))))
    ∧ (s.Ready secStageWriteSpec c p → ∃ t : State, exec (.secStageWrite c p) s = .next (t.reply (originOf c 0x0410) Status.ok [])
      ∧ ∀ x, Memory.read t.sec.stage 0 x = if num p 0 4 ≤ x ∧ x < num p 0 4 + (p.length - 4) then (p.drop 4).getD (x - num p 0 4) 0 else Memory.read r.sec.stage 0 x)
    ∧ (s.Ready dbgAuthSetSpec c p → (r.sec.debugAuthority.isSome = true → exec (.dbgAuthSet c p) s = .next (r.refuse (originOf c 0x0418) Status.notPermitted []))
      ∧ (r.sec.debugAuthority = none → ∃ t : State, exec (.dbgAuthSet c p) s = .next (t.reply (originOf c 0x0418) Status.ok []) ∧ t.sec.debugAuthority = some (p.take 48, p.drop 48) ∧ t.flag Reg.secLifecycle 5 = true))
    ∧ (s.Ready ktkLoadSpec c p → (r.loadClosed = true → exec (.ktkLoad c p) s = .next (r.refuse (originOf c 0x0417) Status.notPermitted []))
      ∧ (r.loadClosed = false → let plain := if r.sec.privateKeys then Config.oaepDecrypt (r.sec.keyPairs.getD 0) p else none
        ((plain = none ∨ ∃ k, plain = some k ∧ k.length ≠ 32) → exec (.ktkLoad c p) s = .next (r.refuse (originOf c 0x0417) Status.paramRange []))
        ∧ (∀ k, plain = some k → k.length = 32 → ∃ t : State, exec (.ktkLoad c p) s = .next (t.reply (originOf c 0x0417) Status.ok (le 3 (checkValue k))) ∧ t.sec.transportKey = some k ∧ t.flag Reg.secLifecycle 6 = true)))

/-- Tokens, debug levels and accesses, attestation reports and in-band authentication. A token check clears the staging
buffer and consumes the nonce unless its form fails. A level that needs no token is granted for a token length of 0;
else a valid token grants it with its lifetime. DBG_LOCK and the end of the lifetime close debug. An access beyond
the level is counted and changes nothing; none reaches SEC; at Full a processor is halted. DBG_NONCE replaces the
nonce, void after 600 s. A signed report answers its length and is read by its session. SEC_AUTH issues a challenge;
each check consumes it; a right tag authenticates and is answered with the device's own, a wrong one is refused and
counted. A session not authenticated in time closes with reason 3. -/
def Obligations.DebugAndAttestation : Prop :=
  ∀ (s : State) (c : Cmd) (p : Bytes), let r := s.received c
    (∀ kind len, let x := s.checkToken kind len
      x.2.2.sec.stage = [] ∧ (x.1 = some Status.paramRange ∨ x.1 = some Status.notPermitted ∨ x.1 = none) ∧ (x.1 ≠ some Status.paramRange → x.2.2.sec.nonce = none) ∧ (x.1 = some Status.paramRange → x.2.2.sec.nonce = s.sec.nonce))
    ∧ (∀ level, s.freeLevel level = true ↔ s.lifecycle = 0 ∨ (level = 1 ∧ s.lifecycle ≠ 2))
    ∧ (∀ level minutes, level ≤ 2 → let g := s.grant level minutes
      g.debugLevel = level ∧ (level ≠ 2 ∨ s.lifecycle ≠ 2 → g.sec.levelDue = (if minutes = 0 then none else some (s.elapsed + 60000000000 * minutes))) ∧ (level = 2 → s.lifecycle ≠ 2 → g.flag Reg.secDbgStat 3 = true))
    ∧ (s.Ready dbgUnlockSpec c p → let level := num p 0 1; let len := num p 4 4
      (r.freeLevel level = true → (len = 0 → exec (.dbgUnlock c p) s = .next ((r.clearStaged.grant level 0).reply (originOf c 0x041A) Status.ok [0, 0]))
        ∧ (len ≠ 0 → exec (.dbgUnlock c p) s = .next (r.refuse (originOf c 0x041A) Status.paramRange [])))
      ∧ (r.freeLevel level = false → (∀ fault body u, r.checkToken level len = (some fault, body, u) → exec (.dbgUnlock c p) s = .next ((u.bump Reg.sysCmdErr).reply (originOf c 0x041A) fault []))
        ∧ (∀ body u, r.checkToken level len = (none, body, u) → exec (.dbgUnlock c p) s = .next ((u.grant level (num body 6 2)).reply (originOf c 0x041A) Status.ok (le 2 (num body 6 2))))))
    ∧ (s.Ready dbgLockSpec c p → exec (.dbgLock c p) s = .next ((r.closeDebug 1).reply (originOf c 0x041B) Status.ok []))
    ∧ (∀ cause, (s.closeDebug cause).debugLevel = 0 ∧ (s.closeDebug cause).sec.debugHalted = [] ∧ (s.closeDebug cause).sec.levelDue = none)
    ∧ (∀ due, s.sec.levelDue = some due → exec .debugLifetimeExpiry s = .next ((s.reachElapsed due).closeDebug 2))
    ∧ (s.Ready dbgNonceSpec c p → ∃ (t : State) (n : Bytes), exec (.dbgNonce c p) s = .next (t.reply (originOf c 0x0419) Status.ok n) ∧ n.length = 32 ∧ t.sec.nonce = some n
      ∧ t.sec.nonceDue = 600000000000 + r.elapsed ∧ t.flag Reg.secDbgStat 2 = true)
    ∧ (∀ n, s.sec.nonce = some n → ∃ t : State, exec .dbgNonceExpiry s = .next t ∧ t.sec.nonce = none ∧ s.sec.nonceDue ≤ t.elapsed ∧ t.flag Reg.secDbgStat 2 = false)
    ∧ (∀ access, (3 ≤ s.powerState → exec (.debugAccess access) s = .next s)
      ∧ (s.powerState < 3 → (debugNeed access = none → exec (.debugAccess access) s = .next (s.bump (Reg.secCnt 6)))
        ∧ (∀ n, debugNeed access = some n → s.debugLevel < n → exec (.debugAccess access) s = .next (s.bump (Reg.secCnt 6)))
        ∧ (∀ n, debugNeed access = some n → n ≤ s.debugLevel → n < 2 → exec (.debugAccess access) s = .next s)
        ∧ (∀ k, access = .halt k → s.debugLevel = 2 → k < 2 → ∃ t : State, exec (.debugAccess access) s = .next t ∧ k ∈ t.sec.debugHalted ∧ t.debugLevel = 2)
        ∧ (∀ k, access = .resume k → s.debugLevel = 2 → k < 2 → ∃ t : State, exec (.debugAccess access) s = .next t ∧ k ∉ t.sec.debugHalted)))
    ∧ (∀ a v, islandOf a = some .sec → debugNeed (.readReg a) = none ∧ debugNeed (.writeReg a v) = none)
    ∧ (∀ body o, s.sec.attesting = some body → (s.outstandingOf fun (o : Outstanding) => o.work == .attest).head? = some o → o.origin.session < s.host.sessions.length → ∃ u : State,
      exec .attestSignDone s = .next (u.finish o Status.ok (le 4 (16608 + body.length))) ∧ u.sec.attesting = none
        ∧ (u.session o.origin.session).report.length = 16608 + body.length ∧ (u.session o.origin.session).report.take body.length = body)
    ∧ (∀ nonce, nonce.length = 32 → num (s.attestBody nonce) 0 4 = 0x4C444154 ∧ slice (s.attestBody nonce) 24 32 = nonce ∧ num (s.attestBody nonce) 6 1 = s.lifecycle ∧ num (s.attestBody nonce) 7 1 = s.debugLevel)
    ∧ (s.Ready attestReadSpec c p → let report := (r.session c.session).report
      (report = [] → exec (.attestRead c p) s = .next (r.refuse (originOf c 0x0416) Status.paramRange []))
      ∧ (report ≠ [] → exec (.attestRead c p) s = .next (r.reply (originOf c 0x0416) Status.ok (slice report (num p 0 4) (num p 4 2)))))
    ∧ (s.Ready secAuthSpec c p → c.session < r.host.sessions.length → let n := c.session; let page := r.fld Reg.secInbandCfg 3 0; let key := (Table.find r.cipher.keys page).getD []; let nh := slice p 4 16
      let usable := r.pageLoaded page && r.fld (Reg.ciphPageCfg page) 5 2 == 6 && r.flag (Reg.ciphPageCfg page) 9
      (num p 0 1 = 0 → ∃ (t : State) (nd : Bytes), exec (.secAuth c p) s = .next (t.reply (originOf c 0x041C) Status.ok nd) ∧ nd.length = 16 ∧ (t.session n).challenge = some nd)
      ∧ (∀ nd, num p 0 1 = 1 → (r.session n).challenge = some nd → usable = true → cmac key (nd ++ nh ++ r.tagTail n) = slice p 20 16 → ∃ t : State,
        exec (.secAuth c p) s = .next (t.reply (originOf c 0x041C) Status.ok (cmac key (nh ++ nd ++ r.tagTail n))) ∧ (t.session n).authenticated = true ∧ (t.session n).challenge = none ∧ (t.session n).authDue = none)
      ∧ (num p 0 1 = 1 → (∀ nd, (r.session n).challenge = some nd → usable = false ∨ cmac key (nd ++ nh ++ r.tagTail n) ≠ slice p 20 16) → ∃ u : State, (u.session n).challenge = none
        ∧ (u.session n).authenticated = (r.session n).authenticated ∧ exec (.secAuth c p) s = .next (((u.authFails n).bump Reg.sysCmdErr).reply (originOf c 0x041C) Status.notPermitted [])))
    ∧ (∀ n due, (s.session n).authDue = some due → (s.session n).authenticated = false → s.isOpen n = true → exec (.authTimeout n) s = .next ((s.reachElapsed due).endSession n 3))

/-- The chain: enumeration, its status, its ports, the loss of a link and its return. CHAIN_ENUM belongs to the head and
waits for no PENDING chain transaction (RESOURCE_BUSY); it numbers the devices of its walk in order, head 0, at most
64, and answers their count and flags. An identity in the table takes its former number again, a new one the lowest
free. CHAIN_STATUS answers 84 bytes; paths are shortest, a tie goes to CRD_DN. CHAIN_PORT_SET changes the port's
enable (NOT_PERMITTED for a port excluded in Trim); clearing it acts as a link loss. A lost link clears the port,
counts, cuts the paths at the break, resends unacknowledged frames and tells the others; the head of a closed ring
raises CHAIN_REROUTED. In a closed ring one loss leaves every device reachable. A regained link is used unless
disabled or miswired. The control messages that carry this are the model's form (log entry 26). -/
def Obligations.ChainHeld : Prop :=
  ∀ (s : State) (c : Cmd) (p : Bytes), let r := s.received c
    (∀ walk, s.Ready chainEnumSpec c p →
      (r.head = false → exec (.chainEnum c p walk) s = .next (r.refuse (originOf c 0x0300) Status.notPermitted []))
      ∧ (∀ h, r.head = true → r.chainCommit = some h → exec (.chainEnum c p walk) s = .next (r.refuse (originOf c 0x0300) Status.resourceBusy h))
      ∧ (r.head = true → r.chainCommit = none → exec (.chainEnum c p walk) s = .next ((r.enumerate walk).1.reply (originOf c 0x0300) Status.ok (r.enumerate walk).2)))
    ∧ (∀ walk, let ids := if walk.closed then walk.down else walk.down ++ walk.up
      let t := (s.enumerate walk).1
      (s.enumerate walk).2 = le 1 (min ids.length 63 + 1) ++ le 1 (bitOf walk.closed + 2 * bitOf (decide (63 < ids.length)) + 4 * bitOf walk.conflict)
      ∧ t.chain.down = (List.range (min walk.down.length 63)).map (· + 1) ∧ (walk.closed = true → t.chain.up = t.chain.down.reverse)
      ∧ Table.find t.chain.identities 0 = some s.identity ∧ ∀ i, i < 63 → Table.find t.chain.identities (i + 1) = (ids[i]?).map (padTo 16))
    ∧ (∀ (t : Table Bytes) (id : Bytes) (d : Nat), (numberOf t id = some d → assignNumbers t [id] = ([(d, true)], t))
      ∧ (numberOf t id = none → freeNumber t = some d → assignNumbers t [id] = ([(d, false)], Table.put t d id)
        ∧ Table.find t d = none ∧ ∀ k, k < d → (Table.find t k).isSome = true))
    ∧ (s.Ready chainStatusSpec c p → ∃ b : Bytes, exec (.chainStatus c p) s = .next (r.reply (originOf c 0x0301) Status.ok b) ∧ b.length = 84
      ∧ num b 0 4 = (r.reg Reg.chainStat).toNat ∧ num b 4 4 = (r.reg Reg.chainMapLo).toNat ∧ num b 8 4 = (r.reg Reg.chainMapHi).toNat ∧ num b 12 4 = (r.reg Reg.chainRouteLo).toNat
      ∧ num b 16 4 = (r.reg Reg.chainRouteHi).toNat ∧ ∀ d, d < 64 → num b (20 + d) 1 = (r.hopsTo d).getD 0xFF % 256)
    ∧ (∀ d a b, hopsIn s.chain.down d = some a → hopsIn s.chain.up d = some b → (s.throughUp d = true ↔ b < a) ∧ (d ≠ s.device → s.hopsTo d = some (min a b)))
    ∧ (s.Ready chainPortSetSpec c p → let q := num p 0 1; let e := num p 1 1
      let old := r.reg Reg.chainCtl; let new := withField old (8 + q) (8 + q) e; let shut := r.trimmed (7 + q) && e == 1 && !r.flag Reg.chainCtl (8 + q)
      (shut = true → exec (.chainPortSet c p) s = .next (r.refuse (originOf c 0x0302) Status.notPermitted []))
      ∧ (shut = false → exec (.chainPortSet c p) s = .next (((r.setReg Reg.chainCtl new).chainCtlWritten old new).reply (originOf c 0x0302) Status.ok []))
      ∧ (e = 0 → r.flag Reg.chainCtl (8 + q) = true → ∀ t : State, t.chainCtlWritten old new = t.chainLost q 0))
    ∧ (∀ port lost, port < 2 → (s.chainLink port = false → s.flag (Reg.chainPortStat port) 0 = false → exec (.chainLinkLoss port lost) s = .next s)
      ∧ (s.chainLink port = true → let near := s.fld (Reg.chainPortStat port) 15 8
        ∃ u : State, u.chainLink port = false ∧ u.flag (Reg.chainPortStat port) 0 = false ∧ u.fld (Reg.chainPortStat port) 31 16 = min 65535 (s.fld (Reg.chainPortStat port) 31 16 + 1) ∧ u.chain = s.chain
          ∧ (s.reg64 (Reg.chainPortCntLo port 4) + lost) % 2 ^ 64 = u.reg64 (Reg.chainPortCntLo port 4)
          ∧ exec (.chainLinkLoss port lost) s = .next ((((u.chainBroken s.device port near).setFld (Reg.chainPortStat port) 15 8 0xFF).resendUnacked port).tellAll (.broken port near))))
    ∧ (∀ device port near, let lists := s.breakPaths device port near; let t := s.applyTopology lists.1 lists.2 false true
      (s.flag Reg.chainStat 15 = true → s.head = true → s.chainBroken device port near = t.raise 0x0301 1 (le 1 device ++ le 1 port ++ le 1 near)) ∧ (s.flag Reg.chainStat 15 = false → s.chainBroken device port near = t))
    ∧ (∀ (a b x : Nat) (l : List Nat), untilBreak a b x l <+: l ∧ (∀ i, (x :: untilBreak a b x l)[i]? = some a → (x :: untilBreak a b x l)[i + 1]? ≠ some b)
      ∧ ((x :: l).Nodup → (∃ i, (x :: l ++ [x])[i]? = some a ∧ (x :: l ++ [x])[i + 1]? = some b) → ∀ d, d ∈ l → d ∈ untilBreak a b x l ∨ d ∈ untilBreak b a x l.reverse))
    ∧ (∀ port beyond ring, port < 2 → let up := s.flag Reg.chainCtl (8 + port) && !s.chainLink port && !s.flag (Reg.chainPortStat port) 2 && s.on .link
      (up = false → exec (.chainLinkUp port beyond ring) s = .next s)
      ∧ (up = true → let u := (s.setFlag (Reg.chainPortStat port) 0 true).setFlag (Reg.chainPortStat port) 1 true
        u.chainLink port = true ∧ (s.head = true → exec (.chainLinkUp port beyond ring) s = .next (u.join s.device port beyond ring))
        ∧ (s.head = false → s.numbered = true → s.present 0 = true → exec (.chainLinkUp port beyond ring) s = .next (u.sendControl 0 (.found port beyond ring)))
        ∧ (s.head = false → s.numbered = false → exec (.chainLinkUp port beyond ring) s = .next u)))

/-- Cordonnet frames: received, relayed, acknowledged and resent; delays, time blocks and the tags of devices that
leave. A frame that arrives on a port with a link is discarded and counted in rx_crc_err if its CRC fails, else
counted in rx_frames. A frame whose source is this device, or whose hop count is 0, is dropped and counted in
hop_drop. A data frame for this device enters forwarding from the device's port, a flood does so and is passed on;
any other frame is relayed out of the other port with one hop less. Kinds 2 and 3 are acknowledged, and one whose
sequence has been accepted is discarded. An acknowledgement frees the frame it names (its own control message: log
entry 26). A frame unacknowledged after 20 µs is sent once more. The delay of a port is filtered by one eighth. A
time block changes no state of the head. A tag outstanding at a device that left ends with NO_SUCH_DEVICE, result 1,
1 ms after. -/
def Obligations.ChainFramesCarried : Prop :=
  ∀ (s : State) (port : Nat), port < 2 →
    (∀ frame control, let kind := num frame 0 1 % 4; let src := num frame 1 1; let dest := num frame 2 1; let hop := num frame 3 1
      let content := slice frame 12 (num frame 8 2); let live := s.on .link && s.chainLink port; let r := s.chainCount port 1
      let good := decide (16 ≤ frame.length) && crc32 (frame.take (frame.length - 4)) == ofLe (frame.drop (frame.length - 4))
      (live = false → exec (.cordonnetFrameRx port frame control) s = .next s)
      ∧ (live = true → good = false → exec (.cordonnetFrameRx port frame control) s = .next (s.chainCount port 2))
      ∧ (live = true → good = true →
        (∀ q, control = some (.ack q) → ∃ t : State, exec (.cordonnetFrameRx port frame control) s = .next t ∧ t.regs = r.regs ∧ t.chain.unacked = s.chain.unacked.filter fun (h : HopFrame) => !(h.port == port && h.seq == q))
        ∧ (control = none → kind < 2 → (s.numbered = true ∧ src = s.device) ∨ hop = 0 → exec (.cordonnetFrameRx port frame control) s = .next (r.chainCount port 5))
        ∧ (control = none → kind = 0 → s.numbered = true → src ≠ s.device → hop ≠ 0 → dest ≠ s.device → exec (.cordonnetFrameRx port frame control) s = .next (r.relay port frame content))
        ∧ (control = none → kind = 0 → s.numbered = true → src ≠ s.device → hop ≠ 0 → dest = s.device → s.on .pkt = true →
          exec (.cordonnetFrameRx port frame control) s = .next (r.enter (0x40 + src) (num frame 4 2 % 4096) content [] (some (num frame 6 2))).2)
        ∧ (control = none → kind = 1 → s.numbered = true → src ≠ s.device → hop ≠ 0 → s.on .pkt = true →
          exec (.cordonnetFrameRx port frame control) s = .next ((r.enter (0x40 + src) (num frame 4 2 % 4096) content [] (some 0xFFFF)).2.relay port frame content))
        ∧ ((∀ q, control ≠ some (.ack q)) → 2 ≤ kind → num frame 0 1 / 4 ∈ s.chain.accepted.getD port [] → exec (.cordonnetFrameRx port frame control) s = .next (r.chainCount port 0))))
    ∧ (∀ f content, let hop := num f 3 1
      (hop ≤ 1 → s.relay port f content = s.chainCount port 5)
      ∧ (2 ≤ hop → s.chainLink (1 - port) = true → s.relay port f content = (s.chainCount port 3).linkOut (1 - port) (num f 0 1 % 4) (num f 1 1) (num f 2 1) (hop - 1) (num f 4 2) (num f 6 2) content))
    ∧ (∀ kind src dest hop vlan remote content, kind < 4 → s.on .link = true → s.chainLink port = true → s.chain.seqs.length = 2 → let t := s.linkOut port kind src dest hop vlan remote content
      t.regs = (s.chainCount port 0).regs ∧ (kind < 2 → t.chain = s.chain)
      ∧ (2 ≤ kind → t.chain.unacked = s.chain.unacked ++ [⟨port, s.chain.seqs.getD port 0, false, s.elapsed, cordonnetFrame kind (s.chain.seqs.getD port 0) src dest hop vlan remote content⟩]
        ∧ t.chain.seqs.getD port 0 = (s.chain.seqs.getD port 0 + 1) % 64))
    ∧ (∀ seq q, q = s.chain.unacked.find? (fun (h : HopFrame) => h.port == port && h.seq == seq && !h.resent) → (q = none → exec (.hopResend port seq) s = .next s)
      ∧ (∀ h, q = some h → let d := num h.frame 2 1; let t := s.reachElapsed (20000 + h.sent)
        t.present d = true → d ≠ t.device → t.route d = port → t.chainLink port = true → ∃ u : State, exec (.hopResend port seq) s = .next u
          ∧ u.chain.unacked = t.chain.unacked.filter (· != h) ++ [{ h with resent := true, sent := t.elapsed }] ∧ u.regs = (t.chainCount port 0).regs))
    ∧ (∀ t1 t2 t3 t4 : Int, let d : Int := s.fld (Reg.chainPortDelay port) 23 0; let m := 500 * ((t4 - t1) - (t3 - t2)) - s.sfld (Reg.chainPortAsym port) 31 0
      (s.flag (Reg.chainPortStat port) 0 = true → s.on .link = true → ∃ t : State, exec (.delayBlockDue port t1 t2 t3 t4) s = .next t ∧ t.chain = s.chain
        ∧ (t.fld (Reg.chainPortDelay port) 23 0 : Int) = max 0 (min (2 ^ 24 - 1) (d + roundDiv (m - d) 8)) ∧ ∀ a, a ≠ Reg.chainPortDelay port → t.reg a = s.reg a)
      ∧ (s.flag (Reg.chainPortStat port) 0 = false → exec (.delayBlockDue port t1 t2 t3 t4) s = .next s))
    ∧ exec .timeBlockDue s = .next s
    ∧ (∀ n tag d t o, (s.session n).outstanding.find? (fun (x : Outstanding) => x.origin.tag == tag) = some o → o.work = .forwarded d →
      (Table.find s.chain.departed d = some t → exec (.forwardedTagOrphaned n tag) s = .next ((s.reachElapsed (1000000 + t)).finish o Status.noSuchDevice [1]))
      ∧ (Table.find s.chain.departed d = none → exec (.forwardedTagOrphaned n tag) s = .next s))

/-- Error scores and their leak, wear, checkpoints, and what the fault commands read. An error adds its class's weight
(16, of a unit without spares) to the unit's score, saturating at 255, and counts; past the threshold (40) the unit
has passed it. A retired unit is not scored. Each leak period takes 1 from the score of every unit of the kind in
use, down to 0, and engines show it; the next period runs at the present setting. An hour of power counts, a hot one
too, and each counter at its threshold is reported once; the log gets a record of 64 bytes in each copy. A
checkpoint holds the tags outstanding at its processor. DARN_STATUS answers 56 bytes, OK_DEGRADED while DARN_SVC is
not 0; DARN_UNIT_READ 4 bytes per unit; DARN_LOG_READ the records from the first one named. -/
def Obligations.ScoresAndWear : Prop :=
  ∀ (s : State) (c : Cmd) (p : Bytes), let r := s.received c
    (∀ kind unit, let x := s.scoreOf kind unit; let b := s.scoreError kind unit; let limits := if kind ≤ 5 then (s.fld (Reg.darnClassCfg kind) 7 0, s.fld (Reg.darnClassCfg kind) 15 8) else (16, 40)
      (s.unitState kind unit = .retired → b = (false, s))
      ∧ (s.unitState kind unit ≠ .retired → b.2.scoreOf kind unit = ⟨min 255 (x.score + limits.1), min 65535 (x.errors + 1)⟩ ∧ (b.1 = true ↔ limits.2 < min 255 (x.score + limits.1))
        ∧ b.2.darn.units = s.darn.units ∧ ∀ key, key ≠ unitKey kind unit → Table.find b.2.darn.scores key = Table.find s.darn.scores key))
    ∧ (∀ kind, (kind = 6 ∨ 10 < kind → exec (.scoreLeak kind) s = .next s)
      ∧ (kind ≠ 6 → kind ≤ 10 → ∃ t : State, exec (.scoreLeak kind) s = .next t ∧ s.leakEnd kind ≤ t.elapsed ∧ t.darn.units = s.darn.units
        ∧ Table.find t.darn.leaks kind = some (s.leakEnd kind + 60000000000 * (if kind ≤ 5 then s.fld (Reg.darnClassCfg kind) 23 16 else 1))
        ∧ (∀ unit, kind = 4 ∨ unit < 65536 → t.scoreOf kind unit = if s.unitState kind unit = .retired then s.scoreOf kind unit else { s.scoreOf kind unit with score := (s.scoreOf kind unit).score - 1 })
        ∧ (∀ other unit, other ≠ kind → other ≤ 10 → other ≠ 4 → unit < 65536 → t.scoreOf other unit = s.scoreOf other unit)
        ∧ (kind = 3 → ∀ e, e < 5 → t.fld (Reg.ciphEngStat e) 15 8 = (t.scoreOf 3 e).score % 256)))
    ∧ (∀ hot, (s.powerState = 4 → exec (.wearHour hot) s = .next s)
      ∧ (s.powerState ≠ 4 → ∃ u : State, u.reg (Reg.darnWear 0) = word (min 0xFFFFFFFF ((s.reg (Reg.darnWear 0)).toNat + 1)) ∧ u.reg (Reg.darnWear 1) = word (min 0xFFFFFFFF ((s.reg (Reg.darnWear 1)).toNat + bitOf hot))
        ∧ u.darn = s.darn ∧ exec (.wearHour hot) s = .next (u.checkWear.logDarn 1 0 0 0xFFFF 0)))
    ∧ (∀ w, w < 5 → (w ∈ s.checkWear.darn.wearReported ↔ w ∈ s.darn.wearReported ∨ (s.checkWear.reg (Reg.darnWearThr w)).toNat ≤ (s.checkWear.reg (Reg.darnWear w)).toNat))
    ∧ (∀ kind unitKind unit spare cause, ∀ copy ∈ (s.logDarn kind unitKind unit spare cause).boot.sealedCopies, ∃ l : LogRecord, copy.log.getLast? = some l ∧ copy.log.length ≤ 128 ∧ l.seq = s.darn.logSeq
      ∧ l.kind = kind ∧ l.unitKind = unitKind ∧ l.unit = unit ∧ l.spare = spare ∧ l.cause = cause ∧ l.seconds = s.seconds ∧ l.bytes.length = 64 ∧ num l.bytes 60 4 = crc32c (l.bytes.take 60))
    ∧ (∀ n, (s.unitState 7 n = .retired ∨ 2 ≤ n ∨ s.on .ctrl = false → exec (.checkpointDue n) s = .next s)
      ∧ (n < 2 → s.unitState 7 n ≠ .retired → s.on .ctrl = true → s.darn.checkpoints.length = 2 → ∃ t : State, exec (.checkpointDue n) s = .next t ∧ t.regs = s.regs ∧ t.host = s.host
        ∧ t.darn.checkpoints.getD (1 - n) [] = s.darn.checkpoints.getD (1 - n) [] ∧ (s.darn.taskOwner.getD 0 0 ≠ n → t.darn.checkpoints.getD n [(0, 0)] = [])
        ∧ (s.darn.taskOwner.getD 0 0 = n → ∀ k tag, (k, tag) ∈ t.darn.checkpoints.getD n [] ↔ k < 4 ∧ ∃ o ∈ (s.session k).outstanding, o.origin.tag = tag)))
    ∧ (s.Ready darnStatusSpec c p → ∃ b : Bytes, exec (.darnStatus c p) s = .next (r.reply (originOf c 0x7000) (if r.reg Reg.darnSvc = 0 then Status.ok else Status.okDegraded) b) ∧ b.length = 56
      ∧ num b 0 4 = (r.reg Reg.darnSvc).toNat ∧ num b 4 4 = (r.reg Reg.darnStat).toNat ∧ (∀ k, k < 7 → num b (8 + 4 * k) 4 = (r.reg (Reg.darnClassStat k)).toNat) ∧ ∀ w, w < 5 → num b (36 + 4 * w) 4 = (r.reg (Reg.darnWear w)).toNat)
    ∧ (s.Ready darnUnitReadSpec c p → ∃ b : Bytes, exec (.darnUnitRead c p) s = .next (r.reply (originOf c 0x7001) Status.ok b) ∧ b.length = 4 * num p 4 2
      ∧ ∀ i u, i < num p 4 2 → r.namedUnit (num p 0 1) (num p 2 2 + i) = some u → let x := r.scoreOf (num p 0 1) u
        ∃ st : Nat, st ≤ 3 ∧ num b (4 * i) 4 = (x.score + 256 * st + 65536 * x.errors) % 2 ^ 32 ∧ (r.unitState (num p 0 1) u = .retired → st = 2) ∧ (r.unitState (num p 0 1) u = .testing → st = 3))
    ∧ (s.Ready darnLogReadSpec c p → exec (.darnLogRead c p) s
        = .next (r.reply (originOf c 0x7003) Status.ok ((((r.boot.sealedCopies.getD 0 {}).log.filter fun (l : LogRecord) => decide (num p 0 2 ≤ l.seq)).take (num p 2 2)).flatMap LogRecord.bytes)))

/-- Retirement, bringing a spare in, a class without spares, and a processor that fails. A retired unit has score 255
and stays out: it is never retired again nor tried as a spare. A retirement of a class that tests its spares waits
its turn; one bring-in per class runs, and takes the lowest spare. A spare that passes enters service with
UNIT_RETIRED; one that fails is retired with cause 1 and the next is tried; with none left the class is exhausted,
its DARN_SVC bit set and SVC_REQUEST raised. DARN_RETIRE refuses kinds 7 to 10 and a unit already retired with
NOT_PERMITTED, and answers the spare brought in, or 0xFFFF, at the end of the bring-in it began. A processor without
a heartbeat is retired and its tasks go to the other within 800 µs. -/
def Obligations.SparesBroughtIn : Prop :=
  ∀ (s : State) (c : Cmd) (p : Bytes), let r := s.received c
    (∀ k u, let f := s.fence k u; f.unitState k u = .retired ∧ (f.scoreOf k u).score = 255
      ∧ (s.unitState k u = .retired → u ∉ s.spares k ∧ (∀ cause, s.retireUnit k u cause = s) ∧ s.scoreError k u = (false, s))
      ∧ (∀ cause, s.unitState k u = .serving → k ≠ 6 → f.spares k ≠ [] → s.retireUnit k u cause = { f with darn := { f.darn with waiting := f.darn.waiting ++ [⟨k, u, cause, none, f.elapsed⟩] } })
      ∧ (∀ cause, s.unitState k u = .serving → k ≠ 6 → f.spares k = [] → (f.darn.active ++ f.darn.waiting).any (fun (b : BringIn) => b.kind == k) = false → s.retireUnit k u cause = (f.doWithout k u).concludeRetire k u cause none 0 true))
    ∧ (∀ kind, (s.darn.active.any (fun (b : BringIn) => b.kind == kind) = true → exec (.spareBringIn kind) s = .next s)
      ∧ (s.darn.waiting.find? (fun (b : BringIn) => b.kind == kind) = none → exec (.spareBringIn kind) s = .next s)
      ∧ (∀ b, s.darn.active.any (fun (b : BringIn) => b.kind == kind) = false → s.darn.waiting.find? (fun (b : BringIn) => b.kind == kind) = some b →
        let a := { s with darn := { s.darn with waiting := s.darn.waiting.erase b } }
        exec (.spareBringIn kind) s = .next ((a.setFlag Reg.darnStat kind true).trySpare b)))
    ∧ (∀ (b : BringIn) u l, s.spares b.kind = u :: l → (∀ v, v < u → s.unitState b.kind v ≠ .spare) ∧ s.unitState b.kind u = .spare ∧ (s.trySpare b).unitState b.kind u = .testing
      ∧ (s.trySpare b).darn.active = s.darn.active ++ [{ b with spare := some u }])
    ∧ (∀ (b : BringIn), s.spares b.kind = [] → let a := (s.setFlag Reg.darnStat b.kind false).doWithout b.kind b.unit
      s.trySpare b = a.concludeRetire b.kind b.unit b.cause none ((a.elapsed - b.decided) / 1000) true)
    ∧ (∀ kind took, (s.darn.active.find? (fun (b : BringIn) => b.kind == kind) = none → ∀ pass, exec (.spareSelfTestDone kind pass took) s = .next s)
      ∧ (∀ b u, s.darn.active.find? (fun (b : BringIn) => b.kind == kind) = some b → b.spare = some u →
        let m := s.reachElapsed (b.decided + took * 1000); let a := { m with darn := { m.darn with active := m.darn.active.erase b } }
        b.decided + took * 1000 ≤ a.elapsed ∧ (a.enterService kind b.unit u).unitState kind u = .serving
        ∧ exec (.spareSelfTestDone kind true took) s = .next (((a.enterService kind b.unit u).setFlag Reg.darnStat kind false).concludeRetire kind b.unit b.cause (some u) took true)
        ∧ exec (.spareSelfTestDone kind false took) s = .next ((((a.darnCount 2).fence kind u).concludeRetire kind u 1 none 0 false).trySpare b)))
    ∧ (∀ k u cause took, k ≤ 6 → ∃ a : State, a.unitState k u = s.unitState k u
      ∧ s.concludeRetire k u cause none took true = ((a.setFlag (Reg.darnClassStat k) 24 true).setSvc k).finishWork (Work.retires k u) Status.ok (le 2 0xFFFF)
      ∧ s.concludeRetire k u cause none took false = a.finishWork (Work.retires k u) Status.ok (le 2 0xFFFF))
    ∧ (∀ b, (s.flag Reg.darnSvc b = true → s.setSvc b = s)
      ∧ (s.flag Reg.darnSvc b = false → let t := s.setFlag Reg.darnSvc b true; s.setSvc b = (t.raise 0x7002 2 (le 4 (t.reg Reg.darnSvc).toNat ++ le 4 (2 ^ b))).noteSummary s))
    ∧ (∀ row, (s.sramError row true).unitState 5 row = .retired ∧ (s.unitState 5 row ≠ .retired → ∀ cause, let used := (Table.find s.darn.sramUsed (row / 256)).getD 0
      (s.retireSram row cause).1 = if used < 2 then some used else none))
    ∧ (s.Ready darnRetireSpec c p → let k := num p 0 1; let n := num p 2 2; let o := originOf c 0x7002
      (6 < k → exec (.darnRetire c p) s = .next (r.refuse o Status.notPermitted []))
      ∧ (∀ u, k ≤ 6 → r.namedUnit k n = some u →
        (r.unitState k u = .retired → exec (.darnRetire c p) s = .next (r.refuse o Status.notPermitted []))
        ∧ (r.unitState k u ≠ .retired →
          (k = 4 → exec (.darnRetire c p) s = .next ((r.retireRow u 3).2.reply o Status.ok (le 2 (((r.retireRow u 3).1.map (·.2)).getD 0xFFFF))))
          ∧ (k = 0 ∨ k = 2 ∨ k = 3 → let t := r.retireUnit k u 3; let waits := t.darn.waiting.any fun (b : BringIn) => b.kind == k && b.unit == u
            exec (.darnRetire c p) s = .next (if waits then t.start darnRetireSpec c (.retire k u) else t.reply o Status.ok (le 2 0xFFFF)))
          ∧ (k = 6 → r.unitState 6 u = .serving → exec (.darnRetire c p) s = .next ((r.retireUnit 6 u 3).reply o Status.ok (le 2 ((r.spares 6).head?.getD 0xFFFF))))
          ∧ (k = 1 → let t := r.retireSynth u 3; t.darn.active.any (fun (b : BringIn) => b.kind == 1 && b.unit == u) = true → exec (.darnRetire c p) s = .next (t.start darnRetireSpec c (.retire 1 u))))))
    ∧ (∀ n took, (∀ e, s.on .ctrl = false → exec (.heartbeatLoss n took e) s = .next s)
      ∧ (s.on .ctrl = true → (s.scoreError 7 n).1 = false → exec (.heartbeatLoss n took true) s = .next (s.scoreError 7 n).2)
      ∧ (s.on .ctrl = true → exec (.heartbeatLoss n took false) s = .next ((s.scoreError 7 n).2.failover n (took % 801) 0))
      ∧ (s.unitState 7 n = .retired → s.failover n took 0 = s)
      ∧ (n < 2 → s.unitState 7 n ≠ .retired → s.unitState 7 (1 - n) ≠ .retired → let t := s.failover n took 0
        t.unitState 7 n = .retired ∧ s.elapsed + took * 1000 ≤ t.elapsed ∧ n ∉ t.darn.taskOwner ∧ t.darn.taskOwner.length = s.darn.taskOwner.length))
end

