-- ==== Sys2Proof/Laws/Command.lean ====
section
/-! SUPPORT. What the checks of Table 2-5 leave of a command: a lemma each for a command that passes them and for those
that fail. -/

namespace Sys2Proof.Machine

/-- Steps 12 to 14 passed. -/
theorem verdict_body {spec : OpSpec} {c : Cmd} {p : Bytes} {s : State} (body : State → Verdict) (length : spec.length p = true)
    (range : spec.range s p = true) (direct : (spec.noTxn && c.inTxn) = false) : verdict spec c p body s = body s := by
  simp [verdict, length, range, direct]

/-- Steps 9 to 14 passed. -/
theorem State.runHere_passed {s : State} {spec : OpSpec} {c : Cmd} {p : Bytes} (body : State → Verdict)
    (defined : spec.defined = true) (permitted : s.permits spec c = true) (room : s.outstandingCount c.session < 32)
    (length : spec.length p = true) (range : spec.range s p = true) (direct : (spec.noTxn && c.inTxn) = false) :
    s.runHere spec c p body = s.settle spec c (body s) := by
  simp only [State.runHere, defined, permitted, if_neg (Nat.not_le.mpr room), verdict_body body length range direct]
  simp

/-- A command that passes its checks: what its own work answers is settled in the state as received. -/
theorem State.run_ready {s : State} {spec : OpSpec} {c : Cmd} {p : Bytes} (h : s.Ready spec c p) (body : State → Verdict) :
    s.run spec c p body = (s.received c).settle spec c (body (s.received c)) := by
  have near : (s.received c).elsewhere c = false := by simp [State.elsewhere, h.here]
  have here := State.runHere_passed body h.defined h.permitted h.room h.length h.range h.direct
  have host := h.host
  have serves := h.serves
  have bound := h.bound
  cases e : c.ep <;> rw [e] at host serves bound <;>
    simp_all [State.run, Endpoint.fromHost, State.runAt, h.fresh, h.unseen, h.single]

end Sys2Proof.Machine
end

