-- ==== Sys2Proof/Laws/State.lean ====
section
/-! SUPPORT. What each update of a part of the state leaves of the other parts, so that no proof unfolds a record update. -/

namespace Sys2Proof.Machine

@[simp] theorem State.setReg_elapsed (s : State) (a : Nat) (w : Word) : (s.setReg a w).elapsed = s.elapsed := rfl
@[simp] theorem State.setReg_time (s : State) (a : Nat) (w : Word) : (s.setReg a w).time = s.time := rfl
@[simp] theorem State.setReg_eth (s : State) (a : Nat) (w : Word) : (s.setReg a w).eth = s.eth := rfl
@[simp] theorem State.setReg_fwd (s : State) (a : Nat) (w : Word) : (s.setReg a w).fwd = s.fwd := rfl
@[simp] theorem State.setReg_tm (s : State) (a : Nat) (w : Word) : (s.setReg a w).tm = s.tm := rfl
@[simp] theorem State.setReg_sched (s : State) (a : Nat) (w : Word) : (s.setReg a w).sched = s.sched := rfl
@[simp] theorem State.setReg_meas (s : State) (a : Nat) (w : Word) : (s.setReg a w).meas = s.meas := rfl
@[simp] theorem State.setReg_ctl (s : State) (a : Nat) (w : Word) : (s.setReg a w).ctl = s.ctl := rfl
@[simp] theorem State.setReg_draws (s : State) (a : Nat) (w : Word) : (s.setReg a w).draws = s.draws := rfl
@[simp] theorem State.setReg_host (s : State) (a : Nat) (w : Word) : (s.setReg a w).host = s.host := rfl
@[simp] theorem State.setReg_boot (s : State) (a : Nat) (w : Word) : (s.setReg a w).boot = s.boot := rfl
@[simp] theorem State.setReg_sec (s : State) (a : Nat) (w : Word) : (s.setReg a w).sec = s.sec := rfl
@[simp] theorem State.setReg_chain (s : State) (a : Nat) (w : Word) : (s.setReg a w).chain = s.chain := rfl
@[simp] theorem State.setReg_darn (s : State) (a : Nat) (w : Word) : (s.setReg a w).darn = s.darn := rfl
@[simp] theorem State.setReg_rtc (s : State) (a : Nat) (w : Word) : (s.setReg a w).rtc = s.rtc := rfl
@[simp] theorem State.setReg_radios (s : State) (a : Nat) (w : Word) : (s.setReg a w).radios = s.radios := rfl
@[simp] theorem State.setReg_lanes (s : State) (a : Nat) (w : Word) : (s.setReg a w).lanes = s.lanes := rfl
@[simp] theorem State.setReg_rgl (s : State) (a : Nat) (w : Word) : (s.setReg a w).rgl = s.rgl := rfl
@[simp] theorem State.setReg_loading (s : State) (a : Nat) (w : Word) : (s.setReg a w).loading = s.loading := rfl
@[simp] theorem State.setReg_mac (s : State) (a : Nat) (w : Word) : (s.setReg a w).mac = s.mac := rfl
@[simp] theorem State.setReg_cipher (s : State) (a : Nat) (w : Word) : (s.setReg a w).cipher = s.cipher := rfl
@[simp] theorem State.setReg_dram (s : State) (a : Nat) (w : Word) : (s.setReg a w).dram = s.dram := rfl
@[simp] theorem State.setReg_power (s : State) (a : Nat) (w : Word) : (s.setReg a w).power = s.power := rfl
@[simp] theorem State.setReg_pins (s : State) (a : Nat) (w : Word) : (s.setReg a w).pins = s.pins := rfl
@[simp] theorem State.setReg_pending (s : State) (a : Nat) (w : Word) : (s.setReg a w).pending = s.pending := rfl

@[simp] theorem State.setFld_elapsed (s : State) (a hi lo x : Nat) : (s.setFld a hi lo x).elapsed = s.elapsed := rfl
@[simp] theorem State.setFld_time (s : State) (a hi lo x : Nat) : (s.setFld a hi lo x).time = s.time := rfl
@[simp] theorem State.setFld_eth (s : State) (a hi lo x : Nat) : (s.setFld a hi lo x).eth = s.eth := rfl
@[simp] theorem State.setFld_fwd (s : State) (a hi lo x : Nat) : (s.setFld a hi lo x).fwd = s.fwd := rfl
@[simp] theorem State.setFld_tm (s : State) (a hi lo x : Nat) : (s.setFld a hi lo x).tm = s.tm := rfl
@[simp] theorem State.setFld_sched (s : State) (a hi lo x : Nat) : (s.setFld a hi lo x).sched = s.sched := rfl
@[simp] theorem State.setFld_meas (s : State) (a hi lo x : Nat) : (s.setFld a hi lo x).meas = s.meas := rfl
@[simp] theorem State.setFld_ctl (s : State) (a hi lo x : Nat) : (s.setFld a hi lo x).ctl = s.ctl := rfl
@[simp] theorem State.setFld_draws (s : State) (a hi lo x : Nat) : (s.setFld a hi lo x).draws = s.draws := rfl
@[simp] theorem State.setFld_host (s : State) (a hi lo x : Nat) : (s.setFld a hi lo x).host = s.host := rfl
@[simp] theorem State.setFld_boot (s : State) (a hi lo x : Nat) : (s.setFld a hi lo x).boot = s.boot := rfl
@[simp] theorem State.setFld_sec (s : State) (a hi lo x : Nat) : (s.setFld a hi lo x).sec = s.sec := rfl
@[simp] theorem State.setFld_chain (s : State) (a hi lo x : Nat) : (s.setFld a hi lo x).chain = s.chain := rfl
@[simp] theorem State.setFld_darn (s : State) (a hi lo x : Nat) : (s.setFld a hi lo x).darn = s.darn := rfl
@[simp] theorem State.setFld_rtc (s : State) (a hi lo x : Nat) : (s.setFld a hi lo x).rtc = s.rtc := rfl
@[simp] theorem State.setFld_radios (s : State) (a hi lo x : Nat) : (s.setFld a hi lo x).radios = s.radios := rfl
@[simp] theorem State.setFld_lanes (s : State) (a hi lo x : Nat) : (s.setFld a hi lo x).lanes = s.lanes := rfl
@[simp] theorem State.setFld_rgl (s : State) (a hi lo x : Nat) : (s.setFld a hi lo x).rgl = s.rgl := rfl
@[simp] theorem State.setFld_loading (s : State) (a hi lo x : Nat) : (s.setFld a hi lo x).loading = s.loading := rfl
@[simp] theorem State.setFld_mac (s : State) (a hi lo x : Nat) : (s.setFld a hi lo x).mac = s.mac := rfl
@[simp] theorem State.setFld_cipher (s : State) (a hi lo x : Nat) : (s.setFld a hi lo x).cipher = s.cipher := rfl
@[simp] theorem State.setFld_dram (s : State) (a hi lo x : Nat) : (s.setFld a hi lo x).dram = s.dram := rfl
@[simp] theorem State.setFld_power (s : State) (a hi lo x : Nat) : (s.setFld a hi lo x).power = s.power := rfl
@[simp] theorem State.setFld_pins (s : State) (a hi lo x : Nat) : (s.setFld a hi lo x).pins = s.pins := rfl
@[simp] theorem State.setFld_pending (s : State) (a hi lo x : Nat) : (s.setFld a hi lo x).pending = s.pending := rfl

@[simp] theorem State.setFlag_elapsed (s : State) (a i : Nat) (b : Bool) : (s.setFlag a i b).elapsed = s.elapsed := rfl
@[simp] theorem State.setFlag_time (s : State) (a i : Nat) (b : Bool) : (s.setFlag a i b).time = s.time := rfl
@[simp] theorem State.setFlag_eth (s : State) (a i : Nat) (b : Bool) : (s.setFlag a i b).eth = s.eth := rfl
@[simp] theorem State.setFlag_fwd (s : State) (a i : Nat) (b : Bool) : (s.setFlag a i b).fwd = s.fwd := rfl
@[simp] theorem State.setFlag_tm (s : State) (a i : Nat) (b : Bool) : (s.setFlag a i b).tm = s.tm := rfl
@[simp] theorem State.setFlag_sched (s : State) (a i : Nat) (b : Bool) : (s.setFlag a i b).sched = s.sched := rfl
@[simp] theorem State.setFlag_meas (s : State) (a i : Nat) (b : Bool) : (s.setFlag a i b).meas = s.meas := rfl
@[simp] theorem State.setFlag_ctl (s : State) (a i : Nat) (b : Bool) : (s.setFlag a i b).ctl = s.ctl := rfl
@[simp] theorem State.setFlag_draws (s : State) (a i : Nat) (b : Bool) : (s.setFlag a i b).draws = s.draws := rfl
@[simp] theorem State.setFlag_host (s : State) (a i : Nat) (b : Bool) : (s.setFlag a i b).host = s.host := rfl
@[simp] theorem State.setFlag_boot (s : State) (a i : Nat) (b : Bool) : (s.setFlag a i b).boot = s.boot := rfl
@[simp] theorem State.setFlag_sec (s : State) (a i : Nat) (b : Bool) : (s.setFlag a i b).sec = s.sec := rfl
@[simp] theorem State.setFlag_chain (s : State) (a i : Nat) (b : Bool) : (s.setFlag a i b).chain = s.chain := rfl
@[simp] theorem State.setFlag_darn (s : State) (a i : Nat) (b : Bool) : (s.setFlag a i b).darn = s.darn := rfl
@[simp] theorem State.setFlag_rtc (s : State) (a i : Nat) (b : Bool) : (s.setFlag a i b).rtc = s.rtc := rfl
@[simp] theorem State.setFlag_radios (s : State) (a i : Nat) (b : Bool) : (s.setFlag a i b).radios = s.radios := rfl
@[simp] theorem State.setFlag_lanes (s : State) (a i : Nat) (b : Bool) : (s.setFlag a i b).lanes = s.lanes := rfl
@[simp] theorem State.setFlag_rgl (s : State) (a i : Nat) (b : Bool) : (s.setFlag a i b).rgl = s.rgl := rfl
@[simp] theorem State.setFlag_loading (s : State) (a i : Nat) (b : Bool) : (s.setFlag a i b).loading = s.loading := rfl
@[simp] theorem State.setFlag_mac (s : State) (a i : Nat) (b : Bool) : (s.setFlag a i b).mac = s.mac := rfl
@[simp] theorem State.setFlag_cipher (s : State) (a i : Nat) (b : Bool) : (s.setFlag a i b).cipher = s.cipher := rfl
@[simp] theorem State.setFlag_dram (s : State) (a i : Nat) (b : Bool) : (s.setFlag a i b).dram = s.dram := rfl
@[simp] theorem State.setFlag_power (s : State) (a i : Nat) (b : Bool) : (s.setFlag a i b).power = s.power := rfl
@[simp] theorem State.setFlag_pins (s : State) (a i : Nat) (b : Bool) : (s.setFlag a i b).pins = s.pins := rfl
@[simp] theorem State.setFlag_pending (s : State) (a i : Nat) (b : Bool) : (s.setFlag a i b).pending = s.pending := rfl

@[simp] theorem State.bumpFld_elapsed (s : State) (a hi lo n : Nat) : (s.bumpFld a hi lo n).elapsed = s.elapsed := rfl
@[simp] theorem State.bumpFld_time (s : State) (a hi lo n : Nat) : (s.bumpFld a hi lo n).time = s.time := rfl
@[simp] theorem State.bumpFld_eth (s : State) (a hi lo n : Nat) : (s.bumpFld a hi lo n).eth = s.eth := rfl
@[simp] theorem State.bumpFld_fwd (s : State) (a hi lo n : Nat) : (s.bumpFld a hi lo n).fwd = s.fwd := rfl
@[simp] theorem State.bumpFld_tm (s : State) (a hi lo n : Nat) : (s.bumpFld a hi lo n).tm = s.tm := rfl
@[simp] theorem State.bumpFld_sched (s : State) (a hi lo n : Nat) : (s.bumpFld a hi lo n).sched = s.sched := rfl
@[simp] theorem State.bumpFld_meas (s : State) (a hi lo n : Nat) : (s.bumpFld a hi lo n).meas = s.meas := rfl
@[simp] theorem State.bumpFld_ctl (s : State) (a hi lo n : Nat) : (s.bumpFld a hi lo n).ctl = s.ctl := rfl
@[simp] theorem State.bumpFld_draws (s : State) (a hi lo n : Nat) : (s.bumpFld a hi lo n).draws = s.draws := rfl
@[simp] theorem State.bumpFld_host (s : State) (a hi lo n : Nat) : (s.bumpFld a hi lo n).host = s.host := rfl
@[simp] theorem State.bumpFld_boot (s : State) (a hi lo n : Nat) : (s.bumpFld a hi lo n).boot = s.boot := rfl
@[simp] theorem State.bumpFld_sec (s : State) (a hi lo n : Nat) : (s.bumpFld a hi lo n).sec = s.sec := rfl
@[simp] theorem State.bumpFld_chain (s : State) (a hi lo n : Nat) : (s.bumpFld a hi lo n).chain = s.chain := rfl
@[simp] theorem State.bumpFld_darn (s : State) (a hi lo n : Nat) : (s.bumpFld a hi lo n).darn = s.darn := rfl
@[simp] theorem State.bumpFld_rtc (s : State) (a hi lo n : Nat) : (s.bumpFld a hi lo n).rtc = s.rtc := rfl
@[simp] theorem State.bumpFld_radios (s : State) (a hi lo n : Nat) : (s.bumpFld a hi lo n).radios = s.radios := rfl
@[simp] theorem State.bumpFld_lanes (s : State) (a hi lo n : Nat) : (s.bumpFld a hi lo n).lanes = s.lanes := rfl
@[simp] theorem State.bumpFld_rgl (s : State) (a hi lo n : Nat) : (s.bumpFld a hi lo n).rgl = s.rgl := rfl
@[simp] theorem State.bumpFld_loading (s : State) (a hi lo n : Nat) : (s.bumpFld a hi lo n).loading = s.loading := rfl
@[simp] theorem State.bumpFld_mac (s : State) (a hi lo n : Nat) : (s.bumpFld a hi lo n).mac = s.mac := rfl
@[simp] theorem State.bumpFld_cipher (s : State) (a hi lo n : Nat) : (s.bumpFld a hi lo n).cipher = s.cipher := rfl
@[simp] theorem State.bumpFld_dram (s : State) (a hi lo n : Nat) : (s.bumpFld a hi lo n).dram = s.dram := rfl
@[simp] theorem State.bumpFld_power (s : State) (a hi lo n : Nat) : (s.bumpFld a hi lo n).power = s.power := rfl
@[simp] theorem State.bumpFld_pins (s : State) (a hi lo n : Nat) : (s.bumpFld a hi lo n).pins = s.pins := rfl
@[simp] theorem State.bumpFld_pending (s : State) (a hi lo n : Nat) : (s.bumpFld a hi lo n).pending = s.pending := rfl

@[simp] theorem State.bump_elapsed (s : State) (a n : Nat) : (s.bump a n).elapsed = s.elapsed := rfl
@[simp] theorem State.bump_time (s : State) (a n : Nat) : (s.bump a n).time = s.time := rfl
@[simp] theorem State.bump_eth (s : State) (a n : Nat) : (s.bump a n).eth = s.eth := rfl
@[simp] theorem State.bump_fwd (s : State) (a n : Nat) : (s.bump a n).fwd = s.fwd := rfl
@[simp] theorem State.bump_tm (s : State) (a n : Nat) : (s.bump a n).tm = s.tm := rfl
@[simp] theorem State.bump_sched (s : State) (a n : Nat) : (s.bump a n).sched = s.sched := rfl
@[simp] theorem State.bump_meas (s : State) (a n : Nat) : (s.bump a n).meas = s.meas := rfl
@[simp] theorem State.bump_ctl (s : State) (a n : Nat) : (s.bump a n).ctl = s.ctl := rfl
@[simp] theorem State.bump_draws (s : State) (a n : Nat) : (s.bump a n).draws = s.draws := rfl
@[simp] theorem State.bump_host (s : State) (a n : Nat) : (s.bump a n).host = s.host := rfl
@[simp] theorem State.bump_boot (s : State) (a n : Nat) : (s.bump a n).boot = s.boot := rfl
@[simp] theorem State.bump_sec (s : State) (a n : Nat) : (s.bump a n).sec = s.sec := rfl
@[simp] theorem State.bump_chain (s : State) (a n : Nat) : (s.bump a n).chain = s.chain := rfl
@[simp] theorem State.bump_darn (s : State) (a n : Nat) : (s.bump a n).darn = s.darn := rfl
@[simp] theorem State.bump_rtc (s : State) (a n : Nat) : (s.bump a n).rtc = s.rtc := rfl
@[simp] theorem State.bump_radios (s : State) (a n : Nat) : (s.bump a n).radios = s.radios := rfl
@[simp] theorem State.bump_lanes (s : State) (a n : Nat) : (s.bump a n).lanes = s.lanes := rfl
@[simp] theorem State.bump_rgl (s : State) (a n : Nat) : (s.bump a n).rgl = s.rgl := rfl
@[simp] theorem State.bump_loading (s : State) (a n : Nat) : (s.bump a n).loading = s.loading := rfl
@[simp] theorem State.bump_mac (s : State) (a n : Nat) : (s.bump a n).mac = s.mac := rfl
@[simp] theorem State.bump_cipher (s : State) (a n : Nat) : (s.bump a n).cipher = s.cipher := rfl
@[simp] theorem State.bump_dram (s : State) (a n : Nat) : (s.bump a n).dram = s.dram := rfl
@[simp] theorem State.bump_power (s : State) (a n : Nat) : (s.bump a n).power = s.power := rfl
@[simp] theorem State.bump_pins (s : State) (a n : Nat) : (s.bump a n).pins = s.pins := rfl
@[simp] theorem State.bump_pending (s : State) (a n : Nat) : (s.bump a n).pending = s.pending := rfl

@[simp] theorem State.setReg64_elapsed (s : State) (a v : Nat) : (s.setReg64 a v).elapsed = s.elapsed := rfl
@[simp] theorem State.setReg64_time (s : State) (a v : Nat) : (s.setReg64 a v).time = s.time := rfl
@[simp] theorem State.setReg64_eth (s : State) (a v : Nat) : (s.setReg64 a v).eth = s.eth := rfl
@[simp] theorem State.setReg64_fwd (s : State) (a v : Nat) : (s.setReg64 a v).fwd = s.fwd := rfl
@[simp] theorem State.setReg64_tm (s : State) (a v : Nat) : (s.setReg64 a v).tm = s.tm := rfl
@[simp] theorem State.setReg64_sched (s : State) (a v : Nat) : (s.setReg64 a v).sched = s.sched := rfl
@[simp] theorem State.setReg64_meas (s : State) (a v : Nat) : (s.setReg64 a v).meas = s.meas := rfl
@[simp] theorem State.setReg64_ctl (s : State) (a v : Nat) : (s.setReg64 a v).ctl = s.ctl := rfl
@[simp] theorem State.setReg64_draws (s : State) (a v : Nat) : (s.setReg64 a v).draws = s.draws := rfl
@[simp] theorem State.setReg64_host (s : State) (a v : Nat) : (s.setReg64 a v).host = s.host := rfl
@[simp] theorem State.setReg64_boot (s : State) (a v : Nat) : (s.setReg64 a v).boot = s.boot := rfl
@[simp] theorem State.setReg64_sec (s : State) (a v : Nat) : (s.setReg64 a v).sec = s.sec := rfl
@[simp] theorem State.setReg64_chain (s : State) (a v : Nat) : (s.setReg64 a v).chain = s.chain := rfl
@[simp] theorem State.setReg64_darn (s : State) (a v : Nat) : (s.setReg64 a v).darn = s.darn := rfl
@[simp] theorem State.setReg64_rtc (s : State) (a v : Nat) : (s.setReg64 a v).rtc = s.rtc := rfl
@[simp] theorem State.setReg64_radios (s : State) (a v : Nat) : (s.setReg64 a v).radios = s.radios := rfl
@[simp] theorem State.setReg64_lanes (s : State) (a v : Nat) : (s.setReg64 a v).lanes = s.lanes := rfl
@[simp] theorem State.setReg64_rgl (s : State) (a v : Nat) : (s.setReg64 a v).rgl = s.rgl := rfl
@[simp] theorem State.setReg64_loading (s : State) (a v : Nat) : (s.setReg64 a v).loading = s.loading := rfl
@[simp] theorem State.setReg64_mac (s : State) (a v : Nat) : (s.setReg64 a v).mac = s.mac := rfl
@[simp] theorem State.setReg64_cipher (s : State) (a v : Nat) : (s.setReg64 a v).cipher = s.cipher := rfl
@[simp] theorem State.setReg64_dram (s : State) (a v : Nat) : (s.setReg64 a v).dram = s.dram := rfl
@[simp] theorem State.setReg64_power (s : State) (a v : Nat) : (s.setReg64 a v).power = s.power := rfl
@[simp] theorem State.setReg64_pins (s : State) (a v : Nat) : (s.setReg64 a v).pins = s.pins := rfl
@[simp] theorem State.setReg64_pending (s : State) (a v : Nat) : (s.setReg64 a v).pending = s.pending := rfl

@[simp] theorem State.bump64_elapsed (s : State) (a n : Nat) : (s.bump64 a n).elapsed = s.elapsed := rfl
@[simp] theorem State.bump64_time (s : State) (a n : Nat) : (s.bump64 a n).time = s.time := rfl
@[simp] theorem State.bump64_eth (s : State) (a n : Nat) : (s.bump64 a n).eth = s.eth := rfl
@[simp] theorem State.bump64_fwd (s : State) (a n : Nat) : (s.bump64 a n).fwd = s.fwd := rfl
@[simp] theorem State.bump64_tm (s : State) (a n : Nat) : (s.bump64 a n).tm = s.tm := rfl
@[simp] theorem State.bump64_sched (s : State) (a n : Nat) : (s.bump64 a n).sched = s.sched := rfl
@[simp] theorem State.bump64_meas (s : State) (a n : Nat) : (s.bump64 a n).meas = s.meas := rfl
@[simp] theorem State.bump64_ctl (s : State) (a n : Nat) : (s.bump64 a n).ctl = s.ctl := rfl
@[simp] theorem State.bump64_draws (s : State) (a n : Nat) : (s.bump64 a n).draws = s.draws := rfl
@[simp] theorem State.bump64_host (s : State) (a n : Nat) : (s.bump64 a n).host = s.host := rfl
@[simp] theorem State.bump64_boot (s : State) (a n : Nat) : (s.bump64 a n).boot = s.boot := rfl
@[simp] theorem State.bump64_sec (s : State) (a n : Nat) : (s.bump64 a n).sec = s.sec := rfl
@[simp] theorem State.bump64_chain (s : State) (a n : Nat) : (s.bump64 a n).chain = s.chain := rfl
@[simp] theorem State.bump64_darn (s : State) (a n : Nat) : (s.bump64 a n).darn = s.darn := rfl
@[simp] theorem State.bump64_rtc (s : State) (a n : Nat) : (s.bump64 a n).rtc = s.rtc := rfl
@[simp] theorem State.bump64_radios (s : State) (a n : Nat) : (s.bump64 a n).radios = s.radios := rfl
@[simp] theorem State.bump64_lanes (s : State) (a n : Nat) : (s.bump64 a n).lanes = s.lanes := rfl
@[simp] theorem State.bump64_rgl (s : State) (a n : Nat) : (s.bump64 a n).rgl = s.rgl := rfl
@[simp] theorem State.bump64_loading (s : State) (a n : Nat) : (s.bump64 a n).loading = s.loading := rfl
@[simp] theorem State.bump64_mac (s : State) (a n : Nat) : (s.bump64 a n).mac = s.mac := rfl
@[simp] theorem State.bump64_cipher (s : State) (a n : Nat) : (s.bump64 a n).cipher = s.cipher := rfl
@[simp] theorem State.bump64_dram (s : State) (a n : Nat) : (s.bump64 a n).dram = s.dram := rfl
@[simp] theorem State.bump64_power (s : State) (a n : Nat) : (s.bump64 a n).power = s.power := rfl
@[simp] theorem State.bump64_pins (s : State) (a n : Nat) : (s.bump64 a n).pins = s.pins := rfl
@[simp] theorem State.bump64_pending (s : State) (a n : Nat) : (s.bump64 a n).pending = s.pending := rfl

@[simp] theorem State.modSession_regs (s : State) (n : Nat) (f : Session → Session) : (s.modSession n f).regs = s.regs := rfl
@[simp] theorem State.modSession_elapsed (s : State) (n : Nat) (f : Session → Session) : (s.modSession n f).elapsed = s.elapsed := rfl
@[simp] theorem State.modSession_time (s : State) (n : Nat) (f : Session → Session) : (s.modSession n f).time = s.time := rfl
@[simp] theorem State.modSession_eth (s : State) (n : Nat) (f : Session → Session) : (s.modSession n f).eth = s.eth := rfl
@[simp] theorem State.modSession_fwd (s : State) (n : Nat) (f : Session → Session) : (s.modSession n f).fwd = s.fwd := rfl
@[simp] theorem State.modSession_tm (s : State) (n : Nat) (f : Session → Session) : (s.modSession n f).tm = s.tm := rfl
@[simp] theorem State.modSession_sched (s : State) (n : Nat) (f : Session → Session) : (s.modSession n f).sched = s.sched := rfl
@[simp] theorem State.modSession_meas (s : State) (n : Nat) (f : Session → Session) : (s.modSession n f).meas = s.meas := rfl
@[simp] theorem State.modSession_ctl (s : State) (n : Nat) (f : Session → Session) : (s.modSession n f).ctl = s.ctl := rfl
@[simp] theorem State.modSession_draws (s : State) (n : Nat) (f : Session → Session) : (s.modSession n f).draws = s.draws := rfl
@[simp] theorem State.modSession_boot (s : State) (n : Nat) (f : Session → Session) : (s.modSession n f).boot = s.boot := rfl
@[simp] theorem State.modSession_sec (s : State) (n : Nat) (f : Session → Session) : (s.modSession n f).sec = s.sec := rfl
@[simp] theorem State.modSession_chain (s : State) (n : Nat) (f : Session → Session) : (s.modSession n f).chain = s.chain := rfl
@[simp] theorem State.modSession_darn (s : State) (n : Nat) (f : Session → Session) : (s.modSession n f).darn = s.darn := rfl
@[simp] theorem State.modSession_rtc (s : State) (n : Nat) (f : Session → Session) : (s.modSession n f).rtc = s.rtc := rfl
@[simp] theorem State.modSession_radios (s : State) (n : Nat) (f : Session → Session) : (s.modSession n f).radios = s.radios := rfl
@[simp] theorem State.modSession_lanes (s : State) (n : Nat) (f : Session → Session) : (s.modSession n f).lanes = s.lanes := rfl
@[simp] theorem State.modSession_rgl (s : State) (n : Nat) (f : Session → Session) : (s.modSession n f).rgl = s.rgl := rfl
@[simp] theorem State.modSession_loading (s : State) (n : Nat) (f : Session → Session) : (s.modSession n f).loading = s.loading := rfl
@[simp] theorem State.modSession_mac (s : State) (n : Nat) (f : Session → Session) : (s.modSession n f).mac = s.mac := rfl
@[simp] theorem State.modSession_cipher (s : State) (n : Nat) (f : Session → Session) : (s.modSession n f).cipher = s.cipher := rfl
@[simp] theorem State.modSession_dram (s : State) (n : Nat) (f : Session → Session) : (s.modSession n f).dram = s.dram := rfl
@[simp] theorem State.modSession_power (s : State) (n : Nat) (f : Session → Session) : (s.modSession n f).power = s.power := rfl
@[simp] theorem State.modSession_pins (s : State) (n : Nat) (f : Session → Session) : (s.modSession n f).pins = s.pins := rfl
@[simp] theorem State.modSession_pending (s : State) (n : Nat) (f : Session → Session) : (s.modSession n f).pending = s.pending := rfl
@[simp] theorem State.modSession_reg (s : State) (n : Nat) (f : Session → Session) (reg : Nat) : (s.modSession n f).reg reg = s.reg reg := rfl

@[simp] theorem State.modRing_regs (s : State) (n : Nat) (f : Ring → Ring) : (s.modRing n f).regs = s.regs := rfl
@[simp] theorem State.modRing_elapsed (s : State) (n : Nat) (f : Ring → Ring) : (s.modRing n f).elapsed = s.elapsed := rfl
@[simp] theorem State.modRing_time (s : State) (n : Nat) (f : Ring → Ring) : (s.modRing n f).time = s.time := rfl
@[simp] theorem State.modRing_eth (s : State) (n : Nat) (f : Ring → Ring) : (s.modRing n f).eth = s.eth := rfl
@[simp] theorem State.modRing_fwd (s : State) (n : Nat) (f : Ring → Ring) : (s.modRing n f).fwd = s.fwd := rfl
@[simp] theorem State.modRing_tm (s : State) (n : Nat) (f : Ring → Ring) : (s.modRing n f).tm = s.tm := rfl
@[simp] theorem State.modRing_sched (s : State) (n : Nat) (f : Ring → Ring) : (s.modRing n f).sched = s.sched := rfl
@[simp] theorem State.modRing_meas (s : State) (n : Nat) (f : Ring → Ring) : (s.modRing n f).meas = s.meas := rfl
@[simp] theorem State.modRing_ctl (s : State) (n : Nat) (f : Ring → Ring) : (s.modRing n f).ctl = s.ctl := rfl
@[simp] theorem State.modRing_draws (s : State) (n : Nat) (f : Ring → Ring) : (s.modRing n f).draws = s.draws := rfl
@[simp] theorem State.modRing_boot (s : State) (n : Nat) (f : Ring → Ring) : (s.modRing n f).boot = s.boot := rfl
@[simp] theorem State.modRing_sec (s : State) (n : Nat) (f : Ring → Ring) : (s.modRing n f).sec = s.sec := rfl
@[simp] theorem State.modRing_chain (s : State) (n : Nat) (f : Ring → Ring) : (s.modRing n f).chain = s.chain := rfl
@[simp] theorem State.modRing_darn (s : State) (n : Nat) (f : Ring → Ring) : (s.modRing n f).darn = s.darn := rfl
@[simp] theorem State.modRing_rtc (s : State) (n : Nat) (f : Ring → Ring) : (s.modRing n f).rtc = s.rtc := rfl
@[simp] theorem State.modRing_radios (s : State) (n : Nat) (f : Ring → Ring) : (s.modRing n f).radios = s.radios := rfl
@[simp] theorem State.modRing_lanes (s : State) (n : Nat) (f : Ring → Ring) : (s.modRing n f).lanes = s.lanes := rfl
@[simp] theorem State.modRing_rgl (s : State) (n : Nat) (f : Ring → Ring) : (s.modRing n f).rgl = s.rgl := rfl
@[simp] theorem State.modRing_loading (s : State) (n : Nat) (f : Ring → Ring) : (s.modRing n f).loading = s.loading := rfl
@[simp] theorem State.modRing_mac (s : State) (n : Nat) (f : Ring → Ring) : (s.modRing n f).mac = s.mac := rfl
@[simp] theorem State.modRing_cipher (s : State) (n : Nat) (f : Ring → Ring) : (s.modRing n f).cipher = s.cipher := rfl
@[simp] theorem State.modRing_dram (s : State) (n : Nat) (f : Ring → Ring) : (s.modRing n f).dram = s.dram := rfl
@[simp] theorem State.modRing_power (s : State) (n : Nat) (f : Ring → Ring) : (s.modRing n f).power = s.power := rfl
@[simp] theorem State.modRing_pins (s : State) (n : Nat) (f : Ring → Ring) : (s.modRing n f).pins = s.pins := rfl
@[simp] theorem State.modRing_pending (s : State) (n : Nat) (f : Ring → Ring) : (s.modRing n f).pending = s.pending := rfl
@[simp] theorem State.modRing_reg (s : State) (n : Nat) (f : Ring → Ring) (reg : Nat) : (s.modRing n f).reg reg = s.reg reg := rfl

@[simp] theorem State.modTxn_regs (s : State) (n : Nat) (f : Txn → Txn) : (s.modTxn n f).regs = s.regs := rfl
@[simp] theorem State.modTxn_elapsed (s : State) (n : Nat) (f : Txn → Txn) : (s.modTxn n f).elapsed = s.elapsed := rfl
@[simp] theorem State.modTxn_time (s : State) (n : Nat) (f : Txn → Txn) : (s.modTxn n f).time = s.time := rfl
@[simp] theorem State.modTxn_eth (s : State) (n : Nat) (f : Txn → Txn) : (s.modTxn n f).eth = s.eth := rfl
@[simp] theorem State.modTxn_fwd (s : State) (n : Nat) (f : Txn → Txn) : (s.modTxn n f).fwd = s.fwd := rfl
@[simp] theorem State.modTxn_tm (s : State) (n : Nat) (f : Txn → Txn) : (s.modTxn n f).tm = s.tm := rfl
@[simp] theorem State.modTxn_sched (s : State) (n : Nat) (f : Txn → Txn) : (s.modTxn n f).sched = s.sched := rfl
@[simp] theorem State.modTxn_meas (s : State) (n : Nat) (f : Txn → Txn) : (s.modTxn n f).meas = s.meas := rfl
@[simp] theorem State.modTxn_ctl (s : State) (n : Nat) (f : Txn → Txn) : (s.modTxn n f).ctl = s.ctl := rfl
@[simp] theorem State.modTxn_draws (s : State) (n : Nat) (f : Txn → Txn) : (s.modTxn n f).draws = s.draws := rfl
@[simp] theorem State.modTxn_boot (s : State) (n : Nat) (f : Txn → Txn) : (s.modTxn n f).boot = s.boot := rfl
@[simp] theorem State.modTxn_sec (s : State) (n : Nat) (f : Txn → Txn) : (s.modTxn n f).sec = s.sec := rfl
@[simp] theorem State.modTxn_chain (s : State) (n : Nat) (f : Txn → Txn) : (s.modTxn n f).chain = s.chain := rfl
@[simp] theorem State.modTxn_darn (s : State) (n : Nat) (f : Txn → Txn) : (s.modTxn n f).darn = s.darn := rfl
@[simp] theorem State.modTxn_rtc (s : State) (n : Nat) (f : Txn → Txn) : (s.modTxn n f).rtc = s.rtc := rfl
@[simp] theorem State.modTxn_radios (s : State) (n : Nat) (f : Txn → Txn) : (s.modTxn n f).radios = s.radios := rfl
@[simp] theorem State.modTxn_lanes (s : State) (n : Nat) (f : Txn → Txn) : (s.modTxn n f).lanes = s.lanes := rfl
@[simp] theorem State.modTxn_rgl (s : State) (n : Nat) (f : Txn → Txn) : (s.modTxn n f).rgl = s.rgl := rfl
@[simp] theorem State.modTxn_loading (s : State) (n : Nat) (f : Txn → Txn) : (s.modTxn n f).loading = s.loading := rfl
@[simp] theorem State.modTxn_mac (s : State) (n : Nat) (f : Txn → Txn) : (s.modTxn n f).mac = s.mac := rfl
@[simp] theorem State.modTxn_cipher (s : State) (n : Nat) (f : Txn → Txn) : (s.modTxn n f).cipher = s.cipher := rfl
@[simp] theorem State.modTxn_dram (s : State) (n : Nat) (f : Txn → Txn) : (s.modTxn n f).dram = s.dram := rfl
@[simp] theorem State.modTxn_power (s : State) (n : Nat) (f : Txn → Txn) : (s.modTxn n f).power = s.power := rfl
@[simp] theorem State.modTxn_pins (s : State) (n : Nat) (f : Txn → Txn) : (s.modTxn n f).pins = s.pins := rfl
@[simp] theorem State.modTxn_pending (s : State) (n : Nat) (f : Txn → Txn) : (s.modTxn n f).pending = s.pending := rfl
@[simp] theorem State.modTxn_reg (s : State) (n : Nat) (f : Txn → Txn) (reg : Nat) : (s.modTxn n f).reg reg = s.reg reg := rfl

@[simp] theorem State.modRadio_regs (s : State) (n : Nat) (f : Radio → Radio) : (s.modRadio n f).regs = s.regs := rfl
@[simp] theorem State.modRadio_elapsed (s : State) (n : Nat) (f : Radio → Radio) : (s.modRadio n f).elapsed = s.elapsed := rfl
@[simp] theorem State.modRadio_time (s : State) (n : Nat) (f : Radio → Radio) : (s.modRadio n f).time = s.time := rfl
@[simp] theorem State.modRadio_eth (s : State) (n : Nat) (f : Radio → Radio) : (s.modRadio n f).eth = s.eth := rfl
@[simp] theorem State.modRadio_fwd (s : State) (n : Nat) (f : Radio → Radio) : (s.modRadio n f).fwd = s.fwd := rfl
@[simp] theorem State.modRadio_tm (s : State) (n : Nat) (f : Radio → Radio) : (s.modRadio n f).tm = s.tm := rfl
@[simp] theorem State.modRadio_sched (s : State) (n : Nat) (f : Radio → Radio) : (s.modRadio n f).sched = s.sched := rfl
@[simp] theorem State.modRadio_meas (s : State) (n : Nat) (f : Radio → Radio) : (s.modRadio n f).meas = s.meas := rfl
@[simp] theorem State.modRadio_ctl (s : State) (n : Nat) (f : Radio → Radio) : (s.modRadio n f).ctl = s.ctl := rfl
@[simp] theorem State.modRadio_draws (s : State) (n : Nat) (f : Radio → Radio) : (s.modRadio n f).draws = s.draws := rfl
@[simp] theorem State.modRadio_host (s : State) (n : Nat) (f : Radio → Radio) : (s.modRadio n f).host = s.host := rfl
@[simp] theorem State.modRadio_boot (s : State) (n : Nat) (f : Radio → Radio) : (s.modRadio n f).boot = s.boot := rfl
@[simp] theorem State.modRadio_sec (s : State) (n : Nat) (f : Radio → Radio) : (s.modRadio n f).sec = s.sec := rfl
@[simp] theorem State.modRadio_chain (s : State) (n : Nat) (f : Radio → Radio) : (s.modRadio n f).chain = s.chain := rfl
@[simp] theorem State.modRadio_darn (s : State) (n : Nat) (f : Radio → Radio) : (s.modRadio n f).darn = s.darn := rfl
@[simp] theorem State.modRadio_rtc (s : State) (n : Nat) (f : Radio → Radio) : (s.modRadio n f).rtc = s.rtc := rfl
@[simp] theorem State.modRadio_lanes (s : State) (n : Nat) (f : Radio → Radio) : (s.modRadio n f).lanes = s.lanes := rfl
@[simp] theorem State.modRadio_rgl (s : State) (n : Nat) (f : Radio → Radio) : (s.modRadio n f).rgl = s.rgl := rfl
@[simp] theorem State.modRadio_loading (s : State) (n : Nat) (f : Radio → Radio) : (s.modRadio n f).loading = s.loading := rfl
@[simp] theorem State.modRadio_mac (s : State) (n : Nat) (f : Radio → Radio) : (s.modRadio n f).mac = s.mac := rfl
@[simp] theorem State.modRadio_cipher (s : State) (n : Nat) (f : Radio → Radio) : (s.modRadio n f).cipher = s.cipher := rfl
@[simp] theorem State.modRadio_dram (s : State) (n : Nat) (f : Radio → Radio) : (s.modRadio n f).dram = s.dram := rfl
@[simp] theorem State.modRadio_power (s : State) (n : Nat) (f : Radio → Radio) : (s.modRadio n f).power = s.power := rfl
@[simp] theorem State.modRadio_pins (s : State) (n : Nat) (f : Radio → Radio) : (s.modRadio n f).pins = s.pins := rfl
@[simp] theorem State.modRadio_pending (s : State) (n : Nat) (f : Radio → Radio) : (s.modRadio n f).pending = s.pending := rfl
@[simp] theorem State.modRadio_reg (s : State) (n : Nat) (f : Radio → Radio) (reg : Nat) : (s.modRadio n f).reg reg = s.reg reg := rfl

@[simp] theorem State.modSynth_regs (s : State) (n k : Nat) (f : Synth → Synth) : (s.modSynth n k f).regs = s.regs := rfl
@[simp] theorem State.modSynth_elapsed (s : State) (n k : Nat) (f : Synth → Synth) : (s.modSynth n k f).elapsed = s.elapsed := rfl
@[simp] theorem State.modSynth_time (s : State) (n k : Nat) (f : Synth → Synth) : (s.modSynth n k f).time = s.time := rfl
@[simp] theorem State.modSynth_eth (s : State) (n k : Nat) (f : Synth → Synth) : (s.modSynth n k f).eth = s.eth := rfl
@[simp] theorem State.modSynth_fwd (s : State) (n k : Nat) (f : Synth → Synth) : (s.modSynth n k f).fwd = s.fwd := rfl
@[simp] theorem State.modSynth_tm (s : State) (n k : Nat) (f : Synth → Synth) : (s.modSynth n k f).tm = s.tm := rfl
@[simp] theorem State.modSynth_sched (s : State) (n k : Nat) (f : Synth → Synth) : (s.modSynth n k f).sched = s.sched := rfl
@[simp] theorem State.modSynth_meas (s : State) (n k : Nat) (f : Synth → Synth) : (s.modSynth n k f).meas = s.meas := rfl
@[simp] theorem State.modSynth_ctl (s : State) (n k : Nat) (f : Synth → Synth) : (s.modSynth n k f).ctl = s.ctl := rfl
@[simp] theorem State.modSynth_draws (s : State) (n k : Nat) (f : Synth → Synth) : (s.modSynth n k f).draws = s.draws := rfl
@[simp] theorem State.modSynth_host (s : State) (n k : Nat) (f : Synth → Synth) : (s.modSynth n k f).host = s.host := rfl
@[simp] theorem State.modSynth_boot (s : State) (n k : Nat) (f : Synth → Synth) : (s.modSynth n k f).boot = s.boot := rfl
@[simp] theorem State.modSynth_sec (s : State) (n k : Nat) (f : Synth → Synth) : (s.modSynth n k f).sec = s.sec := rfl
@[simp] theorem State.modSynth_chain (s : State) (n k : Nat) (f : Synth → Synth) : (s.modSynth n k f).chain = s.chain := rfl
@[simp] theorem State.modSynth_darn (s : State) (n k : Nat) (f : Synth → Synth) : (s.modSynth n k f).darn = s.darn := rfl
@[simp] theorem State.modSynth_rtc (s : State) (n k : Nat) (f : Synth → Synth) : (s.modSynth n k f).rtc = s.rtc := rfl
@[simp] theorem State.modSynth_lanes (s : State) (n k : Nat) (f : Synth → Synth) : (s.modSynth n k f).lanes = s.lanes := rfl
@[simp] theorem State.modSynth_rgl (s : State) (n k : Nat) (f : Synth → Synth) : (s.modSynth n k f).rgl = s.rgl := rfl
@[simp] theorem State.modSynth_loading (s : State) (n k : Nat) (f : Synth → Synth) : (s.modSynth n k f).loading = s.loading := rfl
@[simp] theorem State.modSynth_mac (s : State) (n k : Nat) (f : Synth → Synth) : (s.modSynth n k f).mac = s.mac := rfl
@[simp] theorem State.modSynth_cipher (s : State) (n k : Nat) (f : Synth → Synth) : (s.modSynth n k f).cipher = s.cipher := rfl
@[simp] theorem State.modSynth_dram (s : State) (n k : Nat) (f : Synth → Synth) : (s.modSynth n k f).dram = s.dram := rfl
@[simp] theorem State.modSynth_power (s : State) (n k : Nat) (f : Synth → Synth) : (s.modSynth n k f).power = s.power := rfl
@[simp] theorem State.modSynth_pins (s : State) (n k : Nat) (f : Synth → Synth) : (s.modSynth n k f).pins = s.pins := rfl
@[simp] theorem State.modSynth_pending (s : State) (n k : Nat) (f : Synth → Synth) : (s.modSynth n k f).pending = s.pending := rfl
@[simp] theorem State.modSynth_reg (s : State) (n k : Nat) (f : Synth → Synth) (reg : Nat) : (s.modSynth n k f).reg reg = s.reg reg := rfl

@[simp] theorem State.modFrame_regs (s : State) (i : Nat) (f : AirFrame → AirFrame) : (s.modFrame i f).regs = s.regs := rfl
@[simp] theorem State.modFrame_elapsed (s : State) (i : Nat) (f : AirFrame → AirFrame) : (s.modFrame i f).elapsed = s.elapsed := rfl
@[simp] theorem State.modFrame_time (s : State) (i : Nat) (f : AirFrame → AirFrame) : (s.modFrame i f).time = s.time := rfl
@[simp] theorem State.modFrame_eth (s : State) (i : Nat) (f : AirFrame → AirFrame) : (s.modFrame i f).eth = s.eth := rfl
@[simp] theorem State.modFrame_fwd (s : State) (i : Nat) (f : AirFrame → AirFrame) : (s.modFrame i f).fwd = s.fwd := rfl
@[simp] theorem State.modFrame_tm (s : State) (i : Nat) (f : AirFrame → AirFrame) : (s.modFrame i f).tm = s.tm := rfl
@[simp] theorem State.modFrame_sched (s : State) (i : Nat) (f : AirFrame → AirFrame) : (s.modFrame i f).sched = s.sched := rfl
@[simp] theorem State.modFrame_meas (s : State) (i : Nat) (f : AirFrame → AirFrame) : (s.modFrame i f).meas = s.meas := rfl
@[simp] theorem State.modFrame_ctl (s : State) (i : Nat) (f : AirFrame → AirFrame) : (s.modFrame i f).ctl = s.ctl := rfl
@[simp] theorem State.modFrame_draws (s : State) (i : Nat) (f : AirFrame → AirFrame) : (s.modFrame i f).draws = s.draws := rfl
@[simp] theorem State.modFrame_host (s : State) (i : Nat) (f : AirFrame → AirFrame) : (s.modFrame i f).host = s.host := rfl
@[simp] theorem State.modFrame_boot (s : State) (i : Nat) (f : AirFrame → AirFrame) : (s.modFrame i f).boot = s.boot := rfl
@[simp] theorem State.modFrame_sec (s : State) (i : Nat) (f : AirFrame → AirFrame) : (s.modFrame i f).sec = s.sec := rfl
@[simp] theorem State.modFrame_chain (s : State) (i : Nat) (f : AirFrame → AirFrame) : (s.modFrame i f).chain = s.chain := rfl
@[simp] theorem State.modFrame_darn (s : State) (i : Nat) (f : AirFrame → AirFrame) : (s.modFrame i f).darn = s.darn := rfl
@[simp] theorem State.modFrame_rtc (s : State) (i : Nat) (f : AirFrame → AirFrame) : (s.modFrame i f).rtc = s.rtc := rfl
@[simp] theorem State.modFrame_radios (s : State) (i : Nat) (f : AirFrame → AirFrame) : (s.modFrame i f).radios = s.radios := rfl
@[simp] theorem State.modFrame_lanes (s : State) (i : Nat) (f : AirFrame → AirFrame) : (s.modFrame i f).lanes = s.lanes := rfl
@[simp] theorem State.modFrame_rgl (s : State) (i : Nat) (f : AirFrame → AirFrame) : (s.modFrame i f).rgl = s.rgl := rfl
@[simp] theorem State.modFrame_loading (s : State) (i : Nat) (f : AirFrame → AirFrame) : (s.modFrame i f).loading = s.loading := rfl
@[simp] theorem State.modFrame_cipher (s : State) (i : Nat) (f : AirFrame → AirFrame) : (s.modFrame i f).cipher = s.cipher := rfl
@[simp] theorem State.modFrame_dram (s : State) (i : Nat) (f : AirFrame → AirFrame) : (s.modFrame i f).dram = s.dram := rfl
@[simp] theorem State.modFrame_power (s : State) (i : Nat) (f : AirFrame → AirFrame) : (s.modFrame i f).power = s.power := rfl
@[simp] theorem State.modFrame_pins (s : State) (i : Nat) (f : AirFrame → AirFrame) : (s.modFrame i f).pins = s.pins := rfl
@[simp] theorem State.modFrame_pending (s : State) (i : Nat) (f : AirFrame → AirFrame) : (s.modFrame i f).pending = s.pending := rfl
@[simp] theorem State.modFrame_reg (s : State) (i : Nat) (f : AirFrame → AirFrame) (reg : Nat) : (s.modFrame i f).reg reg = s.reg reg := rfl

@[simp] theorem State.modCopy_regs (s : State) (i m : Nat) (f : AirCopy → AirCopy) : (s.modCopy i m f).regs = s.regs := rfl
@[simp] theorem State.modCopy_elapsed (s : State) (i m : Nat) (f : AirCopy → AirCopy) : (s.modCopy i m f).elapsed = s.elapsed := rfl
@[simp] theorem State.modCopy_time (s : State) (i m : Nat) (f : AirCopy → AirCopy) : (s.modCopy i m f).time = s.time := rfl
@[simp] theorem State.modCopy_eth (s : State) (i m : Nat) (f : AirCopy → AirCopy) : (s.modCopy i m f).eth = s.eth := rfl
@[simp] theorem State.modCopy_fwd (s : State) (i m : Nat) (f : AirCopy → AirCopy) : (s.modCopy i m f).fwd = s.fwd := rfl
@[simp] theorem State.modCopy_tm (s : State) (i m : Nat) (f : AirCopy → AirCopy) : (s.modCopy i m f).tm = s.tm := rfl
@[simp] theorem State.modCopy_sched (s : State) (i m : Nat) (f : AirCopy → AirCopy) : (s.modCopy i m f).sched = s.sched := rfl
@[simp] theorem State.modCopy_meas (s : State) (i m : Nat) (f : AirCopy → AirCopy) : (s.modCopy i m f).meas = s.meas := rfl
@[simp] theorem State.modCopy_ctl (s : State) (i m : Nat) (f : AirCopy → AirCopy) : (s.modCopy i m f).ctl = s.ctl := rfl
@[simp] theorem State.modCopy_draws (s : State) (i m : Nat) (f : AirCopy → AirCopy) : (s.modCopy i m f).draws = s.draws := rfl
@[simp] theorem State.modCopy_host (s : State) (i m : Nat) (f : AirCopy → AirCopy) : (s.modCopy i m f).host = s.host := rfl
@[simp] theorem State.modCopy_boot (s : State) (i m : Nat) (f : AirCopy → AirCopy) : (s.modCopy i m f).boot = s.boot := rfl
@[simp] theorem State.modCopy_sec (s : State) (i m : Nat) (f : AirCopy → AirCopy) : (s.modCopy i m f).sec = s.sec := rfl
@[simp] theorem State.modCopy_chain (s : State) (i m : Nat) (f : AirCopy → AirCopy) : (s.modCopy i m f).chain = s.chain := rfl
@[simp] theorem State.modCopy_darn (s : State) (i m : Nat) (f : AirCopy → AirCopy) : (s.modCopy i m f).darn = s.darn := rfl
@[simp] theorem State.modCopy_rtc (s : State) (i m : Nat) (f : AirCopy → AirCopy) : (s.modCopy i m f).rtc = s.rtc := rfl
@[simp] theorem State.modCopy_radios (s : State) (i m : Nat) (f : AirCopy → AirCopy) : (s.modCopy i m f).radios = s.radios := rfl
@[simp] theorem State.modCopy_lanes (s : State) (i m : Nat) (f : AirCopy → AirCopy) : (s.modCopy i m f).lanes = s.lanes := rfl
@[simp] theorem State.modCopy_rgl (s : State) (i m : Nat) (f : AirCopy → AirCopy) : (s.modCopy i m f).rgl = s.rgl := rfl
@[simp] theorem State.modCopy_loading (s : State) (i m : Nat) (f : AirCopy → AirCopy) : (s.modCopy i m f).loading = s.loading := rfl
@[simp] theorem State.modCopy_cipher (s : State) (i m : Nat) (f : AirCopy → AirCopy) : (s.modCopy i m f).cipher = s.cipher := rfl
@[simp] theorem State.modCopy_dram (s : State) (i m : Nat) (f : AirCopy → AirCopy) : (s.modCopy i m f).dram = s.dram := rfl
@[simp] theorem State.modCopy_power (s : State) (i m : Nat) (f : AirCopy → AirCopy) : (s.modCopy i m f).power = s.power := rfl
@[simp] theorem State.modCopy_pins (s : State) (i m : Nat) (f : AirCopy → AirCopy) : (s.modCopy i m f).pins = s.pins := rfl
@[simp] theorem State.modCopy_pending (s : State) (i m : Nat) (f : AirCopy → AirCopy) : (s.modCopy i m f).pending = s.pending := rfl
@[simp] theorem State.modCopy_reg (s : State) (i m : Nat) (f : AirCopy → AirCopy) (reg : Nat) : (s.modCopy i m f).reg reg = s.reg reg := rfl

@[simp] theorem State.modPlait_regs (s : State) (i : Nat) (f : Plait → Plait) : (s.modPlait i f).regs = s.regs := rfl
@[simp] theorem State.modPlait_elapsed (s : State) (i : Nat) (f : Plait → Plait) : (s.modPlait i f).elapsed = s.elapsed := rfl
@[simp] theorem State.modPlait_time (s : State) (i : Nat) (f : Plait → Plait) : (s.modPlait i f).time = s.time := rfl
@[simp] theorem State.modPlait_eth (s : State) (i : Nat) (f : Plait → Plait) : (s.modPlait i f).eth = s.eth := rfl
@[simp] theorem State.modPlait_fwd (s : State) (i : Nat) (f : Plait → Plait) : (s.modPlait i f).fwd = s.fwd := rfl
@[simp] theorem State.modPlait_tm (s : State) (i : Nat) (f : Plait → Plait) : (s.modPlait i f).tm = s.tm := rfl
@[simp] theorem State.modPlait_sched (s : State) (i : Nat) (f : Plait → Plait) : (s.modPlait i f).sched = s.sched := rfl
@[simp] theorem State.modPlait_meas (s : State) (i : Nat) (f : Plait → Plait) : (s.modPlait i f).meas = s.meas := rfl
@[simp] theorem State.modPlait_ctl (s : State) (i : Nat) (f : Plait → Plait) : (s.modPlait i f).ctl = s.ctl := rfl
@[simp] theorem State.modPlait_draws (s : State) (i : Nat) (f : Plait → Plait) : (s.modPlait i f).draws = s.draws := rfl
@[simp] theorem State.modPlait_host (s : State) (i : Nat) (f : Plait → Plait) : (s.modPlait i f).host = s.host := rfl
@[simp] theorem State.modPlait_boot (s : State) (i : Nat) (f : Plait → Plait) : (s.modPlait i f).boot = s.boot := rfl
@[simp] theorem State.modPlait_sec (s : State) (i : Nat) (f : Plait → Plait) : (s.modPlait i f).sec = s.sec := rfl
@[simp] theorem State.modPlait_chain (s : State) (i : Nat) (f : Plait → Plait) : (s.modPlait i f).chain = s.chain := rfl
@[simp] theorem State.modPlait_darn (s : State) (i : Nat) (f : Plait → Plait) : (s.modPlait i f).darn = s.darn := rfl
@[simp] theorem State.modPlait_rtc (s : State) (i : Nat) (f : Plait → Plait) : (s.modPlait i f).rtc = s.rtc := rfl
@[simp] theorem State.modPlait_radios (s : State) (i : Nat) (f : Plait → Plait) : (s.modPlait i f).radios = s.radios := rfl
@[simp] theorem State.modPlait_lanes (s : State) (i : Nat) (f : Plait → Plait) : (s.modPlait i f).lanes = s.lanes := rfl
@[simp] theorem State.modPlait_rgl (s : State) (i : Nat) (f : Plait → Plait) : (s.modPlait i f).rgl = s.rgl := rfl
@[simp] theorem State.modPlait_loading (s : State) (i : Nat) (f : Plait → Plait) : (s.modPlait i f).loading = s.loading := rfl
@[simp] theorem State.modPlait_cipher (s : State) (i : Nat) (f : Plait → Plait) : (s.modPlait i f).cipher = s.cipher := rfl
@[simp] theorem State.modPlait_dram (s : State) (i : Nat) (f : Plait → Plait) : (s.modPlait i f).dram = s.dram := rfl
@[simp] theorem State.modPlait_power (s : State) (i : Nat) (f : Plait → Plait) : (s.modPlait i f).power = s.power := rfl
@[simp] theorem State.modPlait_pins (s : State) (i : Nat) (f : Plait → Plait) : (s.modPlait i f).pins = s.pins := rfl
@[simp] theorem State.modPlait_pending (s : State) (i : Nat) (f : Plait → Plait) : (s.modPlait i f).pending = s.pending := rfl
@[simp] theorem State.modPlait_reg (s : State) (i : Nat) (f : Plait → Plait) (reg : Nat) : (s.modPlait i f).reg reg = s.reg reg := rfl

@[simp] theorem State.modOutput_regs (s : State) (k : Nat) (f : Output → Output) : (s.modOutput k f).regs = s.regs := rfl
@[simp] theorem State.modOutput_elapsed (s : State) (k : Nat) (f : Output → Output) : (s.modOutput k f).elapsed = s.elapsed := rfl
@[simp] theorem State.modOutput_time (s : State) (k : Nat) (f : Output → Output) : (s.modOutput k f).time = s.time := rfl
@[simp] theorem State.modOutput_eth (s : State) (k : Nat) (f : Output → Output) : (s.modOutput k f).eth = s.eth := rfl
@[simp] theorem State.modOutput_fwd (s : State) (k : Nat) (f : Output → Output) : (s.modOutput k f).fwd = s.fwd := rfl
@[simp] theorem State.modOutput_tm (s : State) (k : Nat) (f : Output → Output) : (s.modOutput k f).tm = s.tm := rfl
@[simp] theorem State.modOutput_sched (s : State) (k : Nat) (f : Output → Output) : (s.modOutput k f).sched = s.sched := rfl
@[simp] theorem State.modOutput_ctl (s : State) (k : Nat) (f : Output → Output) : (s.modOutput k f).ctl = s.ctl := rfl
@[simp] theorem State.modOutput_draws (s : State) (k : Nat) (f : Output → Output) : (s.modOutput k f).draws = s.draws := rfl
@[simp] theorem State.modOutput_host (s : State) (k : Nat) (f : Output → Output) : (s.modOutput k f).host = s.host := rfl
@[simp] theorem State.modOutput_boot (s : State) (k : Nat) (f : Output → Output) : (s.modOutput k f).boot = s.boot := rfl
@[simp] theorem State.modOutput_sec (s : State) (k : Nat) (f : Output → Output) : (s.modOutput k f).sec = s.sec := rfl
@[simp] theorem State.modOutput_chain (s : State) (k : Nat) (f : Output → Output) : (s.modOutput k f).chain = s.chain := rfl
@[simp] theorem State.modOutput_darn (s : State) (k : Nat) (f : Output → Output) : (s.modOutput k f).darn = s.darn := rfl
@[simp] theorem State.modOutput_rtc (s : State) (k : Nat) (f : Output → Output) : (s.modOutput k f).rtc = s.rtc := rfl
@[simp] theorem State.modOutput_radios (s : State) (k : Nat) (f : Output → Output) : (s.modOutput k f).radios = s.radios := rfl
@[simp] theorem State.modOutput_lanes (s : State) (k : Nat) (f : Output → Output) : (s.modOutput k f).lanes = s.lanes := rfl
@[simp] theorem State.modOutput_rgl (s : State) (k : Nat) (f : Output → Output) : (s.modOutput k f).rgl = s.rgl := rfl
@[simp] theorem State.modOutput_loading (s : State) (k : Nat) (f : Output → Output) : (s.modOutput k f).loading = s.loading := rfl
@[simp] theorem State.modOutput_mac (s : State) (k : Nat) (f : Output → Output) : (s.modOutput k f).mac = s.mac := rfl
@[simp] theorem State.modOutput_cipher (s : State) (k : Nat) (f : Output → Output) : (s.modOutput k f).cipher = s.cipher := rfl
@[simp] theorem State.modOutput_dram (s : State) (k : Nat) (f : Output → Output) : (s.modOutput k f).dram = s.dram := rfl
@[simp] theorem State.modOutput_power (s : State) (k : Nat) (f : Output → Output) : (s.modOutput k f).power = s.power := rfl
@[simp] theorem State.modOutput_pins (s : State) (k : Nat) (f : Output → Output) : (s.modOutput k f).pins = s.pins := rfl
@[simp] theorem State.modOutput_pending (s : State) (k : Nat) (f : Output → Output) : (s.modOutput k f).pending = s.pending := rfl
@[simp] theorem State.modOutput_reg (s : State) (k : Nat) (f : Output → Output) (reg : Nat) : (s.modOutput k f).reg reg = s.reg reg := rfl

@[simp] theorem State.modPulse_regs (s : State) (k : Nat) (f : Pulse → Pulse) : (s.modPulse k f).regs = s.regs := rfl
@[simp] theorem State.modPulse_elapsed (s : State) (k : Nat) (f : Pulse → Pulse) : (s.modPulse k f).elapsed = s.elapsed := rfl
@[simp] theorem State.modPulse_eth (s : State) (k : Nat) (f : Pulse → Pulse) : (s.modPulse k f).eth = s.eth := rfl
@[simp] theorem State.modPulse_fwd (s : State) (k : Nat) (f : Pulse → Pulse) : (s.modPulse k f).fwd = s.fwd := rfl
@[simp] theorem State.modPulse_tm (s : State) (k : Nat) (f : Pulse → Pulse) : (s.modPulse k f).tm = s.tm := rfl
@[simp] theorem State.modPulse_sched (s : State) (k : Nat) (f : Pulse → Pulse) : (s.modPulse k f).sched = s.sched := rfl
@[simp] theorem State.modPulse_meas (s : State) (k : Nat) (f : Pulse → Pulse) : (s.modPulse k f).meas = s.meas := rfl
@[simp] theorem State.modPulse_ctl (s : State) (k : Nat) (f : Pulse → Pulse) : (s.modPulse k f).ctl = s.ctl := rfl
@[simp] theorem State.modPulse_draws (s : State) (k : Nat) (f : Pulse → Pulse) : (s.modPulse k f).draws = s.draws := rfl
@[simp] theorem State.modPulse_host (s : State) (k : Nat) (f : Pulse → Pulse) : (s.modPulse k f).host = s.host := rfl
@[simp] theorem State.modPulse_boot (s : State) (k : Nat) (f : Pulse → Pulse) : (s.modPulse k f).boot = s.boot := rfl
@[simp] theorem State.modPulse_sec (s : State) (k : Nat) (f : Pulse → Pulse) : (s.modPulse k f).sec = s.sec := rfl
@[simp] theorem State.modPulse_chain (s : State) (k : Nat) (f : Pulse → Pulse) : (s.modPulse k f).chain = s.chain := rfl
@[simp] theorem State.modPulse_darn (s : State) (k : Nat) (f : Pulse → Pulse) : (s.modPulse k f).darn = s.darn := rfl
@[simp] theorem State.modPulse_rtc (s : State) (k : Nat) (f : Pulse → Pulse) : (s.modPulse k f).rtc = s.rtc := rfl
@[simp] theorem State.modPulse_radios (s : State) (k : Nat) (f : Pulse → Pulse) : (s.modPulse k f).radios = s.radios := rfl
@[simp] theorem State.modPulse_lanes (s : State) (k : Nat) (f : Pulse → Pulse) : (s.modPulse k f).lanes = s.lanes := rfl
@[simp] theorem State.modPulse_rgl (s : State) (k : Nat) (f : Pulse → Pulse) : (s.modPulse k f).rgl = s.rgl := rfl
@[simp] theorem State.modPulse_loading (s : State) (k : Nat) (f : Pulse → Pulse) : (s.modPulse k f).loading = s.loading := rfl
@[simp] theorem State.modPulse_mac (s : State) (k : Nat) (f : Pulse → Pulse) : (s.modPulse k f).mac = s.mac := rfl
@[simp] theorem State.modPulse_cipher (s : State) (k : Nat) (f : Pulse → Pulse) : (s.modPulse k f).cipher = s.cipher := rfl
@[simp] theorem State.modPulse_dram (s : State) (k : Nat) (f : Pulse → Pulse) : (s.modPulse k f).dram = s.dram := rfl
@[simp] theorem State.modPulse_power (s : State) (k : Nat) (f : Pulse → Pulse) : (s.modPulse k f).power = s.power := rfl
@[simp] theorem State.modPulse_pins (s : State) (k : Nat) (f : Pulse → Pulse) : (s.modPulse k f).pins = s.pins := rfl
@[simp] theorem State.modPulse_pending (s : State) (k : Nat) (f : Pulse → Pulse) : (s.modPulse k f).pending = s.pending := rfl
@[simp] theorem State.modPulse_reg (s : State) (k : Nat) (f : Pulse → Pulse) (reg : Nat) : (s.modPulse k f).reg reg = s.reg reg := rfl

@[simp] theorem State.modPort_regs (s : State) (k : Nat) (f : EthPort → EthPort) : (s.modPort k f).regs = s.regs := rfl
@[simp] theorem State.modPort_elapsed (s : State) (k : Nat) (f : EthPort → EthPort) : (s.modPort k f).elapsed = s.elapsed := rfl
@[simp] theorem State.modPort_time (s : State) (k : Nat) (f : EthPort → EthPort) : (s.modPort k f).time = s.time := rfl
@[simp] theorem State.modPort_fwd (s : State) (k : Nat) (f : EthPort → EthPort) : (s.modPort k f).fwd = s.fwd := rfl
@[simp] theorem State.modPort_tm (s : State) (k : Nat) (f : EthPort → EthPort) : (s.modPort k f).tm = s.tm := rfl
@[simp] theorem State.modPort_sched (s : State) (k : Nat) (f : EthPort → EthPort) : (s.modPort k f).sched = s.sched := rfl
@[simp] theorem State.modPort_meas (s : State) (k : Nat) (f : EthPort → EthPort) : (s.modPort k f).meas = s.meas := rfl
@[simp] theorem State.modPort_ctl (s : State) (k : Nat) (f : EthPort → EthPort) : (s.modPort k f).ctl = s.ctl := rfl
@[simp] theorem State.modPort_draws (s : State) (k : Nat) (f : EthPort → EthPort) : (s.modPort k f).draws = s.draws := rfl
@[simp] theorem State.modPort_host (s : State) (k : Nat) (f : EthPort → EthPort) : (s.modPort k f).host = s.host := rfl
@[simp] theorem State.modPort_boot (s : State) (k : Nat) (f : EthPort → EthPort) : (s.modPort k f).boot = s.boot := rfl
@[simp] theorem State.modPort_sec (s : State) (k : Nat) (f : EthPort → EthPort) : (s.modPort k f).sec = s.sec := rfl
@[simp] theorem State.modPort_chain (s : State) (k : Nat) (f : EthPort → EthPort) : (s.modPort k f).chain = s.chain := rfl
@[simp] theorem State.modPort_darn (s : State) (k : Nat) (f : EthPort → EthPort) : (s.modPort k f).darn = s.darn := rfl
@[simp] theorem State.modPort_rtc (s : State) (k : Nat) (f : EthPort → EthPort) : (s.modPort k f).rtc = s.rtc := rfl
@[simp] theorem State.modPort_radios (s : State) (k : Nat) (f : EthPort → EthPort) : (s.modPort k f).radios = s.radios := rfl
@[simp] theorem State.modPort_lanes (s : State) (k : Nat) (f : EthPort → EthPort) : (s.modPort k f).lanes = s.lanes := rfl
@[simp] theorem State.modPort_rgl (s : State) (k : Nat) (f : EthPort → EthPort) : (s.modPort k f).rgl = s.rgl := rfl
@[simp] theorem State.modPort_loading (s : State) (k : Nat) (f : EthPort → EthPort) : (s.modPort k f).loading = s.loading := rfl
@[simp] theorem State.modPort_mac (s : State) (k : Nat) (f : EthPort → EthPort) : (s.modPort k f).mac = s.mac := rfl
@[simp] theorem State.modPort_cipher (s : State) (k : Nat) (f : EthPort → EthPort) : (s.modPort k f).cipher = s.cipher := rfl
@[simp] theorem State.modPort_dram (s : State) (k : Nat) (f : EthPort → EthPort) : (s.modPort k f).dram = s.dram := rfl
@[simp] theorem State.modPort_power (s : State) (k : Nat) (f : EthPort → EthPort) : (s.modPort k f).power = s.power := rfl
@[simp] theorem State.modPort_pins (s : State) (k : Nat) (f : EthPort → EthPort) : (s.modPort k f).pins = s.pins := rfl
@[simp] theorem State.modPort_pending (s : State) (k : Nat) (f : EthPort → EthPort) : (s.modPort k f).pending = s.pending := rfl
@[simp] theorem State.modPort_reg (s : State) (k : Nat) (f : EthPort → EthPort) (reg : Nat) : (s.modPort k f).reg reg = s.reg reg := rfl

@[simp] theorem State.modTimer_regs (s : State) (k : Nat) (f : Timer → Timer) : (s.modTimer k f).regs = s.regs := rfl
@[simp] theorem State.modTimer_elapsed (s : State) (k : Nat) (f : Timer → Timer) : (s.modTimer k f).elapsed = s.elapsed := rfl
@[simp] theorem State.modTimer_time (s : State) (k : Nat) (f : Timer → Timer) : (s.modTimer k f).time = s.time := rfl
@[simp] theorem State.modTimer_eth (s : State) (k : Nat) (f : Timer → Timer) : (s.modTimer k f).eth = s.eth := rfl
@[simp] theorem State.modTimer_fwd (s : State) (k : Nat) (f : Timer → Timer) : (s.modTimer k f).fwd = s.fwd := rfl
@[simp] theorem State.modTimer_tm (s : State) (k : Nat) (f : Timer → Timer) : (s.modTimer k f).tm = s.tm := rfl
@[simp] theorem State.modTimer_sched (s : State) (k : Nat) (f : Timer → Timer) : (s.modTimer k f).sched = s.sched := rfl
@[simp] theorem State.modTimer_ctl (s : State) (k : Nat) (f : Timer → Timer) : (s.modTimer k f).ctl = s.ctl := rfl
@[simp] theorem State.modTimer_draws (s : State) (k : Nat) (f : Timer → Timer) : (s.modTimer k f).draws = s.draws := rfl
@[simp] theorem State.modTimer_host (s : State) (k : Nat) (f : Timer → Timer) : (s.modTimer k f).host = s.host := rfl
@[simp] theorem State.modTimer_boot (s : State) (k : Nat) (f : Timer → Timer) : (s.modTimer k f).boot = s.boot := rfl
@[simp] theorem State.modTimer_sec (s : State) (k : Nat) (f : Timer → Timer) : (s.modTimer k f).sec = s.sec := rfl
@[simp] theorem State.modTimer_chain (s : State) (k : Nat) (f : Timer → Timer) : (s.modTimer k f).chain = s.chain := rfl
@[simp] theorem State.modTimer_darn (s : State) (k : Nat) (f : Timer → Timer) : (s.modTimer k f).darn = s.darn := rfl
@[simp] theorem State.modTimer_rtc (s : State) (k : Nat) (f : Timer → Timer) : (s.modTimer k f).rtc = s.rtc := rfl
@[simp] theorem State.modTimer_radios (s : State) (k : Nat) (f : Timer → Timer) : (s.modTimer k f).radios = s.radios := rfl
@[simp] theorem State.modTimer_lanes (s : State) (k : Nat) (f : Timer → Timer) : (s.modTimer k f).lanes = s.lanes := rfl
@[simp] theorem State.modTimer_rgl (s : State) (k : Nat) (f : Timer → Timer) : (s.modTimer k f).rgl = s.rgl := rfl
@[simp] theorem State.modTimer_loading (s : State) (k : Nat) (f : Timer → Timer) : (s.modTimer k f).loading = s.loading := rfl
@[simp] theorem State.modTimer_mac (s : State) (k : Nat) (f : Timer → Timer) : (s.modTimer k f).mac = s.mac := rfl
@[simp] theorem State.modTimer_cipher (s : State) (k : Nat) (f : Timer → Timer) : (s.modTimer k f).cipher = s.cipher := rfl
@[simp] theorem State.modTimer_dram (s : State) (k : Nat) (f : Timer → Timer) : (s.modTimer k f).dram = s.dram := rfl
@[simp] theorem State.modTimer_power (s : State) (k : Nat) (f : Timer → Timer) : (s.modTimer k f).power = s.power := rfl
@[simp] theorem State.modTimer_pins (s : State) (k : Nat) (f : Timer → Timer) : (s.modTimer k f).pins = s.pins := rfl
@[simp] theorem State.modTimer_pending (s : State) (k : Nat) (f : Timer → Timer) : (s.modTimer k f).pending = s.pending := rfl
@[simp] theorem State.modTimer_reg (s : State) (k : Nat) (f : Timer → Timer) (reg : Nat) : (s.modTimer k f).reg reg = s.reg reg := rfl

@[simp] theorem State.modCapture_regs (s : State) (k : Nat) (f : Capture → Capture) : (s.modCapture k f).regs = s.regs := rfl
@[simp] theorem State.modCapture_elapsed (s : State) (k : Nat) (f : Capture → Capture) : (s.modCapture k f).elapsed = s.elapsed := rfl
@[simp] theorem State.modCapture_time (s : State) (k : Nat) (f : Capture → Capture) : (s.modCapture k f).time = s.time := rfl
@[simp] theorem State.modCapture_eth (s : State) (k : Nat) (f : Capture → Capture) : (s.modCapture k f).eth = s.eth := rfl
@[simp] theorem State.modCapture_fwd (s : State) (k : Nat) (f : Capture → Capture) : (s.modCapture k f).fwd = s.fwd := rfl
@[simp] theorem State.modCapture_tm (s : State) (k : Nat) (f : Capture → Capture) : (s.modCapture k f).tm = s.tm := rfl
@[simp] theorem State.modCapture_sched (s : State) (k : Nat) (f : Capture → Capture) : (s.modCapture k f).sched = s.sched := rfl
@[simp] theorem State.modCapture_ctl (s : State) (k : Nat) (f : Capture → Capture) : (s.modCapture k f).ctl = s.ctl := rfl
@[simp] theorem State.modCapture_draws (s : State) (k : Nat) (f : Capture → Capture) : (s.modCapture k f).draws = s.draws := rfl
@[simp] theorem State.modCapture_host (s : State) (k : Nat) (f : Capture → Capture) : (s.modCapture k f).host = s.host := rfl
@[simp] theorem State.modCapture_boot (s : State) (k : Nat) (f : Capture → Capture) : (s.modCapture k f).boot = s.boot := rfl
@[simp] theorem State.modCapture_sec (s : State) (k : Nat) (f : Capture → Capture) : (s.modCapture k f).sec = s.sec := rfl
@[simp] theorem State.modCapture_chain (s : State) (k : Nat) (f : Capture → Capture) : (s.modCapture k f).chain = s.chain := rfl
@[simp] theorem State.modCapture_darn (s : State) (k : Nat) (f : Capture → Capture) : (s.modCapture k f).darn = s.darn := rfl
@[simp] theorem State.modCapture_rtc (s : State) (k : Nat) (f : Capture → Capture) : (s.modCapture k f).rtc = s.rtc := rfl
@[simp] theorem State.modCapture_radios (s : State) (k : Nat) (f : Capture → Capture) : (s.modCapture k f).radios = s.radios := rfl
@[simp] theorem State.modCapture_lanes (s : State) (k : Nat) (f : Capture → Capture) : (s.modCapture k f).lanes = s.lanes := rfl
@[simp] theorem State.modCapture_rgl (s : State) (k : Nat) (f : Capture → Capture) : (s.modCapture k f).rgl = s.rgl := rfl
@[simp] theorem State.modCapture_loading (s : State) (k : Nat) (f : Capture → Capture) : (s.modCapture k f).loading = s.loading := rfl
@[simp] theorem State.modCapture_mac (s : State) (k : Nat) (f : Capture → Capture) : (s.modCapture k f).mac = s.mac := rfl
@[simp] theorem State.modCapture_cipher (s : State) (k : Nat) (f : Capture → Capture) : (s.modCapture k f).cipher = s.cipher := rfl
@[simp] theorem State.modCapture_dram (s : State) (k : Nat) (f : Capture → Capture) : (s.modCapture k f).dram = s.dram := rfl
@[simp] theorem State.modCapture_power (s : State) (k : Nat) (f : Capture → Capture) : (s.modCapture k f).power = s.power := rfl
@[simp] theorem State.modCapture_pins (s : State) (k : Nat) (f : Capture → Capture) : (s.modCapture k f).pins = s.pins := rfl
@[simp] theorem State.modCapture_pending (s : State) (k : Nat) (f : Capture → Capture) : (s.modCapture k f).pending = s.pending := rfl
@[simp] theorem State.modCapture_reg (s : State) (k : Nat) (f : Capture → Capture) (reg : Nat) : (s.modCapture k f).reg reg = s.reg reg := rfl

@[simp] theorem State.modSerial_regs (s : State) (k : Nat) (f : Serial → Serial) : (s.modSerial k f).regs = s.regs := rfl
@[simp] theorem State.modSerial_elapsed (s : State) (k : Nat) (f : Serial → Serial) : (s.modSerial k f).elapsed = s.elapsed := rfl
@[simp] theorem State.modSerial_time (s : State) (k : Nat) (f : Serial → Serial) : (s.modSerial k f).time = s.time := rfl
@[simp] theorem State.modSerial_eth (s : State) (k : Nat) (f : Serial → Serial) : (s.modSerial k f).eth = s.eth := rfl
@[simp] theorem State.modSerial_fwd (s : State) (k : Nat) (f : Serial → Serial) : (s.modSerial k f).fwd = s.fwd := rfl
@[simp] theorem State.modSerial_tm (s : State) (k : Nat) (f : Serial → Serial) : (s.modSerial k f).tm = s.tm := rfl
@[simp] theorem State.modSerial_sched (s : State) (k : Nat) (f : Serial → Serial) : (s.modSerial k f).sched = s.sched := rfl
@[simp] theorem State.modSerial_ctl (s : State) (k : Nat) (f : Serial → Serial) : (s.modSerial k f).ctl = s.ctl := rfl
@[simp] theorem State.modSerial_draws (s : State) (k : Nat) (f : Serial → Serial) : (s.modSerial k f).draws = s.draws := rfl
@[simp] theorem State.modSerial_host (s : State) (k : Nat) (f : Serial → Serial) : (s.modSerial k f).host = s.host := rfl
@[simp] theorem State.modSerial_boot (s : State) (k : Nat) (f : Serial → Serial) : (s.modSerial k f).boot = s.boot := rfl
@[simp] theorem State.modSerial_sec (s : State) (k : Nat) (f : Serial → Serial) : (s.modSerial k f).sec = s.sec := rfl
@[simp] theorem State.modSerial_chain (s : State) (k : Nat) (f : Serial → Serial) : (s.modSerial k f).chain = s.chain := rfl
@[simp] theorem State.modSerial_darn (s : State) (k : Nat) (f : Serial → Serial) : (s.modSerial k f).darn = s.darn := rfl
@[simp] theorem State.modSerial_rtc (s : State) (k : Nat) (f : Serial → Serial) : (s.modSerial k f).rtc = s.rtc := rfl
@[simp] theorem State.modSerial_radios (s : State) (k : Nat) (f : Serial → Serial) : (s.modSerial k f).radios = s.radios := rfl
@[simp] theorem State.modSerial_lanes (s : State) (k : Nat) (f : Serial → Serial) : (s.modSerial k f).lanes = s.lanes := rfl
@[simp] theorem State.modSerial_rgl (s : State) (k : Nat) (f : Serial → Serial) : (s.modSerial k f).rgl = s.rgl := rfl
@[simp] theorem State.modSerial_loading (s : State) (k : Nat) (f : Serial → Serial) : (s.modSerial k f).loading = s.loading := rfl
@[simp] theorem State.modSerial_mac (s : State) (k : Nat) (f : Serial → Serial) : (s.modSerial k f).mac = s.mac := rfl
@[simp] theorem State.modSerial_cipher (s : State) (k : Nat) (f : Serial → Serial) : (s.modSerial k f).cipher = s.cipher := rfl
@[simp] theorem State.modSerial_dram (s : State) (k : Nat) (f : Serial → Serial) : (s.modSerial k f).dram = s.dram := rfl
@[simp] theorem State.modSerial_power (s : State) (k : Nat) (f : Serial → Serial) : (s.modSerial k f).power = s.power := rfl
@[simp] theorem State.modSerial_pins (s : State) (k : Nat) (f : Serial → Serial) : (s.modSerial k f).pins = s.pins := rfl
@[simp] theorem State.modSerial_pending (s : State) (k : Nat) (f : Serial → Serial) : (s.modSerial k f).pending = s.pending := rfl
@[simp] theorem State.modSerial_reg (s : State) (k : Nat) (f : Serial → Serial) (reg : Nat) : (s.modSerial k f).reg reg = s.reg reg := rfl

@[simp] theorem State.modSlot_regs (s : State) (k : Nat) (f : FwSlot → FwSlot) : (s.modSlot k f).regs = s.regs := rfl
@[simp] theorem State.modSlot_elapsed (s : State) (k : Nat) (f : FwSlot → FwSlot) : (s.modSlot k f).elapsed = s.elapsed := rfl
@[simp] theorem State.modSlot_time (s : State) (k : Nat) (f : FwSlot → FwSlot) : (s.modSlot k f).time = s.time := rfl
@[simp] theorem State.modSlot_eth (s : State) (k : Nat) (f : FwSlot → FwSlot) : (s.modSlot k f).eth = s.eth := rfl
@[simp] theorem State.modSlot_fwd (s : State) (k : Nat) (f : FwSlot → FwSlot) : (s.modSlot k f).fwd = s.fwd := rfl
@[simp] theorem State.modSlot_tm (s : State) (k : Nat) (f : FwSlot → FwSlot) : (s.modSlot k f).tm = s.tm := rfl
@[simp] theorem State.modSlot_sched (s : State) (k : Nat) (f : FwSlot → FwSlot) : (s.modSlot k f).sched = s.sched := rfl
@[simp] theorem State.modSlot_meas (s : State) (k : Nat) (f : FwSlot → FwSlot) : (s.modSlot k f).meas = s.meas := rfl
@[simp] theorem State.modSlot_ctl (s : State) (k : Nat) (f : FwSlot → FwSlot) : (s.modSlot k f).ctl = s.ctl := rfl
@[simp] theorem State.modSlot_draws (s : State) (k : Nat) (f : FwSlot → FwSlot) : (s.modSlot k f).draws = s.draws := rfl
@[simp] theorem State.modSlot_host (s : State) (k : Nat) (f : FwSlot → FwSlot) : (s.modSlot k f).host = s.host := rfl
@[simp] theorem State.modSlot_sec (s : State) (k : Nat) (f : FwSlot → FwSlot) : (s.modSlot k f).sec = s.sec := rfl
@[simp] theorem State.modSlot_chain (s : State) (k : Nat) (f : FwSlot → FwSlot) : (s.modSlot k f).chain = s.chain := rfl
@[simp] theorem State.modSlot_darn (s : State) (k : Nat) (f : FwSlot → FwSlot) : (s.modSlot k f).darn = s.darn := rfl
@[simp] theorem State.modSlot_rtc (s : State) (k : Nat) (f : FwSlot → FwSlot) : (s.modSlot k f).rtc = s.rtc := rfl
@[simp] theorem State.modSlot_radios (s : State) (k : Nat) (f : FwSlot → FwSlot) : (s.modSlot k f).radios = s.radios := rfl
@[simp] theorem State.modSlot_lanes (s : State) (k : Nat) (f : FwSlot → FwSlot) : (s.modSlot k f).lanes = s.lanes := rfl
@[simp] theorem State.modSlot_rgl (s : State) (k : Nat) (f : FwSlot → FwSlot) : (s.modSlot k f).rgl = s.rgl := rfl
@[simp] theorem State.modSlot_loading (s : State) (k : Nat) (f : FwSlot → FwSlot) : (s.modSlot k f).loading = s.loading := rfl
@[simp] theorem State.modSlot_mac (s : State) (k : Nat) (f : FwSlot → FwSlot) : (s.modSlot k f).mac = s.mac := rfl
@[simp] theorem State.modSlot_cipher (s : State) (k : Nat) (f : FwSlot → FwSlot) : (s.modSlot k f).cipher = s.cipher := rfl
@[simp] theorem State.modSlot_dram (s : State) (k : Nat) (f : FwSlot → FwSlot) : (s.modSlot k f).dram = s.dram := rfl
@[simp] theorem State.modSlot_power (s : State) (k : Nat) (f : FwSlot → FwSlot) : (s.modSlot k f).power = s.power := rfl
@[simp] theorem State.modSlot_pins (s : State) (k : Nat) (f : FwSlot → FwSlot) : (s.modSlot k f).pins = s.pins := rfl
@[simp] theorem State.modSlot_pending (s : State) (k : Nat) (f : FwSlot → FwSlot) : (s.modSlot k f).pending = s.pending := rfl
@[simp] theorem State.modSlot_reg (s : State) (k : Nat) (f : FwSlot → FwSlot) (reg : Nat) : (s.modSlot k f).reg reg = s.reg reg := rfl

@[simp] theorem State.modWindow_regs (s : State) (n k : Nat) (f : Window → Window) : (s.modWindow n k f).regs = s.regs := rfl
@[simp] theorem State.modWindow_elapsed (s : State) (n k : Nat) (f : Window → Window) : (s.modWindow n k f).elapsed = s.elapsed := rfl
@[simp] theorem State.modWindow_time (s : State) (n k : Nat) (f : Window → Window) : (s.modWindow n k f).time = s.time := rfl
@[simp] theorem State.modWindow_eth (s : State) (n k : Nat) (f : Window → Window) : (s.modWindow n k f).eth = s.eth := rfl
@[simp] theorem State.modWindow_fwd (s : State) (n k : Nat) (f : Window → Window) : (s.modWindow n k f).fwd = s.fwd := rfl
@[simp] theorem State.modWindow_tm (s : State) (n k : Nat) (f : Window → Window) : (s.modWindow n k f).tm = s.tm := rfl
@[simp] theorem State.modWindow_sched (s : State) (n k : Nat) (f : Window → Window) : (s.modWindow n k f).sched = s.sched := rfl
@[simp] theorem State.modWindow_meas (s : State) (n k : Nat) (f : Window → Window) : (s.modWindow n k f).meas = s.meas := rfl
@[simp] theorem State.modWindow_ctl (s : State) (n k : Nat) (f : Window → Window) : (s.modWindow n k f).ctl = s.ctl := rfl
@[simp] theorem State.modWindow_draws (s : State) (n k : Nat) (f : Window → Window) : (s.modWindow n k f).draws = s.draws := rfl
@[simp] theorem State.modWindow_host (s : State) (n k : Nat) (f : Window → Window) : (s.modWindow n k f).host = s.host := rfl
@[simp] theorem State.modWindow_boot (s : State) (n k : Nat) (f : Window → Window) : (s.modWindow n k f).boot = s.boot := rfl
@[simp] theorem State.modWindow_sec (s : State) (n k : Nat) (f : Window → Window) : (s.modWindow n k f).sec = s.sec := rfl
@[simp] theorem State.modWindow_chain (s : State) (n k : Nat) (f : Window → Window) : (s.modWindow n k f).chain = s.chain := rfl
@[simp] theorem State.modWindow_darn (s : State) (n k : Nat) (f : Window → Window) : (s.modWindow n k f).darn = s.darn := rfl
@[simp] theorem State.modWindow_rtc (s : State) (n k : Nat) (f : Window → Window) : (s.modWindow n k f).rtc = s.rtc := rfl
@[simp] theorem State.modWindow_lanes (s : State) (n k : Nat) (f : Window → Window) : (s.modWindow n k f).lanes = s.lanes := rfl
@[simp] theorem State.modWindow_rgl (s : State) (n k : Nat) (f : Window → Window) : (s.modWindow n k f).rgl = s.rgl := rfl
@[simp] theorem State.modWindow_loading (s : State) (n k : Nat) (f : Window → Window) : (s.modWindow n k f).loading = s.loading := rfl
@[simp] theorem State.modWindow_mac (s : State) (n k : Nat) (f : Window → Window) : (s.modWindow n k f).mac = s.mac := rfl
@[simp] theorem State.modWindow_cipher (s : State) (n k : Nat) (f : Window → Window) : (s.modWindow n k f).cipher = s.cipher := rfl
@[simp] theorem State.modWindow_dram (s : State) (n k : Nat) (f : Window → Window) : (s.modWindow n k f).dram = s.dram := rfl
@[simp] theorem State.modWindow_power (s : State) (n k : Nat) (f : Window → Window) : (s.modWindow n k f).power = s.power := rfl
@[simp] theorem State.modWindow_pins (s : State) (n k : Nat) (f : Window → Window) : (s.modWindow n k f).pins = s.pins := rfl
@[simp] theorem State.modWindow_pending (s : State) (n k : Nat) (f : Window → Window) : (s.modWindow n k f).pending = s.pending := rfl
@[simp] theorem State.modWindow_reg (s : State) (n k : Nat) (f : Window → Window) (reg : Nat) : (s.modWindow n k f).reg reg = s.reg reg := rfl

@[simp] theorem State.setMac_regs (s : State) (k : Nat) (e : Bytes) : (s.setMac k e).regs = s.regs := rfl
@[simp] theorem State.setMac_elapsed (s : State) (k : Nat) (e : Bytes) : (s.setMac k e).elapsed = s.elapsed := rfl
@[simp] theorem State.setMac_time (s : State) (k : Nat) (e : Bytes) : (s.setMac k e).time = s.time := rfl
@[simp] theorem State.setMac_eth (s : State) (k : Nat) (e : Bytes) : (s.setMac k e).eth = s.eth := rfl
@[simp] theorem State.setMac_tm (s : State) (k : Nat) (e : Bytes) : (s.setMac k e).tm = s.tm := rfl
@[simp] theorem State.setMac_sched (s : State) (k : Nat) (e : Bytes) : (s.setMac k e).sched = s.sched := rfl
@[simp] theorem State.setMac_meas (s : State) (k : Nat) (e : Bytes) : (s.setMac k e).meas = s.meas := rfl
@[simp] theorem State.setMac_ctl (s : State) (k : Nat) (e : Bytes) : (s.setMac k e).ctl = s.ctl := rfl
@[simp] theorem State.setMac_draws (s : State) (k : Nat) (e : Bytes) : (s.setMac k e).draws = s.draws := rfl
@[simp] theorem State.setMac_host (s : State) (k : Nat) (e : Bytes) : (s.setMac k e).host = s.host := rfl
@[simp] theorem State.setMac_boot (s : State) (k : Nat) (e : Bytes) : (s.setMac k e).boot = s.boot := rfl
@[simp] theorem State.setMac_sec (s : State) (k : Nat) (e : Bytes) : (s.setMac k e).sec = s.sec := rfl
@[simp] theorem State.setMac_chain (s : State) (k : Nat) (e : Bytes) : (s.setMac k e).chain = s.chain := rfl
@[simp] theorem State.setMac_darn (s : State) (k : Nat) (e : Bytes) : (s.setMac k e).darn = s.darn := rfl
@[simp] theorem State.setMac_rtc (s : State) (k : Nat) (e : Bytes) : (s.setMac k e).rtc = s.rtc := rfl
@[simp] theorem State.setMac_radios (s : State) (k : Nat) (e : Bytes) : (s.setMac k e).radios = s.radios := rfl
@[simp] theorem State.setMac_lanes (s : State) (k : Nat) (e : Bytes) : (s.setMac k e).lanes = s.lanes := rfl
@[simp] theorem State.setMac_rgl (s : State) (k : Nat) (e : Bytes) : (s.setMac k e).rgl = s.rgl := rfl
@[simp] theorem State.setMac_loading (s : State) (k : Nat) (e : Bytes) : (s.setMac k e).loading = s.loading := rfl
@[simp] theorem State.setMac_mac (s : State) (k : Nat) (e : Bytes) : (s.setMac k e).mac = s.mac := rfl
@[simp] theorem State.setMac_cipher (s : State) (k : Nat) (e : Bytes) : (s.setMac k e).cipher = s.cipher := rfl
@[simp] theorem State.setMac_dram (s : State) (k : Nat) (e : Bytes) : (s.setMac k e).dram = s.dram := rfl
@[simp] theorem State.setMac_power (s : State) (k : Nat) (e : Bytes) : (s.setMac k e).power = s.power := rfl
@[simp] theorem State.setMac_pins (s : State) (k : Nat) (e : Bytes) : (s.setMac k e).pins = s.pins := rfl
@[simp] theorem State.setMac_pending (s : State) (k : Nat) (e : Bytes) : (s.setMac k e).pending = s.pending := rfl
@[simp] theorem State.setMac_reg (s : State) (k : Nat) (e : Bytes) (reg : Nat) : (s.setMac k e).reg reg = s.reg reg := rfl

@[simp] theorem State.setUnit_regs (s : State) (k u : Nat) (x : UnitState) : (s.setUnit k u x).regs = s.regs := rfl
@[simp] theorem State.setUnit_elapsed (s : State) (k u : Nat) (x : UnitState) : (s.setUnit k u x).elapsed = s.elapsed := rfl
@[simp] theorem State.setUnit_time (s : State) (k u : Nat) (x : UnitState) : (s.setUnit k u x).time = s.time := rfl
@[simp] theorem State.setUnit_eth (s : State) (k u : Nat) (x : UnitState) : (s.setUnit k u x).eth = s.eth := rfl
@[simp] theorem State.setUnit_fwd (s : State) (k u : Nat) (x : UnitState) : (s.setUnit k u x).fwd = s.fwd := rfl
@[simp] theorem State.setUnit_tm (s : State) (k u : Nat) (x : UnitState) : (s.setUnit k u x).tm = s.tm := rfl
@[simp] theorem State.setUnit_sched (s : State) (k u : Nat) (x : UnitState) : (s.setUnit k u x).sched = s.sched := rfl
@[simp] theorem State.setUnit_meas (s : State) (k u : Nat) (x : UnitState) : (s.setUnit k u x).meas = s.meas := rfl
@[simp] theorem State.setUnit_ctl (s : State) (k u : Nat) (x : UnitState) : (s.setUnit k u x).ctl = s.ctl := rfl
@[simp] theorem State.setUnit_draws (s : State) (k u : Nat) (x : UnitState) : (s.setUnit k u x).draws = s.draws := rfl
@[simp] theorem State.setUnit_host (s : State) (k u : Nat) (x : UnitState) : (s.setUnit k u x).host = s.host := rfl
@[simp] theorem State.setUnit_boot (s : State) (k u : Nat) (x : UnitState) : (s.setUnit k u x).boot = s.boot := rfl
@[simp] theorem State.setUnit_sec (s : State) (k u : Nat) (x : UnitState) : (s.setUnit k u x).sec = s.sec := rfl
@[simp] theorem State.setUnit_chain (s : State) (k u : Nat) (x : UnitState) : (s.setUnit k u x).chain = s.chain := rfl
@[simp] theorem State.setUnit_rtc (s : State) (k u : Nat) (x : UnitState) : (s.setUnit k u x).rtc = s.rtc := rfl
@[simp] theorem State.setUnit_radios (s : State) (k u : Nat) (x : UnitState) : (s.setUnit k u x).radios = s.radios := rfl
@[simp] theorem State.setUnit_lanes (s : State) (k u : Nat) (x : UnitState) : (s.setUnit k u x).lanes = s.lanes := rfl
@[simp] theorem State.setUnit_rgl (s : State) (k u : Nat) (x : UnitState) : (s.setUnit k u x).rgl = s.rgl := rfl
@[simp] theorem State.setUnit_loading (s : State) (k u : Nat) (x : UnitState) : (s.setUnit k u x).loading = s.loading := rfl
@[simp] theorem State.setUnit_mac (s : State) (k u : Nat) (x : UnitState) : (s.setUnit k u x).mac = s.mac := rfl
@[simp] theorem State.setUnit_cipher (s : State) (k u : Nat) (x : UnitState) : (s.setUnit k u x).cipher = s.cipher := rfl
@[simp] theorem State.setUnit_dram (s : State) (k u : Nat) (x : UnitState) : (s.setUnit k u x).dram = s.dram := rfl
@[simp] theorem State.setUnit_power (s : State) (k u : Nat) (x : UnitState) : (s.setUnit k u x).power = s.power := rfl
@[simp] theorem State.setUnit_pins (s : State) (k u : Nat) (x : UnitState) : (s.setUnit k u x).pins = s.pins := rfl
@[simp] theorem State.setUnit_pending (s : State) (k u : Nat) (x : UnitState) : (s.setUnit k u x).pending = s.pending := rfl
@[simp] theorem State.setUnit_reg (s : State) (k u : Nat) (x : UnitState) (reg : Nat) : (s.setUnit k u x).reg reg = s.reg reg := rfl

@[simp] theorem State.setReception_regs (s : State) (l : Nat) (r : Reception) : (s.setReception l r).regs = s.regs := rfl
@[simp] theorem State.setReception_elapsed (s : State) (l : Nat) (r : Reception) : (s.setReception l r).elapsed = s.elapsed := rfl
@[simp] theorem State.setReception_time (s : State) (l : Nat) (r : Reception) : (s.setReception l r).time = s.time := rfl
@[simp] theorem State.setReception_eth (s : State) (l : Nat) (r : Reception) : (s.setReception l r).eth = s.eth := rfl
@[simp] theorem State.setReception_fwd (s : State) (l : Nat) (r : Reception) : (s.setReception l r).fwd = s.fwd := rfl
@[simp] theorem State.setReception_tm (s : State) (l : Nat) (r : Reception) : (s.setReception l r).tm = s.tm := rfl
@[simp] theorem State.setReception_sched (s : State) (l : Nat) (r : Reception) : (s.setReception l r).sched = s.sched := rfl
@[simp] theorem State.setReception_meas (s : State) (l : Nat) (r : Reception) : (s.setReception l r).meas = s.meas := rfl
@[simp] theorem State.setReception_ctl (s : State) (l : Nat) (r : Reception) : (s.setReception l r).ctl = s.ctl := rfl
@[simp] theorem State.setReception_draws (s : State) (l : Nat) (r : Reception) : (s.setReception l r).draws = s.draws := rfl
@[simp] theorem State.setReception_host (s : State) (l : Nat) (r : Reception) : (s.setReception l r).host = s.host := rfl
@[simp] theorem State.setReception_boot (s : State) (l : Nat) (r : Reception) : (s.setReception l r).boot = s.boot := rfl
@[simp] theorem State.setReception_sec (s : State) (l : Nat) (r : Reception) : (s.setReception l r).sec = s.sec := rfl
@[simp] theorem State.setReception_chain (s : State) (l : Nat) (r : Reception) : (s.setReception l r).chain = s.chain := rfl
@[simp] theorem State.setReception_darn (s : State) (l : Nat) (r : Reception) : (s.setReception l r).darn = s.darn := rfl
@[simp] theorem State.setReception_rtc (s : State) (l : Nat) (r : Reception) : (s.setReception l r).rtc = s.rtc := rfl
@[simp] theorem State.setReception_radios (s : State) (l : Nat) (r : Reception) : (s.setReception l r).radios = s.radios := rfl
@[simp] theorem State.setReception_rgl (s : State) (l : Nat) (r : Reception) : (s.setReception l r).rgl = s.rgl := rfl
@[simp] theorem State.setReception_loading (s : State) (l : Nat) (r : Reception) : (s.setReception l r).loading = s.loading := rfl
@[simp] theorem State.setReception_mac (s : State) (l : Nat) (r : Reception) : (s.setReception l r).mac = s.mac := rfl
@[simp] theorem State.setReception_cipher (s : State) (l : Nat) (r : Reception) : (s.setReception l r).cipher = s.cipher := rfl
@[simp] theorem State.setReception_dram (s : State) (l : Nat) (r : Reception) : (s.setReception l r).dram = s.dram := rfl
@[simp] theorem State.setReception_power (s : State) (l : Nat) (r : Reception) : (s.setReception l r).power = s.power := rfl
@[simp] theorem State.setReception_pins (s : State) (l : Nat) (r : Reception) : (s.setReception l r).pins = s.pins := rfl
@[simp] theorem State.setReception_pending (s : State) (l : Nat) (r : Reception) : (s.setReception l r).pending = s.pending := rfl
@[simp] theorem State.setReception_reg (s : State) (l : Nat) (r : Reception) (reg : Nat) : (s.setReception l r).reg reg = s.reg reg := rfl

@[simp] theorem State.setTokens_regs (s : State) (k : Nat) (v : Int) : (s.setTokens k v).regs = s.regs := rfl
@[simp] theorem State.setTokens_elapsed (s : State) (k : Nat) (v : Int) : (s.setTokens k v).elapsed = s.elapsed := rfl
@[simp] theorem State.setTokens_time (s : State) (k : Nat) (v : Int) : (s.setTokens k v).time = s.time := rfl
@[simp] theorem State.setTokens_eth (s : State) (k : Nat) (v : Int) : (s.setTokens k v).eth = s.eth := rfl
@[simp] theorem State.setTokens_fwd (s : State) (k : Nat) (v : Int) : (s.setTokens k v).fwd = s.fwd := rfl
@[simp] theorem State.setTokens_sched (s : State) (k : Nat) (v : Int) : (s.setTokens k v).sched = s.sched := rfl
@[simp] theorem State.setTokens_meas (s : State) (k : Nat) (v : Int) : (s.setTokens k v).meas = s.meas := rfl
@[simp] theorem State.setTokens_ctl (s : State) (k : Nat) (v : Int) : (s.setTokens k v).ctl = s.ctl := rfl
@[simp] theorem State.setTokens_draws (s : State) (k : Nat) (v : Int) : (s.setTokens k v).draws = s.draws := rfl
@[simp] theorem State.setTokens_host (s : State) (k : Nat) (v : Int) : (s.setTokens k v).host = s.host := rfl
@[simp] theorem State.setTokens_boot (s : State) (k : Nat) (v : Int) : (s.setTokens k v).boot = s.boot := rfl
@[simp] theorem State.setTokens_sec (s : State) (k : Nat) (v : Int) : (s.setTokens k v).sec = s.sec := rfl
@[simp] theorem State.setTokens_chain (s : State) (k : Nat) (v : Int) : (s.setTokens k v).chain = s.chain := rfl
@[simp] theorem State.setTokens_darn (s : State) (k : Nat) (v : Int) : (s.setTokens k v).darn = s.darn := rfl
@[simp] theorem State.setTokens_rtc (s : State) (k : Nat) (v : Int) : (s.setTokens k v).rtc = s.rtc := rfl
@[simp] theorem State.setTokens_radios (s : State) (k : Nat) (v : Int) : (s.setTokens k v).radios = s.radios := rfl
@[simp] theorem State.setTokens_lanes (s : State) (k : Nat) (v : Int) : (s.setTokens k v).lanes = s.lanes := rfl
@[simp] theorem State.setTokens_rgl (s : State) (k : Nat) (v : Int) : (s.setTokens k v).rgl = s.rgl := rfl
@[simp] theorem State.setTokens_loading (s : State) (k : Nat) (v : Int) : (s.setTokens k v).loading = s.loading := rfl
@[simp] theorem State.setTokens_mac (s : State) (k : Nat) (v : Int) : (s.setTokens k v).mac = s.mac := rfl
@[simp] theorem State.setTokens_cipher (s : State) (k : Nat) (v : Int) : (s.setTokens k v).cipher = s.cipher := rfl
@[simp] theorem State.setTokens_dram (s : State) (k : Nat) (v : Int) : (s.setTokens k v).dram = s.dram := rfl
@[simp] theorem State.setTokens_power (s : State) (k : Nat) (v : Int) : (s.setTokens k v).power = s.power := rfl
@[simp] theorem State.setTokens_pins (s : State) (k : Nat) (v : Int) : (s.setTokens k v).pins = s.pins := rfl
@[simp] theorem State.setTokens_pending (s : State) (k : Nat) (v : Int) : (s.setTokens k v).pending = s.pending := rfl
@[simp] theorem State.setTokens_reg (s : State) (k : Nat) (v : Int) (reg : Nat) : (s.setTokens k v).reg reg = s.reg reg := rfl

@[simp] theorem State.setDeficit_regs (s : State) (k : Nat) (v : Int) : (s.setDeficit k v).regs = s.regs := rfl
@[simp] theorem State.setDeficit_elapsed (s : State) (k : Nat) (v : Int) : (s.setDeficit k v).elapsed = s.elapsed := rfl
@[simp] theorem State.setDeficit_time (s : State) (k : Nat) (v : Int) : (s.setDeficit k v).time = s.time := rfl
@[simp] theorem State.setDeficit_eth (s : State) (k : Nat) (v : Int) : (s.setDeficit k v).eth = s.eth := rfl
@[simp] theorem State.setDeficit_fwd (s : State) (k : Nat) (v : Int) : (s.setDeficit k v).fwd = s.fwd := rfl
@[simp] theorem State.setDeficit_sched (s : State) (k : Nat) (v : Int) : (s.setDeficit k v).sched = s.sched := rfl
@[simp] theorem State.setDeficit_meas (s : State) (k : Nat) (v : Int) : (s.setDeficit k v).meas = s.meas := rfl
@[simp] theorem State.setDeficit_ctl (s : State) (k : Nat) (v : Int) : (s.setDeficit k v).ctl = s.ctl := rfl
@[simp] theorem State.setDeficit_draws (s : State) (k : Nat) (v : Int) : (s.setDeficit k v).draws = s.draws := rfl
@[simp] theorem State.setDeficit_host (s : State) (k : Nat) (v : Int) : (s.setDeficit k v).host = s.host := rfl
@[simp] theorem State.setDeficit_boot (s : State) (k : Nat) (v : Int) : (s.setDeficit k v).boot = s.boot := rfl
@[simp] theorem State.setDeficit_sec (s : State) (k : Nat) (v : Int) : (s.setDeficit k v).sec = s.sec := rfl
@[simp] theorem State.setDeficit_chain (s : State) (k : Nat) (v : Int) : (s.setDeficit k v).chain = s.chain := rfl
@[simp] theorem State.setDeficit_darn (s : State) (k : Nat) (v : Int) : (s.setDeficit k v).darn = s.darn := rfl
@[simp] theorem State.setDeficit_rtc (s : State) (k : Nat) (v : Int) : (s.setDeficit k v).rtc = s.rtc := rfl
@[simp] theorem State.setDeficit_radios (s : State) (k : Nat) (v : Int) : (s.setDeficit k v).radios = s.radios := rfl
@[simp] theorem State.setDeficit_lanes (s : State) (k : Nat) (v : Int) : (s.setDeficit k v).lanes = s.lanes := rfl
@[simp] theorem State.setDeficit_rgl (s : State) (k : Nat) (v : Int) : (s.setDeficit k v).rgl = s.rgl := rfl
@[simp] theorem State.setDeficit_loading (s : State) (k : Nat) (v : Int) : (s.setDeficit k v).loading = s.loading := rfl
@[simp] theorem State.setDeficit_mac (s : State) (k : Nat) (v : Int) : (s.setDeficit k v).mac = s.mac := rfl
@[simp] theorem State.setDeficit_cipher (s : State) (k : Nat) (v : Int) : (s.setDeficit k v).cipher = s.cipher := rfl
@[simp] theorem State.setDeficit_dram (s : State) (k : Nat) (v : Int) : (s.setDeficit k v).dram = s.dram := rfl
@[simp] theorem State.setDeficit_power (s : State) (k : Nat) (v : Int) : (s.setDeficit k v).power = s.power := rfl
@[simp] theorem State.setDeficit_pins (s : State) (k : Nat) (v : Int) : (s.setDeficit k v).pins = s.pins := rfl
@[simp] theorem State.setDeficit_pending (s : State) (k : Nat) (v : Int) : (s.setDeficit k v).pending = s.pending := rfl
@[simp] theorem State.setDeficit_reg (s : State) (k : Nat) (v : Int) (reg : Nat) : (s.setDeficit k v).reg reg = s.reg reg := rfl

@[simp] theorem State.setQueue_regs (s : State) (q : Nat) (l : List Copy) : (s.setQueue q l).regs = s.regs := rfl
@[simp] theorem State.setQueue_elapsed (s : State) (q : Nat) (l : List Copy) : (s.setQueue q l).elapsed = s.elapsed := rfl
@[simp] theorem State.setQueue_time (s : State) (q : Nat) (l : List Copy) : (s.setQueue q l).time = s.time := rfl
@[simp] theorem State.setQueue_eth (s : State) (q : Nat) (l : List Copy) : (s.setQueue q l).eth = s.eth := rfl
@[simp] theorem State.setQueue_fwd (s : State) (q : Nat) (l : List Copy) : (s.setQueue q l).fwd = s.fwd := rfl
@[simp] theorem State.setQueue_sched (s : State) (q : Nat) (l : List Copy) : (s.setQueue q l).sched = s.sched := rfl
@[simp] theorem State.setQueue_meas (s : State) (q : Nat) (l : List Copy) : (s.setQueue q l).meas = s.meas := rfl
@[simp] theorem State.setQueue_ctl (s : State) (q : Nat) (l : List Copy) : (s.setQueue q l).ctl = s.ctl := rfl
@[simp] theorem State.setQueue_draws (s : State) (q : Nat) (l : List Copy) : (s.setQueue q l).draws = s.draws := rfl
@[simp] theorem State.setQueue_host (s : State) (q : Nat) (l : List Copy) : (s.setQueue q l).host = s.host := rfl
@[simp] theorem State.setQueue_boot (s : State) (q : Nat) (l : List Copy) : (s.setQueue q l).boot = s.boot := rfl
@[simp] theorem State.setQueue_sec (s : State) (q : Nat) (l : List Copy) : (s.setQueue q l).sec = s.sec := rfl
@[simp] theorem State.setQueue_chain (s : State) (q : Nat) (l : List Copy) : (s.setQueue q l).chain = s.chain := rfl
@[simp] theorem State.setQueue_darn (s : State) (q : Nat) (l : List Copy) : (s.setQueue q l).darn = s.darn := rfl
@[simp] theorem State.setQueue_rtc (s : State) (q : Nat) (l : List Copy) : (s.setQueue q l).rtc = s.rtc := rfl
@[simp] theorem State.setQueue_radios (s : State) (q : Nat) (l : List Copy) : (s.setQueue q l).radios = s.radios := rfl
@[simp] theorem State.setQueue_lanes (s : State) (q : Nat) (l : List Copy) : (s.setQueue q l).lanes = s.lanes := rfl
@[simp] theorem State.setQueue_rgl (s : State) (q : Nat) (l : List Copy) : (s.setQueue q l).rgl = s.rgl := rfl
@[simp] theorem State.setQueue_loading (s : State) (q : Nat) (l : List Copy) : (s.setQueue q l).loading = s.loading := rfl
@[simp] theorem State.setQueue_mac (s : State) (q : Nat) (l : List Copy) : (s.setQueue q l).mac = s.mac := rfl
@[simp] theorem State.setQueue_cipher (s : State) (q : Nat) (l : List Copy) : (s.setQueue q l).cipher = s.cipher := rfl
@[simp] theorem State.setQueue_dram (s : State) (q : Nat) (l : List Copy) : (s.setQueue q l).dram = s.dram := rfl
@[simp] theorem State.setQueue_power (s : State) (q : Nat) (l : List Copy) : (s.setQueue q l).power = s.power := rfl
@[simp] theorem State.setQueue_pins (s : State) (q : Nat) (l : List Copy) : (s.setQueue q l).pins = s.pins := rfl
@[simp] theorem State.setQueue_pending (s : State) (q : Nat) (l : List Copy) : (s.setQueue q l).pending = s.pending := rfl
@[simp] theorem State.setQueue_reg (s : State) (q : Nat) (l : List Copy) (reg : Nat) : (s.setQueue q l).reg reg = s.reg reg := rfl

@[simp] theorem State.setClientQueue_regs (s : State) (k : Nat) (l : List ClientFrame) : (s.setClientQueue k l).regs = s.regs := rfl
@[simp] theorem State.setClientQueue_elapsed (s : State) (k : Nat) (l : List ClientFrame) : (s.setClientQueue k l).elapsed = s.elapsed := rfl
@[simp] theorem State.setClientQueue_time (s : State) (k : Nat) (l : List ClientFrame) : (s.setClientQueue k l).time = s.time := rfl
@[simp] theorem State.setClientQueue_eth (s : State) (k : Nat) (l : List ClientFrame) : (s.setClientQueue k l).eth = s.eth := rfl
@[simp] theorem State.setClientQueue_fwd (s : State) (k : Nat) (l : List ClientFrame) : (s.setClientQueue k l).fwd = s.fwd := rfl
@[simp] theorem State.setClientQueue_tm (s : State) (k : Nat) (l : List ClientFrame) : (s.setClientQueue k l).tm = s.tm := rfl
@[simp] theorem State.setClientQueue_meas (s : State) (k : Nat) (l : List ClientFrame) : (s.setClientQueue k l).meas = s.meas := rfl
@[simp] theorem State.setClientQueue_ctl (s : State) (k : Nat) (l : List ClientFrame) : (s.setClientQueue k l).ctl = s.ctl := rfl
@[simp] theorem State.setClientQueue_draws (s : State) (k : Nat) (l : List ClientFrame) : (s.setClientQueue k l).draws = s.draws := rfl
@[simp] theorem State.setClientQueue_host (s : State) (k : Nat) (l : List ClientFrame) : (s.setClientQueue k l).host = s.host := rfl
@[simp] theorem State.setClientQueue_boot (s : State) (k : Nat) (l : List ClientFrame) : (s.setClientQueue k l).boot = s.boot := rfl
@[simp] theorem State.setClientQueue_sec (s : State) (k : Nat) (l : List ClientFrame) : (s.setClientQueue k l).sec = s.sec := rfl
@[simp] theorem State.setClientQueue_chain (s : State) (k : Nat) (l : List ClientFrame) : (s.setClientQueue k l).chain = s.chain := rfl
@[simp] theorem State.setClientQueue_darn (s : State) (k : Nat) (l : List ClientFrame) : (s.setClientQueue k l).darn = s.darn := rfl
@[simp] theorem State.setClientQueue_rtc (s : State) (k : Nat) (l : List ClientFrame) : (s.setClientQueue k l).rtc = s.rtc := rfl
@[simp] theorem State.setClientQueue_radios (s : State) (k : Nat) (l : List ClientFrame) : (s.setClientQueue k l).radios = s.radios := rfl
@[simp] theorem State.setClientQueue_lanes (s : State) (k : Nat) (l : List ClientFrame) : (s.setClientQueue k l).lanes = s.lanes := rfl
@[simp] theorem State.setClientQueue_rgl (s : State) (k : Nat) (l : List ClientFrame) : (s.setClientQueue k l).rgl = s.rgl := rfl
@[simp] theorem State.setClientQueue_loading (s : State) (k : Nat) (l : List ClientFrame) : (s.setClientQueue k l).loading = s.loading := rfl
@[simp] theorem State.setClientQueue_mac (s : State) (k : Nat) (l : List ClientFrame) : (s.setClientQueue k l).mac = s.mac := rfl
@[simp] theorem State.setClientQueue_cipher (s : State) (k : Nat) (l : List ClientFrame) : (s.setClientQueue k l).cipher = s.cipher := rfl
@[simp] theorem State.setClientQueue_dram (s : State) (k : Nat) (l : List ClientFrame) : (s.setClientQueue k l).dram = s.dram := rfl
@[simp] theorem State.setClientQueue_power (s : State) (k : Nat) (l : List ClientFrame) : (s.setClientQueue k l).power = s.power := rfl
@[simp] theorem State.setClientQueue_pins (s : State) (k : Nat) (l : List ClientFrame) : (s.setClientQueue k l).pins = s.pins := rfl
@[simp] theorem State.setClientQueue_pending (s : State) (k : Nat) (l : List ClientFrame) : (s.setClientQueue k l).pending = s.pending := rfl
@[simp] theorem State.setClientQueue_reg (s : State) (k : Nat) (l : List ClientFrame) (reg : Nat) : (s.setClientQueue k l).reg reg = s.reg reg := rfl

end Sys2Proof.Machine
end

