-- ==== Sys2Proof/Laws/Table.lean ====
section
/-! SUPPORT. Tables, sparse memories and the register file: what a read gives after a write, and the canonical form that
every write keeps. -/

namespace Sys2Proof.Machine

variable {α : Type}

@[simp] theorem Table.find_nil (n : Nat) : Table.find ([] : Table α) n = none := rfl

theorem Table.find_cons (k n : Nat) (v : α) (t : Table α) :
    Table.find ((k, v) :: t) n = if k = n then some v else Table.find t n := rfl

@[simp] theorem Table.find_put (t : Table α) (n : Nat) (x : α) : Table.find (Table.put t n x) n = some x := by
  induction t with
  | nil => simp [Table.put, Table.find]
  | cons e t ih =>
    unfold Table.put
    split
    · simp [Table.find]
    · split
      · simp [Table.find]
      · rw [Table.find_cons, if_neg (by omega), ih]

theorem Table.find_put_ne (t : Table α) {n m : Nat} (x : α) (h : m ≠ n) : Table.find (Table.put t n x) m = Table.find t m := by
  induction t with
  | nil => simp [Table.put, Table.find, Ne.symm h]
  | cons e t ih =>
    unfold Table.put
    split
    · rw [Table.find_cons, if_neg (Ne.symm h)]
    · split
      · rw [Table.find_cons, Table.find_cons, if_neg (Ne.symm h), if_neg (by omega)]
      · rw [Table.find_cons, Table.find_cons, ih]

@[simp] theorem Table.find_drop (t : Table α) (n : Nat) : Table.find (Table.drop t n) n = none := by
  induction t with
  | nil => rfl
  | cons e t ih =>
    unfold Table.drop
    split
    · exact ih
    · rw [Table.find_cons, if_neg ‹_›, ih]

theorem Table.find_drop_ne (t : Table α) {n m : Nat} (h : m ≠ n) : Table.find (Table.drop t n) m = Table.find t m := by
  induction t with
  | nil => rfl
  | cons e t ih =>
    unfold Table.drop
    split
    · rw [ih, Table.find_cons, if_neg (by omega)]
    · rw [Table.find_cons, Table.find_cons, ih]

theorem Table.mem_put {t : Table α} {n : Nat} {x : α} {e : Nat × α} (h : e ∈ Table.put t n x) : e = (n, x) ∨ e ∈ t := by
  induction t with
  | nil => simpa [Table.put] using h
  | cons y t ih =>
    unfold Table.put at h
    split at h
    · simpa using h
    · split at h
      · rcases List.mem_cons.mp h with h | h
        · exact .inl h
        · exact .inr (List.mem_cons_of_mem _ h)
      · rcases List.mem_cons.mp h with h | h
        · exact .inr (h ▸ List.mem_cons_self)
        · exact (ih h).imp id (List.mem_cons_of_mem _)

theorem Table.drop_eq_filter (t : Table α) (n : Nat) : Table.drop t n = t.filter fun e => decide (e.1 ≠ n) := by
  induction t with
  | nil => rfl
  | cons e t ih =>
    unfold Table.drop
    split <;> simp [*]

theorem Table.sorted_put {t : Table α} (n : Nat) (x : α) (h : Table.Sorted t) : Table.Sorted (Table.put t n x) := by
  induction t with
  | nil => simp [Table.put, Table.Sorted]
  | cons y t ih =>
    have ⟨first, rest⟩ := List.pairwise_cons.mp h
    unfold Table.put
    split
    · refine List.pairwise_cons.mpr ⟨fun e he => ?_, h⟩
      rcases List.mem_cons.mp he with rfl | he
      · assumption
      · have := first e he; simp only at *; omega
    · split
      · subst_vars; exact List.pairwise_cons.mpr ⟨first, rest⟩
      · refine List.pairwise_cons.mpr ⟨fun e he => ?_, ih rest⟩
        rcases Table.mem_put he with rfl | he
        · simp only; omega
        · exact first e he

theorem Table.sorted_drop {t : Table α} (n : Nat) (h : Table.Sorted t) : Table.Sorted (Table.drop t n) := by
  rw [Table.drop_eq_filter]; exact List.Pairwise.filter _ h

/-! ### Memories -/

theorem Memory.read_write (m : Memory) (blank b : Byte) (a : Nat) : Memory.read (Memory.write m blank a b) blank a = b := by
  unfold Memory.read Memory.write
  split <;> simp [*]

theorem Memory.read_write_ne (m : Memory) (blank b : Byte) {a x : Nat} (h : x ≠ a) :
    Memory.read (Memory.write m blank a b) blank x = Memory.read m blank x := by
  unfold Memory.read Memory.write
  split
  · rw [Table.find_drop_ne _ h]
  · rw [Table.find_put_ne _ _ h]

/-- Every byte after consecutive bytes are written. -/
theorem Memory.read_writeBytes (blank : Byte) (x : Nat) (b : Bytes) : ∀ (m : Memory) (a : Nat),
    Memory.read (Memory.writeBytes m blank a b) blank x
      = if a ≤ x ∧ x < a + b.length then b.getD (x - a) 0 else Memory.read m blank x := by
  induction b with
  | nil => intro m a; simp [Memory.writeBytes] <;> omega
  | cons c t ih =>
    intro m a
    rw [Memory.writeBytes, ih]
    by_cases hx : x = a
    · subst hx; simp [Memory.read_write] <;> omega
    · rw [Memory.read_write_ne _ _ _ hx]
      by_cases hr : a ≤ x ∧ x < a + (c :: t).length
      · have : x - a = (x - (a + 1)) + 1 := by omega
        rw [if_pos (by simp only [List.length_cons] at hr; omega), if_pos hr, this]; simp
      · rw [if_neg (by simp only [List.length_cons] at hr; omega), if_neg hr]

theorem Memory.wf_iff (m : Memory) (blank : Byte) : Memory.wf m blank = true ↔ (∀ c ∈ m, c.2 ≠ blank) ∧ Table.Sorted m := by
  simp [Memory.wf, Table.Sorted]

/-- A byte written keeps the canonical form. -/
theorem Memory.wf_write {m : Memory} {blank : Byte} (a : Nat) (b : Byte) (h : Memory.wf m blank = true) :
    Memory.wf (Memory.write m blank a b) blank = true := by
  rw [Memory.wf_iff] at h ⊢
  unfold Memory.write
  split
  · refine ⟨fun c hc => ?_, Table.sorted_drop _ h.2⟩
    rw [Table.drop_eq_filter] at hc
    exact h.1 c (List.mem_filter.mp hc).1
  · refine ⟨fun c hc => ?_, Table.sorted_put _ _ h.2⟩
    rcases Table.mem_put hc with rfl | hc
    · assumption
    · exact h.1 c hc

/-- Consecutive bytes written keep the canonical form. -/
theorem Memory.wf_writeBytes {blank : Byte} (b : Bytes) : ∀ {m : Memory} (a : Nat), Memory.wf m blank = true →
    Memory.wf (Memory.writeBytes m blank a b) blank = true := by
  induction b with
  | nil => intro m a h; exact h
  | cons c t ih => intro m a h; exact ih _ (Memory.wf_write a c h)

/-- Two canonical memories that read alike are the same. -/
theorem Memory.wf_ext {blank : Byte} : ∀ {m n : Memory}, Memory.wf m blank = true → Memory.wf n blank = true →
    (∀ a, Memory.read m blank a = Memory.read n blank a) → m = n := by
  have head {k : Nat} {v : Byte} {t : Memory} (h : Memory.wf ((k, v) :: t) blank = true) {x : Nat} (lt : x < k) :
      Memory.read ((k, v) :: t) blank x = blank := by
    rw [Memory.wf_iff] at h
    have none : ∀ u : Memory, (∀ e ∈ u, x < e.1) → Table.find u x = none := by
      intro u hu
      induction u with
      | nil => rfl
      | cons e u ih =>
        rw [Table.find_cons, if_neg (by have := hu e List.mem_cons_self; omega)]
        exact ih fun e he => hu e (List.mem_cons_of_mem _ he)
    unfold Memory.read
    rw [none _ fun e he => ?_]
    · rfl
    · rcases List.mem_cons.mp he with rfl | he
      · exact lt
      · have := (List.pairwise_cons.mp h.2).1 e he; simp only at *; omega
  have same {k : Nat} {v : Byte} {t : Memory} : Memory.read ((k, v) :: t) blank k = v := by
    simp [Memory.read, Table.find]
  have value {k : Nat} {v : Byte} {t : Memory} (h : Memory.wf ((k, v) :: t) blank = true) : v ≠ blank :=
    ((Memory.wf_iff _ _).mp h).1 _ List.mem_cons_self
  intro m
  induction m with
  | nil =>
    intro n _ hn eq
    cases n with
    | nil => rfl
    | cons e n => exact absurd ((eq e.1).symm.trans rfl) (by rw [same]; exact value hn)
  | cons e m ih =>
    intro n hm hn eq
    obtain ⟨k, v⟩ := e
    cases n with
    | nil => exact absurd (eq k) (by rw [same]; exact value hm)
    | cons f n =>
      obtain ⟨l, w⟩ := f
      have : k = l := by
        rcases Nat.lt_trichotomy k l with lt | e | lt
        · exact absurd ((eq k).trans (head hn lt)) (by rw [same]; exact value hm)
        · exact e
        · exact absurd ((eq l).symm.trans (head hm lt)) (by rw [same]; exact value hn)
      subst this
      have hv : v = w := by simpa [same] using eq k
      subst hv
      have tail {t : Memory} (h : Memory.wf ((k, v) :: t) blank = true) : Memory.wf t blank = true := by
        rw [Memory.wf_iff] at h ⊢
        exact ⟨fun c hc => h.1 c (List.mem_cons_of_mem _ hc), (List.pairwise_cons.mp h.2).2⟩
      have gone {t : Memory} (h : Memory.wf ((k, v) :: t) blank = true) : Memory.read t blank k = blank := by
        cases t with
        | nil => rfl
        | cons g t =>
          obtain ⟨j, z⟩ := g
          refine head (tail h) ?_
          exact (List.pairwise_cons.mp ((Memory.wf_iff _ _).mp h).2).1 _ List.mem_cons_self
      congr 1
      refine ih (tail hm) (tail hn) fun a => ?_
      by_cases ha : a = k
      · subst ha; rw [gone hm, gone hn]
      · have := eq a
        simpa [Memory.read, Table.find_cons, Ne.symm ha] using this

/-- The buffers and the DRAM of the state after reset are in the canonical form. -/
theorem State.reset_memories : Memory.wf State.reset.dram.cells 0 = true ∧ Memory.wf State.reset.boot.cfgStage 0 = true
    ∧ Memory.wf State.reset.sec.stage 0 = true ∧ Memory.wf State.reset.rgl.stage 0 = true := by decide

/-! ### Registers -/

@[simp] theorem State.reg_setReg (s : State) (a : Nat) (w : Word) : (s.setReg a w).reg a = w := by
  unfold State.reg State.setReg putReg
  split <;> simp [*]

theorem State.reg_setReg_ne (s : State) {a b : Nat} (w : Word) (h : b ≠ a) : (s.setReg a w).reg b = s.reg b := by
  unfold State.reg State.setReg putReg
  split
  · rw [Table.find_drop_ne _ h]
  · rw [Table.find_put_ne _ _ h]

/-- A register write keeps the register file in its canonical form. -/
theorem putReg_canonical {t : Table Word} (a : Nat) (w : Word) (h : Table.Sorted t ∧ ∀ e ∈ t, e.2 ≠ resetValue e.1) :
    Table.Sorted (putReg t a w) ∧ ∀ e ∈ putReg t a w, e.2 ≠ resetValue e.1 := by
  unfold putReg
  split
  · refine ⟨Table.sorted_drop _ h.1, fun e he => ?_⟩
    rw [Table.drop_eq_filter] at he
    exact h.2 e (List.mem_filter.mp he).1
  · refine ⟨Table.sorted_put _ _ h.1, fun e he => ?_⟩
    rcases Table.mem_put he with rfl | he
    · assumption
    · exact h.2 e he

/-- A register's word replaced, as the fields read it. -/
theorem State.fld_setReg (s : State) (a hi lo : Nat) (w : Word) : (s.setReg a w).fld a hi lo = field w hi lo := by
  simp [State.fld]

theorem State.fld_setReg_ne (s : State) {a b : Nat} (hi lo : Nat) (w : Word) (h : b ≠ a) :
    (s.setReg a w).fld b hi lo = s.fld b hi lo := by simp [State.fld, State.reg_setReg_ne s w h]

theorem State.flag_setReg_ne (s : State) {a b : Nat} (i : Nat) (w : Word) (h : b ≠ a) :
    (s.setReg a w).flag b i = s.flag b i := by simp [State.flag, State.fld_setReg_ne s i i w h]

theorem State.reg_setFld_ne (s : State) {a b : Nat} (hi lo x : Nat) (h : b ≠ a) : (s.setFld a hi lo x).reg b = s.reg b :=
  State.reg_setReg_ne s _ h

theorem State.reg_setFlag_ne (s : State) {a b : Nat} (i : Nat) (x : Bool) (h : b ≠ a) : (s.setFlag a i x).reg b = s.reg b :=
  State.reg_setReg_ne s _ h

theorem State.reg_bump_ne (s : State) {a b : Nat} (n : Nat) (h : b ≠ a) : (s.bump a n).reg b = s.reg b :=
  State.reg_setReg_ne s _ h

/-! ### Time -/

/-- Time that passes leaves the registers and every part but the time base. -/
theorem State.passNs_frame (s : State) (n : Nat) : (s.passNs n).elapsed = s.elapsed + n ∧ (s.passNs n).regs = s.regs
    ∧ (s.passNs n).host = s.host ∧ (s.passNs n).chain = s.chain ∧ (s.passNs n).darn = s.darn ∧ (s.passNs n).pending = s.pending := by
  unfold State.passNs
  split <;> simp

/-- What waiting for an elapsed time does: it is reached, or has passed. -/
theorem State.reachElapsed_frame (s : State) (t : Nat) : (s.reachElapsed t).elapsed = max s.elapsed t
    ∧ (s.reachElapsed t).regs = s.regs ∧ (s.reachElapsed t).host = s.host ∧ (s.reachElapsed t).chain = s.chain
    ∧ (s.reachElapsed t).darn = s.darn ∧ (s.reachElapsed t).pending = s.pending := by
  unfold State.reachElapsed
  split
  · have h := State.passNs_frame s (t - s.elapsed)
    refine ⟨by rw [h.1]; omega, h.2⟩
  · simp; omega

end Sys2Proof.Machine
end

