-- ==== Sys2Proof/WellFormed.lean ====
section
/-! DEFINITION. Well-formed commands: operands within the ranges that the packet formats and the numbering of the
units give them. A command that is not well formed is one that no sender can form. -/

namespace Sys2Proof

/-- A header whose fields fit Table 2-1, from an endpoint that exists. -/
def Cmd.wf (c : Cmd) : Bool :=
  decide (c.session < 4) && decide (c.tag < 0x10000) && decide (c.trailer < 0x100000000)
    && decide (c.target < 0x100) && decide (c.timeout < 0x10000)
    && (match c.ep with
      | .pcie ring => decide (ring < 4)
      | .spi => true
      | .inband mac vlan port => mac.length == 6 && decide (vlan < 4096) && decide (port < 4)
      | .replay => true
      | .chain head => decide (head < 64))

/-- Parameters that a packet can carry (R35, R48). -/
def paramsWf (p : Bytes) : Bool := decide (p.length ≤ 4076)

/-- A row of SRAM that a fault names has a number of 16 bits. -/
def UnitFault.wf : UnitFault → Bool
  | .clean => true
  | .check => true
  | .corrected row => decide (row < 0x10000)
  | .uncorrectable row => decide (row < 0x10000)

/-- A command whose header fits its packet and whose unit numbers name units of the device. -/
def Instr.wf (i : Instr) : Bool :=
  match i with
  | .dwRingCfgWrite session _ => decide (session < 4)
  | .dwCmdTailWrite session _ _ => decide (session < 4)
  | .dwRplHeadWrite session _ => decide (session < 4)
  | .heldReplyWrite session => decide (session < 4)
  | .spiStatus => true
  | .spiPut instruction _ => decide (instruction < 256)
  | .spiGet _ => true
  | .hello c p => c.wf && paramsWf p
  | .status c p => c.wf && paramsWf p
  | .reset c p => c.wf && paramsWf p
  | .resetStart => true
  | .powerState c p => c.wf && paramsWf p
  | .cancel c p => c.wf && paramsWf p
  | .eventMask c p => c.wf && paramsWf p
  | .sessionClose c p => c.wf && paramsWf p
  | .sessionIdleExpiry session => decide (session < 4)
  | .commandTimeout session tag => decide (session < 4) && decide (tag < 65536)
  | .eventsLost session => decide (session < 4)
  | .crossingTimeout source dest _ _ => decide (source < 11) && decide (dest < 11)
  | .regRead c p => c.wf && paramsWf p
  | .regWrite c p => c.wf && paramsWf p
  | .regReadBlock c p => c.wf && paramsWf p
  | .latchingWordRead requester address => decide (requester < 8) && decide (address < 0x1000000)
  | .txnBegin c p => c.wf && paramsWf p
  | .txnStage c p => c.wf && paramsWf p
  | .txnCommit c p => c.wf && paramsWf p
  | .txnAbort c p => c.wf && paramsWf p
  | .txnStatus c p => c.wf && paramsWf p
  | .txnArmingDeadline session => decide (session < 4)
  | .commitApply session _ => decide (session < 4)
  | .synFreqWrite c radio _ _ => c.wf && decide (radio < 3)
  | .hopFreqWrite c radio _ _ => c.wf && decide (radio < 3)
  | .stateRequestWrite c radio _ _ => c.wf && decide (radio < 3)
  | .txPwrWrite c radio _ _ => c.wf && decide (radio < 3)
  | .stateTransitionDone radio => decide (radio < 3)
  | .synthLockDone radio _ => decide (radio < 3)
  | .synthLockTimeout radio _ => decide (radio < 3)
  | .calTempTrigger radio _ => decide (radio < 3)
  | .calIntervalExpiry radio => decide (radio < 3)
  | .calGapStart radio => decide (radio < 3)
  | .calDeferExpiry radio => decide (radio < 3)
  | .calDone radio bandFails => decide (radio < 3) && bandFails.all fun k => decide (k < 2)
  | .txDecision radio _ => decide (radio < 3)
  | .lateLimitExpiry radio _ => decide (radio < 3)
  | .coexReqRaise radio => decide (radio < 3)
  | .coexGrantSample radio _ => decide (radio < 3)
  | .coexGrantArrival radio => decide (radio < 3)
  | .coexGrantWaitExpiry radio => decide (radio < 3)
  | .coexGrantWithdrawn radio _ => decide (radio < 3)
  | .txFrameEnd radio => decide (radio < 3)
  | .dutyBinAdvance => true
  | .radioProfileApply c p => c.wf && paramsWf p
  | .radioCal c p => c.wf && paramsWf p
  | .rglCertWrite c p => c.wf && paramsWf p
  | .rglCertApply c p => c.wf && paramsWf p
  | .rglCertVerifyDone => true
  | .rglRead c p => c.wf && paramsWf p
  | .profCfgWrite c radio slot _ _ => c.wf && decide (radio < 3) && decide (slot < 8)
  | .modProfileApply c p => c.wf && paramsWf p
  | .loadTableWrite c p => c.wf && paramsWf p
  | .loadTableRead c p => c.wf && paramsWf p
  | .filetSound c p => c.wf && paramsWf p
  | .soundingRx lane _ _ => decide (lane < 80)
  | .detection _ => true
  | .syncFound lane slot _ _ => decide (lane < 80) && decide (slot < 8)
  | .syncTimeout lane => decide (lane < 80)
  | .headerReceived lane _ => decide (lane < 80)
  | .receiveComplete lane _ _ _ _ trouble => decide (lane < 80) && trouble.wf
  | .stitchWindowOpen radio => decide (radio < 3)
  | .stitchWindowClose radio => decide (radio < 3)
  | .laneSelfTestStart lane => decide (lane < 80)
  | .laneSelfTestDone lane _ => decide (lane < 80)
  | .laneStarved radio => decide (radio < 3)
  | .poolLimitsWrite c _ _ _ => c.wf
  | .searchProfileApply c p => c.wf && paramsWf p
  | .lanePoolSet c p => c.wf && paramsWf p
  | .lanePoolRead c p => c.wf && paramsWf p
  | .searchNoiseRead c p => c.wf && paramsWf p
  | .queueHead _ => true
  | .backoffExpiry _ => true
  | .listenDone _ _ => true
  | .deferRxExpiry _ => true
  | .ackWindowClose _ => true
  | .reorderTimeout plait seq => decide (plait < 64) && decide (seq < 4096)
  | .plaitHistoryAge plait => decide (plait < 64)
  | .peerHistoryAge peer => decide (peer < 512)
  | .plaitProbeDue plait member => decide (plait < 64) && decide (member < 4)
  | .lbtWrite c radio _ _ => c.wf && decide (radio < 3)
  | .macEnableWrite c radio _ _ => c.wf && decide (radio < 3)
  | .macProfileApply c p => c.wf && paramsWf p
  | .peerWrite c p => c.wf && paramsWf p
  | .peerRead c p => c.wf && paramsWf p
  | .plaitSet c p => c.wf && paramsWf p
  | .plaitRead c p => c.wf && paramsWf p
  | .radioSend c p => c.wf && paramsWf p
  | .contextFetch client _ trouble => decide (client < 4096) && trouble.wf
  | .stitchPrepare client _ => decide (client < 4096)
  | .ctxLate radio => decide (radio < 3)
  | .stitchEnd radio => decide (radio < 3)
  | .contextWriteBack client => decide (client < 4096)
  | .schedProfileApply c p => c.wf && paramsWf p
  | .clientWrite c p => c.wf && paramsWf p
  | .clientRead c p => c.wf && paramsWf p
  | .clientSend c p => c.wf && paramsWf p
  | .ethFrameRx port _ _ _ => decide (port < 4)
  | .pauseExpiry port => decide (port < 4)
  | .pauseRepeat port => decide (port < 4)
  | .pcsSyncChange port _ => decide (port < 4)
  | .linkUp port _ => decide (port < 4)
  | .linkDown port _ _ => decide (port < 4)
  | .emacCtlWrite c port _ _ => c.wf && decide (port < 4)
  | .restartIdleEnd port => decide (port < 4)
  | .rateWindowEnd port percent => decide (port < 4) && decide (percent < 101)
  | .rateIdleEnd port => decide (port < 4)
  | .rateRetrainTimeout port => decide (port < 4)
  | .ethTxEnd port => decide (port < 4)
  | .emacProfileApply c p => c.wf && paramsWf p
  | .emacStatsRead c p => c.wf && paramsWf p
  | .fwdLookup trouble => trouble.wf
  | .macAgeScan => true
  | .fwdProfileApply c p => c.wf && paramsWf p
  | .fwdMacWrite c p => c.wf && paramsWf p
  | .fwdMacRead c p => c.wf && paramsWf p
  | .fwdMacFlush c p => c.wf && paramsWf p
  | .fwdVlanWrite c p => c.wf && paramsWf p
  | .fwdVlanRead c p => c.wf && paramsWf p
  | .fwdRouteWrite c p => c.wf && paramsWf p
  | .fwdNhWrite c p => c.wf && paramsWf p
  | .fwdAclWrite c p => c.wf && paramsWf p
  | .fwdTableRead c p => c.wf && paramsWf p
  | .fwdFrameSend c p => c.wf && paramsWf p
  | .tmPortServe node trouble => decide (node < 16) && trouble.wf
  | .tmTemplateApply c p => c.wf && paramsWf p
  | .tmMapWrite c p => c.wf && paramsWf p
  | .tmMapRead c p => c.wf && paramsWf p
  | .tmNodeRead c p => c.wf && paramsWf p
  | .tmMeterRead c p => c.wf && paramsWf p
  | .tmStatsRead c p => c.wf && paramsWf p
  | .timeMeasurement source _ _ => decide (source < 4)
  | .announceTimeout port => decide (port < 4)
  | .ptpMessageDue port kind => decide (port < 4) && decide (kind < 3)
  | .timeCtlWrite c _ _ => c.wf
  | .ptpCfgWrite c port _ _ => c.wf && decide (port < 4)
  | .timeAnnounceDue radio => decide (radio < 3)
  | .converterStart _ failing => failing.all fun k => decide (k < 18)
  | .pulseEnableWrite c generator _ _ => c.wf && decide (generator < 4)
  | .pulseEdge generator => decide (generator < 4)
  | .timeStampOverflow port => decide (port < 4)
  | .timeProfileApply c p => c.wf && paramsWf p
  | .timeStatus c p => c.wf && paramsWf p
  | .timeRead c p => c.wf && paramsWf p
  | .timeAdjust c p => c.wf && paramsWf p
  | .timeForceSet c p => c.wf && paramsWf p
  | .timeStampRead c p => c.wf && paramsWf p
  | .timeFrameSend c p => c.wf && paramsWf p
  | .timeClientStep c p => c.wf && paramsWf p
  | .rtcSecond => true
  | .vbatSwitchover => true
  | .vddioReturn => true
  | .rtcTimeWWrite c _ _ => c.wf
  | .rtcDateWWrite c _ _ => c.wf
  | .rtcHaltWrite c _ _ => c.wf
  | .rtcWakeWrite c _ _ => c.wf
  | .rtcPeriodicWake => true
  | .rtcOscStop => true
  | .calendarSnapshotExpiry requester => decide (requester < 8)
  | .rtcSet c p => c.wf && paramsWf p
  | .rtcRead c p => c.wf && paramsWf p
  | .meterWindowPublish => true
  | .controlCycle => true
  | .cycleOutputApply _ => true
  | .reportAgeExpiry client => decide (client < 4096)
  | .outReadbackCheck output _ => decide (output < 16)
  | .outHoldExpiry => true
  | .captureEdge input _ _ => decide (input < 8)
  | .serRxByte port _ => decide (port < 4)
  | .serRx port => decide (port < 4)
  | .measInCfgWrite c input _ _ => c.wf && decide (input < 18)
  | .measProfileApply c p => c.wf && paramsWf p
  | .measRead c p => c.wf && paramsWf p
  | .measWaveCapture c p => c.wf && paramsWf p
  | .measWaveDone => true
  | .measWaveRead c p => c.wf && paramsWf p
  | .ctlpProgramWrite c p => c.wf && paramsWf p
  | .ctlpProgramCommit c p => c.wf && paramsWf p
  | .ctlpProgramRead c p => c.wf && paramsWf p
  | .ctlpMsgWrite c p => c.wf && paramsWf p
  | .ctlpGroupWrite c p => c.wf && paramsWf p
  | .ctlpReportRead c p => c.wf && paramsWf p
  | .outSet c p => c.wf && paramsWf p
  | .outOverride c p => c.wf && paramsWf p
  | .serWrite c p => c.wf && paramsWf p
  | .serRead c p => c.wf && paramsWf p
  | .cipherOpStart engine => decide (engine < 5)
  | .cipherOpDone engine _ => decide (engine < 5)
  | .alarmDetected _ => true
  | .prevPageHoldExpiry => true
  | .keyLoad c p => c.wf && paramsWf p
  | .keyErase c p => c.wf && paramsWf p
  | .keyStatus c p => c.wf && paramsWf p
  | .cipherRun c p => c.wf && paramsWf p
  | .dramAccess port address _ _ region level => decide (region < 5) && decide (level ≤ 32) && decide (port < 5) && decide (address < 0x400000000)
  | .refreshDue channel rank bank => decide (channel < 2) && decide (rank < 2) && decide (bank < 8)
  | .mr4ReadDue rate => decide (rate ≤ 2)
  | .dqsDriftCheck channel rank _ => decide (channel < 2) && decide (rank < 2)
  | .actWindowEnd => true
  | .scrubRead _ region => decide (region < 5)
  | .dramProfileApply c p => c.wf && paramsWf p
  | .dramRowRetire c p => c.wf && paramsWf p
  | .dramStatus c p => c.wf && paramsWf p
  | .timerWrap timer => decide (timer < 16)
  | .timerCompare timer => decide (timer < 16)
  | .tmrPeriodWrite c timer _ _ => c.wf && decide (timer < 16)
  | .tmrCntWrite c timer _ _ => c.wf && decide (timer < 16)
  | .tmrCtlWrite c timer _ _ => c.wf && decide (timer < 16)
  | .tmrGoWrite c _ _ => c.wf
  | .tmrGoRelease => true
  | .tmrCaptureRead c p => c.wf && paramsWf p
  | .lowPowerExit => true
  | .wakeFrame address _ _ => decide (address < 128)
  | .hostWakeSignal => true
  | .clockMonitorWindow source _ => decide (source < 3)
  | .pllLockLoss pll => decide (pll < 9)
  | .pllRelock pll => decide (pll < 9)
  | .clkGateCtlWrite c _ _ => c.wf
  | .clkSscWrite c group _ _ => c.wf && decide (group < 3)
  | .pwrStatus c p => c.wf && paramsWf p
  | .clkStatus c p => c.wf && paramsWf p
  | .supplyLoss supply => decide (supply < 8)
  | .powerOnReset _ => true
  | .resetNAssert => true
  | .pcieFundamentalReset => true
  | .coldStart found => decide (found.density ≤ 4) && found.trainFail.length == 2 && found.trainFail.all (fun x => decide (x ≤ 7))
      && [0, 1, 2, 5].contains found.cause
  | .warmReset _ => true
  | .wdtKick c _ _ => c.all Cmd.wf
  | .watchdogExpiry => true
  | .confirmTimeout => true
  | .fwWrite c p => c.wf && paramsWf p
  | .fwActivate c p => c.wf && paramsWf p
  | .firmwareVerifyDone => true
  | .fwConfirm c p => c.wf && paramsWf p
  | .fwStatus c p => c.wf && paramsWf p
  | .cfgSave c p => c.wf && paramsWf p
  | .cfgWrite c p => c.wf && paramsWf p
  | .cfgCommitImage c p => c.wf && paramsWf p
  | .configFlashWriteDone _ => true
  | .cfgRead c p => c.wf && paramsWf p
  | .secStageWrite c p => c.wf && paramsWf p
  | .lifecycleSet c p => c.wf && paramsWf p
  | .identityGen c p => c.wf && paramsWf p
  | .devCertWrite c p => c.wf && paramsWf p
  | .devCertRead c p => c.wf && paramsWf p
  | .attest c p => c.wf && paramsWf p
  | .attestSignDone => true
  | .attestRead c p => c.wf && paramsWf p
  | .ktkLoad c p => c.wf && paramsWf p
  | .dbgAuthSet c p => c.wf && paramsWf p
  | .dbgNonce c p => c.wf && paramsWf p
  | .dbgNonceExpiry => true
  | .dbgUnlock c p => c.wf && paramsWf p
  | .dbgLock c p => c.wf && paramsWf p
  | .debugLifetimeExpiry => true
  | .debugAccess _ => true
  | .secAuth c p => c.wf && paramsWf p
  | .authTimeout session => decide (session < 4)
  | .chainEnum c p _ => c.wf && paramsWf p
  | .chainStatus c p => c.wf && paramsWf p
  | .chainPortSet c p => c.wf && paramsWf p
  | .chainCtlWrite c _ _ => c.wf
  | .cordonnetFrameRx port _ _ => decide (port < 2)
  | .hopResend port seq => decide (port < 2) && decide (seq < 64)
  | .chainLinkLoss port _ => decide (port < 2)
  | .chainLinkUp port _ _ => decide (port < 2)
  | .delayBlockDue port _ _ _ _ => decide (port < 2)
  | .timeBlockDue => true
  | .forwardedTagOrphaned session tag => decide (session < 4) && decide (tag < 65536)
  | .scoreLeak kind => decide (kind < 11)
  | .spareBringIn kind => decide (kind < 7)
  | .spareSelfTestDone kind _ _ => decide (kind < 7)
  | .heartbeatLoss processor _ _ => decide (processor < 2)
  | .checkpointDue processor => decide (processor < 2)
  | .wearHour _ => true
  | .darnStatus c p => c.wf && paramsWf p
  | .darnUnitRead c p => c.wf && paramsWf p
  | .darnRetire c p => c.wf && paramsWf p
  | .darnLogRead c p => c.wf && paramsWf p
  | .darnProfileApply c p => c.wf && paramsWf p
  | .lifecycleTransitionDone => true

end Sys2Proof
end

