-- ==== Sys2Proof/Tests/Slice0.lean ====
section
/-! SUPPORT. Tests: ill-formed commands refused, witnesses that the statements' hypotheses can be met, and worked values
of the spec. -/

namespace Sys2Proof.Machine

set_option Elab.async false

/-! Ill-formed commands -/

/-- A header that no packet carries: there are four sessions. -/
def formed : Cmd := { ep := .spi, session := 0, tag := 1, trailer := 0, target := 0, timeout := 0, wantReply := true, inTxn := false, urgent := false, forward := false }
def malformed : Cmd := { formed with session := 4 }
def noWalk : ChainWalk := ⟨[], [], false, false, 0, 0⟩
theorem test_headers_refused : ([{ formed with session := 4 }, { formed with tag := 65536 }, { formed with trailer := 2 ^ 32 }, { formed with target := 256 }, { formed with timeout := 65536 }, { formed with ep := .pcie 4 },
    { formed with ep := .inband [1] 1 0 }, { formed with ep := .inband [1, 2, 3, 4, 5, 6] 4096 0 }, { formed with ep := .inband [1, 2, 3, 4, 5, 6] 1 4 }, { formed with ep := .chain 64 }] : List Cmd).all (fun (c : Cmd) => !c.wf) = true
    ∧ formed.wf = true ∧ paramsWf (List.replicate 4077 0) = false ∧ paramsWf (List.replicate 4076 0) = true := by decide +kernel
/-- Opcodes refuse a header or parameters that no packet carries, and take the others. -/
def refusesIllFormed (f : Cmd → Bytes → Instr) : Bool := !(f malformed []).wf && !(f formed (List.replicate 4077 0)).wf && (f formed []).wf
theorem test_opcodes_refused0 : ([.hello, .status, .reset, .powerState, .cancel, .eventMask, .sessionClose, .regRead, .regWrite, .regReadBlock, .txnBegin, .txnStage, .txnCommit, .txnAbort, .txnStatus, .radioProfileApply, .radioCal, .rglCertWrite, .rglCertApply, .rglRead, .modProfileApply, .loadTableWrite, .loadTableRead, .filetSound, .searchProfileApply, .lanePoolSet, .lanePoolRead, .searchNoiseRead, .macProfileApply, .peerWrite, .peerRead, .plaitSet, .plaitRead, .radioSend, .schedProfileApply, .clientWrite, .clientRead, .clientSend, .emacProfileApply, .emacStatsRead] : List (Cmd → Bytes → Instr)).all refusesIllFormed = true := by decide +kernel
theorem test_opcodes_refused1 : ([.fwdProfileApply, .fwdMacWrite, .fwdMacRead, .fwdMacFlush, .fwdVlanWrite, .fwdVlanRead, .fwdRouteWrite, .fwdNhWrite, .fwdAclWrite, .fwdTableRead, .fwdFrameSend, .tmTemplateApply, .tmMapWrite, .tmMapRead, .tmNodeRead, .tmMeterRead, .tmStatsRead, .timeProfileApply, .timeStatus, .timeRead, .timeAdjust, .timeForceSet, .timeStampRead, .timeFrameSend, .timeClientStep, .rtcSet, .rtcRead, .measProfileApply, .measRead, .measWaveCapture, .measWaveRead, .ctlpProgramWrite, .ctlpProgramCommit, .ctlpProgramRead, .ctlpMsgWrite, .ctlpGroupWrite, .ctlpReportRead, .outSet, .outOverride, .serWrite] : List (Cmd → Bytes → Instr)).all refusesIllFormed = true := by decide +kernel
theorem test_opcodes_refused2 : ([.serRead, .keyLoad, .keyErase, .keyStatus, .cipherRun, .dramProfileApply, .dramRowRetire, .dramStatus, .tmrCaptureRead, .pwrStatus, .clkStatus, .fwWrite, .fwActivate, .fwConfirm, .fwStatus, .cfgSave, .cfgWrite, .cfgCommitImage, .cfgRead, .secStageWrite, .lifecycleSet, .identityGen, .devCertWrite, .devCertRead, .attest, .attestRead, .ktkLoad, .dbgAuthSet, .dbgNonce, .dbgUnlock, .dbgLock, .secAuth, .chainStatus, .chainPortSet, .darnStatus, .darnUnitRead, .darnRetire, .darnLogRead, .darnProfileApply] : List (Cmd → Bytes → Instr)).all refusesIllFormed = true := by decide +kernel
theorem test_chainEnum_refused : refusesIllFormed (fun c p => .chainEnum c p noWalk) = true := by decide +kernel
theorem test_operands_refused0 : ([.dwRingCfgWrite 4 0, .dwCmdTailWrite 4 0 [], .dwRplHeadWrite 4 0, .heldReplyWrite 4, .spiPut 256 [], .sessionIdleExpiry 4, .commandTimeout 4 0, .commandTimeout 0 65536, .eventsLost 4, .crossingTimeout 11 0 none false, .crossingTimeout 0 11 none false, .latchingWordRead 8 0, .latchingWordRead 0 0x1000000, .txnArmingDeadline 4, .commitApply 4 none, .synFreqWrite formed 3 0 0, .synFreqWrite malformed 0 0 0, .hopFreqWrite formed 3 0 0, .hopFreqWrite malformed 0 0 0, .stateRequestWrite formed 3 0 0, .stateRequestWrite malformed 0 0 0, .txPwrWrite formed 3 0 0, .txPwrWrite malformed 0 0 0, .stateTransitionDone 3, .synthLockDone 3 false, .synthLockTimeout 3 false, .calTempTrigger 3 0, .calIntervalExpiry 3, .calGapStart 3, .calDeferExpiry 3, .calDone 3 none, .calDone 0 (some 2), .txDecision 3 0, .lateLimitExpiry 3 0, .coexReqRaise 3, .coexGrantSample 3 false, .coexGrantArrival 3, .coexGrantWaitExpiry 3, .coexGrantWithdrawn 3 0, .txFrameEnd 3] : List Instr).all (fun (i : Instr) => !i.wf) = true := by decide +kernel
theorem test_operands_refused1 : ([.profCfgWrite formed 3 0 0 0, .profCfgWrite formed 0 8 0 0, .profCfgWrite malformed 0 0 0 0, .soundingRx 80 [] 0, .syncFound 80 0 0 false, .syncFound 0 8 0 false, .syncTimeout 80, .headerReceived 80 0, .receiveComplete 80 false [] 0 0 .clean, .receiveComplete 0 false [] 0 0 (.uncorrectable 65536), .receiveComplete 0 false [] 0 0 (.corrected 65536), .stitchWindowOpen 3, .stitchWindowClose 3, .laneSelfTestStart 80, .laneSelfTestDone 80 false, .laneStarved 3, .poolLimitsWrite malformed false 0 0, .reorderTimeout 64 0, .reorderTimeout 0 4096, .plaitHistoryAge 64, .peerHistoryAge 512, .plaitProbeDue 64 0, .plaitProbeDue 0 4, .lbtWrite formed 3 0 0, .lbtWrite malformed 0 0 0, .macEnableWrite formed 3 0 0, .macEnableWrite malformed 0 0 0, .contextFetch 4096 0 .clean, .contextFetch 0 0 (.uncorrectable 65536), .contextFetch 0 0 (.corrected 65536), .stitchPrepare 4096 0, .ctxLate 3, .stitchEnd 3, .contextWriteBack 4096, .ethFrameRx 4 [] false false, .pauseExpiry 4, .pauseRepeat 4, .pcsSyncChange 4 false, .linkUp 4 none, .linkDown 4 0 false] : List Instr).all (fun (i : Instr) => !i.wf) = true := by decide +kernel
theorem test_operands_refused2 : ([.emacCtlWrite formed 4 0 0, .emacCtlWrite malformed 0 0 0, .restartIdleEnd 4, .rateWindowEnd 4 0, .rateWindowEnd 0 101, .rateIdleEnd 4, .rateRetrainTimeout 4, .ethTxEnd 4, .fwdLookup (.uncorrectable 65536), .fwdLookup (.corrected 65536), .tmPortServe 16 .clean, .tmPortServe 0 (.uncorrectable 65536), .tmPortServe 0 (.corrected 65536), .timeMeasurement 4 0 ⟨0, 0, [], 0, false⟩, .announceTimeout 4, .ptpMessageDue 4 0, .ptpMessageDue 0 3, .timeCtlWrite malformed 0 0, .ptpCfgWrite formed 4 0 0, .ptpCfgWrite malformed 0 0 0, .timeAnnounceDue 3, .converterStart [] [18], .pulseEnableWrite formed 4 0 0, .pulseEnableWrite malformed 0 0 0, .pulseEdge 4, .timeStampOverflow 4, .rtcTimeWWrite malformed 0 0, .rtcDateWWrite malformed 0 0, .rtcHaltWrite malformed 0 0, .rtcWakeWrite malformed 0 0, .calendarSnapshotExpiry 8, .reportAgeExpiry 4096, .outReadbackCheck 16 false, .captureEdge 8 false 0, .serRxByte 4 0, .serRx 4, .measInCfgWrite formed 18 0 0, .measInCfgWrite malformed 0 0 0, .cipherOpStart 5, .cipherOpDone 5 false] : List Instr).all (fun (i : Instr) => !i.wf) = true := by decide +kernel
theorem test_operands_refused3 : ([.dramAccess 0 0 none .clean 5 0, .dramAccess 0 0 none .clean 0 33, .dramAccess 5 0 none .clean 0 0, .dramAccess 0 0x400000000 none .clean 0 0, .refreshDue 2 0 0, .refreshDue 0 2 0, .refreshDue 0 0 8, .mr4ReadDue 3, .dqsDriftCheck 2 0 0, .dqsDriftCheck 0 2 0, .scrubRead .clean 5, .timerWrap 16, .timerCompare 16, .tmrPeriodWrite formed 16 0 0, .tmrPeriodWrite malformed 0 0 0, .tmrCntWrite formed 16 0 0, .tmrCntWrite malformed 0 0 0, .tmrCtlWrite formed 16 0 0, .tmrCtlWrite malformed 0 0 0, .tmrGoWrite malformed 0 0, .wakeFrame 128 false false, .clockMonitorWindow 3 0, .pllLockLoss 9, .pllRelock 9, .clkGateCtlWrite malformed 0 0, .clkSscWrite formed 3 0 0, .clkSscWrite malformed 0 0 0, .supplyLoss 8, .authTimeout 4, .chainCtlWrite malformed 0 0, .cordonnetFrameRx 2 [] none, .hopResend 2 0, .hopResend 0 64, .chainLinkLoss 2 0, .chainLinkUp 2 [] false, .delayBlockDue 2 0 0 0 0, .forwardedTagOrphaned 4 0, .forwardedTagOrphaned 0 65536, .scoreLeak 11, .spareBringIn 7] : List Instr).all (fun (i : Instr) => !i.wf) = true := by decide +kernel
theorem test_operands_refused4 : ([.spareSelfTestDone 7 false 0, .heartbeatLoss 2 0 false, .checkpointDue 2] : List Instr).all (fun (i : Instr) => !i.wf) = true := by decide +kernel
theorem test_start_refused : ([⟨3, 0, false, true, [0, 0], 20, noWalk⟩, ⟨0, 5, false, true, [0, 0], 20, noWalk⟩, ⟨0, 0, false, true, [0], 20, noWalk⟩, ⟨0, 0, false, true, [8, 0], 20, noWalk⟩] : List StartUp).all (fun (x : StartUp) => !(Instr.coldStart x).wf) = true
    ∧ (Instr.wdtKick (some malformed) 0 0).wf = false ∧ (Instr.coldStart ⟨0, 0, false, true, [0, 0], 20, noWalk⟩).wf = true := by decide +kernel

/-! QueueFrontRuns -/

theorem test_front : ({ State.reset with pending := [.spiStatus] } : State).pending = .spiStatus :: [] := by decide +kernel

/-! StepKeepsRegisterFile -/

theorem test_canonical_reset : State.reset.RegsCanonical := by
  constructor
  · exact List.Pairwise.nil
  · intro e h
    cases h

/-! RingPairWrites -/

/-- A device whose session 0 is open on its ring pair, which is enabled with 16 slots each way. -/
def ringed : State := { State.reset with host := {
  sessions := [{ ep := some (.pcie 0), authenticated := true }, {}, {}, {}]
  rings := [{ cfg := 0x344, held := [⟨true, false, false, false, 7, 1, 0, 0, 0, []⟩] }, {}, {}, {}] } }

theorem test_ring_enable : State.reset.portServes (.pcie 3) = true ∧ (State.reset.ring 3).enabled = false
    ∧ field (0x1A4 : Word) 3 0 = 4 ∧ field (0x1A4 : Word) 7 4 = 10 ∧ field (0x1A4 : Word) 8 8 = 1
    ∧ field (State.reset.ring 3).cmdBaseLo 11 0 = 0 ∧ field (State.reset.ring 3).rplBaseLo 11 0 = 0 := by decide +kernel
theorem test_ring_error : (State.reset.ring 0).enabled = false ∧ 10 < field (0x14B : Word) 3 0 ∧ field (0x134 : Word) 7 4 < 4 := by decide +kernel
theorem test_ring_enabled : ringed.portServes (.pcie 0) = true ∧ (ringed.ring 0).enabled = true ∧ field (0x044 : Word) 8 8 = 0 := by decide +kernel

/-! RingIndexWrites -/

theorem test_doorbell : ringed.portServes (.pcie 0) = true ∧ (ringed.ring 0).enabled = true
    ∧ (65536 + field (1 : Word) 15 0 - (ringed.ring 0).cmdHead.toNat) % 65536 = 1
    ∧ num (padTo 4096 (([3] : Bytes).take 4096)) 0 1 ≠ 2 := by decide +kernel
theorem test_ring_off : (State.reset.ring 3).enabled = false := by decide +kernel
theorem test_held : field ({ ringed.ring 0 with cfg := 0x144 } : Ring).cfg 9 9 = 0 ∧ (ringed.ring 0).held ≠ []
    ∧ (ringed.ring 0).held.length + (ringed.session 0).events.length ≤ (ringed.ring 0).free := by decide +kernel

/-! SpiPortTransactions -/

theorem test_spi : State.reset.portServes .spi = true ∧ State.reset.spiNext = none := by decide +kernel
theorem test_spi_next : ({ State.reset with host := { spiLeft := [⟨true, false, false, false, 7, 1, 0, 0, 0, []⟩] } } : State).spiNext
    = some ⟨true, false, false, false, 7, 1, 0, 0, 0, []⟩ := by decide +kernel
theorem test_spi_put : (List.replicate 16 (3 : Byte)).length = 16 ∧ num (List.replicate 16 (3 : Byte)) 0 1 ≠ 2 := by decide +kernel

/-! HelloBindsSession -/

/-- A command from session 0's ring pair. -/
def cmd : Cmd := { ep := .pcie 0, session := 0, tag := 1, trailer := 0, target := 0, timeout := 0, wantReply := true, inTxn := false, urgent := false, forward := false }
/-- The same command, staged in the open transaction. -/
def cmdTxn : Cmd := { cmd with inTxn := true }
/-- The same command over quad SPI. -/
def cmdSpi : Cmd := { cmd with ep := .spi }

theorem test_hello_reopens : ringed.Ready helloSpec cmd [2, 0, 0, 0] ∧ ((ringed.received cmd).numbered && !(ringed.received cmd).head) = false := by
  refine ⟨?_, by decide +kernel⟩
  constructor <;> decide +kernel
theorem test_hello_opens : State.reset.bound 0 .spi = false ∧ (State.reset.bump64 Reg.sysCmdRxLo).permits helloSpec cmdSpi = true
    ∧ (State.reset.bump64 Reg.sysCmdRxLo).outstandingCount 0 < 32 ∧ (State.reset.session 0).ep = none
    ∧ cmdSpi.target = (State.reset.bump64 Reg.sysCmdRxLo).device ∧ State.reset.portServes .spi = true
    ∧ ((State.reset.bump64 Reg.sysCmdRxLo).numbered && !(State.reset.bump64 Reg.sysCmdRxLo).head) = false := by decide +kernel
theorem test_hello_refused : ringed.bound 0 .spi = false ∧ (ringed.session 0).ep = some (.pcie 0)
    ∧ (ringed.bump64 Reg.sysCmdRxLo).permits helloSpec cmdSpi = true ∧ (ringed.bump64 Reg.sysCmdRxLo).outstandingCount 0 < 32 := by decide +kernel

/-! SessionCommands -/

theorem test_status_ready : ringed.Ready statusSpec cmd [] := by constructor <;> decide +kernel
theorem test_mask_ready : ringed.Ready eventMaskSpec cmd (List.replicate 32 0xFF) := by constructor <;> decide +kernel
theorem test_close_ready : ringed.Ready sessionCloseSpec cmd [] ∧ (ringed.received cmd).bound 0 (.pcie 0) = true := by
  refine ⟨?_, by decide +kernel⟩
  constructor <;> decide +kernel

/-! CancelOutcomes -/

/-- A device whose session 0 has an attestation outstanding under tag 9. -/
def attesting : State := { ringed with host := { ringed.host with sessions := [{
  ep := some (.pcie 0), authenticated := true, outstanding := [⟨⟨0, 9, 0, 0x0415, .pcie 0, true⟩, 0, 1000000000, .attest⟩] }, {}, {}, {}] } }

theorem test_cancel_none : ringed.Ready cancelSpec cmd [9, 0] ∧ (ringed.received cmd).tagOutstanding 0 9 = false := by
  refine ⟨?_, by decide +kernel⟩
  constructor <;> decide +kernel
theorem test_cancel_attest : attesting.Ready cancelSpec cmd [9, 0]
    ∧ ((attesting.received cmd).session 0).outstanding.filter (fun x => x.origin.tag == num [9, 0] 0 2)
      = [⟨⟨0, 9, 0, 0x0415, .pcie 0, true⟩, 0, 1000000000, .attest⟩] := by
  refine ⟨?_, by decide +kernel⟩
  constructor <;> decide +kernel

/-! SessionLimits -/

theorem test_timeout : (attesting.session 0).outstanding = [⟨⟨0, 9, 0, 0x0415, .pcie 0, true⟩, 0, 1000000000, .attest⟩] := by decide +kernel
/-- A device whose session 1 is an in-band one that has lost 3 events. -/
def lossy : State := { State.reset with host := { sessions := [{}, { ep := some (.inband [2, 0, 0, 0, 0, 1] 0 0), lost := 3, firstLost := 5 }, {}, {}] } }
theorem test_idle : (lossy.session 1).ep = some (.inband [2, 0, 0, 0, 0, 1] 0 0) ∧ lossy.fld Reg.sysSessionIdle 15 0 ≠ 0 := by decide +kernel
theorem test_lost : (lossy.session 1).lost ≠ 0 ∧ (lossy.session 1).events.length < 240 ∧ lossy.isOpen 1 = true := by decide +kernel

/-! RegisterReads -/

theorem test_read_ready : ringed.Ready regReadSpec cmd (le 4 Reg.timeCtl) ∧ (ringed.received cmd).unpowered Reg.timeCtl = false
    ∧ ((ringed.received cmd).openGate Reg.timeCtl).deaf Reg.timeCtl = false := by
  refine ⟨?_, by decide +kernel⟩
  constructor <;> decide +kernel
theorem test_read_off : ((ringed.setReg Reg.pwrDomStat 1).received cmd).unpowered Reg.timeCtl = true
    ∧ (ringed.setReg Reg.pwrDomStat 1).Ready regReadSpec cmd (le 4 Reg.timeCtl) := by
  refine ⟨by decide +kernel, ?_⟩
  constructor <;> decide +kernel
theorem test_block_ready : ringed.Ready regReadBlockSpec cmd (le 4 Reg.timeNowSecLo ++ le 2 4)
    ∧ (blockAddresses (le 4 Reg.timeNowSecLo ++ le 2 4)).any (ringed.received cmd).unpowered = false
    ∧ (blockAddresses (le 4 Reg.timeNowSecLo ++ le 2 4)).find?
      ((blockAddresses (le 4 Reg.timeNowSecLo ++ le 2 4)).foldl (fun (s : State) a => s.openGate a) (ringed.received cmd)).deaf = none := by
  refine ⟨?_, by decide +kernel⟩
  constructor <;> decide +kernel
theorem test_latch : ((findReg Reg.timeNowSecLo).map fun x => x.1.access) = some .rsn ∧ ringed.unpowered Reg.timeNowSecLo = false
    ∧ ringed.deaf Reg.timeNowSecLo = false := by decide +kernel

/-! RegisterRowWrites -/

/-- The write that a command makes of a register. -/
def wr (s : State) (a : Nat) (m v : Word) : RegWrite :=
  ((s.received cmd).writeOf a m v).getD ⟨⟨0, 1, 0, 1, 0, .ro, 0, [], 0, []⟩, 0, 0, 0, 0, 0, 0⟩

/-- Whether a command may write a register so, as a value. -/
def mayWrite (s : State) (a : Nat) (m v : Word) : Bool :=
  decide ((s.received cmd).writeOf a m v = some (wr s a m v)) && (s.received cmd).writeCheck (wr s a m v) false false == none
    && !((s.received cmd).openGate a).deaf a && regExists (num (regParams a m v) 0 4) && (s.received cmd).permits regWriteSpec cmd
    && s.portServes cmd.ep && s.bound 0 cmd.ep && !s.tagOutstanding 0 1 && (s.cached cmd).isNone && (s.received cmd).device == 0
    && decide ((s.received cmd).outstandingCount 0 < 32)

/-- What makes a command ready to write. -/
theorem writes_of (s : State) (a : Nat) (m v : Word) (h : mayWrite s a m v = true) : s.Writes cmd a m v (wr s a m v) := by
  simp only [mayWrite, Bool.and_eq_true, decide_eq_true_eq, Bool.not_eq_true', beq_iff_eq, Option.isNone_iff_eq_none] at h
  obtain ⟨⟨⟨⟨⟨⟨⟨⟨⟨⟨named, allowed⟩, awake⟩, range⟩, permitted⟩, serves⟩, bound⟩, fresh⟩, unseen⟩, near⟩, room⟩ := h
  exact ⟨⟨rfl, serves, bound, fresh, unseen, by decide, near.symm, rfl, permitted, room, by simp [regWriteSpec, regParams, le], range, rfl⟩,
    rfl, named, allowed, awake⟩

theorem test_write_radio : mayWrite ringed (Reg.trxSynFreq 0) 0xFFFFFFFF 868000000 && mayWrite ringed (Reg.trxHopFreq 1) 0xFFFFFFFF 0
    && mayWrite ringed (Reg.trxStateCtl 2) 0xF 0 && mayWrite ringed (Reg.trxTxPwr 0) 0xFF 0x0A && mayWrite ringed (Reg.profCfg 0 1) 0xFFFFFFFF 0
    && mayWrite ringed Reg.poolCap 0 0 && mayWrite ringed Reg.poolRes 0xFFFFFFFF 0 && mayWrite ringed (Reg.wmacLbt 0) 0 0
    && mayWrite ringed (Reg.wmacCtl 0) 1 0 = true := by decide +kernel
theorem test_write_time : mayWrite ringed (Reg.emacCtl 0) 1 1 && mayWrite ringed Reg.timeCtl 1 1 && mayWrite ringed (Reg.timePtpCfg 3) 1 0
    && mayWrite ringed (Reg.plsCtl 0) 1 0 && mayWrite (ringed.setReg Reg.rtcCtl 1) Reg.rtcTimeW 0xFFFFFFFF 0x00102030 && mayWrite ringed Reg.rtcCtl 0 0
    && mayWrite ringed Reg.rtcWake 0 0 = true := by decide +kernel
theorem test_write_rest : mayWrite ringed (Reg.measInCfg 0) 0 0 && mayWrite ringed (Reg.tmrPeriod 0) 0xFFFFFFFF 1000 && mayWrite ringed (Reg.tmrCnt 0) 0xFFFFFFFF 5
    && mayWrite ringed (Reg.tmrCtl 0) 0 0 && mayWrite ringed Reg.clkGateCtl 0 0 && mayWrite ringed (Reg.clkSsc 0) 0 0 && mayWrite ringed Reg.chainCtl 0 0
    && mayWrite ringed Reg.tmrGo 0xFFFF 1 && mayWrite (ringed.setReg Reg.rtcCtl 1) Reg.rtcDateW 0xFFFFFFFF 0x07E8060F = true := by decide +kernel

/-! UnboundSessionRefused -/

theorem test_unbound : Endpoint.fromHost cmd.ep = true ∧ State.reset.portServes cmd.ep = true ∧ State.reset.bound cmd.session cmd.ep = false
    ∧ (opcodes.map (·.code)).contains 0x0201 = true := by decide +kernel

/-! SessionZeroOnly -/

/-- A device whose session 1 is open on its own ring pair. -/
def ringed1 : State := { State.reset with host := { State.reset.host with
  sessions := [{}, { ep := some (.pcie 1), authenticated := true }, {}, {}], rings := [{}, { cfg := 0x344 }, {}, {}] } }
/-- A command from session 1's ring pair. -/
def cmd1 : Cmd := { cmd with ep := .pcie 1, session := 1 }
theorem test_session0 : ringed1.portServes cmd1.ep = true ∧ ringed1.bound cmd1.session cmd1.ep = true
    ∧ ringed1.tagOutstanding cmd1.session cmd1.tag = false ∧ ringed1.cached cmd1 = none
    ∧ cmd1.target = (ringed1.received cmd1).device ∧ cmd1.session ≠ 0 := by decide +kernel

/-! TransactionOpensAndStages -/

/-- A device whose session 0 has an open transaction. -/
def opened : State := { ringed with host := { ringed.host with sessions := [{
  ep := some (.pcie 0), authenticated := true, txn := { state := .opened, id := 1, entries := [⟨0xFE, Reg.timeJumpLim, 0xFFFFFFFF, 2000000⟩] } }, {}, {}, {}] } }
/-- The parameters of a TXN_STAGE of one write of TIME_JUMP_LIM. -/
def stageOne : Bytes := le 4 1 ++ le 4 (0xFE000000 + Reg.timeJumpLim) ++ le 4 0xFFFFFFFF ++ le 4 2000000
/-- The parameters of a TXN_STAGE of one write of a register that may only be read. -/
def stageBad : Bytes := le 4 1 ++ le 4 (0xFE000000 + Reg.sysId) ++ le 4 0xFFFFFFFF ++ le 4 0
theorem test_begin : ringed.Ready txnBeginSpec cmd [] ∧ ((ringed.received cmd).txn 0).state = .none := by
  refine ⟨?_, by decide +kernel⟩
  constructor <;> decide +kernel
theorem test_begin_busy : opened.Ready txnBeginSpec cmd [] ∧ ((opened.received cmd).txn 0).state = .opened := by
  refine ⟨?_, by decide +kernel⟩
  constructor <;> decide +kernel
theorem test_stage : opened.Ready txnStageSpec cmd stageOne ∧ opened.Ready txnStatusSpec cmd []
    ∧ ((opened.received cmd).stage 0 (stageEntries stageOne)).isRight = true := by
  refine ⟨?_, ?_, by decide +kernel⟩ <;> constructor <;> decide +kernel
theorem test_stage_fails : opened.Ready txnStageSpec cmd stageBad
    ∧ ((opened.received cmd).stage 0 (stageEntries stageBad)).isLeft = true := by
  refine ⟨?_, by decide +kernel⟩
  constructor <;> decide +kernel
/-- A transaction with 512 entries. -/
def filled : State := { opened with host := { opened.host with sessions := [{
  ep := some (.pcie 0), authenticated := true
  txn := { state := .opened, id := 1, entries := List.replicate 512 ⟨0xFE, Reg.timeJumpLim, 0xFFFFFFFF, 2000000⟩ } }, {}, {}, {}] } }
theorem test_stage_full : filled.Ready txnStageSpec cmd stageOne ∧ 512 < ((filled.received cmd).txn 0).entries.length + num stageOne 0 4 := by
  refine ⟨?_, by decide +kernel⟩
  constructor <;> decide +kernel

/-! CommitLifecycle -/

/-- Parameters of an immediate commit. -/
def now : Bytes := List.replicate 12 0
theorem test_commit : opened.Ready txnCommitSpec cmd now ∧ ((opened.received cmd).txn 0).state = .opened
    ∧ (opened.received cmd).conflict 0 = none ∧ (opened.received cmd).devicesOf ((opened.received cmd).txn 0).entries = [] := by
  refine ⟨?_, by decide +kernel⟩
  constructor <;> decide +kernel
theorem test_commit_late : opened.Ready txnCommitSpec cmd (1 :: List.replicate 11 0) := by constructor <;> decide +kernel
/-- The open transaction with a write of its register by session 1 since it began. -/
def contested : State := opened.noteWrite 1 0 Reg.timeJumpLim 0xFFFFFFFF
theorem test_commit_conflict : contested.Ready txnCommitSpec cmd now ∧ ((contested.received cmd).txn 0).state = .opened
    ∧ (contested.received cmd).conflict 0 = some (0, 1, Reg.timeJumpLim) := by
  refine ⟨?_, by decide +kernel⟩
  constructor <;> decide +kernel
/-- The transaction PENDING, its instant 100 µs ahead. -/
def armed : State := { opened with host := { opened.host with sessions := [{
  ep := some (.pcie 0), authenticated := true, outstanding := [⟨⟨0, 1, 0, 0x0102, .pcie 0, true⟩, 0, 100000000, .txnCommit⟩]
  txn := { state := .pending, id := 1, entries := [⟨0xFE, Reg.timeJumpLim, 0xFFFFFFFF, 2000000⟩], go := true, instant := 100000, tag := 1 } }, {}, {}, {}] } }
/-- The same with a write that its register's rules no longer allow. -/
def armedBad : State := { armed with host := { armed.host with sessions := [{
  ep := some (.pcie 0), authenticated := true, txn := { state := .pending, id := 1, entries := [⟨0xFE, Reg.timeJumpLim, 0xFFFFFFFF, 7⟩], go := true, instant := 100000 } }, {}, {}, {}] } }
theorem test_apply : (armed.firstDue 0).map (·.1) = some 100000 ∧ ((armed.firstDue 0).map fun x => decide (x.2 = .own)) = some true
    ∧ (armed.reach 100000).devicesOf ((armed.reach 100000).txn 0).entries = [] ∧ ((armed.reach 100000).txn 0).waiting = []
    ∧ ((armed.reach 100000).applyEntries ((armed.reach 100000).localEntries ((armed.reach 100000).txn 0).entries)).isRight = true := by decide +kernel
theorem test_apply_fails : (armedBad.firstDue 0).map (·.1) = some 100000
    ∧ ((armedBad.reach 100000).applyEntries ((armedBad.reach 100000).localEntries ((armedBad.reach 100000).txn 0).entries)).isLeft = true := by decide +kernel

/-! AbortAndDeadline -/

/-- Session 0 with a transaction in a state. -/
def txnIn (t : Txn) : State := { ringed with host := { ringed.host with
  sessions := [{ ep := some (.pcie 0), authenticated := true, txn := t }, {}, {}, {}] } }
theorem test_abort : (txnIn {}).Ready txnAbortSpec cmd [] ∧ (txnIn { state := .opened }).Ready txnAbortSpec cmd []
    ∧ (txnIn { state := .pending, timed := true, instant := 5000000 }).Ready txnAbortSpec cmd []
    ∧ (txnIn { state := .pending }).Ready txnAbortSpec cmd [] ∧ (txnIn { state := .applied }).Ready txnAbortSpec cmd []
    ∧ (txnIn { state := .applied, exact := true, record := [⟨Reg.timeJumpLim, 5⟩] }).Ready txnAbortSpec cmd [] := by
  refine ⟨?_, ?_, ?_, ?_, ?_, ?_⟩ <;> constructor <;> decide +kernel
/-- A commit that waits for device 5. -/
def waiting : State := txnIn { state := .pending, instant := 9000000, entries := [⟨5, Reg.timeJumpLim, 0xFFFFFFFF, 2000000⟩], waiting := [5] }
theorem test_deadline : (waiting.txn 0).state = .pending ∧ (waiting.txn 0).go = false ∧ waiting.devicesOf (waiting.txn 0).entries ≠ [] := by decide +kernel

/-! ProfileCommands -/

theorem test_radioProfileApply : ringed.Ready radioProfileApplySpec cmd ([1, 3, 0, 0] ++ le 4 868000000) := by constructor <;> decide +kernel
theorem test_modProfileApply : ringed.Ready modProfileApplySpec cmd ([1, 1, 0, 0]) := by constructor <;> decide +kernel
theorem test_searchProfileApply : ringed.Ready searchProfileApplySpec cmd ([7, 0, 0, 0]) := by constructor <;> decide +kernel
theorem test_lanePoolSet : ringed.Ready lanePoolSetSpec cmd ([4, 4, 4, 0, 80, 80, 80, 0]) := by constructor <;> decide +kernel
theorem test_macProfileApply : ringed.Ready macProfileApplySpec cmd ([7, 0, 0, 0]) := by constructor <;> decide +kernel
theorem test_plaitSet : ringed.Ready plaitSetSpec cmd (List.replicate 20 0) := by constructor <;> decide +kernel
theorem test_schedProfileApply : ringed.Ready schedProfileApplySpec cmd ([7, 0, 0, 0]) := by constructor <;> decide +kernel
theorem test_emacProfileApply : ringed.Ready emacProfileApplySpec cmd ([15, 0, 0, 0]) := by constructor <;> decide +kernel
theorem test_fwdProfileApply : ringed.Ready fwdProfileApplySpec cmd ([1, 0, 0, 0]) := by constructor <;> decide +kernel
theorem test_tmTemplateApply : ringed.Ready tmTemplateApplySpec cmd ([0, 0, 0, 0]) := by constructor <;> decide +kernel
theorem test_timeProfileApply : ringed.Ready timeProfileApplySpec cmd ([2, 0, 0, 0]) := by constructor <;> decide +kernel
theorem test_dramProfileApply : ringed.Ready dramProfileApplySpec cmd ([0, 0, 0, 0]) := by constructor <;> decide +kernel
theorem test_darnProfileApply : ringed.Ready darnProfileApplySpec cmd ([1, 0, 0, 0]) := by constructor <;> decide +kernel
theorem test_measProfileApply : ringed.Ready measProfileApplySpec cmd ([3, 0, 1, 0]) := by constructor <;> decide +kernel
theorem test_profile_applies : ((ringed.received cmd).applyEntries ([whole Reg.poolRes 0, whole Reg.poolCap 0x404040].map
    fun x => ⟨0xFE, x.1, x.2.1, x.2.2⟩)).isRight = true := by decide +kernel
theorem test_profile_fails : ((ringed.received cmd).applyEntries ([whole Reg.poolRes 0x404040, whole Reg.poolCap 0x505050].map
    fun x => ⟨0xFE, x.1, x.2.1, x.2.2⟩)).isLeft = true := by decide +kernel

/-! RadioStateChanges -/

/-- Radio 0 in a state, with a state requested. -/
def radioIn (st req : Nat) : State := (ringed.setReg (Reg.trxState 0) (word (st + 16 * req))).setReg (Reg.trxStateCtl 0) (word req)
theorem test_radio_states : (radioIn 0 5).radioOut 0 = false ∧ (radioIn 0 5).trimmed 0 = false ∧ (radioIn 0 5).on (Island.trx 0) = true
    ∧ (radioIn 0 5).trx 0 = 0 ∧ (radioIn 0 5).trxReq 0 = 5 ∧ (radioIn 2 6).trx 0 = 2 ∧ ((radioIn 2 6).radio 0).retuneFor = none := by decide +kernel
/-- Radio 0 in SYNTH, both synthesisers locking. -/
def locking : State := ((radioIn 3 5).startLock 0 0 868000000).startLock 0 1 869000000
theorem test_locks : (locking.synth 0 0).target = some 868000000 ∧ locking.synthRetired 0 0 = false ∧ locking.onAir 0 = 0
    ∧ (locking.synth 0 1).target = some 869000000 ∧ locking.synthRetired 0 1 = false
    ∧ ((locking.reachElapsed 320000).scoreError 1 0).1 = false := by decide +kernel
theorem test_lock_steps : tunable 868000000 = true ∧ tunable 880800000 = true ∧ tunable 880800001 = true ∧ tunable 2450000000 = true
    ∧ lockNs false (some 868000000) 880800000 = 60000 ∧ lockNs false (some 868000000) 880800001 = 110000
    ∧ lockNs false (some 868000000) 2450000000 = 160000 := by decide +kernel
/-- Radio 0 receiving, calibrated, with a calibration pending since the start. -/
def calibrated : State := ((radioIn 6 6).setReg (Reg.trxCalStat 0) 5).modRadio 0 fun r => { r with calRaised := some 0 }
theorem test_cal : calibrated.flag (Reg.trxCalStat 0) 2 = true ∧ calibrated.calReady 0 = true
    ∧ calibrated.stitchWithin 0 calibrated.netNs (1500000 + (calibrated.netNs : Int)) = false
    ∧ (calibrated.reachElapsed 10000000000).calReady 0 = true ∧ (radioIn 4 6).trx 0 = 4
    ∧ (calibrated.setFld (Reg.trxCalCtl 0) 23 8 60).fld (Reg.trxCalCtl 0) 23 8 ≠ 0 := by decide +kernel

/-! TransmissionGrants -/

/-- A certificate body of one band about 868 MHz, without a duty limit, every cell permitted. -/
def openBody : Bytes := List.replicate 10 0 ++ le 2 1 ++ List.replicate 52 0 ++ le 4 867000 ++ le 2 10 ++ le 2 64 ++ le 4 3600000000
  ++ List.replicate 20 0 ++ List.replicate 128 0xFF
/-- A device under that certificate. -/
def licensed (s : State) : State := let s := s.setReg Reg.rglCertStat 0x10001
  { s with rgl := { s.rgl with certificate := openBody } }
/-- Radio 0 with a transmission, the coexistence interface enabled. -/
def sending (t : Transmission) : State := ((licensed (radioIn 7 6)).setReg (Reg.trxCoexCtl 0) 0x01F42871).modRadio 0 fun r => { r with tx := some t }
/-- A transmission of 4,800 µs whose first symbol goes out at 100 µs. -/
def shotAt (phase : TxPhase) (cls : Nat) : Transmission := { frame := 4, phase := phase, decided := 0, first := 100000, airNs := 4800000, latest := none, cls := cls, band := 0, grantBy := 2000000, ready := true, body := [] }
theorem test_tx : ((sending (shotAt .turnaround 3)).radio 0).tx = some (shotAt .turnaround 3)
    ∧ field ((sending (shotAt .turnaround 3)).reg (Reg.trxCoexCtl 0)) 0 0 = 1
    ∧ (((sending (shotAt .turnaround 3)).reachElapsed 92000).setFlag (Reg.trxCoexStat 0) 1 true).dutyFits 0 4816000 = true
    ∧ (sending (shotAt .granting 3)).elapsed ≤ (shotAt .granting 3).grantBy ∧ (sending (shotAt .air 3)).flag (Reg.trxCoexCtl 0) 0 = true
    ∧ (shotAt .air 3).phase = .air ∧ 1500 * 1000 ≤ (shotAt .air 3).airNs := by decide +kernel

/-! TransmitDecision -/

/-- Radio 0 in RX_WIDE, locked on 868 MHz, with an acknowledgement to send. -/
def acking : State := let s := ((radioIn 6 6).setReg (Reg.trxSynFreq 0) 868000000).modSynth 0 0 fun y => { y with present := some 868000000 }
  { s with mac := { s.mac with acks := [(1, { radio := 0, chan := 0x80, dest := 5, seq := 1, decided := 0, rate := 0, client := none, plait := none })] } }
/-- The same under the certificate. -/
def licensedAck : State := licensed acking
theorem test_decision : (acking.shot 0 4).isSome = true ∧ acking.radioOut 0 = false ∧ acking.trx 0 = 6 ∧ acking.licensed = false
    ∧ (acking.shot 0 4).map (fun h => (acking.holdBack 0 4 h).isNone && h.latest.isNone && !h.secured) = some true
    ∧ (licensedAck.shot 0 4).map (fun h => licensedAck.bandFor 0 h == some 0 && (licensedAck.holdBack 0 4 h).isNone
        && licensedAck.dutyFits 0 (16000 + h.airNs) && !licensedAck.outsideSpan 0 h) = some true := by decide +kernel

/-! RegulatoryCommands -/

/-- Radio 0 in a state, with a certificate of some bytes staged, or being checked. -/
def certified (stage : Bytes) (checking : Option Bytes) : State := let s := radioIn 0 0
  { s with rgl := { s.rgl with stage := Memory.writeBytes [] 0 0 stage, checking := checking } }
/-- A certificate that passes step 1 of R109. -/
def goodCert : Bytes := le 4 0x4C524743 ++ le 4 1 ++ le 2 1 ++ le 2 1 ++ List.replicate 52 0
  ++ le 4 867000 ++ le 2 10 ++ le 2 56 ++ le 4 90000000 ++ List.replicate 148 0 ++ List.replicate 16608 0
theorem test_cert_write : (certified [] none).Ready rglCertWriteSpec cmd (le 4 0 ++ [1]) ∧ (certified [] none).Ready rglReadSpec cmd [3]
    ∧ (radioIn 0 0).Ready radioCalSpec cmd [1] ∧ (radioIn 6 6).Ready radioCalSpec cmd [1] := by
  refine ⟨?_, ?_, ?_, ?_⟩ <;> constructor <;> decide +kernel
theorem test_cert_apply : (certified [7] none).Ready rglCertApplySpec cmd (le 4 1) ∧ ((certified [7] none).received cmd).flashBusy = none
    ∧ certFormOk (((certified [7] none).received cmd).rgl.stage.readBytes 0 0 1) = false := by
  refine ⟨?_, by decide +kernel, by decide +kernel⟩
  constructor <;> decide +kernel
theorem test_cert_good : certFormOk goodCert = true := by
  have : goodCert.length = 16608 + (64 + 160 * num goodCert 10 2) := by
    have h : num goodCert 10 2 = 1 := by decide +kernel
    rw [h]; simp only [goodCert, le, List.length_append, List.length_replicate, List.length_cons, List.length_nil]
  simp only [certFormOk, this, decide_true, Bool.true_and]
  decide +kernel
theorem test_cert_old : (certified [] (some goodCert)).rgl.checking = some goodCert
    ∧ certVersion goodCert ≤ ((certified [] (some goodCert)).setReg Reg.rglCertVer 5 |>.reg Reg.rglCertVer).toNat
    ∧ ((certified [] (some goodCert)).reg Reg.rglCertVer).toNat < certVersion goodCert
    ∧ (certified [] (some goodCert)).certNames goodCert = true ∧ (certified [] (some goodCert)).lifecycle ≠ 4 :=
  ⟨rfl, by decide +kernel⟩
/-- Radio 0 out of service. -/
def radioDead : State := radioIn 0x800 0
theorem test_radio_out : radioDead.Ready radioCalSpec cmd [1] ∧ (radioDead.received cmd).radioOut 0 = true ∧ radioDead.rgl.bins = [] := by
  refine ⟨?_, by decide +kernel, by decide +kernel⟩
  constructor <;> decide +kernel

/-! LoadingTableCommands -/

/-- A loading table of the 2.4 MHz width with 2 bits on every data subcarrier, 3 dB of margin, and auto set or not. -/
def evenTable (peer : Nat) (auto : Bool) : Bytes := le 1 (3 + 8 + 16 * bitOf auto) ++ [11] ++ le 1 peer ++ [12] ++ le 2 384 ++ [0, 0]
  ++ List.replicate 96 0x22 ++ List.replicate 24 0
/-- Radio 2 in RX_WIDE with its Filet channel and its medium access engine on. -/
def filet : State := (((((ringed.setReg (Reg.trxState 2) 0x66).setReg (Reg.trxStateCtl 2) 6).setReg (Reg.trxSynFreq 2) 868000000).setReg (Reg.filetCfg 2) 0x000A000B).setReg
  (Reg.wmacCtl 2) 1).setTable 37 0 (evenTable 37 true)
/-- A sounding of 4 symbols with tag 37 on lane 5. -/
def sounding : State := { filet with lanes := { filet.lanes with receptions := [(5, {
  detection := { radio := 2, subband := 63, slot := 0, filet := true, strength := -300, carrier := 868000000, start := 0 }
  slots := [0], syncDue := 480000, header := some (4 + 37 * 2 ^ 24 + 2 ^ 32), profile := 0x000A000B }) ] } }
theorem test_table_write : filet.Ready loadTableWriteSpec cmd ([37, 0, 0, 0] ++ evenTable 37 true) ∧ filet.Ready loadTableWriteSpec cmd ([37, 1, 0, 0] ++ evenTable 9 false)
    ∧ filet.Ready loadTableReadSpec cmd [37, 0] ∧ (evenTable 37 true).length = 128 ∧ tableValid (filet.loadTable 37 0) = true := by
  refine ⟨?_, ?_, ?_, by decide +kernel, by decide +kernel⟩ <;> constructor <;> decide +kernel
theorem test_sound : filet.Ready filetSoundSpec cmd [2, 37, 4, 0] ∧ (filet.received cmd).macOn 2 = true ∧ (filet.received cmd).flag (Reg.filetCfg 2) 0 = true
    ∧ ringed.Ready filetSoundSpec cmd [2, 37, 4, 0] ∧ (ringed.received cmd).flag (Reg.filetCfg 2) 0 = false := by
  refine ⟨?_, by decide +kernel, by decide +kernel, ?_, by decide +kernel⟩ <;> constructor <;> decide +kernel
theorem test_sounding : (sounding.reception 5).map (fun r => r.sounding) = some true ∧ tableValid (sounding.loadTable 37 0) = true
    ∧ bit (num (sounding.loadTable 37 0) 0 1) 4 = true ∧ tableValid (ringed.loadTable 37 0) = false := by decide +kernel
/-- The ratios of Table 4-9. -/
def link : List Int := List.replicate 24 118 ++ List.replicate 24 108 ++ List.replicate 24 94 ++ List.replicate 5 58 ++ List.replicate 19 48
  ++ List.replicate 24 84 ++ List.replicate 24 100 ++ List.replicate 24 70 ++ List.replicate 24 24
theorem test_derivation : (deriveLoading 2 12 link).sum = 912 ∧ (deriveLoading 2 12 link).getD 72 0 = 2 ∧ (deriveLoading 2 12 link).getD 77 0 = 2 := by decide +kernel

/-! LaneReservationsHold -/

/-- A detection on radio 0's narrow channel, slot 0. -/
def heard : Detection := { radio := 0, subband := 63, slot := 0, filet := false, strength := -300, carrier := 868000000, start := 0 }
/-- Radio 0 in RX_NARROW with slot 0 enabled. -/
def narrow : State := ((radioIn 5 5).setReg (Reg.trxSynFreq 0) 868000000).setReg (Reg.profCfg 0 0) 0x1011
theorem test_lanes : narrow.detectable heard = true ∧ narrow.heldBy 0 < narrow.reserved 0 ∧ narrow.freeLane = some 0 ∧ narrow.heldFor (narrow.placed heard) = none
    ∧ narrow.rival (narrow.placed heard) = none ∧ ((List.range 3).map fun m => narrow.reserved m - narrow.heldBy m).sum ≤ narrow.freeLanes := by decide +kernel

/-! ReceptionsRun -/

/-- Lane 0 in a state with a reception of radio 0, its header passed or not. -/
def decoding (st : Nat) (h : Option Nat) : State := let s := narrow.setReg (Reg.laneStat 0) (word st)
  { s with lanes := { s.lanes with receptions := [(0, { detection := heard, slots := [0], syncDue := 100000, slot := some 0, narrow := true, header := h, profile := 0x1011 })] } }
theorem test_reception : ((decoding 1 none).reception 0).isSome = true ∧ (decoding 1 none).laneState 0 = 1 ∧ (decoding 2 none).laneState 0 = 2
    ∧ ringed.receiving 0 = false ∧ ((decoding 2 (some 20)).reception 0).map (fun r => r.sounding) = some false := by decide +kernel
theorem test_header : crc8 (le 3 20) ≠ 0 ∧ bits (20 + crc8 (le 3 20) * 2 ^ 24) 31 24 = crc8 (le 3 (20 + crc8 (le 3 20) * 2 ^ 24))
    ∧ bits (3 + crc8 (le 3 3) * 2 ^ 24) 31 24 = crc8 (le 3 (3 + crc8 (le 3 3) * 2 ^ 24)) := by decide +kernel
theorem test_crc8 : crc8 ([0x31, 0x32, 0x33, 0x34, 0x35, 0x36, 0x37, 0x38, 0x39] : Bytes) = 0xD0 := by decide +kernel

/-! LaneWindowsAndTests -/

/-- A prepared occurrence of client 3 on radio 0, opened or not. -/
def windowed (opened : Bool) : State := narrow.modRadio 0 fun r => { r with windows := [{
  client := 3, occurrence := 1, start := 0, x := 0, guard := 1000, stitchEnd := 9000000, opens := 1000000, closes := 2000000, laneOpens := 900000, chan := 0x80, first := none, opened := opened }] }
theorem test_window : (((windowed false).radio 0).windows.find? fun w => !w.opened).isSome = true ∧ ((windowed true).openWindow 0).isSome = true := by decide +kernel
/-- Lane 7 under test, and radio 0 starved of lanes. -/
def testing : State := { narrow with lanes := { narrow.lanes with tests := [(7, 0)] } }.modRadio 0 fun r => { r with starved := 2 }
theorem test_self_test : narrow.laneState 7 = 0 ∧ ((List.range 3).map fun n => narrow.reserved n - narrow.heldBy n).sum < narrow.freeLanes ∧ narrow.on .lane = true
    ∧ Table.find testing.lanes.tests 7 = some 0 ∧ (testing.radio 0).starved ≠ 0 := by decide +kernel
theorem test_pool_read : narrow.Ready lanePoolReadSpec cmd [] ∧ narrow.Ready searchNoiseReadSpec cmd [0, 0, 0, 0] := by
  refine ⟨?_, ?_⟩ <;> constructor <;> decide +kernel

/-! ContentionAttempts -/

/-- Frame 1 to peer 3 in a phase, on radio 0. -/
def phased (ph : Phase) (since : Option Nat) (stop : Option Nat) : State :=
  let s := (radioIn 5 5).setReg (Reg.wmacCtl 0) 1
  { s with mac := { s.mac with frames := [(1, {
    target := .peer 3, macType := 2, ackReq := true, secured := false, payload := [1, 2], node := none, buffer := none, plait := none, stopping := stop, engines := s.engineSets
    copies := [{ member := 0, chan := 0x80, phase := ph, be := 3, due := 5000, waitSince := since }], started := ph != .queued }) ] } }
theorem test_phases : ((phased .queued none none).copy 4).isSome = true ∧ (phased .backoff none none).macOn 0 = true
    ∧ ((phased .backoff none none).copy 4).map (fun e => e.2.phase) = some .backoff ∧ ((phased .listen none none).copy 4).map (fun e => e.2.phase) = some .listen
    ∧ ((phased .listen none (some 6)).copy 4).map (fun e => e.1.stopping) = some (some 6)
    ∧ ((phased .decide (some 7) none).copy 4).map (fun e => e.2.waitSince) = some (some 7) := by decide +kernel
theorem test_head : (((phased .queued none none).copy 4).map fun e => (phased .queued none none).mayStart 1 e.1) = some true
    ∧ (phased .ackWait none none).ackPending 0 0x80 5000 = false := by decide +kernel

/-! PlaitsAndPeers -/

/-- Peer 3 at address 7 on radio 0, whose engine is on, with plait 5 valid at top 100. -/
def peered : State := let s := ((((ringed.setReg (Reg.wmacCtl 0) 1).setReg (Reg.peerCfg 3) 1).setReg (Reg.peerAddr 3) (word (7 + 0x80 * 2 ^ 16))).setReg (Reg.pltRx 5) (word (2 ^ 30 + 101 * 2 ^ 12 + 100))).setReg (Reg.peerSeq 3) 0x0100_0005
  { s with mac := { s.mac with plaits := [(5, { map := 5, down := [2] })], refreshed := [(3, 0)] } }
theorem test_peer_commands : peered.Ready peerWriteSpec cmd ([3, 0, 0, 0] ++ le 4 1 ++ le 4 9) ∧ peered.Ready peerReadSpec cmd [3, 0] ∧ peered.Ready plaitReadSpec cmd [5] := by
  refine ⟨?_, ?_, ?_⟩ <;> constructor <;> decide +kernel
theorem test_radio_send : peered.Ready radioSendSpec cmd [3, 0, 0, 0, 1, 0, 0xAA] ∧ (peered.received cmd).macOn ((peered.received cmd).sendRadio [3, 0, 0, 0, 1, 0, 0xAA]) = true
    ∧ (peered.received cmd).radioOut 0 = false ∧ (peered.received cmd).trimmed 0 = false := by
  refine ⟨?_, by decide +kernel⟩; constructor <;> decide +kernel
theorem test_plait : peered.flag (Reg.pltRx 5) 30 = true ∧ peered.plaitTop 5 = 100 ∧ bit (peered.plait 5).map 2 = true ∧ bit (peered.plait 5).map 1 = false
    ∧ (peered.plait 5).held = [] ∧ (peered.plait 5).down = [2] ∧ Table.find peered.mac.refreshed 3 = some 0 := by decide +kernel
theorem test_moved : (peered.writePeer 3 1 9).reg (Reg.peerSeq 3) = 0 ∧ (peered.writePeer 3 1 (word (7 + 0x81 * 2 ^ 16))).reg (Reg.peerSeq 3) = 0x0100_0005 := by decide +kernel

/-! StitchesScored -/

/-- Client 57 of Table 7-3 at a level, its context resident and pinned, its occurrence at an end. -/
def threaded (level : Nat) (heard : Option Int) (sighted unscored : Bool) : State :=
  let s := (narrow.setReg (Reg.schedPat 0) (word (2 ^ 16 + 30000))).setContext 57 (le 2 0x101 ++ le 1 (1 + 2 + level * 8) ++ le 1 12 ++ le 2 0x80 ++ [0, 40] ++ le 3 400 ++ [2]
    ++ le 2 400 ++ le 2 150 ++ le 2 1000 ++ [0, 0] ++ le 4 120 ++ le 4 8500 ++ le 4 400 ++ List.replicate 8 0 ++ le 4 254880 ++ List.replicate 8 0 ++ le 4 254760 ++ List.replicate 6 0 ++ [9, 0])
  { s with sched := { s.sched with resident := [57], pinned := [57] } }.modRadio 0 fun r => { r with skipped := 2, windows := [{
    client := 57, occurrence := 1, start := 100000000, x := 255120, guard := 405400, stitchEnd := 110255120, opens := 101329720, closes := 102140520, laneOpens := 100849720
    chan := 0x80, first := none, opened := true, closed := true, heard := heard, sighted := sighted, unscored := unscored }] }
theorem test_stitch_end : ∀ level ∈ [0, 1, 2, 3], ((threaded level none false false).radio 0).windows.length = 1 ∧ (threaded level none false false).clientValid 57 = true
    ∧ (threaded level none false false).clientState 57 = 1 ∧ (threaded level none false false).clientRadio 57 = 0 ∧ (threaded level none false false).clientLevel 57 = level
    ∧ (threaded level none false false).clientSamples 57 = 9 ∧ (((threaded level (some 5) true true).radio 0).windows.map fun w => (threaded level none false false).stitchBusy 0 w) = [false] := by decide +kernel
/-- The prediction and the guard of Table 7-3 at dt = 30 s, and the guard at 60 s. -/
theorem test_prediction : (threaded 0 none false false).offsetAt 57 30000000000 = 255120 ∧ (threaded 0 none false false).guardAt 57 30000000000 = 405400 := by decide +kernel

/-! ClientsServed -/

/-- Client 57 with no occurrence prepared. -/
def idleClient : State := (threaded 0 none false false).modRadio 0 fun r => { r with windows := [] }
theorem test_fetch : idleClient.served 57 = true ∧ (idleClient.netNs : Int) ≤ idleClient.nominalStart 57 1 ∧ idleClient.sched.pinned.contains 57 = true
    ∧ idleClient.sched.resident.contains 57 = true ∧ (idleClient.radio 0).skipped = 2 ∧ (idleClient.makeResident 57).1 = true ∧ idleClient.clientRadio 57 = 0 := by decide +kernel
/-- The same with nothing resident. -/
def absent : State := { idleClient with sched := { idleClient.sched with resident := [], pinned := [] } }
theorem test_absent : absent.served 57 = true ∧ absent.sched.pinned.contains 57 = false ∧ (absent.makeResident 57).1 = true ∧ absent.sched.resident.contains 57 = false := by decide +kernel
/-- A client's configuration: address, channel 0x80 (radio 0 narrow), 10 ms stitch at an offset. -/
def config (addr start : Nat) : Bytes := le 2 addr ++ [1, 12] ++ le 2 0x80 ++ [0, 40] ++ le 3 start ++ [2] ++ le 2 400 ++ le 2 150 ++ le 2 1000 ++ [0, 0]
theorem test_client_commands : idleClient.Ready clientWriteSpec cmd ([58, 0, 0, 0] ++ config 0x102 600) ∧ idleClient.Ready clientReadSpec cmd [57, 0]
    ∧ idleClient.Ready clientSendSpec cmd [57, 0, 1, 2, 0xAA] ∧ (idleClient.received cmd).clientFull 57 = false := by
  refine ⟨?_, ?_, ?_, by decide +kernel⟩ <;> constructor <;> decide +kernel
theorem test_holders : idleClient.clientHolder 58 (config 0x102 600) = none ∧ idleClient.clientHolder 58 (config 0x101 600) = some [0, 57, 0]
    ∧ idleClient.clientHolder 58 (config 0x102 443) = some [0, 57, 0] ∧ idleClient.clientHolder 58 (config 0x102 444) = none := by decide +kernel
theorem test_fresh : (config 0x102 600).length = 20 ∧ bit (num (config 0x102 600) 2 1) 0 = true ∧ idleClient.clientValid 58 = false ∧ idleClient.clientAddress 57 = 0x101
    ∧ (idleClient.context 57).length = 64 := by decide +kernel

/-! EthernetReceiveChecks -/

/-- Port 1 enabled at 2,500 Mbit/s, its link up. -/
def linked : State := (ringed.setReg (Reg.emacCtl 1) 0x000A000B).setReg (Reg.emacStat 1) 0xB
/-- A frame with its FCS. -/
def withFcs (b : Bytes) : Bytes := b ++ le 4 (crc32 b)
/-- A PAUSE of 16 quanta, a frame of IPv4 type, and a short one. -/
def pause16 : Bytes := withFcs (padTo 60 ([1, 0x80, 0xC2, 0, 0, 1] ++ [2, 0, 0, 0, 0, 9] ++ [0x88, 8, 0, 1, 0, 16]))
def plain : Bytes := withFcs (padTo 60 ([2, 0, 0, 0, 0, 7] ++ [2, 0, 0, 0, 0, 9] ++ [8, 0, 0x45]))
theorem test_eth_rx : (linked.on .pkt && linked.ethOn 1 && linked.linkOn 1) = true ∧ (linked.on .pkt && linked.ethOn 0 && linked.linkOn 0) = false
    ∧ linked.rxFails 1 pause16 false = none ∧ linked.rxFails 1 plain false = none ∧ linked.fld (Reg.emacMaxlen 1) 13 0 = 9600
    ∧ fcsOk plain = true ∧ fcsOk (plain.take 63) = false ∧ fcsOk (0 :: plain.drop 1) = false := by decide +kernel
/-- The CRC-32 of IEEE 802.3 over its check string. -/
theorem test_crc32 : crc32 [0x31, 0x32, 0x33, 0x34, 0x35, 0x36, 0x37, 0x38, 0x39] = 0xCBF43926 := by decide +kernel
theorem test_checks : linked.rxFails 1 (withFcs (padTo 56 [2])) false = some 18 ∧ linked.rxFails 1 (withFcs (padTo 60 ([2, 0, 0, 0, 0, 7] ++ [3, 0, 0, 0, 0, 9] ++ [8, 0]))) false = some 24 := by decide +kernel

/-! EthernetLinks -/

/-- Port 1 with a changed record. -/
def portAt (stat ctl : Nat) (f : EthPort → EthPort) : State := ((linked.setReg (Reg.emacStat 1) (word stat)).setReg (Reg.emacCtl 1) (word ctl)).modPort 1 f
theorem test_ports : linked.awake = true ∧ linked.eth.length = 4 ∧ (portAt 0x2B 0xB fun e => e).flag (Reg.emacStat 1) 5 = true
    ∧ ((portAt 0xB 0xB fun e => { e with pausing := true }).setReg (Reg.tmIngStat 1) 0x3FFF).fld (Reg.tmIng 1) 14 0 < 2 * ((portAt 0xB 0xB fun e => { e with pausing := true }).setReg (Reg.tmIngStat 1) 0x3FFF).fld (Reg.tmIngStat 1) 14 0
    ∧ (portAt 0xA 0x3 fun e => { e with syncSince := some 7 }).linkOn 1 = false ∧ (portAt 0xA 0x3 fun e => { e with syncSince := some 7 }).flag (Reg.emacCtl 1) 2 = false
    ∧ (portAt 0xB 0x23 fun e => { e with quietWindows := 59 }).flag (Reg.emacCtl 1) 5 = true ∧ ((portAt 0xB 0x23 fun e => { e with quietWindows := 59 }).port 1).quietWindows = 59
    ∧ (portAt 0x4B 0x23 fun e => { e with lossSince := some 5 }).flag (Reg.emacStat 1) 7 = false ∧ ((portAt 0xA 0xB fun e => { e with idle := 1 }).port 1).idle = 1
    ∧ ((portAt 0x8A 0x23 fun e => { e with idle := 2, change := some 0 }).port 1).idle = 2 ∧ ((portAt 0x8A 0x23 fun e => { e with change := some 2 }).port 1).change = some 2
    ∧ ((portAt 0xB 0x3 fun e => { e with line := some { buffer := 0, bytes := plain, length := 64, port := 1 } }).port 1).line.isSome = true := by decide +kernel
theorem test_stats_read : linked.Ready emacStatsReadSpec cmd [1, 0, 0, 0] := by constructor <;> decide +kernel
/-- The thresholds of the example of chapter 8 are the reset values. -/
theorem test_rate_reset : field (ringed.reg (Reg.emacRate 1)) 7 0 = 20 ∧ field (ringed.reg (Reg.emacRate 1)) 15 8 = 80 ∧ field (ringed.reg (Reg.emacRate 1)) 27 16 = 60 := by decide +kernel

/-! ForwardingTables -/

/-- A dynamic MAC entry, and the same static. -/
def macEntry (flags last : Nat) : Bytes := [2, 0, 0, 0, 0, 9] ++ le 2 100 ++ [BitVec.ofNat 8 flags, 0] ++ le 2 1 ++ le 4 last
theorem test_mac_write : ringed.Ready fwdMacWriteSpec cmd (macEntry 1 0) ∧ (ringed.received cmd).macWay [2, 0, 0, 0, 0, 9] 100 = some 0 ∧ bit (num (macEntry 1 0) 8 1) 0 = true
    ∧ ringed.Ready fwdMacReadSpec cmd ([2, 0, 0, 0, 0, 9] ++ le 2 100) ∧ ringed.Ready fwdMacFlushSpec cmd [1, 0, 0, 0] := by
  refine ⟨?_, by decide +kernel, by decide +kernel, ?_, ?_⟩ <;> constructor <;> decide +kernel
/-- A bucket whose four ways hold other keys, static or dynamic. -/
def fullBucket (flags : Nat) : State := let b := 4 * macBucket [2, 0, 0, 0, 0, 9] 100
  { ringed with fwd := { ringed.fwd with mac := (List.range 4).map fun w => (b + w, patch (macEntry flags (7 - w)) 0 [4]) } }
theorem test_mac_ways : (fullBucket 3).macWay [2, 0, 0, 0, 0, 9] 100 = none ∧ (fullBucket 1).macWay [2, 0, 0, 0, 0, 9] 100 = some 3
    ∧ (fullBucket 1).macFree (macBucket [2, 0, 0, 0, 0, 9] 100) = none ∧ (fullBucket 1).macFind [2, 0, 0, 0, 0, 9] 100 = none := by decide +kernel
/-- The /128 prefix of the example of chapter 9, and next hop 57. -/
def prefix128 : Bytes := [3, 128] ++ le 2 57 ++ [0x20, 1] ++ List.replicate 13 0 ++ [7]
theorem test_table_writes : ringed.Ready fwdVlanWriteSpec cmd (le 2 100 ++ [7, 0, 0x1F, 0, 2] ++ List.replicate 9 0) ∧ ringed.Ready fwdVlanReadSpec cmd [1, 0]
    ∧ ringed.Ready fwdRouteWriteSpec cmd ([5, 0, 0, 0] ++ prefix128) ∧ ringed.Ready fwdNhWriteSpec cmd ([57, 0, 0, 0, 0, 0] ++ le 2 0x1039 ++ le 2 200 ++ [2, 0, 0, 0, 0, 7] ++ [0, 0, 0, 0])
    ∧ ringed.Ready fwdAclWriteSpec cmd ([1, 0, 0, 0] ++ patch (patch (patch (patch (List.replicate 96 0) 0 [1]) 34 [255, 255]) 38 [255, 255]) 76 [255, 255])
    ∧ ringed.Ready fwdTableReadSpec cmd [1, 0, 57, 0] ∧ ringed.Ready fwdFrameSendSpec cmd ([0, 0, 0, 0, 0, 0, 0, 0] ++ plain.take 60)
    ∧ ((ringed.received cmd).enter 0x80 0 (plain.take 60) []).1 = true := by
  refine ⟨?_, ?_, ?_, ?_, ?_, ?_, ?_, by decide +kernel⟩ <;> constructor <;> decide +kernel
theorem test_route_twin : ({ ringed with fwd := { ringed.fwd with routes := [(3, prefix128)] } } : State).routeTwin 5 prefix128 = some 3 ∧ (ringed.received cmd).routeTwin 5 prefix128 = none
    ∧ ringed.Ready fwdFrameSendSpec cmd ([1, 0, 0, 0, 0, 0, 0, 0] ++ plain.take 60) ∧ ((ringed.received cmd).sendDirect (plain.take 60) 0 none).isSome = true := by
  refine ⟨by decide +kernel, by decide +kernel, ?_, by decide +kernel⟩; constructor <;> decide +kernel

/-! FramesForwarded -/

/-- A frame that waits for its lookup on ETH1. -/
def arrived : State := { ringed with fwd := { ringed.fwd with inbox := [{ port := 1, bytes := plain.take 60, report := [], buffer := 0, length := 64 }] } }
theorem test_lookup : arrived.fwd.inbox.length = 1 ∧ arrived.awake = true
    ∧ ((arrived.setReg (Reg.fwdPortCfg 1) 0x1001).fwdCount 0).ingressVlan { port := 1, bytes := plain.take 60, report := [], buffer := 0, length := 64 } (frameOf (plain.take 60)) = none
    ∧ (arrived.fwdCount 0).ingressVlan { port := 1, bytes := plain.take 60, report := [], buffer := 0, length := 64 } (frameOf (plain.take 60)) = some 1 := by decide +kernel
/-- An entry for the frame's destination, on a port. -/
def known (flags port : Nat) : State := let e := [2, 0, 0, 0, 0, 7] ++ le 2 1 ++ [BitVec.ofNat 8 flags, 0] ++ le 2 port ++ le 4 0
  { linked with fwd := { linked.fwd with mac := [(4 * macBucket [2, 0, 0, 0, 0, 7] 1, e)] } }
theorem test_bridge : ((known 1 1).macFind (frameOf plain).dst 1).isSome = true ∧ ((known 5 1).bridge (frameOf plain) 1 0 false).1 = none
    ∧ ((known 1 1).bridge (frameOf plain) 1 0 false).1 = some [1] ∧ (known 1 1).portReachable 0 = false ∧ (known 1 1).portReachable 1 = true
    ∧ (ringed.flood (frameOf plain) 1 1 false).1 = [0, 2, 3, 0x80] ∧ ringed.fld Reg.fwdAge 19 0 = 300 := by decide +kernel

/-! ShapersHold -/

/-- Subscriber 40 of Table 10-3 on ETH1: 32 units, its tokens spent or at 0, one report queued. -/
def shaped (level : Int) : State := let s := (((linked.setReg (Reg.tmSubCfg 40) 0x1001).setReg (Reg.tmSubShape 40) 0x0010_0020).setReg (Reg.tmPortOvh 1) 0x0100_0014)
  ({ s with tm := { s.tm with tokens := [(subKey 40, ⟨level, 0⟩)] } }).setQueue (16 + 8 * 40) [{ buffer := 0, bytes := [], length := 110, port := 1 }]
theorem test_shaper : (shaped 0).rate (subKey 40) = 2048 ∧ (shaped 0).rate 1 = 0 ∧ (shaped 0).queue 1 = [] ∧ ((shaped 0).serveNode 1).isSome = true
    ∧ ((shaped (-1)).serveNode 1).isNone = true := by decide +kernel
/-- Table 10-3: a report costs 1,040,000 millibits, and after 508 µs the tokens are 384. -/
theorem test_report : ((shaped 0).charge (subKey 40) 130).tokensNow (subKey 40) = -1040000
    ∧ (((shaped 0).charge (subKey 40) 130).passNs 508000).tokensNow (subKey 40) = 384 := by decide +kernel
theorem test_privileged : let q := (shaped (-1)).setQueue 1 [{ buffer := 0, bytes := [], length := 64, port := 1 }]
    (q.queue 1).length = 1 ∧ (q.serveNode 1).isSome = true
    ∧ ((((shaped 0).setReg (Reg.tmPortShape 1) 0x0001_0001).setTokens 1 (-1)).eligible 1) = false := by decide +kernel

/-! TrafficServed -/

theorem test_serve : (linked.startPause 1).nodeReady 1 = true ∧ (linked.startPause 0).nodeReady 0 = false ∧ linked.on .pkt = true ∧ linked.awake = true
    ∧ ((((shaped 0).startPause 1).ageQueues 1).serveNode 1).isSome = true ∧ (((linked.startPause 1).ageQueues 1).serveNode 1).isNone = true := by decide +kernel
theorem test_admission : linked.subPort (linked.mapOf 1) = linked.portNode 1 ∧ linked.queueCells 24 + linked.copyCells { buffer := 0, bytes := [], length := 64, port := 1 } ≤ 0x400
    ∧ linked.unusedReserve ≤ linked.freeCells ∧ linked.fld (Reg.tmDropGy 0) 14 0 = 0x400
    ∧ (linked.setReg (Reg.tmDropGy 0) 0).fld (Reg.tmDropGy 0) 14 0 < linked.queueCells 24 + 1 := by decide +kernel
theorem test_tm_commands : ringed.Ready tmMapWriteSpec cmd [1, 0, 1, 0] ∧ ringed.Ready tmMapReadSpec cmd [1, 0] ∧ ringed.Ready tmNodeReadSpec cmd [2, 0, 1, 0]
    ∧ ringed.Ready tmMeterReadSpec cmd [7, 0] ∧ ringed.Ready tmStatsReadSpec cmd [1, 0, 0, 0] := by
  refine ⟨?_, ?_, ?_, ?_, ?_⟩ <;> constructor <;> decide +kernel

/-! TimeFollowsItsSource -/

/-- A device in a time state with a source, 5 s into network time. -/
def timed (st source settled : Nat) : State := let s := (linked.setReg Reg.timeState (word (0xF0 + st))).setReg Reg.timeCtl (word (0x6400 + source))
  { s with time := { s.time with now := 5000000000 * 65536, settled := settled } }
theorem test_measure : (timed 0 3 0).timeFits 3200000 = true ∧ (timed 0 3 0).timeFits (-5000000001) = false ∧ (timed 1 3 7).timeState = 1 ∧ (timed 4 3 0).timeState = 4
    ∧ ((timed 3 3 0).measure 1000000).2.2.timeState = 1
    ∧ ((timed 3 3 0).measure 1000001).2.2.timeState = 4 ∧ ((timed 0 3 0).measure 3200000).2.2.netNs = 5003200000 := by decide +kernel
theorem test_adjust : (timed 2 3 0).Ready timeAdjustSpec cmd (le 8 500) ∧ ((timed 2 3 0).received cmd).timeSource = 3 ∧ ((timed 2 1 0).received cmd).timeSource ≠ 3
    ∧ (timed 2 1 0).Ready timeAdjustSpec cmd (le 8 500) := by
  refine ⟨?_, by decide +kernel, by decide +kernel, ?_⟩ <;> constructor <;> decide +kernel
theorem test_force : (timed 4 1 0).Ready timeForceSetSpec cmd ([1, 0, 0, 0] ++ le 6 0 ++ le 4 0) ∧ ((timed 4 1 0).received cmd).timeFits ((timed 4 1 0).received cmd).refused = true
    ∧ (timed 2 1 0).Ready timeForceSetSpec cmd ([1, 0, 0, 0] ++ le 6 0 ++ le 4 0) ∧ (timed 2 1 0).Ready timeForceSetSpec cmd ([0, 0, 0, 0] ++ le 6 (2 ^ 48 - 1) ++ le 4 0)
    ∧ ((timed 2 1 0).received cmd).timeFits (((2 ^ 48 * 1000000000 : Nat) : Int)) = false := by
  refine ⟨?_, by decide +kernel, ?_, ?_, by decide +kernel⟩ <;> constructor <;> decide +kernel
/-- ETH1 with IEEE 1588 and its master. -/
def slave : State := ((timed 2 1 0).setReg (Reg.timePtpCfg 1) 0x0030_1D07).setReg Reg.timeState 0x12
theorem test_source : slave.timeSource = 1 ∧ slave.on .pkt = true ∧ slave.awake = true ∧ slave.ptpOn 1 = true ∧ slave.flag (Reg.timePtpCfg 1) 2 = true ∧ slave.flag (Reg.emacStat 1) 0 = true := by decide +kernel

/-! TimeServed -/

/-- ETH1 as a master, and a device that meters. -/
def master : State := (slave.setReg Reg.timeState 0xF2).setReg Reg.measCtl 1
theorem test_time_events : master.flag (Reg.timePtpCfg 1) 1 = true ∧ master.slavePort ≠ 1 ∧ (master.setReg Reg.timeRadioCfg 0x000A0064).fld Reg.timeRadioCfg 31 16 ≠ 0
    ∧ slave.slavePort = 1 ∧ master.flag Reg.measCtl 0 = true ∧ master.on .meas = true := by decide +kernel
/-- Generator 2 running on OUT3, its pulse active or not. -/
def pulsing (active : Bool) : State := master.modPulse 2 fun g => { g with
  running := true, start := 6000000000, width := 1000, period := 5000, count := 1, output := 3, active := active, emitted := bitOf active, last := if active then some 6000000000 else none }
theorem test_pulse : ((pulsing true).pulse 2).active = true ∧ ((pulsing false).pulse 2).running = true ∧ ((pulsing false).pulse 2).last = none
    ∧ ((master.modPort 1 fun e => { e with stampDrops := 2 }).port 1).stampDrops ≠ 0 := by decide +kernel
theorem test_time_reads : master.Ready timeStatusSpec cmd [] ∧ master.Ready timeReadSpec cmd [] ∧ master.Ready timeStampReadSpec cmd [1, 16] ∧ master.Ready timeFrameSendSpec cmd ([1, 0, 7, 0] ++ plain.take 60)
    ∧ master.Ready timeFrameSendSpec cmd ([0, 0, 7, 0] ++ plain.take 60) ∧ (master.received cmd).on .pkt = true ∧ (master.received cmd).ptpOn 1 = true ∧ (master.received cmd).ptpOn 0 = false
    ∧ ((master.received cmd).sendDirect (plain.take 60) 0 (some 7)).isSome = true := by
  refine ⟨?_, ?_, ?_, ?_, ?_, by decide +kernel⟩ <;> constructor <;> decide +kernel
theorem test_client_step : idleClient.Ready timeClientStepSpec cmd ([57, 0, 0, 0] ++ le 4 254760) ∧ (((idleClient.received cmd).clientQueue 57).any fun f => f.step.isSome) = false := by
  refine ⟨?_, by decide +kernel⟩; constructor <;> decide +kernel
/-- Table 11-6: the grid instant next after the step, for a start at N0 = 0. -/
theorem test_restart : gridAfter 0 125000 (0 + 3200140 + 62500) = 3375000 := by decide +kernel

/-! CalendarCounts -/

/-- A calendar at a date and time, and halted or not. -/
def dated (y m d h mi sec : Nat) (halt : Bool) : State := ((master.setDate y m d).setTime h mi sec).setFlag Reg.rtcCtl 0 halt
theorem test_calendar : (dated 2399 12 31 23 59 59 false).date = (2399, 12, 31) ∧ (dated 2399 12 31 23 59 59 false).timeOfDay = (23, 59, 59)
    ∧ (dated 2399 12 31 23 59 59 false).rtcHalted = false ∧ (dated 2399 12 31 23 59 59 true).rtcHalted = true ∧ (dated 2100 2 28 23 59 59 false).rtc.stopped = false
    ∧ dateOk 2399 12 31 = true ∧ dateOk 2100 2 29 = false ∧ dateOk 2000 2 29 = true ∧ timeOk 23 59 59 = true := by decide +kernel
/-- Table 12-2: the second after 2100-02-28 23:59:59 is 2100-03-01, a Monday. -/
theorem test_march : ((dated 2100 2 28 23 59 59 false).nextSecond).date = (2100, 3, 1) ∧ weekday 2100 3 1 = 1 ∧ weekday 2100 2 28 = 0 := by decide +kernel

/-! RtcServed -/

theorem test_rtc_events : (dated 2100 2 28 23 59 59 false).flag Reg.rtcStat 1 = false ∧ (dated 2100 2 28 23 59 59 false).flag Reg.rtcEvt 0 = false
    ∧ ((dated 2100 2 28 23 59 59 false).setReg Reg.rtcEvt 1).flag Reg.rtcEvt 0 = true ∧ ((dated 2100 2 28 23 59 59 false).setFlag Reg.rtcCtl 1 true).flag Reg.rtcCtl 1 = true
    ∧ Table.find ({ master with rtc := { master.rtc with snaps := [(3, 70)] } } : State).rtc.snaps 3 = some 70 := by decide +kernel
/-- The stamp of Table 12-2: 23:59:59 and prescaler top 64, at 2100-02-28. -/
theorem test_stamp : ((dated 2100 2 28 23 59 59 false).setReg Reg.rtcSsec 8192).ssec / 128 = 64 ∧ 59 + 59 * 2 ^ 8 + 23 * 2 ^ 16 + 64 * 2 ^ 24 = 0x40173B3B := by decide +kernel
theorem test_backup : (master.setReg Reg.pwrState 4).powerState = 4 ∧ (master.setReg Reg.pwrState 4).flag Reg.clkSrcStat 1 = true := by decide +kernel
theorem test_rtc_set : master.Ready rtcSetSpec cmd ([0, 0] ++ le 2 2100 ++ [2, 28, 23, 59, 59] ++ List.replicate 13 0) ∧ master.Ready rtcSetSpec cmd ([0, 0] ++ le 2 2100 ++ [2, 29, 23, 59, 59] ++ List.replicate 13 0)
    ∧ (master.received cmd).rtcHolder = none ∧ master.Ready rtcReadSpec cmd [] := by
  refine ⟨?_, ?_, by decide +kernel, ?_⟩ <;> constructor <;> decide +kernel

/-! OutputsCommanded -/

/-- An output with a holder, and with the writes of a cycle waiting. -/
def holding (code : Nat) (overridden : Bool) : State := let s := ((master.setFld (Reg.outVal 3) 18 17 code).setFld (Reg.outVal 9) 18 17 1).setFlag (Reg.outStat 3) 2 overridden
  { s with ctl := { s.ctl with writes := some ([(3, 5000), (9, 1)], 6000000000) } }
theorem test_outputs : (holding 0 false).Ready outSetSpec cmd [3, 0, 0x88, 0x13] ∧ (holding 1 false).Ready outOverrideSpec cmd [3, 1, 0x88, 0x13] ∧ (holding 1 true).Ready outOverrideSpec cmd [3, 0, 0, 0]
    ∧ (holding 2 false).Ready outOverrideSpec cmd [3, 1, 0x10, 0x27] ∧ ((holding 0 false).received cmd).on .meas = true := by
  refine ⟨?_, ?_, ?_, ?_, by decide +kernel⟩ <;> constructor <;> decide +kernel
theorem test_out_holders : ((holding 0 false).received cmd).holderCode 3 = 0 ∧ ((holding 1 false).received cmd).holderCode 3 = 1 ∧ ((holding 2 false).received cmd).holderCode 3 = 2
    ∧ ((holding 1 true).received cmd).flag (Reg.outStat 3) 2 = true ∧ ((holding 1 false).received cmd).flag (Reg.outStat 3) 2 = false ∧ ({ cmd with session := 1 } : Cmd).session ≠ 0 := by decide +kernel
theorem test_cycle_writes : (holding 1 true).ctl.writes = some ([(3, 5000), (9, 1)], 6000000000) ∧ (([(3, 5000), (9, 1)] : Table Nat).map (·.1)).Nodup
    ∧ (∀ e ∈ ([(3, 5000), (9, 1)] : Table Nat), e.1 < 16) ∧ ((holding 1 true).setFlag (Reg.outStat 9) 2 false).holderCode 9 = 1 := by decide +kernel
theorem test_out_set_drives : ((holding 0 false).drive 3 5000).reg (Reg.outVal 3) = 0x11388 := by decide +kernel

/-! MeteringServed -/

/-- Pair 0 metered at 10 ms, with a sample of the window that begins at 5 s and one of the next. -/
def metering : State := let s := ((master.setFld (Reg.measInCfg 0) 1 0 1).setFld (Reg.measInCfg 1) 1 0 2)
  { s with meas := { s.meas with interval := 1, samples := [⟨5000000000, List.replicate 18 (some 4), 0⟩, ⟨5010000000, List.replicate 18 (some 6), 0⟩] } }
theorem test_metering : metering.meas.samples = ⟨5000000000, List.replicate 18 (some 4), 0⟩ :: [⟨5010000000, List.replicate 18 (some 6), 0⟩] ∧ metering.meas.nextInterval = none
    ∧ metering.metered 0 = true ∧ metering.metered 8 = false ∧ master.meas.samples = [] ∧ metering.Ready measReadSpec cmd [0] ∧ metering.Ready measReadSpec cmd [8] ∧ (metering.received cmd).on .meas = true := by
  refine ⟨by decide +kernel, by decide +kernel, by decide +kernel, by decide +kernel, by decide +kernel, ?_, ?_, by decide +kernel⟩ <;> constructor <;> decide +kernel
/-- Output 8 driven low and reading back differently for 9 ms of its 10. -/
def differing : State := ((metering.setReg (Reg.outVal 8) 0x10000).setFld (Reg.outCfg 8) 25 16 10).modOutput 8 fun o => { o with differ := 9 }
theorem test_readback : 8 < differing.meas.outs.length ∧ differing.on .meas = true ∧ differing.flag (Reg.outVal 8) 16 = true ∧ differing.flag (Reg.outStat 8) 1 = false
    ∧ (true ≠ (differing.flag (Reg.outVal 8) 0 != differing.flag (Reg.outCfg 8) 26)) ∧ differing.fld (Reg.outCfg 8) 25 16 = 10 ∧ (differing.output 8).differ = 9 := by decide +kernel
/-- A capture of input 0 that has taken its one sample, and outputs held after a reset. -/
def capturing (running : Bool) : State := { metering with meas := { metering.meas with holdDue := some 100, wave := { inputs := 1, length := 1, start := 0, running := running, taken := [[7]] } } }
theorem test_wave : (capturing true).meas.wave.running = true ∧ (capturing true).meas.wave.length ≤ (capturing true).meas.wave.taken.length ∧ (capturing true).meas.holdDue = some 100 ∧ (capturing true).meas.outs.length = 16
    ∧ ((capturing false).received cmd).holder (fun (o : Outstanding) => o.work.isWave) = none ∧ ((capturing false).received cmd).on .mem = true
    ∧ (capturing false).Ready measWaveReadSpec cmd ([0, 0] ++ le 4 0 ++ le 2 1) ∧ (capturing false).Ready measWaveCaptureSpec cmd ([1, 0, 0, 0] ++ le 4 8 ++ le 6 6 ++ le 4 0) := by
  refine ⟨by decide +kernel, by decide +kernel, by decide +kernel, by decide +kernel, by decide +kernel, by decide +kernel, ?_, ?_⟩ <;> constructor <;> decide +kernel
/-- One capture runs. -/
def captured : State := (metering.received cmd).start measWaveCaptureSpec cmd .waveCapture
theorem test_second_capture : captured.Ready measWaveCaptureSpec { cmd with tag := 2 } ([1, 0, 0, 0] ++ le 4 8 ++ le 6 6 ++ le 4 0)
    ∧ ((captured.received { cmd with tag := 2 }).holder fun (o : Outstanding) => o.work.isWave).isSome = true := by refine ⟨?_, by decide +kernel⟩; constructor <;> decide +kernel

/-! ControlServed -/

/-- A rule, its operands and action in place: constant against VAR 0, an event when it holds for one cycle. -/
def ruleBytes (flags action target : Byte) : Bytes := [flags, 1] ++ le 2 0 ++ le 2 0x6000 ++ [1, 1] ++ le 4 0 ++ [action, target] ++ le 2 0 ++ le 2 0 ++ le 2 0 ++ le 4 0
theorem test_rule : ruleOk (ruleBytes 1 5 0) = true ∧ ruleOk (ruleBytes 0x41 5 0) = false ∧ ruleOk (ruleBytes 1 2 32) = false ∧ ruleValid (ruleBytes 1 5 0) = true ∧ num (ruleBytes 1 5 0) 12 1 ≠ 4
    ∧ (master.operand (ruleBytes 1 5 0) [] [] 0).2 = false ∧ (master.operand (ruleBytes 1 5 0) [] [] 0x6000).2 = false ∧ bit (num (ruleBytes 1 5 0) 0 1) 1 = false := by decide +kernel
/-- A device whose control program runs or not, with a commit due. -/
def controlling (run : Bool) (due : Option Nat) : State := let s := master.setFlag Reg.ctlpCtl 0 run
  { s with ctl := { s.ctl with running := [(0, ruleBytes 1 5 0)], staging := [(4, ruleBytes 1 2 3)], commit := due, reports := [(7, ⟨List.replicate 16 1, 5000000000⟩)] }
           meas := { s.meas with serials := s.meas.serials.set 1 { rx := [65, 66] } } }
theorem test_cycle : 0 < (controlling true none).fld Reg.timeCycCfg 9 0 ∧ (controlling true (some 0)).on .ctrl = true ∧ (controlling true (some 0)).on .meas = true ∧ (controlling true none).awake = true ∧ (controlling true none).boot.halted = false
    ∧ (controlling true none).ctl.writes = none ∧ (controlling true (some 0)).programBusy = none ∧ (controlling false (some 9)).ctl.commit = some 9 ∧ (controlling false none).flag Reg.ctlpCtl 0 = false
    ∧ (controlling true none).flag Reg.ctlpCtl 0 = true ∧ (controlling true none).meas.caps.length = 8 ∧ (controlling true none).ctl.commit = none := by decide +kernel
theorem test_program : (controlling true none).Ready ctlpProgramWriteSpec cmd ([255, 1, 0, 0] ++ ruleBytes 1 5 0) ∧ (controlling true none).Ready ctlpProgramWriteSpec cmd ([0, 2, 0, 0] ++ ruleBytes 1 5 0 ++ ruleBytes 1 2 32)
    ∧ (controlling true none).Ready ctlpProgramCommitSpec cmd ([1, 0, 0, 0] ++ le 6 4 ++ le 4 0) ∧ (controlling true none).Ready ctlpProgramCommitSpec cmd ([0, 0, 0, 0] ++ le 6 0 ++ le 4 0)
    ∧ (controlling true none).Ready ctlpProgramReadSpec cmd [1, 0, 128] ∧ (controlling true none).Ready ctlpMsgWriteSpec cmd ([63, 14] ++ List.replicate 14 2) ∧ (controlling true none).Ready ctlpMsgWriteSpec cmd [0, 0]
    ∧ (controlling true none).Ready ctlpGroupWriteSpec cmd ([0xFE, 0x0F, 2, 0] ++ [15, 255]) ∧ (controlling true none).Ready ctlpReportReadSpec cmd [7, 0]
    ∧ (controlling true none).Ready serWriteSpec cmd [1, 0, 0, 0, 65] ∧ (controlling true none).Ready serReadSpec cmd [1, 0, 1, 0] := by
  refine ⟨?_, ?_, ?_, ?_, ?_, ?_, ?_, ?_, ?_, ?_, ?_⟩ <;> constructor <;> decide +kernel
theorem test_program_free : ((controlling true none).received cmd).holder (fun (o : Outstanding) => o.work.isProgram) = none ∧ ((controlling true none).received cmd).programBusy = none
    ∧ 4 * 1000000000 < ((controlling true none).received cmd).netNs ∧ Table.find (controlling true none).ctl.reports 7 = some ⟨List.replicate 16 1, 5000000000⟩ := by decide +kernel
/-- A commit under way, and an output that the staging bank names held by a timer. -/
def committing : State := (controlling true none).start ctlpProgramCommitSpec cmd .programCommit
def blockedProgram : State := let s := (controlling true none).setFld (Reg.outVal 3) 18 17 3
  { s with ctl := { s.ctl with staging := [(4, ruleBytes 1 1 3)] } }
theorem test_commit_refused : committing.Ready ctlpProgramCommitSpec { cmd with tag := 2 } ([0, 0, 0, 0] ++ le 6 0 ++ le 4 0) ∧ blockedProgram.Ready ctlpProgramCommitSpec cmd ([0, 0, 0, 0] ++ le 6 0 ++ le 4 0)
    ∧ ((committing.received { cmd with tag := 2 }).holder fun (o : Outstanding) => o.work.isProgram).isSome = true ∧ (blockedProgram.received cmd).programBusy.isSome = true := by
  refine ⟨?_, ?_, by decide +kernel, by decide +kernel⟩ <;> constructor <;> decide +kernel
/-- SER1 enabled, and as an RS-485 port. -/
def serving (rs485 : Bool) : State := ((controlling true none).setFld (Reg.serCfg 1) 1 0 3).setFlag (Reg.serCfg 1) 5 rs485
theorem test_serial : 1 < (serving false).meas.serials.length ∧ (serving false).awake = true ∧ (serving false).flag (Reg.serCfg 1) 0 = true ∧ (serving false).flag (Reg.serCfg 1) 5 = false
    ∧ (serving false).flag (Reg.serCfg 1) 1 = true ∧ ((serving false).serial 1).rx = [65, 66] ∧ (serving true).flag (Reg.serCfg 1) 5 = true := by decide +kernel

/-! KeyLoading -/

/-- A page that holds a key of 128 bits; its key-check value is left out, as AES is slow to evaluate. -/
def withPage (s : State) (p identity modes generation : Nat) (key : Bytes) : State :=
  let s := s.setReg (Reg.ciphPageCfg p) (word (1 + 4 * identity + 64 * modes + 1024 * generation))
  { s with cipher := { s.cipher with keys := Table.put s.cipher.keys p key } }
/-- The device in a lifecycle state, with a key-transport key of zeros, page 2 loaded or not. -/
def keyed (life : Nat) (loaded : Bool) : State :=
  let s := master.setFld Reg.secLifecycle 1 0 life
  let s := { s with sec := { s.sec with transportKey := some (List.replicate 32 0) } }
  if loaded then withPage s 2 5 2 6 (List.replicate 16 1) else s
/-- KEY_LOAD of page 2 for the radio path, CCM, generation 6. -/
def plainKey : Bytes := [2, 5, 0x62, 0] ++ List.replicate 16 1
def wrappedKey : Bytes := [2, 5, 0x62, 2] ++ List.replicate 24 1
theorem test_key_load : (keyed 1 false).Ready keyLoadSpec cmd plainKey ∧ (keyed 2 false).Ready keyLoadSpec cmd plainKey ∧ (keyed 1 true).Ready keyLoadSpec cmd plainKey ∧ (keyed 2 false).Ready keyLoadSpec cmd wrappedKey
    ∧ (keyed 2 true).Ready keyLoadSpec cmd wrappedKey ∧ (keyed 1 true).Ready keyEraseSpec cmd [4, 0] := by
  refine ⟨?_, ?_, ?_, ?_, ?_, ?_⟩ <;> constructor <;> decide +kernel
theorem test_key_state : ((keyed 2 false).received cmd).loadClosed = false ∧ ((keyed 2 false).received cmd).lifecycle = 2 ∧ ((keyed 1 true).received cmd).pageLoaded 2 = true
    ∧ ((keyed 1 false).received cmd).pageLoaded 2 = false ∧ ((keyed 2 false).received cmd).sec.transportKey = some (List.replicate 32 0)
    ∧ bit (num wrappedKey 3 1) 1 = true ∧ bit (num plainKey 3 1) 1 = false ∧ bit 4 2 = true ∧ (keyed 1 true).fld (Reg.ciphPageCfg 2) 5 2 = 5 := by decide +kernel

/-! CipherServed -/

/-- CIPHER_RUN: AES-CMAC of SP 800-38B's 16-byte message, page 4, session 0. -/
def runParams : Bytes := [4, 3, 0, 16, 0, 0, 0, 0] ++ le 4 16 ++ be 16 0x6BC1BEE22E409F96E93D7E117393172A
/-- Page 4 loaded with the key of SP 800-38B, D.1, for session 0 and CMAC. -/
def paged : State := withPage master 4 1 8 0 (be 16 0x2B7E151628AED2A6ABF7158809CF4F3C)
def asked : Request := { purpose := .run 0, identity := 1, page := 4, mode := 3, decrypt := false, tagLen := 16, link := none, nonce := [], aad := [], data := be 16 0x6BC1BEE22E409F96E93D7E117393172A, tag := [], queued := 0 }
/-- Requests waiting, one of them for a mode its page does not permit, and an operation under way. -/
def waitingRun (q mode : Nat) : State := { paged with cipher := { paged.cipher with queues := setAt paged.cipher.queues q fun _ => [{ asked with mode := mode }] }, elapsed := 100000 }
def operating : State := { paged with cipher := { paged.cipher with engines := [(1, ⟨asked, be 16 0x2B7E151628AED2A6ABF7158809CF4F3C, 0⟩)], prevDue := some 7 } }
theorem test_engine : (waitingRun 3 3).nextQueue = some 3 ∧ (waitingRun 0 3).nextQueue = some 0 ∧ (waitingRun 3 3).mayServe asked = true ∧ (waitingRun 3 0).mayServe { asked with mode := 0 } = false
    ∧ (waitingRun 3 3).unitState 3 1 = .serving ∧ (waitingRun 3 3).on .sec = true ∧ Table.find (waitingRun 3 3).cipher.engines 1 = none
    ∧ (operating.scoreError 3 1).1 = false ∧ (Table.find operating.cipher.engines 1).isSome = true ∧ operating.cipher.prevDue = some 7 ∧ operating.cipher.queues.length = 4 := by decide +kernel
/-- SP 800-38B, D.1: the tags of the empty message and of 16 bytes. -/
theorem test_cmac : (⟨asked, be 16 0x2B7E151628AED2A6ABF7158809CF4F3C, 0⟩ : Operation).result = some (be 16 0x070A16B46B4D4144F79BDD9DD04A287C)
    ∧ checkValue (be 16 0x2B7E151628AED2A6ABF7158809CF4F3C) = 0xBB1D69 := by decide +kernel
theorem test_tag_fails : (⟨{ asked with decrypt := true, tag := List.replicate 16 0 }, be 16 0x2B7E151628AED2A6ABF7158809CF4F3C, 0⟩ : Operation).result = none := by decide +kernel
/-- Table 14-4: a record at top 91,204 takes 92,017 once; a counter 32 below is a replay. -/
theorem test_replay : ((⟨0, 5, 91204, 5, 1, true, false, none⟩ : LinkRecord).accept 92017 5 6).isSome = true ∧ (⟨0, 5, 91204, 5, 1, true, false, none⟩ : LinkRecord).accept 91172 5 6 = none
    ∧ ((⟨0, 5, 91204, 5, 1, true, false, none⟩ : LinkRecord).accept 91173 5 6).isSome = true ∧ ((⟨0, 5, 91204, 5, 1, true, false, none⟩ : LinkRecord).accept 0 6 6).map (fun k => (k.top, k.window)) = some (0, 1) := by decide +kernel
theorem test_alarms : paged.alarmActive .voltage = true ∧ paged.alarmActive .tamper = true ∧ (paged.setReg Reg.secAlarmCfg 0).alarmActive .tamper = false ∧ (paged.setFlag Reg.secAlarmCfg 0 true).alarmActive .tamper = true
    ∧ ((paged.setFlag Reg.secAlarmCfg 0 true).setReg Reg.pwrState 4).alarmActive .tamper = true ∧ ((paged.setReg Reg.pwrState 4).powerState = 4) := by decide +kernel
theorem test_run : paged.Ready cipherRunSpec cmd runParams ∧ paged.Ready keyStatusSpec cmd [] ∧ (paged.received cmd).cipher.queues.length = 4 := by
  refine ⟨?_, ?_, by decide +kernel⟩ <;> constructor <;> decide +kernel

/-! DramAccessed -/

/-- Two channels of one 4 Gbit rank, trained. -/
def trained : State := (master.setReg Reg.dramCfg 0x1C).setReg Reg.dramStat 1
/-- Port 1 in panic, and a bank whose row 7 stands open. -/
def panicking : State := trained.setFld (Reg.dramPortStat 1) 6 6 1
def opening (last : Nat) : State := { trained with dram := { trained.dram with last := [(5, last)], openRows := [(5, 7, trained.elapsed)] } }
theorem test_dram_access : trained.dramReady = true ∧ trained.dramCapacity = 939524096 ∧ (trained.portLevel 4 3).arbitrates 4 = true ∧ (panicking.portLevel 4 3).arbitrates 4 = false
    ∧ ((panicking.portLevel 1 24).arbitrates 1) = true ∧ trained.dram.poison.contains 0 = false ∧ (EccFault.clean ≠ .uncorrectable) := by decide +kernel
theorem test_row_policy : (opening 7).openRow 5 = some 7 ∧ (opening 8).openRow 5 = some 7 ∧ Table.find (opening 7).dram.last 5 = some 7 ∧ Table.find (opening 8).dram.last 5 ≠ some 7 := by decide +kernel
/-- 4,666 activations in the window; the threshold at reset is 8,192. -/
def worn (n : Nat) : State := { trained with dram := { trained.dram with acts := [(37, n)] } }
theorem test_threshold : ((Table.find (worn 8191).dram.acts (1 * 32 + 5)).getD 0 + 1) = 8192 ∧ (worn 8191).fld Reg.dramActCtl 15 0 = 8192 ∧ (worn 8191).dram.throttled.contains 37 = false
    ∧ (Table.find (worn 8190).dram.acts 37).getD 0 + 1 < (worn 8190).fld Reg.dramActCtl 15 0 := by decide +kernel

/-! DramServed -/

/-- Rank 0 of CH1 with 8 refreshes postponed and its re-centring deferred, and the row of address 0 retired. -/
def postponing : State := let s := panicking.setUnit 4 (panicking.dramRow 0) .retired
  { s with dram := { s.dram with postponed := [(2, 8)], deferred := [2] } }
theorem test_dram_events : trained.rankUsed 1 0 = true ∧ trained.anyPanic = false ∧ panicking.anyPanic = true ∧ panicking.dramReady = true ∧ (Table.find postponing.dram.postponed (1 * 2 + 0)) = some 8
    ∧ postponing.dram.deferred.contains 2 = true ∧ 0 < trained.dramCapacity ∧ master.dramReady = false ∧ trained.fld Reg.dramTrnCtl 23 16 < 21 ∧ trained.dram.deferred.contains 2 = false := by decide +kernel
theorem test_dram_errors : (((trained.bump64 (Reg.dramCntLo 5)).noteRow 9).scoreError 4 9).1 = false ∧ ((trained.setUnit 4 9 .retired).unitState 4 9 = .retired) := by decide +kernel
/-- Row 0x1A2C of CH1, bank 5, remapped by entry 0 or not (Table 15-6). -/
theorem test_row_retire : trained.Ready dramRowRetireSpec cmd [1, 0, 5, 0, 0x2C, 0x1A] ∧ (trained.setReg (Reg.dramRemap 1 0) (word (1 + 2 * (10 + 16 * 0x1A2C)))).Ready dramRowRetireSpec cmd [1, 0, 5, 0, 0x2C, 0x1A]
    ∧ trained.Ready dramStatusSpec cmd [] ∧ remapKey (rowNumber 1 0 5 0x1A2C) = 10 + 16 * 0x1A2C
    ∧ ((((trained.setReg (Reg.dramRemap 1 0) (word (1 + 2 * (10 + 16 * 0x1A2C)))).received cmd).remapped 1).any fun e => (trained.setReg (Reg.dramRemap 1 0) (word (1 + 2 * (10 + 16 * 0x1A2C)))).remapOf 1 e == 10 + 16 * 0x1A2C) = true := by
  refine ⟨?_, ?_, ?_, by decide +kernel, by decide +kernel⟩ <;> constructor <;> decide +kernel

/-! TimersRun -/

/-- Timer 10 of Table 16-3 at a count and a period, and armed or not for TMR_GO. -/
def beacon (count period : Nat) (enable : Bool) : State :=
  let s := (((master.setReg (Reg.tmrCtl 10) (word (bitOf enable + 2048 + 12 * 8192))).setReg (Reg.tmrPre 10) 799).setReg (Reg.tmrCnt 10) (word count)).setReg (Reg.tmrPeriodAct 10) (word period)
  let s := (s.setReg (Reg.tmrCmp 10) 2500).modTimer 10 fun t => { t with armed := !enable, since := s.elapsed }
  { s with meas := { s.meas with goWritten := some 70 } }
theorem test_counting : (beacon 6000 4000 true).counting 10 = true ∧ (beacon 6000 4000 true).flag (Reg.tmrCtl 10) 5 = false ∧ (beacon 6000 4000 true).periodOf 10 = 4000 ∧ (beacon 6000 4000 true).meas.timers.length = 16
    ∧ ((beacon 6000 4000 true).reg (Reg.tmrCnt 10)).toNat = 6000 ∧ ((beacon 100 4000 true).reg (Reg.tmrCmp 10)).toNat = 2500 ∧ (beacon 100 4000 true).fld (Reg.tmrCtl 10) 12 11 = 1 ∧ (beacon 100 4000 false).counting 10 = false
    ∧ (beacon 100 4000 false).meas.goWritten = some 70 ∧ ((beacon 100 4000 false).timer 10).armed = true ∧ ((beacon 100 4000 true).timer 10).armed = false := by decide +kernel
/-- Table 16-3: 1 µs after the write of the shorter period, the next wrap; 2,500 µs on, the compare event. -/
theorem test_short_wrap : (beacon 6000 4000 true).tickTime 10 1 = (beacon 6000 4000 true).elapsed + 1000 ∧ (beacon 0 4000 true).tickTime 10 2500 = 2500000 + (beacon 0 4000 true).elapsed := by decide +kernel
/-- R429: 512 ticks of 32.768 kHz are 15,625 µs. -/
theorem test_keep_time : tickMicros 15625000 = 15625 ∧ tickMicros 15624999 = 15594 ∧ tickMicros 61036 = 61 := by decide +kernel

/-! EdgesCaptured -/

/-- CAP3 captures both edges, with a number of entries waiting. -/
def catching (entries : Nat) : State := (master.setReg (Reg.tmrCapCfg 3) 7).modCapture 3 fun x => { x with queue := List.replicate entries ⟨4999999999, 7, true, false⟩ }
theorem test_capture : ((catching 1).capture 3).level ≠ true ∧ (catching 1).on .meas = true ∧ (catching 4).meas.caps.length = 8 ∧ ((catching 4).capture 3).queue.length = 4
    ∧ field ((catching 4).reg (Reg.tmrCapCfg 3)) 0 0 = 1 ∧ edgeSelected (field ((catching 4).reg (Reg.tmrCapCfg 3)) 2 1) true = true ∧ edgeSelected 2 true = false
    ∧ ((catching 4).setReg (Reg.pwrDomStat) 1).on .meas = false := by decide +kernel
theorem test_capture_read : (catching 3).Ready tmrCaptureReadSpec cmd [3, 2, 0, 0] ∧ (((catching 3).received cmd).capture 3).queue.length = 3 := by
  refine ⟨?_, by decide +kernel⟩; constructor <;> decide +kernel

/-! LowPowerLeft -/

/-- The device in a low-power state, its exit requested by CAP3 (source 4) and the host (source 3). -/
def sleeping (state : Nat) : State := let s := ((master.setFld Reg.pwrState 2 0 state).setFlag Reg.pwrWakeEn 3 true).setReg Reg.pwrWakeAddr 0xE4
  { s with power := { s.power with exitSince := some 50, fired := 0x18 } }
theorem test_asleep : (sleeping 2).asleep = true ∧ (sleeping 3).asleep = true ∧ (sleeping 2).power.exitSince = some 50 ∧ (sleeping 3).exitCause = 3 ∧ (sleeping 2).flag Reg.pwrWakeEn 3 = true
    ∧ (sleeping 0).asleep = false ∧ (sleeping 0).flag Reg.pwrState 3 = false ∧ (sleeping 2).powerState ≠ 4 ∧ (sleeping 4).powerState = 4 ∧ (sleeping 2).flag Reg.pwrWakeAddr 7 = true
    ∧ (sleeping 2).fld Reg.pwrWakeAddr 6 0 = 0x64 ∧ (sleeping 2).flag Reg.pwrWakeAddr 8 = false := by decide +kernel
theorem test_power_status : master.Ready pwrStatusSpec cmd [] ∧ master.Ready clkStatusSpec cmd [] := by refine ⟨?_, ?_⟩ <;> constructor <;> decide +kernel
/-- R453: clearing RPLL while TRX0 has its clock is refused naming a child; setting TRX0 sets RPLL. -/
theorem test_gates : master.gateCheck 0x7FFF 0x7FFE = some (Status.resourceBusy, [0, 0]) ∧ gatesAfter 0x7FE0 0x7FE2 = 0x7FE3 ∧ gatesAfter 0x7FFF 0x7FFE = 0x7FFE := by decide +kernel

/-! ClocksWatched -/

/-- A TCXO whose last window was bad, and a source on its 100th good window. -/
def watched (bad run : Nat) (good : Bool) : State := let s := master.setFlag Reg.clkSrcStat 0 good
  { s with power := { s.power with failing := [bad, 0, 0], good := [run, 0, 0] } }
theorem test_monitor : (watched 1 0 true).flag Reg.clkPllStat 9 = true ∧ (watched 1 0 true).flag Reg.clkSrcStat 0 = true ∧ goodCount 0 35329 = false ∧ goodCount 0 35330 = true ∧ goodCount 1 1133 = true
    ∧ goodCount 2 25921 = false ∧ (watched 0 99 false).flag Reg.clkSrcStat 0 = false ∧ (watched 0 99 false).power.good.length = 3 ∧ (watched 1 0 true).flag Reg.clkSrcStat 2 = true
    ∧ (master.setFlag Reg.clkSrcStat 2 false).flag Reg.clkSrcStat 2 = false ∧ (master.setFlag Reg.clkPllStat 9 false).flag Reg.clkPllStat 9 = false := by decide +kernel
theorem test_pll : master.flag Reg.clkPllStat 5 = true ∧ (master.setFlag Reg.clkPllStat 5 false).flag Reg.clkGateCtl 0 = true ∧ (master.setFlag Reg.clkPllStat 5 false).flag Reg.clkSrcStat 3 = false
    ∧ master.powerState ≤ 2 ∧ pllGate 5 = some 0 ∧ pllGate 1 = none ∧ master.awake = true ∧ (master.setFlag Reg.clkSrcStat 3 true).flag Reg.clkSrcStat 3 = true := by decide +kernel

/-! ResetsTaken -/

/-- Firmware in trial, a reset planned, OUT8 driven high. -/
def trialing (cold : Bool) (state : Nat) : State := let s := ((trained.setReg (Reg.outVal 8) 0x10001).setReg Reg.pwrState (word state)).setFld Reg.sysBootStat 1 0 2
  { s with boot := { s.boot with reset := some ⟨cold, !cold, 3 - bitOf cold, 1000000⟩, confirmDue := some 9, slots := [{ record := some ⟨7, 1, 1⟩ }, {}] }, host := { s.host with fwState := 1 } }
theorem test_reset_plans : (trialing false 0).boot.reset = some ⟨false, true, 3, 1000000⟩ ∧ (trialing true 4).powerState = 4 ∧ (trialing false 0).host.fwState = 1 ∧ (trialing false 0).boot.starting = none
    ∧ (trialing false 0).flag Reg.sysWdtCfg 16 = true ∧ ((trialing false 0).setReg Reg.sysWdtCfg 5000).flag Reg.sysWdtCfg 16 = false ∧ ((trialing false 0).slot (trialing false 0).running).record = some ⟨7, 1, 1⟩
    ∧ (trialing false 0).meas.outs.length = 16 ∧ (trialing false 0).flag Reg.clkSrcStat 3 = false ∧ State.reset.awaitsStart = true ∧ (0xA5C3 : Word) &&& 0xFFFF = 0xA5C3 ∧ ringed.boot.reset = none := by decide +kernel
/-- Table 18-6, the reset: OUT8 held at 1 through a warm reset with hold, and let go by a cold one. -/
theorem test_hold : (((trialing false 0).resetOutputs ⟨false, true, 4, 0⟩).output 8).held = some 1 ∧ (((trialing false 0).resetOutputs ⟨true, false, 1, 0⟩).output 8).held = none
    ∧ ((trialing false 0).resetOutputs ⟨true, false, 1, 0⟩).flag (Reg.outVal 8) 16 = false := by decide +kernel

/-! DeviceStarted -/

/-- Slot 0 runs, confirmed at sequence 7; slot 1 is being written, and an activation of it is under way. -/
def updating : State := let s := licensed trained
  { s with boot := { s.boot with slots := [{ record := some ⟨7, 2, 0⟩ }, { next := 8 }], activating := some (16672, 1), writing := some ⟨1, [1, 2], 0⟩ } }
theorem test_fw : updating.Ready fwWriteSpec cmd (le 4 8 ++ [1, 2, 3, 4]) ∧ updating.Ready fwWriteSpec cmd (le 4 4 ++ [1, 2, 3, 4]) ∧ updating.Ready fwConfirmSpec cmd [] ∧ (trialing false 0).Ready fwConfirmSpec cmd []
    ∧ (trialing false 0).Ready fwWriteSpec cmd (le 4 8 ++ [1, 2, 3, 4]) ∧ updating.Ready fwStatusSpec cmd [] := by
  refine ⟨?_, ?_, ?_, ?_, ?_, ?_⟩ <;> constructor <;> decide +kernel
theorem test_fw_state : (updating.received cmd).inTrial = false ∧ (updating.received cmd).flashBusy = none ∧ ((updating.setFlag Reg.sysCfgStat 2 true).received cmd).flashBusy = some [0, 0, 0, 0]
    ∧ ((trialing false 0).received cmd).inTrial = true ∧ updating.boot.slots.length = 2 ∧ (updating.received cmd).sec.rollback.length < 64 ∧ updating.boot.activating = some (16672, 1)
    ∧ updating.boot.writing = some ⟨1, [1, 2], 0⟩ ∧ updating.areaOf 1 < updating.boot.areas.length ∧ (updating.boot.areas.getD (updating.areaOf 1) {}).retired = false ∧ (updating.received cmd).targetRole = some 0 := by decide +kernel
theorem test_cfg : updating.Ready cfgSaveSpec cmd [] ∧ updating.Ready cfgWriteSpec cmd (le 4 0x3FFFF ++ [9]) ∧ updating.Ready cfgCommitSpec cmd (le 4 32) ∧ updating.Ready cfgReadSpec cmd ([1, 0] ++ le 4 0 ++ le 2 2) := by
  refine ⟨?_, ?_, ?_, ?_⟩ <;> constructor <;> decide +kernel
/-- An image without records, its check word right or wrong. -/
theorem test_image : imageOk (makeImage 3 1 5 []) = true ∧ imageForm (makeImage 3 1 5 []) = true ∧ imageOk (patch (makeImage 3 1 5 []) 28 [0, 0, 0, 0]) = false ∧ imageForm [0] = false := by decide +kernel
/-- A start waits; a warm start waits for its end. -/
def restarting : State := { trained with boot := { trained.boot with starting := some ⟨false, false, 3, 0⟩ } }
theorem test_starts : State.reset.awaitsStart = true ∧ State.reset.boot.testmode = false ∧ restarting.boot.starting = some ⟨false, false, 3, 0⟩ ∧ restarting.flag Reg.clkSrcStat 3 = false
    ∧ State.reset.startBlocked = false ∧ State.reset.chooseSlot = none := by decide +kernel

/-! LifecycleHeld -/

/-- A lifecycle state with the identity, certificate and authority flags, and a transition under way or not. -/
def living (life : Nat) (flags : Nat) (t : Option Nat) : State := let s := master.setReg Reg.secLifecycle (word (life + 8 * flags))
  { s with sec := { s.sec with transition := t, keyPairs := if flags % 2 = 1 then some 0 else none, debugAuthority := if flags / 4 = 1 then some ([], []) else none } }
theorem test_lifecycle : (living 0 7 none).Ready lifecycleSetSpec cmd ([1, 0, 0, 0] ++ le 4 0) ∧ (living 2 7 none).Ready lifecycleSetSpec cmd ([3, 0, 0, 0] ++ le 4 0)
    ∧ (living 2 7 none).Ready lifecycleSetSpec cmd ([4, 0, 0, 0] ++ le 4 17120) ∧ (living 0 0 none).Ready identityGenSpec cmd [] ∧ (living 0 1 none).Ready identityGenSpec cmd []
    ∧ (living 0 0 none).Ready devCertWriteSpec cmd (le 4 17504) ∧ (living 0 0 none).Ready secStageWriteSpec cmd (le 4 20479 ++ [1]) ∧ (living 1 0 none).Ready dbgAuthSetSpec cmd (List.replicate 96 1)
    ∧ (living 1 4 none).Ready dbgAuthSetSpec cmd (List.replicate 96 1) ∧ (living 2 0 none).Ready ktkLoadSpec cmd (List.replicate 384 1) := by
  refine ⟨?_, ?_, ?_, ?_, ?_, ?_, ?_, ?_, ?_, ?_⟩ <;> constructor <;> decide +kernel
theorem test_transitions : ((living 0 7 none).received cmd).transitionToken 1 = some 0 ∧ (living 0 5 none).transitionToken 1 = none ∧ (living 2 7 none).transitionToken 3 = some 3 ∧ (living 2 7 none).transitionToken 4 = some 4
    ∧ (living 3 7 none).transitionToken 2 = none ∧ (living 4 7 none).transitionToken 4 = none ∧ (living 0 7 (some 1)).sec.transition = some 1 ∧ ((living 0 7 none).received cmd).holder (fun (o : Outstanding) => o.work.isLifecycle) = none
    ∧ ((living 0 1 none).received cmd).sec.keyPairs.isSome = true ∧ ((living 0 0 none).received cmd).sec.keyPairs = none ∧ ((living 1 4 none).received cmd).sec.debugAuthority.isSome = true
    ∧ ((living 2 0 none).received cmd).loadClosed = false ∧ ((living 2 0 none).setReg Reg.secDbgStat 2).loadClosed = true ∧ ((living 0 0 none).received cmd).deviceCertOk [] = false := by decide +kernel
/-- The device certificate stored, three bytes of it. -/
def certHeld : State := { master with boot := { master.boot with sealedCopies := master.boot.sealedCopies.map fun x => { x with deviceCert := [7, 8, 9] } } }
theorem test_cert_read : certHeld.Ready devCertReadSpec cmd (le 4 1 ++ le 2 2) := by constructor <;> decide +kernel

/-! DebugAndAttestation -/

/-- Full or Observe debug, a nonce outstanding and a level with a lifetime. -/
def debugging (life level : Nat) : State := let s := (living life 7 none).setFld Reg.secDbgStat 1 0 level
  { s with sec := { s.sec with nonce := some (List.replicate 32 3), nonceDue := 9, levelDue := some 7, debugHalted := [1] } }
theorem test_debug : (debugging 0 0).Ready dbgUnlockSpec cmd ([2, 0, 0, 0] ++ le 4 0) ∧ (debugging 0 0).Ready dbgUnlockSpec cmd ([2, 0, 0, 0] ++ le 4 9) ∧ (debugging 2 0).Ready dbgUnlockSpec cmd ([1, 0, 0, 0] ++ le 4 17120)
    ∧ (debugging 2 2).Ready dbgLockSpec cmd [] ∧ (debugging 2 2).Ready dbgNonceSpec cmd [] := by refine ⟨?_, ?_, ?_, ?_, ?_⟩ <;> constructor <;> decide +kernel
theorem test_levels : ((debugging 0 0).received cmd).freeLevel 2 = true ∧ ((debugging 2 0).received cmd).freeLevel 1 = false ∧ (debugging 1 0).freeLevel 2 = false ∧ (debugging 2 0).sec.levelDue = some 7
    ∧ (debugging 2 0).sec.nonce = some (List.replicate 32 3) ∧ (debugging 2 2).debugLevel = 2 ∧ (debugging 2 1).debugLevel = 1 ∧ (debugging 2 1).powerState < 3 ∧ debugNeed (.halt 0) = some 2 ∧ debugNeed .trace = some 1
    ∧ islandOf 0x500000 = some .sec ∧ debugNeed (.readReg 0x500000) = none ∧ ((debugging 2 1).setReg Reg.pwrState 3).powerState = 3 ∧ ((debugging 2 0).checkToken 1 17120).1 = some Status.paramRange := by decide +kernel
/-- A report being signed for session 0, or signed and read. -/
def signing : State := let s := (living 2 7 none).start attestSpec cmd .attest
  { s with sec := { s.sec with attesting := some [1, 2] } }
def reported : State := (living 2 7 none).modSession 0 fun e => { e with report := List.replicate 16800 5 }
theorem test_attest : signing.sec.attesting = some [1, 2] ∧ ((signing.outstandingOf fun (o : Outstanding) => o.work == .attest).head?).isSome = true ∧ 0 < signing.host.sessions.length
    ∧ reported.Ready attestReadSpec cmd (le 4 16799 ++ le 2 1) ∧ (living 2 7 none).Ready attestReadSpec cmd (le 4 0 ++ le 2 1) ∧ ((reported.received cmd).session 0).report ≠ [] ∧ (((living 2 7 none).received cmd).session 0).report = [] := by
  refine ⟨by decide +kernel, by decide +kernel, by decide +kernel, ?_, ?_, by decide +kernel, by decide +kernel⟩ <;> constructor <;> decide +kernel
/-- An in-band session of a Deployed device, its challenge of zeros issued, page 4 its key, and its command. -/
def inbandCmd : Cmd := { cmd with ep := .inband [2, 0, 0, 0, 0, 1] 10 1, session := 1 }
def challenged : State := let s := (withPage (living 2 7 none) 4 6 8 0 (List.replicate 16 1)).setReg Reg.secInbandCfg 0xA04
  s.modSession 1 fun e => { e with ep := some inbandCmd.ep, challenge := some (List.replicate 16 0), authDue := some 70 }
def authParams : Bytes := [1, 0, 0, 0] ++ List.replicate 16 7 ++ cmac (List.replicate 16 1) (List.replicate 16 0 ++ List.replicate 16 7 ++ (challenged.received inbandCmd).tagTail 1)
theorem test_auth : challenged.Ready secAuthSpec inbandCmd authParams ∧ challenged.Ready secAuthSpec inbandCmd [0, 0, 0, 0] ∧ challenged.Ready secAuthSpec inbandCmd ([1, 0, 0, 0] ++ List.replicate 32 7) := by
  refine ⟨?_, ?_, ?_⟩ <;> constructor <;> decide +kernel
theorem test_auth_tag : cmac (List.replicate 16 1) (List.replicate 16 0 ++ slice authParams 4 16 ++ (challenged.received inbandCmd).tagTail 1) = slice authParams 20 16
    ∧ cmac (List.replicate 16 1) (List.replicate 16 0 ++ List.replicate 16 7 ++ (challenged.received inbandCmd).tagTail 1) ≠ List.replicate 16 7
    ∧ ((challenged.received inbandCmd).session 1).challenge = some (List.replicate 16 0) ∧ Table.find (challenged.received inbandCmd).cipher.keys 4 = some (List.replicate 16 1)
    ∧ ((challenged.received inbandCmd).pageLoaded 4 && (challenged.received inbandCmd).fld (Reg.ciphPageCfg 4) 5 2 == 6 && (challenged.received inbandCmd).flag (Reg.ciphPageCfg 4) 9) = true
    ∧ 1 < (challenged.received inbandCmd).host.sessions.length ∧ (challenged.session 1).authDue = some 70 ∧ challenged.isOpen 1 = true ∧ (challenged.session 1).authenticated = false := by decide +kernel

/-! ChainHeld -/

/-- Four devices in a ring, as the head or as another device sees it, its links up or down. -/
def chained (head links : Nat) : State :=
  let s := ((master.setReg Reg.chainCtl (word (0x300 + head))).setReg (Reg.chainPortStat 0) (word (0x0300 + 3 * links))).setReg (Reg.chainPortStat 1) (word (0x0100 + 3 * links))
  ({ s with chain := { s.chain with down := [1, 2, 3], up := [3, 2, 1] } }.setReg Reg.chainStat 0x28400).showChain
def chainBusy : State := (chained 1 1).modSession 1 fun e => { e with txn := { e.txn with state := .pending, tag := 5, entries := [⟨2, 0, 0, 0⟩] } }
def walk3 : ChainWalk := ⟨[[1], [2], [3]], [], true, false, 0, 3⟩
theorem test_chain_enum : (chained 1 1).Ready chainEnumSpec cmd [] ∧ (chained 0 1).Ready chainEnumSpec cmd [] ∧ chainBusy.Ready chainEnumSpec cmd [] ∧ (chained 1 1).Ready chainStatusSpec cmd []
    ∧ (chained 1 1).Ready chainPortSetSpec cmd [1, 0, 0, 0] ∧ (chained 1 1).Ready chainPortSetSpec cmd [0, 1, 0, 0] := by refine ⟨?_, ?_, ?_, ?_, ?_, ?_⟩ <;> constructor <;> decide +kernel
theorem test_chain_head : ((chained 1 1).received cmd).head = true ∧ ((chained 0 1).received cmd).head = false ∧ (chainBusy.received cmd).chainCommit = some [0, 1, 5, 0] ∧ ((chained 1 1).received cmd).chainCommit = none
    ∧ numberOf [(1, [7])] [7] = some 1 ∧ numberOf [(0, [7])] [8] = none ∧ freeNumber [(0, [7])] = some 1 ∧ walk3.closed = true := by decide +kernel
/-- Device 0 of the worked example of chapter 20: device 2 is reached through CRD_DN by the tie rule, and through CRD_UP once the
fibre between devices 1 and 2 is cut. -/
theorem test_dc07 : hopsIn (chained 1 1).chain.down 2 = some 2 ∧ hopsIn (chained 1 1).chain.up 2 = some 2 ∧ (chained 1 1).throughUp 2 = false ∧ (chained 1 1).throughUp 3 = true
    ∧ (chained 1 1).breakPaths 1 1 2 = ([1], [3, 2]) ∧ (chained 1 1).breakPaths 2 0 1 = ([1], [3, 2]) := by decide +kernel
theorem test_ring : ([0, 1, 2, 3] : List Nat).Nodup ∧ ((0 :: [1, 2, 3] ++ [0] : List Nat))[1]? = some 1 ∧ ((0 :: [1, 2, 3] ++ [0] : List Nat))[2]? = some 2 ∧ (0 :: untilBreak 1 2 0 [1, 2, 3])[1]? = some 1 := by decide +kernel
theorem test_chain_link : (chained 1 1).chainLink 1 = true ∧ (chained 1 0).chainLink 0 = false ∧ (chained 1 0).flag (Reg.chainPortStat 0) 0 = false ∧ (chained 1 1).flag Reg.chainStat 15 = true ∧ (chained 1 1).head = true
    ∧ State.reset.flag Reg.chainStat 15 = false ∧ ((chained 1 0).flag Reg.chainCtl 8 && !(chained 1 0).chainLink 0 && !(chained 1 0).flag (Reg.chainPortStat 0) 2 && (chained 1 0).on .link) = true
    ∧ (chained 0 0).numbered = true ∧ (chained 0 0).present 0 = true ∧ ((chained 0 0).setReg Reg.chainStat 0xFF).numbered = false ∧ ((chained 1 1).received cmd).flag Reg.chainCtl 9 = true
    ∧ ((chained 1 1).trimmed 8 && num [1, 0, 0, 0] 1 1 == 1) = false := by decide +kernel

/-! ChainFramesCarried -/

/-- A frame from device 1 for device 0, 2 or all, and one of kind 2. -/
def data (kind dest hop : Nat) : Bytes := cordonnetFrame kind 9 1 dest hop 0 1 (List.replicate 14 0)
theorem test_chain_frame : ((chained 1 1).on .link && (chained 1 1).chainLink 1) = true ∧ ((chained 1 0).on .link && (chained 1 0).chainLink 1) = false ∧ (chained 1 1).numbered = true ∧ (chained 1 1).device = 0 ∧ (chained 1 1).on .pkt = true
    ∧ (decide (16 ≤ (data 0 0 5).length) && crc32 ((data 0 0 5).take ((data 0 0 5).length - 4)) == ofLe ((data 0 0 5).drop ((data 0 0 5).length - 4))) = true
    ∧ (decide (16 ≤ (data 0 2 5).length) && crc32 ((data 0 2 5).take ((data 0 2 5).length - 4)) == ofLe ((data 0 2 5).drop ((data 0 2 5).length - 4))) = true
    ∧ num (data 0 2 5) 3 1 = 5 ∧ num (data 0 2 5) 2 1 = 2 ∧ num (data 2 2 5) 0 1 = 38 ∧ num (data 1 0xFF 0) 0 1 % 4 = 1 ∧ num (data 0 0 5) 1 1 = 1 ∧ (chained 1 1).chain.seqs.length = 2 := by decide +kernel
/-- Device 0 has a frame of kind 2 for device 1 unacknowledged, has accepted sequence 9, and knows that device 5 has left. -/
def unackedHead : State := let s := (chained 1 1).modSession 0 fun e => { e with outstanding := [{ origin := originOf cmd 0x0001, started := 0, deadline := 9, work := .forwarded 5 }] }
  { s with chain := { s.chain with unacked := [⟨1, 3, false, 7, data 2 1 63⟩], accepted := [[], [9]], departed := [(5, 4)] } }
theorem test_resend : (unackedHead.chain.unacked.find? fun (h : HopFrame) => h.port == 1 && h.seq == 3 && !h.resent) = some ⟨1, 3, false, 7, data 2 1 63⟩ ∧ 9 ∈ unackedHead.chain.accepted.getD 1 []
    ∧ (unackedHead.reachElapsed 20007).present 1 = true ∧ (unackedHead.reachElapsed 20007).device = 0 ∧ (unackedHead.reachElapsed 20007).route 1 = 1 ∧ (unackedHead.reachElapsed 20007).chainLink 1 = true := by decide +kernel
theorem test_orphan : ((unackedHead.session 0).outstanding.find? fun (x : Outstanding) => x.origin.tag == cmd.tag).isSome = true ∧ Table.find unackedHead.chain.departed 5 = some 4 ∧ Table.find unackedHead.chain.departed 6 = none
    ∧ unackedHead.flag (Reg.chainPortStat 1) 0 = true ∧ (chained 1 0).flag (Reg.chainPortStat 1) 0 = false := by decide +kernel
/-- R530: a delay of 1,000 ns measured from 0 moves the filtered delay by 125 ns. -/
theorem test_delay : (match exec (.delayBlockDue 1 0 1000 2000 3000) unackedHead with
    | .next t => t.fld (Reg.chainPortDelay 1) 23 0 == 125000
    | _ => false) = true := by decide +kernel

/-! ScoresAndWear -/

/-- Engine 2 at score 32, as in the example of chapter 21, and engine 1 at 0. -/
def scored : State := { master with darn := { master.darn with scores := [(unitKey 3 2, ⟨32, 2⟩)] } }
theorem test_scores : (scored.scoreError 3 2).1 = true ∧ (scored.scoreError 3 2).2.scoreOf 3 2 = ⟨48, 3⟩ ∧ scored.unitState 3 2 ≠ .retired ∧ scored.powerState ≠ 4 ∧ (scored.setUnit 3 2 .retired).unitState 3 2 = .retired
    ∧ scored.on .ctrl = true ∧ scored.darn.checkpoints.length = 2 ∧ scored.unitState 7 1 ≠ .retired ∧ scored.darn.taskOwner.getD 0 0 = 0 ∧ (scored.setReg Reg.pwrState 4).powerState = 4 := by decide +kernel
theorem test_darn_reads : scored.Ready darnStatusSpec cmd [] ∧ scored.Ready darnUnitReadSpec cmd [3, 0, 0, 0, 5, 0] ∧ scored.Ready darnUnitReadSpec cmd [0, 0, 79, 0, 1, 0] ∧ scored.Ready darnLogReadSpec cmd [0, 0, 63, 0] := by
  refine ⟨?_, ?_, ?_, ?_⟩ <;> constructor <;> decide +kernel
theorem test_named : (scored.received cmd).namedUnit 3 2 = some 2 ∧ (scored.received cmd).namedUnit 0 79 = some 79 ∧ scored.boot.sealedCopies.length = 2 := by decide +kernel

/-! SparesBroughtIn -/

/-- Engine 2 fenced, its retirement waiting, spare engine 4 under test, or a class without spares. -/
def fenced : State := master.retireUnit 3 2 0
def testingSpare : State := match execSpareBringIn 3 fenced with
  | .next t => t
  | _ => fenced
def unspared : State := master.setUnit 3 4 .retired
theorem test_fence : fenced.unitState 3 2 = .retired ∧ master.unitState 3 2 = .serving ∧ (master.fence 3 2).spares 3 = [4] ∧ (unspared.fence 3 2).spares 3 = [] ∧ fenced.darn.active = []
    ∧ ((unspared.fence 3 2).darn.active ++ (unspared.fence 3 2).darn.waiting).any (fun (b : BringIn) => b.kind == 3) = false ∧ unspared.unitState 3 2 = .serving
    ∧ fenced.darn.waiting.find? (fun (b : BringIn) => b.kind == 3) = some ⟨3, 2, 0, none, fenced.elapsed⟩ ∧ fenced.spares 3 = [4] ∧ unspared.spares 3 = [] := by decide +kernel
theorem test_bring_in : testingSpare.darn.active.find? (fun (b : BringIn) => b.kind == 3) = some ⟨3, 2, 0, some 4, fenced.elapsed⟩ ∧ testingSpare.unitState 3 4 = .testing ∧ testingSpare.flag Reg.darnStat 3 = true := by decide +kernel
theorem test_darn_retire : master.Ready darnRetireSpec cmd [3, 0, 2, 0] ∧ master.Ready darnRetireSpec cmd [7, 0, 0, 0] ∧ fenced.Ready darnRetireSpec cmd [3, 0, 2, 0] ∧ master.Ready darnRetireSpec cmd [6, 0, 1, 0]
    ∧ ({ master with darn := { master.darn with dramRows := [77] } } : State).Ready darnRetireSpec cmd [4, 0, 0, 0] ∧ master.Ready darnRetireSpec cmd [1, 0, 0, 0] := by
  refine ⟨?_, ?_, ?_, ?_, ?_, ?_⟩ <;> constructor <;> decide +kernel
theorem test_retire_units : (fenced.received cmd).unitState 3 2 = .retired ∧ (master.received cmd).unitState 6 1 = .serving ∧ (master.received cmd).namedUnit 6 1 = some 1 ∧ (master.received cmd).namedUnit 3 2 = some 2
    ∧ master.unitState 7 0 ≠ .retired ∧ master.unitState 7 1 ≠ .retired ∧ (master.fence 7 0).unitState 7 0 = .retired ∧ master.on .ctrl = true ∧ master.flag Reg.darnSvc 3 = false ∧ (master.setReg Reg.darnSvc 8).flag Reg.darnSvc 3 = true := by decide +kernel

end Sys2Proof.Machine
end

section
/-! SUPPORT. A step and the queue of commands. -/

namespace Sys2Proof.Machine

/-- Settles O1: a step on a queue with a front, and on an empty one. -/
theorem queueFrontRuns : Obligations.QueueFrontRuns := by
  constructor
  · intro s c rest front
    simp only [step, front]
  · intro s empty
    simp only [step, empty, State.idle]

end Sys2Proof.Machine
end

section
/-! SUPPORT. Sessions and their transactions under the shared operations: what a session record reads after a change, what a
reply leaves of the outstanding commands, and what a commit for this device alone does at its instant. -/

namespace Sys2Proof.Machine

/-! ### Session records -/

/-- Two changes of one session record are one change. -/
theorem State.modSession_modSession (s : State) (n : Nat) (f g : Session → Session) :
    (s.modSession n f).modSession n g = s.modSession n (g ∘ f) := by
  simp [State.modSession, setAt, List.modify_modify_eq]

theorem State.session_modSession (s : State) {n : Nat} (f : Session → Session) (h : n < s.host.sessions.length) :
    (s.modSession n f).session n = f (s.session n) := by
  simp [State.modSession, State.session, setAt, h]

/-- What a field of a session record holds does not depend on a change that keeps that field, of whichever session. -/
theorem State.session_modSession_field {β : Type} (field : Session → β) (s : State) (n m : Nat) {f : Session → Session}
    (keeps : ∀ e, field (f e) = field e) : field ((s.modSession n f).session m) = field (s.session m) := by
  simp only [State.modSession, State.session, setAt, List.getD_eq_getElem?_getD, List.getElem?_modify]
  cases s.host.sessions[m]? with
  | none => rfl
  | some e => by_cases h : n = m <;> simp [h, keeps]

/-- States with one host part have one set of sessions. -/
theorem State.session_of_host {s t : State} (h : t.host = s.host) (n : Nat) : t.session n = s.session n := by
  simp [State.session, h]

/-! ### A reply leaves the outstanding commands alone -/

@[simp] theorem State.pushPrivileged_host (s : State) (node : Nat) (x : Copy) : (s.pushPrivileged node x).host = s.host := by
  unfold State.pushPrivileged
  dsimp only
  split <;> rfl

theorem State.pumpRing_outstanding (s : State) (n ring m : Nat) :
    ((s.pumpRing n ring).session m).outstanding = (s.session m).outstanding := by
  have written (f : Ring → Ring) (k : Nat) :
      (((s.modRing ring f).modSession n fun e => { e with events := e.events.drop k }).session m).outstanding
        = (s.session m).outstanding :=
    State.session_modSession_field Session.outstanding _ _ _ fun _ => rfl
  unfold State.pumpRing
  dsimp only
  split
  · split
    · rfl
    · split
      · exact written _ _
      · exact written _ _
  · rfl

theorem State.deliver_outstanding (s : State) (n : Nat) (ep : Endpoint) (r : Reply) (m : Nat) :
    ((s.deliver n ep r).session m).outstanding = (s.session m).outstanding := by
  cases ep with
  | pcie ring =>
    simp only [State.deliver]
    split
    · exact State.pumpRing_outstanding _ _ _ _
    · rfl
  | spi =>
    simp only [State.deliver]
    split
    · exact State.session_modSession_field Session.outstanding _ _ _ fun _ => rfl
    · rfl
  | inband mac vlan port => exact congrArg Session.outstanding (State.session_of_host (State.pushPrivileged_host _ _ _) m)
  | replay => rfl
  | chain head => exact congrArg Session.outstanding (State.session_of_host (State.pushPrivileged_host _ _ _) m)

theorem State.reply_outstanding (s : State) (o : Origin) (status : Nat) (result : Bytes) (m : Nat) :
    ((s.reply o status result).session m).outstanding = (s.session m).outstanding := by
  have cached (r : Reply) : ((if s.bound o.session o.ep then
      s.modSession o.session fun e => { e with cache := cacheAdd e.cache o.tag o.trailer r } else s).session m).outstanding
        = (s.session m).outstanding := by
    split
    · exact State.session_modSession_field Session.outstanding _ _ _ fun _ => rfl
    · rfl
  unfold State.reply
  dsimp only
  split
  · exact cached _
  · exact (State.deliver_outstanding _ _ _ _ _).trans (cached _)

theorem State.received_outstanding (s : State) (c : Cmd) (m : Nat) :
    ((s.received c).session m).outstanding = (s.session m).outstanding :=
  calc ((s.received c).session m).outstanding = ((s.counted c).session m).outstanding :=
        State.session_modSession_field Session.outstanding _ _ _ fun _ => rfl
    _ = ((s.bump64 Reg.sysCmdRxLo).session m).outstanding :=
        State.session_modSession_field Session.outstanding _ _ _ fun _ => rfl
    _ = (s.session m).outstanding := congrArg Session.outstanding (State.session_of_host (State.bump64_host _ _ _) m)

/-- R59: no hint is counted from a named instant where the step has started no command. -/
theorem State.hintAfter_of_none_started {s old : State} {c : Cmd} (w : Work) (instant : Nat)
    (h : (s.session c.session).outstanding = (old.session c.session).outstanding) : s.hintAfter old c w instant = s := by
  simp [State.hintAfter, h]

/-! ### A session's transaction -/

theorem State.modTxn_modTxn (s : State) (n : Nat) (f g : Txn → Txn) : (s.modTxn n f).modTxn n g = s.modTxn n (g ∘ f) :=
  State.modSession_modSession _ _ _ _

theorem State.txn_modTxn (s : State) {n : Nat} (f : Txn → Txn) (h : n < s.host.sessions.length) :
    (s.modTxn n f).txn n = f (s.txn n) :=
  congrArg Session.txn (State.session_modSession s _ h)

/-- No other device holds a share of entries for this device alone, so none is told to undo it. -/
theorem State.undoShares_of_alone {s : State} {t : Txn} (n : Nat) (alone : s.devicesOf t.entries = []) :
    s.undoShares n t = s := by
  simp [State.undoShares, alone]

/-! ### A commit for this device alone, at its instant (R29, R70, R77) -/

/-- What a commit whose writes were all made leaves before its reply. -/
def State.applied (b made : State) (n : Nat) : State :=
  let mine := b.localEntries (b.txn n).entries
  (b.txn n).entries.foldl (fun (s : State) e => s.noteWrite n (if e.device = 0xFE then s.device else e.device) e.address e.mask)
    (made.modTxn n fun t => { t with state := .applied, record := b.recordOf mine, tokens := b.tokensOf mine, devices := bitmap [b.device] })

/-- A transaction whose writes could not be made, until its commit is concluded. -/
def Txn.failedAt (device status : Nat) (result : Bytes) (t : Txn) : Txn :=
  { t with state := .applied, record := [], tokens := [], failed := some (device, status, result), devices := bitmap [] }

/-- A transaction whose commit failed: OPEN again, with its writes kept. -/
def Txn.reopened (t : Txn) : Txn :=
  { t with state := .opened, armed := [], waiting := [], go := false, late := false, devices := 0, record := [], tokens := [], failed := none, exact := false }

/-- A failed commit of which no share applied elsewhere ends as it began, with the failure's status. -/
theorem State.concludeCommit_failed {s : State} {n d status : Nat} {result : Bytes} (alone : s.devicesOf (s.txn n).entries = [])
    (failed : (s.txn n).failed = some (d, status, result)) (record : (s.txn n).record = []) (tokens : (s.txn n).tokens = []) :
    s.concludeCommit n = (s.modTxn n Txn.reopened).commitEnds n status (le 1 d ++ result) := by
  have back : (s.rollBack (s.txn n).record (s.txn n).tokens).undoShares n (s.txn n) = s := by
    rw [record, tokens]
    exact State.undoShares_of_alone n alone
  simp only [State.concludeCommit, failed, back, alone, List.filter_nil, List.isEmpty_nil, if_true, List.flatMap_nil, List.append_nil]
  rfl

section
variable {b : State} {n : Nat} (alone : b.devicesOf (b.txn n).entries = []) (idle : (b.txn n).waiting = [])
include alone idle

theorem State.applyOwn_made {made : State} (h : b.applyEntries (b.localEntries (b.txn n).entries) = .inr made) :
    b.applyOwn n none = (b.applied made n).concludeCommit n := by
  simp only [State.applyOwn, h, alone, idle, List.filter_nil, List.isEmpty_nil, if_true]
  rfl

theorem State.applyOwn_failed {status : Nat} {result : Bytes}
    (room : n < b.host.sessions.length) (h : b.applyEntries (b.localEntries (b.txn n).entries) = .inl (status, result)) :
    b.applyOwn n none = (b.modTxn n Txn.reopened).commitEnds n status (le 1 b.device ++ result) := by
  have after : (b.modTxn n (Txn.failedAt b.device status result)).txn n = Txn.failedAt b.device status result (b.txn n) :=
    State.txn_modTxn b _ room
  calc b.applyOwn n none = (b.modTxn n (Txn.failedAt b.device status result)).concludeCommit n := by
        simp only [State.applyOwn, h, alone, idle, List.filter_nil, List.isEmpty_nil, if_true]
        rfl
    _ = ((b.modTxn n (Txn.failedAt b.device status result)).modTxn n Txn.reopened).commitEnds n status (le 1 b.device ++ result) :=
        State.concludeCommit_failed (by rw [after]; exact alone) (by rw [after]; rfl) (by rw [after]; rfl) (by rw [after]; rfl)
    _ = (b.modTxn n Txn.reopened).commitEnds n status (le 1 b.device ++ result) := by
        rw [State.modTxn_modTxn]
        rfl

end

/-- COMMIT_APPLY of a session's own commit, when that is what is due first. -/
theorem execCommitApply_own {s : State} {n instant : Nat} (due : s.firstDue n = some (instant, .own)) :
    execCommitApply n none s = .next ((s.reach instant).applyOwn n none) := by
  simp only [execCommitApply, due, State.applyDue]

/-! ### TXN_COMMIT (R70 to R75) -/

theorem txnCommitSpec_code : txnCommitSpec.code = 0x0102 := rfl

section
variable {s : State} {c : Cmd} {p : Bytes} (ready : s.Ready txnCommitSpec c p)
  (opened : ((s.received c).txn c.session).state = .opened)
include ready opened

/-- An immediate commit of writes for this device alone is armed with its instant 100 µs ahead. -/
theorem execTxnCommit_immediate (now : num p 0 1 = 0) (free : (s.received c).conflict c.session = none)
    (alone : (s.received c).devicesOf ((s.received c).txn c.session).entries = []) :
    execTxnCommit c p s = .next (((s.received c).modTxn c.session fun t => { t with
      state := .pending, timed := false, instant := 100000 + (s.received c).netNs, tag := c.tag, armed := [], waiting := [], failed := none
      go := true, late := false, devices := 2 ^ (s.received c).device, record := [], tokens := [], exact := false }).start
        txnCommitSpec c .txnCommit) := by
  simp [execTxnCommit, State.run_ready ready, State.settle, opened, now, free, alone, State.immediateInstant]

/-- A commit that conflicts is discarded and names the conflict. -/
theorem execTxnCommit_conflict {d n a : Nat} (now : num p 0 1 = 0) (found : (s.received c).conflict c.session = some (d, n, a)) :
    execTxnCommit c p s = .next (((s.received c).modTxn c.session fun _ => {}).reply (originOf c 0x0102) Status.txnConflict
      (le 1 d ++ le 1 n ++ le 4 a)) := by
  simp [execTxnCommit, State.run_ready ready, State.settle, opened, now, found, txnCommitSpec_code]

/-- A timed commit whose instant is not later than receipt plus 1 ms. -/
theorem execTxnCommit_expired (timed : num p 0 1 = 1)
    (late : 1000000000 * num p 2 6 + num p 8 4 ≤ 1000000 + (s.received c).netNs) :
    execTxnCommit c p s = .next ((s.received c).reply (originOf c 0x0102) Status.txnExpired []) := by
  have unstarted : (((s.received c).reply (originOf c 0x0102) Status.txnExpired []).session c.session).outstanding
      = (s.session c.session).outstanding :=
    (State.reply_outstanding _ _ _ _ _).trans (State.received_outstanding s c _)
  simp [execTxnCommit, State.run_ready ready, State.settle, opened, timed, late, txnCommitSpec_code, State.hintAfter_of_none_started _ _ unstarted]

end

/-- Settles O16: the three outcomes of TXN_COMMIT, and the two of COMMIT_APPLY. -/
theorem commitLifecycle : Obligations.CommitLifecycle := by
  intro s c p
  refine ⟨fun ready opened => ⟨?_, ?_, ?_⟩, fun n instant _ due alone idle _ room => ⟨?_, ?_⟩⟩
  · exact execTxnCommit_immediate ready opened
  · exact execTxnCommit_expired ready opened
  · exact fun now _ _ _ => execTxnCommit_conflict ready opened now
  · intro made h
    exact (execCommitApply_own due).trans (congrArg _ (State.applyOwn_made alone idle h))
  · intro status result h
    exact (execCommitApply_own due).trans (congrArg _ (State.applyOwn_failed alone idle room h))

end Sys2Proof.Machine
end

section
/-! SUPPORT. What ends a session's work before its commands do: timeout hints, idle expiry, lost events and crossings. -/

namespace Sys2Proof.Machine

/-- The broadcast that waits for its answers under a tag, if there is one, ended with the hint that has elapsed. -/
def State.expireBroadcast (s : State) (n tag : Nat) : State :=
  match (s.session n).outstanding.find? fun x => x.origin.tag == tag && x.work.isBroadcast with
  | some b => s.expire b
  | none => s

/-- R59: the hint of a session's one outstanding command, an attestation, elapses and ends it. -/
theorem execCommandTimeout_attest {s : State} {n : Nat} {o : Outstanding} (only : (s.session n).outstanding = [o])
    (work : o.work = .attest) (kept : ((s.reachElapsed o.deadline).session n).outstanding = [o]) :
    execCommandTimeout n o.origin.tag s = .next (((s.reachElapsed o.deadline).expire o).expireBroadcast n o.origin.tag) := by
  have tagged : [o].filter (fun x => x.origin.tag == o.origin.tag) = [o] := by simp
  have single : [o].filter (fun x => !x.work.isBroadcast) = [o] := by simp [work, Work.isBroadcast]
  have held : [o].contains o = true := by simp
  simp only [execCommandTimeout, only, tagged, single, List.foldl_cons, List.foldl_nil, kept, held, if_true]
  rfl

/-- R52: an in-band session whose idle limit is not 0 closes with reason 3. -/
theorem execSessionIdleExpiry_inband {s : State} {n vlan port : Nat} {mac : Bytes}
    (ep : (s.session n).ep = some (.inband mac vlan port)) (limit : s.fld Reg.sysSessionIdle 15 0 ≠ 0) :
    execSessionIdleExpiry n s =
      .next ((s.reachElapsed ((s.session n).lastCommand + 1000000000 * s.fld Reg.sysSessionIdle 15 0)).endSession n 3) := by
  simp only [execSessionIdleExpiry, ep, if_neg limit]

/-- R64: a session that has lost events and has room again is told how many, and from which number on. -/
theorem execEventsLost_room {s : State} {n : Nat} (lost : (s.session n).lost ≠ 0) (room : (s.session n).events.length < 240)
    (opened : s.isOpen n = true) :
    execEventsLost n s = .next ((s.modSession n fun e => { e with lost := 0 }).raiseTo n 0x0001 (Config.eventSeverity 0x0001 % 3) Status.ok
      (s.modSession n fun e => { e with lost := 0 }).device false (le 4 (s.session n).lost ++ le 4 (s.session n).firstLost)) := by
  have tells : ¬ ((s.session n).lost = 0 ∨ 240 ≤ (s.session n).events.length ∨ !s.isOpen n) := by
    simp [lost, room, opened]
  simp only [execEventsLost, if_neg tells]

/-- Settles O10: a hint, an idle limit, lost events, and a crossing with and without a word resent. -/
theorem sessionLimits : Obligations.SessionLimits := by
  intro s n tag source dest
  refine ⟨?_, fun _ _ _ => execSessionIdleExpiry_inband, execEventsLost_room, rfl, fun _ => rfl⟩
  rintro o only rfl work kept
  exact ⟨_, execCommandTimeout_attest only work kept, rfl⟩

end Sys2Proof.Machine
end

section
/-! SUPPORT. An access to registers, and the reads that use it. -/

namespace Sys2Proof.Machine

/-- R15: an address in an island that is off refuses the access. -/
theorem State.accessing_unpowered {s : State} {l : List Nat} (body : State → Verdict) (h : l.any s.unpowered = true) :
    s.accessing l body = .fail Status.notPermitted [] := by
  simp [State.accessing, h]

/-- R15: an access with every island powered and, once the gates it needs are open, clocked, is made. -/
theorem State.accessing_awake {s : State} {l : List Nat} (body : State → Verdict) (powered : l.any s.unpowered = false)
    (awake : l.find? (l.foldl (fun (s : State) a => s.openGate a) s).deaf = none) :
    s.accessing l body = body (l.foldl (fun (s : State) a => s.openGate a) s) := by
  simp [State.accessing, powered, awake]

theorem execRegRead_awake {s : State} {c : Cmd} {p : Bytes} (ready : s.Ready regReadSpec c p)
    (powered : (s.received c).unpowered (num p 0 4) = false)
    (awake : ((s.received c).openGate (num p 0 4)).deaf (num p 0 4) = false) :
    execRegRead c p s = .next ((((s.received c).openGate (num p 0 4)).readWord c.session (num p 0 4)).2.reply (originOf c 0x0200)
      Status.ok (le 4 (((s.received c).openGate (num p 0 4)).readWord c.session (num p 0 4)).1.toNat)) := by
  rw [execRegRead, State.run_ready ready, State.accessing_awake _ (by simp [powered]) (by simp [awake])]
  rfl

theorem execRegRead_unpowered {s : State} {c : Cmd} {p : Bytes} (ready : s.Ready regReadSpec c p)
    (off : (s.received c).unpowered (num p 0 4) = true) :
    execRegRead c p s = .next ((s.received c).refuse (originOf c 0x0200) Status.notPermitted []) := by
  rw [execRegRead, State.run_ready ready, State.accessing_unpowered _ (by simp [off])]
  rfl

theorem execRegReadBlock_awake {s : State} {c : Cmd} {p : Bytes} (ready : s.Ready regReadBlockSpec c p)
    (powered : (blockAddresses p).any (s.received c).unpowered = false)
    (awake : (blockAddresses p).find? ((blockAddresses p).foldl (fun (s : State) a => s.openGate a) (s.received c)).deaf = none) :
    execRegReadBlock c p s = .next (
      (((blockAddresses p).foldl (fun (s : State) a => s.openGate a) (s.received c)).readWords c.session (num p 0 4) (num p 4 2)).2.reply
        (originOf c 0x0202) Status.ok
        (((blockAddresses p).foldl (fun (s : State) a => s.openGate a) (s.received c)).readWords c.session (num p 0 4) (num p 4 2)).1) := by
  rw [execRegReadBlock, State.run_ready ready, State.accessing_awake _ powered awake]
  rfl

/-- R16: reading a latching word takes its requester's snapshot. -/
theorem execLatchingWordRead_latches {s : State} (k : Nat) {a i j : Nat} {row : RegRow} (found : findReg a = some (row, i, j))
    (latching : row.access = .rsn) (powered : s.unpowered a = false) (awake : s.deaf a = false) :
    execLatchingWordRead k a s = .next ((s.ageCalendar k).latch k row.base a) := by
  simp [execLatchingWordRead, State.readWord, found, latching, powered, awake]

/-- Settles O11: one register, a register of an island that is off, a block, and a latching word. -/
theorem registerReads : Obligations.RegisterReads := by
  intro s c p
  exact ⟨execRegRead_awake, execRegRead_unpowered, execRegReadBlock_awake,
    fun k _ _ _ _ => execLatchingWordRead_latches k⟩

end Sys2Proof.Machine
end

section
/-! SUPPORT. What waiting, a radio's record and a bit of a register keep and change, as the radio's proofs need it. -/

namespace Sys2Proof.Machine

/-! ### Time -/

@[simp] theorem State.reachElapsed_elapsed (s : State) (t : Nat) : (s.reachElapsed t).elapsed = max s.elapsed t :=
  (State.reachElapsed_frame s t).1

@[simp] theorem State.reachElapsed_reg (s : State) (t a : Nat) : (s.reachElapsed t).reg a = s.reg a := by
  obtain ⟨-, regs, -⟩ := State.reachElapsed_frame s t
  simp only [State.reg, regs]

@[simp] theorem State.reachElapsed_radios (s : State) (t : Nat) : (s.reachElapsed t).radios = s.radios := by
  unfold State.reachElapsed State.passNs
  split
  · split <;> rfl
  · rfl

/-! ### Radio records -/

theorem State.radio_modRadio (s : State) {n : Nat} (f : Radio → Radio) (h : n < s.radios.length) :
    (s.modRadio n f).radio n = f (s.radio n) := by
  simp [State.modRadio, State.radio, setAt, h]

theorem State.length_modSynth_radios (s : State) (n k : Nat) (f : Synth → Synth) :
    (s.modSynth n k f).radios.length = s.radios.length := by
  simp [State.modSynth, State.modRadio, setAt]

/-- What a field of a radio record holds does not depend on a change that keeps that field, of whichever radio. -/
theorem State.radio_modRadio_field {β : Type} (field : Radio → β) (s : State) (n m : Nat) {f : Radio → Radio}
    (keeps : ∀ r, field (f r) = field r) : field ((s.modRadio n f).radio m) = field (s.radio m) := by
  simp only [State.modRadio, State.radio, setAt, List.getD_eq_getElem?_getD, List.getElem?_modify]
  cases s.radios[m]? with
  | none => rfl
  | some r => by_cases h : n = m <;> simp [h, keeps]

/-- A change of an element depends only on what it makes of that element. -/
theorem setAt_congr {α : Type} {l : List α} {i : Nat} {f g : α → α} (d : α) (h : f (l.getD i d) = g (l.getD i d)) :
    setAt l i f = setAt l i g := by
  refine List.ext_getElem? fun j => ?_
  simp only [setAt, List.getElem?_modify]
  by_cases e : i = j
  · subst e
    cases at_i : l[i]? with
    | none => rfl
    | some a => simp_all [List.getD_eq_getElem?_getD]
  · simp [e]

theorem State.modRadio_congr {s : State} {n : Nat} {f g : Radio → Radio} (h : f (s.radio n) = g (s.radio n)) :
    s.modRadio n f = s.modRadio n g :=
  congrArg (fun l => { s with radios := l }) (setAt_congr ({} : Radio) h)

theorem State.modSynth_congr {s : State} {n k : Nat} {f g : Synth → Synth} (h : f (s.synth n k) = g (s.synth n k)) :
    s.modSynth n k f = s.modSynth n k g :=
  State.modRadio_congr (congrArg (fun l => { s.radio n with synths := l }) (setAt_congr ({} : Synth) h))

/-- States with one set of radios have one set of synthesisers. -/
theorem State.synth_of_radios {s t : State} (h : t.radios = s.radios) (n k : Nat) : t.synth n k = s.synth n k := by
  simp only [State.synth, State.radio, h]

@[simp] theorem State.setScore_radios (s : State) (kind unit : Nat) (x : Score) : (s.setScore kind unit x).radios = s.radios := by
  unfold State.setScore
  dsimp only
  split <;> rfl

@[simp] theorem State.scoreError_radios (s : State) (kind unit : Nat) : (s.scoreError kind unit).2.radios = s.radios := by
  unfold State.scoreError
  split
  · rfl
  · exact State.setScore_radios _ _ _ _

/-! ### Bits of a register -/

/-- A number with a field replaced, as what lies above the field, the field and what lies below it. -/
theorem withBits_eq (v hi lo x : Nat) : withBits v hi lo x
    = 2 ^ lo * (2 ^ (hi + 1 - lo) * (v / 2 ^ lo / 2 ^ (hi + 1 - lo)) + x % 2 ^ (hi + 1 - lo)) + v % 2 ^ lo := by
  have parts : v = 2 ^ lo * (2 ^ (hi + 1 - lo) * (v / 2 ^ lo / 2 ^ (hi + 1 - lo))) + v % 2 ^ lo + bits v hi lo * 2 ^ lo :=
    calc v = 2 ^ lo * (v / 2 ^ lo) + v % 2 ^ lo := (Nat.div_add_mod v _).symm
      _ = 2 ^ lo * (2 ^ (hi + 1 - lo) * (v / 2 ^ lo / 2 ^ (hi + 1 - lo)) + bits v hi lo) + v % 2 ^ lo := by
          rw [bits, Nat.div_add_mod (v / 2 ^ lo)]
      _ = _ := by rw [Nat.mul_add, Nat.mul_comm (bits v hi lo), Nat.add_right_comm]
  rw [withBits, Nat.sub_eq_of_eq_add parts, Nat.mul_add, Nat.mul_comm (x % _), Nat.add_right_comm]

theorem testBit_withBits (v hi lo x i : Nat) :
    (withBits v hi lo x).testBit i = if lo ≤ i ∧ i ≤ hi then x.testBit (i - lo) else v.testBit i := by
  rw [withBits_eq, Nat.testBit_two_pow_mul_add _ (Nat.mod_lt _ (Nat.two_pow_pos _)),
    Nat.testBit_two_pow_mul_add _ (Nat.mod_lt _ (Nat.two_pow_pos _))]
  by_cases below : i < lo
  · simp [below, Nat.testBit_mod_two_pow, Nat.not_le.mpr below]
  · by_cases inside : i ≤ hi
    · have width : i - lo < hi + 1 - lo := by omega
      simp [below, inside, width, Nat.testBit_mod_two_pow, Nat.not_lt.mp below]
    · have width : ¬ i - lo < hi + 1 - lo := by omega
      have index : i - lo - (hi + 1 - lo) + (hi + 1 - lo) + lo = i := by omega
      simp [below, inside, width, Nat.testBit_div_two_pow, index]

theorem State.flag_eq_testBit (s : State) (a i : Nat) : s.flag a i = (s.reg a).toNat.testBit i := by
  simp [State.flag, State.fld, field, bits, Nat.testBit_eq_decide_div_mod_eq]

/-- A field write replaces its own bits of its register and keeps the others. -/
theorem State.flag_setFld (s : State) (a hi lo x : Nat) {i : Nat} (h : i < 32) :
    (s.setFld a hi lo x).flag a i = if lo ≤ i ∧ i ≤ hi then x.testBit (i - lo) else s.flag a i := by
  simp only [State.flag_eq_testBit, State.setFld, State.reg_setReg, withField, BitVec.toNat_ofNat, Nat.testBit_mod_two_pow, h,
    decide_true, Bool.true_and, testBit_withBits]

@[simp] theorem State.flag_setFlag (s : State) (a : Nat) (b : Bool) {i : Nat} (h : i < 32) : (s.setFlag a i b).flag a i = b := by
  rw [State.setFlag, State.flag_setFld _ _ _ _ _ h]
  cases b <;> simp [bitOf]

theorem State.flag_setFlag_other (s : State) (a : Nat) (b : Bool) {i j : Nat} (h : i < 32) (other : i ≠ j) :
    (s.setFlag a j b).flag a i = s.flag a i := by
  rw [State.setFlag, State.flag_setFld _ _ _ _ _ h, if_neg (by omega)]

theorem signed_unsigned_half {v : Int} (lo : -32768 ≤ v) (hi : v ≤ 32767) : signed 16 (unsigned 16 v) = v := by
  unfold signed unsigned
  by_cases negative : v < 0
  · rw [if_neg (by omega)]
    omega
  · rw [if_pos (by omega)]
    omega

end Sys2Proof.Machine
end

section
/-! SUPPORT. A radio's transitions, the locks of its synthesisers, and its calibrations. -/

namespace Sys2Proof.Machine

/-! ### State transitions (R92) -/

section
variable {s : State} {n : Nat} (serving : s.radioOut n = false) (kept : s.trimmed n = false) (on : s.on (Island.trx n) = true)
include serving kept on

theorem execStateTransitionDone_from_off (off : s.trx n = 0) (asked : s.trxReq n ≠ 0) :
    execStateTransitionDone n s = .next ((s.reachElapsed (2000000 + (s.radio n).since)).setTrx n 1) := by
  simp [execStateTransitionDone, serving, kept, on, off, asked, Nat.add_comm]

theorem execStateTransitionDone_idle_to_receive (idle : s.trx n = 2) (tuned : (s.radio n).retuneFor = none)
    (asked : s.trxReq n = 5 ∨ s.trxReq n = 6) :
    execStateTransitionDone n s = .next ((s.reachElapsed (20000 + (s.radio n).since)).setTrx n (s.trxReq n)) := by
  rcases asked with q | q <;> simp [execStateTransitionDone, serving, kept, on, idle, tuned, q, Nat.add_comm]

end

/-! ### Locks (R86 to R88) -/

/-- The device at the end of a lock, the synthesiser locked on its target. -/
def State.locked (s : State) (n k f : Nat) : State :=
  (s.reachElapsed ((s.synth n k).began + (s.synth n k).lockTime)).modSynth n k fun _ => { present := some f }

section
variable {s : State} {n f : Nat} {b : Bool} (locks : (s.synth n (bitOf b)).target = some f)
  (healthy : s.synthRetired n (bitOf b) = false)
include locks healthy

theorem execSynthLockDone_hop (off_air : bitOf b ≠ (s.locked n (bitOf b) f).onAir n) :
    execSynthLockDone n b s = .next ((s.locked n (bitOf b) f).setFlag (Reg.trxState n) 9
      ((s.locked n (bitOf b) f).hopping n && f == ((s.locked n (bitOf b) f).reg (Reg.trxHopFreq n)).toNat)) := by
  unfold State.locked at *
  simp only [execSynthLockDone, locks, healthy, if_neg off_air, Bool.false_eq_true, if_false]

theorem execSynthLockDone_on_air (on_air : bitOf b = (s.locked n (bitOf b) f).onAir n) (synth : (s.locked n (bitOf b) f).trx n = 3) :
    execSynthLockDone n b s = .next (((s.locked n (bitOf b) f).leaveSynth n).synthServing n) := by
  unfold State.locked at *
  simp only [execSynthLockDone, locks, healthy, if_pos on_air, if_pos synth, Bool.false_eq_true, if_false]

theorem execSynthLockTimeout_retries {t : State} (scored : (s.reachElapsed ((s.synth n (bitOf b)).began
      + 2 * (s.synth n (bitOf b)).lockTime)).scoreError 1 (2 * n + bitOf b) = (false, t))
    (few : (s.synth n (bitOf b)).retries < 3) : execSynthLockTimeout n b s = .next
      ((t.modSynth n (bitOf b) fun y => { y with began := t.elapsed, retries := (s.synth n (bitOf b)).retries + 1 }).bump
        (Reg.trxCnt n 9)) := by
  have radios : t.radios = s.radios := by
    have kept := State.scoreError_radios (s.reachElapsed ((s.synth n (bitOf b)).began + 2 * (s.synth n (bitOf b)).lockTime)) 1
      (2 * n + bitOf b)
    rwa [scored, State.reachElapsed_radios] at kept
  have same := State.synth_of_radios radios n (bitOf b)
  have retry : (t.modSynth n (bitOf b) fun y => { y with began := t.elapsed, retries := (s.synth n (bitOf b)).retries + 1 })
      = t.modSynth n (bitOf b) fun y => { y with began := t.elapsed, retries := y.retries + 1 } :=
    State.modSynth_congr (by rw [same])
  have live : ¬ ((s.synth n (bitOf b)).target.isNone = true ∨ s.synthRetired n (bitOf b) = true) := by simp [locks, healthy]
  have again : ¬ (false = true ∨ 3 ≤ (s.synth n (bitOf b)).retries) := by
    rintro (past | many)
    · cases past
    · omega
  rw [retry]
  simp only [execSynthLockTimeout, if_neg live, scored, if_neg again]

end

theorem lockNs_hop (p : Option Nat) (t : Nat) : lockNs true p t = 4000 := rfl

theorem lockNs_first (t : Nat) : lockNs false none t = 160000 := rfl

theorem lockNs_small_step {p t : Nat} (range : tuningRange p = tuningRange t) (small : max p t - min p t ≤ 12800000) :
    lockNs false (some p) t = 60000 := by
  simp [lockNs, range, small]

theorem lockNs_large_step {p t : Nat} (range : tuningRange p = tuningRange t) (large : 12800000 < max p t - min p t) :
    lockNs false (some p) t = 110000 := by
  simp [lockNs, range, Nat.not_le.mpr large]

theorem lockNs_other_range {p t : Nat} (range : tuningRange p ≠ tuningRange t) : lockNs false (some p) t = 160000 := by
  simp [lockNs, range]

/-! ### What raises a calibration, and what starts it (R96, R97) -/

section
variable {s : State} {n : Nat}

theorem execCalTempTrigger_of_range {temp : Int} (lo : -32768 ≤ temp) (hi : temp ≤ 32767) : execCalTempTrigger n temp s = .next
    (if s.fld (Reg.trxCalCtl n) 7 0 * 16 ≤ (temp - (s.radio n).calTemp).natAbs
      then (s.setFld (Reg.trxTemp n) 15 0 (unsigned 16 temp)).raiseCal n else s.setFld (Reg.trxTemp n) 15 0 (unsigned 16 temp)) := by
  have ctl : (s.setFld (Reg.trxTemp n) 15 0 (unsigned 16 temp)).fld (Reg.trxCalCtl n) 7 0 = s.fld (Reg.trxCalCtl n) 7 0 :=
    State.fld_setReg_ne _ _ _ _ (by unfold Reg.trxTemp Reg.trxCalCtl; omega)
  simp only [execCalTempTrigger, ctl, signed_unsigned_half lo hi]
  rfl

theorem execCalIntervalExpiry_raises (interval : s.fld (Reg.trxCalCtl n) 23 8 ≠ 0) (valid : s.flag (Reg.trxCalStat n) 0 = true) :
    execCalIntervalExpiry n s =
      .next ((s.reachElapsed ((s.radio n).calAt + 1000000000 * s.fld (Reg.trxCalCtl n) 23 8)).raiseCal n) := by
  simp [execCalIntervalExpiry, interval, valid]

/-- R97: a calibration does not start where a stitch lies ahead. -/
theorem execCalGapStart_stitch (stitch : s.stitchWithin n s.netNs (1500000 + (s.netNs : Int)) = true) :
    execCalGapStart n s = .next s := by
  simp [execCalGapStart, stitch]

section
variable (pending : s.flag (Reg.trxCalStat n) 2 = true)
include pending

theorem execCalGapStart_gap (ready : s.calReady n = true) (gap : s.stitchWithin n s.netNs (1500000 + (s.netNs : Int)) = false) :
    execCalGapStart n s = .next (s.startCal n) := by
  simp [execCalGapStart, pending, ready, gap]

theorem execCalDeferExpiry_starts {t : Nat} (raised : (s.radio n).calRaised = some t)
    (ready : (s.reachElapsed (t + 1000000000 * s.fld (Reg.trxCalCtl n) 31 24)).calReady n = true) :
    execCalDeferExpiry n s = .next ((s.reachElapsed (t + 1000000000 * s.fld (Reg.trxCalCtl n) 31 24)).startCal n) := by
  simp [execCalDeferExpiry, raised, pending, ready]

end

end

/-! ### The end of a calibration (R96) -/

theorem State.startHop_reg (s : State) (n : Nat) {a : Nat} (h : a ≠ Reg.trxState n) : (s.startHop n).reg a = s.reg a := by
  unfold State.startHop
  dsimp only
  split <;> exact State.reg_setFlag_ne s _ _ h

@[simp] theorem State.startHop_elapsed (s : State) (n : Nat) : (s.startHop n).elapsed = s.elapsed := by
  unfold State.startHop
  dsimp only
  split <;> rfl

@[simp] theorem State.startHop_calTemp (s : State) (n m : Nat) : ((s.startHop n).radio m).calTemp = (s.radio m).calTemp := by
  unfold State.startHop
  dsimp only
  split <;> exact State.radio_modRadio_field Radio.calTemp _ _ _ fun _ => rfl

/-- What a calibration that ends writes in the registers: valid and no longer active, its temperature, and its count. -/
def State.calCounted (s : State) (n : Nat) : State :=
  ((((s.setFlag (Reg.trxCalStat n) 0 true).setFlag (Reg.trxCalStat n) 1 false).setFld (Reg.trxCalStat n) 15 8
    (unsigned 8 (roundDiv (s.sfld (Reg.trxTemp n) 15 0) 16))).bumpFld (Reg.trxCalStat n) 31 16).bump (Reg.trxCnt n 8)

/-- The on-air synthesiser on TRXn_SYN_FREQ with it. -/
def State.calOnAir (s : State) (n : Nat) : State :=
  (s.calCounted n).modSynth n ((s.calCounted n).onAir n) fun _ =>
    { present := if (s.calCounted n).synFreq n = 0 then none else some ((s.calCounted n).synFreq n) }

/-- The temperature and the instant of the calibration with it. -/
def State.calTuned (s : State) (n : Nat) : State :=
  (s.calOnAir n).modRadio n fun r => { r with calTemp := s.sfld (Reg.trxTemp n) 15 0, calAt := (s.calOnAir n).elapsed }

/-- A radio at the end of its calibration, before it goes on to its next state: the hop synthesiser begins its lock. -/
def State.calMade (s : State) (n : Nat) : State :=
  if (s.calTuned n).hopping n then (s.calTuned n).startHop n else s.calTuned n

/-- A radio goes on from its calibration. -/
def State.calLeft (s : State) (n : Nat) : State :=
  ((if (s.radio n).fromSleep then (s.modRadio n fun r => { r with fromSleep := false }).setTrx n 2
    else s.settleTrx n (s.restState n)).calEnded n none).synthServing n

theorem State.endCal_eq (s : State) (n : Nat) : s.endCal n = (s.calMade n).calLeft n := rfl

theorem State.calCounted_elapsed (s : State) (n : Nat) : (s.calCounted n).elapsed = s.elapsed := by
  rw [State.calCounted, State.bump_elapsed, State.bumpFld_elapsed, State.setFld_elapsed, State.setFlag_elapsed, State.setFlag_elapsed]

theorem State.calCounted_radios (s : State) (n : Nat) : (s.calCounted n).radios = s.radios := by
  rw [State.calCounted, State.bump_radios, State.bumpFld_radios, State.setFld_radios, State.setFlag_radios, State.setFlag_radios]

theorem State.calCounted_stat (s : State) (n : Nat) :
    (s.calCounted n).flag (Reg.trxCalStat n) 0 = true ∧ (s.calCounted n).flag (Reg.trxCalStat n) 1 = false := by
  have counter : Reg.trxCalStat n ≠ Reg.trxCnt n 8 := by unfold Reg.trxCalStat Reg.trxCnt; omega
  have low (t : State) (x y : Nat) {i : Nat} (h : i < 8) :
      (((t.setFld (Reg.trxCalStat n) 15 8 x).bumpFld (Reg.trxCalStat n) 31 16 y).bump (Reg.trxCnt n 8)).flag (Reg.trxCalStat n) i
        = t.flag (Reg.trxCalStat n) i := by
    rw [State.bump, State.bumpFld, State.setFld, State.flag_setReg_ne _ _ _ counter, State.bumpFld,
      State.flag_setFld _ _ _ _ _ (by omega), if_neg (by omega), State.flag_setFld _ _ _ _ _ (by omega), if_neg (by omega)]
  unfold State.calCounted
  rw [low _ _ _ (by decide), low _ _ _ (by decide), State.flag_setFlag_other _ _ _ (by decide) (by decide)]
  exact ⟨State.flag_setFlag _ _ _ (by decide), State.flag_setFlag _ _ _ (by decide)⟩

theorem State.calTuned_reg (s : State) (n a : Nat) : (s.calTuned n).reg a = (s.calCounted n).reg a := by
  rw [State.calTuned, State.modRadio_reg, State.calOnAir, State.modSynth_reg]

theorem State.calTuned_elapsed (s : State) (n : Nat) : (s.calTuned n).elapsed = s.elapsed := by
  rw [State.calTuned, State.modRadio_elapsed, State.calOnAir, State.modSynth_elapsed, State.calCounted_elapsed]

theorem State.calMade_reg (s : State) (n : Nat) {a : Nat} (h : a ≠ Reg.trxState n) : (s.calMade n).reg a = (s.calCounted n).reg a := by
  unfold State.calMade
  split
  · rw [State.startHop_reg _ _ h, State.calTuned_reg]
  · exact State.calTuned_reg _ _ _

theorem State.calMade_elapsed (s : State) (n : Nat) : (s.calMade n).elapsed = s.elapsed := by
  unfold State.calMade
  split
  · rw [State.startHop_elapsed, State.calTuned_elapsed]
  · exact State.calTuned_elapsed _ _

theorem State.calMade_calTemp {s : State} {n : Nat} (h : n < s.radios.length) :
    ((s.calMade n).radio n).calTemp = s.sfld (Reg.trxTemp n) 15 0 := by
  have tuned : ((s.calTuned n).radio n).calTemp = s.sfld (Reg.trxTemp n) 15 0 := by
    have room : n < (s.calOnAir n).radios.length := by
      rwa [State.calOnAir, State.length_modSynth_radios, State.calCounted_radios]
    rw [State.calTuned, State.radio_modRadio _ _ room]
  unfold State.calMade
  split
  · rw [State.startHop_calTemp, tuned]
  · exact tuned

section
variable {s : State} {n : Nat} (calibrates : s.trx n = 4)
include calibrates

theorem execCalDone_ends : execCalDone n none s = .next (((s.reachElapsed (1200000 + (s.radio n).since)).calMade n).calLeft n) := by
  simp only [execCalDone, calibrates, ne_eq, not_true_eq_false, if_false, State.endCal_eq]

/-- Table 21-1: a synthesiser past its threshold is retired in place of the calibration's end. -/
theorem execCalDone_retires {k : Nat} {t : State} (synth : k < 2)
    (past : (s.reachElapsed (1200000 + (s.radio n).since)).scoreError 1 (2 * n + k) = (true, t)) :
    execCalDone n (some k) s = .next (t.retireSynth (2 * n + k) 0) := by
  simp [execCalDone, calibrates, Nat.mod_eq_of_lt synth, past]

end

/-- Settles O19: transitions, locks and the end of a wait for one, lock times, the triggers of a calibration, its start, and
its end. -/
theorem radioStateChanges : Obligations.RadioStateChanges := by
  intro s n
  refine ⟨fun serving kept on => ⟨execStateTransitionDone_from_off serving kept on,
      execStateTransitionDone_idle_to_receive serving kept on⟩,
    fun b f locks healthy => ⟨execSynthLockDone_hop locks healthy, execSynthLockDone_on_air locks healthy,
      fun _ => execSynthLockTimeout_retries locks healthy⟩,
    fun p t _ _ => ⟨lockNs_hop _ t, lockNs_first t, lockNs_small_step, lockNs_large_step, lockNs_other_range⟩,
    fun temp lo hi => ⟨fun near => ?_, fun moved => ?_⟩, execCalIntervalExpiry_raises,
    fun pending ready => ⟨execCalGapStart_gap pending ready, fun stitch => execCalGapStart_stitch stitch⟩,
    fun _ raised pending => execCalDeferExpiry_starts pending raised, fun calibrates room => ?_,
    fun k _ calibrates => execCalDone_retires calibrates⟩
  · exact (execCalTempTrigger_of_range lo hi).trans (congrArg _ (if_neg (Nat.not_le.mpr near)))
  · exact (execCalTempTrigger_of_range lo hi).trans (congrArg _ (if_pos moved))
  · have stat : Reg.trxCalStat n ≠ Reg.trxState n := by unfold Reg.trxCalStat Reg.trxState; omega
    obtain ⟨valid, active⟩ := State.calCounted_stat (s.reachElapsed (1200000 + (s.radio n).since)) n
    refine ⟨(s.reachElapsed (1200000 + (s.radio n).since)).calMade n, _, execCalDone_ends calibrates, rfl, ?_, ?_, ?_, ?_⟩
    · rw [State.calMade_elapsed, State.reachElapsed_elapsed]
    · rwa [State.flag, State.fld, State.calMade_reg _ _ stat]
    · rwa [State.flag, State.fld, State.calMade_reg _ _ stat]
    · rw [State.calMade_calTemp (by simpa using room), State.sfld, State.reachElapsed_reg, State.sfld]

end Sys2Proof.Machine
end

section
/-! SUPPORT. A transmission under the coexistence interface, from its request to its end. -/

namespace Sys2Proof.Machine

/-- The device at the sample of a transmission's grant, the sample shown (R104). What a wait begins from is the elapsed time
of this state, so the lemmas about it keep `elapsed` of the flag's write as it stands. -/
def State.grantSampled (s : State) (n : Nat) (t : Transmission) (grant : Bool) : State :=
  (s.reachElapsed (t.first - 8000)).setFlag (Reg.trxCoexStat n) 1 grant

theorem State.rampUp_fits {s : State} {n : Nat} {t : Transmission} (first : Nat) (fits : s.dutyFits t.band (16000 + t.airNs) = true) :
    s.rampUp n t first
      = (s.modRadio n fun x => { x with tx := some { t with phase := .air, first := first } }).bump (Reg.trxCnt n 0) := by
  simp only [State.rampUp, if_pos fits]

theorem State.rampUp_over_duty {s : State} {n : Nat} {t : Transmission} (first : Nat)
    (excess : s.dutyFits t.band (16000 + t.airNs) = false) : s.rampUp n t first = (s.dutyRefused n t.frame).leaveTx n := by
  simp [State.rampUp, excess]

section
variable {s : State} {n : Nat} {t : Transmission} (sends : (s.radio n).tx = some t)
include sends

section
variable (coex : field (s.reg (Reg.trxCoexCtl n)) 0 0 = 1) (turns : t.phase = .turnaround)
include coex turns

theorem execCoexReqRaise_turnaround : execCoexReqRaise n s = .next
    (((s.reachElapsed (max t.decided (t.first - field (s.reg (Reg.trxCoexCtl n)) 15 8 * 1000))).setFlag (Reg.trxCoexStat n) 0 true).setFlag
      (Reg.trxCoexStat n) 2 (bit (field (s.reg (Reg.trxCoexCtl n)) 7 4) t.cls)) := by
  simp [execCoexReqRaise, sends, coex, turns]

variable (ready : t.ready = true)
include ready

theorem execCoexGrantSample_granted : execCoexGrantSample n true s = .next ((s.grantSampled n t true).rampUp n t t.first) := by
  simp [execCoexGrantSample, State.grantSampled, sends, coex, turns, ready]

/-- R104: an acknowledgement does not wait for its grant. -/
theorem execCoexGrantSample_ack (ack : t.cls = 0) : execCoexGrantSample n false s = .next
    (((s.grantSampled n t false).refuseShot n t.frame Status.notPermitted true).leaveTx n) := by
  simp [execCoexGrantSample, State.grantSampled, sends, coex, turns, ready, ack, -State.setFlag_elapsed]

/-- R104: any other frame waits grant_wait from the sample, and not past its late limit less 8 µs. -/
theorem execCoexGrantSample_waits (other : t.cls ≠ 0) (unlimited : t.latest = none) : execCoexGrantSample n false s = .next
    ((s.grantSampled n t false).modRadio n fun x => { x with tx := some { t with
      phase := .granting
      grantBy := (s.grantSampled n t false).elapsed + field (s.reg (Reg.trxCoexCtl n)) 31 16 * 1000 } }) := by
  simp [execCoexGrantSample, State.grantSampled, sends, coex, turns, ready, other, unlimited, -State.setFlag_elapsed]

theorem execCoexGrantSample_waits_to_limit {l : Nat} (other : t.cls ≠ 0) (limit : t.latest = some l) :
    execCoexGrantSample n false s = .next
      ((s.grantSampled n t false).modRadio n fun x => { x with tx := some { t with
        phase := .granting
        grantBy := min ((s.grantSampled n t false).elapsed + field (s.reg (Reg.trxCoexCtl n)) 31 16 * 1000) (l - 8000) } }) := by
  simp [execCoexGrantSample, State.grantSampled, sends, coex, turns, ready, other, limit, -State.setFlag_elapsed]

end

/-- A grant that comes after the wait has ended changes nothing. -/
theorem execCoexGrantArrival_late (late : t.grantBy < s.elapsed) : execCoexGrantArrival n s = .next s := by
  simp [execCoexGrantArrival, sends, late]

section
variable (waits : t.phase = .granting)
include waits

theorem execCoexGrantArrival_in_time (early : s.elapsed ≤ t.grantBy) :
    execCoexGrantArrival n s = .next ((s.setFlag (Reg.trxCoexStat n) 1 true).rampUp n t (s.elapsed + 8000)) := by
  simp [execCoexGrantArrival, sends, waits, Nat.not_lt.mpr early]

theorem execCoexGrantWaitExpiry_fails (unlimited : t.latest = none) : execCoexGrantWaitExpiry n s = .next
    ((((s.reachElapsed t.grantBy).bump (Reg.trxCnt n 2)).failShot n t.frame).leaveTx n) := by
  simp [execCoexGrantWaitExpiry, sends, waits, unlimited]

theorem execCoexGrantWaitExpiry_misses_slot (limited : t.latest ≠ none) :
    execCoexGrantWaitExpiry n s = .next (((s.reachElapsed t.grantBy).slotMissed n t.frame).leaveTx n) := by
  obtain ⟨l, limit⟩ := Option.ne_none_iff_exists'.mp limited
  simp [execCoexGrantWaitExpiry, sends, waits, limit]

end

section
variable (air : t.phase = .air)
include air

/-- R105: a frame on the air ends 2 µs after its grant is withdrawn, and is charged up to there. -/
theorem execCoexGrantWithdrawn_on_air {radiated : Nat} (coex : s.flag (Reg.trxCoexCtl n) 0 = true)
    (during : radiated * 1000 ≤ t.airNs) : execCoexGrantWithdrawn n radiated s = .next
      ((((((s.reachElapsed (t.first + radiated * 1000 + 2000)).setReg (Reg.trxCoexStat n) 0).chargeDuty t.band (t.first - 8000)
        (t.first + radiated * 1000 + 2000)).bump (Reg.trxCnt n 1)).modRadio n fun x => { x with
          tx := some { t with phase := .tail }, lastEnd := some (t.first + radiated * 1000 + 2000) }).failShot n t.frame) := by
  simp [execCoexGrantWithdrawn, sends, coex, air, during]

theorem execTxFrameEnd_on_air : execTxFrameEnd n s = .next (s.frameEnds n t) := by
  simp [execTxFrameEnd, sends, State.willEnd, air]

end

end

/-- R93: a scheduled frame held back misses its slot at its late limit. -/
theorem execLateLimitExpiry_misses_slot {s : State} {n x l : Nat} {w : Window} {f : ClientFrame}
    (turn : s.clientTurn n x = some (w, f)) (limit : (s.clientShot w f).latest = some l) :
    execLateLimitExpiry n x s = .next ((s.reachElapsed l).slotMissed n x) := by
  simp only [execLateLimitExpiry, turn, limit]

/-- Settles O20: the request, the grant's sample, its arrival and the end of the wait, its withdrawal, and the end of a frame. -/
theorem transmissionGrants : Obligations.TransmissionGrants := by
  intro s n x t sends
  refine ⟨fun coex turns => ⟨execCoexReqRaise_turnaround sends coex turns,
      fun ready => ⟨⟨fun fits => ?_, fun excess => ?_⟩, ?_⟩⟩,
    fun waits => ⟨execCoexGrantArrival_in_time sends waits, execCoexGrantArrival_late sends,
      execCoexGrantWaitExpiry_fails sends waits, execCoexGrantWaitExpiry_misses_slot sends waits⟩,
    fun _ coex air during => execCoexGrantWithdrawn_on_air sends air coex during, execTxFrameEnd_on_air sends,
    fun _ _ _ turn limit => execLateLimitExpiry_misses_slot turn limit⟩
  · exact (execCoexGrantSample_granted sends coex turns ready).trans (congrArg _ (State.rampUp_fits _ fits))
  · exact (execCoexGrantSample_granted sends coex turns ready).trans (congrArg _ (State.rampUp_over_duty _ excess))
  · exact ⟨execCoexGrantSample_ack sends coex turns ready, execCoexGrantSample_waits sends coex turns ready,
      fun _ => execCoexGrantSample_waits_to_limit sends coex turns ready⟩

end Sys2Proof.Machine
end

section
/-! SUPPORT. A transmit decision, check by check. -/

namespace Sys2Proof.Machine

section
variable {s : State} {n x : Nat} {h : Shot} (waits : s.shot n x = some h) (serving : s.radioOut n = false)
include waits serving

/-- R98: a frame whose late limit comes before the lock or the calibration can end misses its slot. -/
theorem execTxDecision_unlocked_late {l : Nat} (locks : s.trx n = 3 ∨ s.trx n = 4) (limit : h.latest = some l)
    (late : l < 100000 + s.lockBound n) : execTxDecision n x s = .next (s.slotMissed n x) := by
  rcases locks with st | st <;> simp [execTxDecision, waits, serving, st, limit, late]

theorem execTxDecision_unlocked_waits (locks : s.trx n = 3 ∨ s.trx n = 4) (unlimited : h.latest = none) :
    execTxDecision n x s = .next s := by
  rcases locks with st | st <;> simp [execTxDecision, waits, serving, st, unlimited]

theorem execTxDecision_locked (locked : s.trx n = 2 ∨ s.trx n = 6) (free : s.holdBack n x h = none) :
    execTxDecision n x s = .next (s.decideShot n x h) := by
  rcases locked with st | st <;> simp [execTxDecision, waits, serving, st, free]

end

/-- R119: a radio under tx_inhibit refuses every frame. -/
theorem State.decideShot_inhibited {s : State} {n : Nat} (x : Nat) (h : Shot) (inhibited : s.flag (Reg.trxStateCtl n) 8 = true) :
    s.decideShot n x h = s.refuseShot n x Status.notPermitted false := by
  simp [State.decideShot, inhibited]

/-- R107, R110: without a certificate no band holds a frame. -/
theorem State.bandFor_unlicensed {s : State} (n : Nat) (h : Shot) (unlicensed : s.licensed = false) : s.bandFor n h = none := by
  simp [State.bandFor, State.bandOf, unlicensed]

section
/-! A frame that a radio with an address may send at all, outside RX_NARROW: its slot, its band and its duty decide. -/
variable {s : State} {n : Nat} {h : Shot} (x : Nat) (sends : s.flag (Reg.trxStateCtl n) 8 = false) (alive : s.lifecycle ≠ 4)
  (addressed : (h.unicast && s.macAddress n == 0xFFFE) = false) (wide : s.trx n ≠ 5)
include sends alive addressed wide

theorem State.decideShot_late {l : Nat} (limit : h.latest = some l) (late : l < s.firstSymbol n h) :
    s.decideShot n x h = s.slotMissed n x := by
  simp [State.decideShot, sends, alive, addressed, wide, limit, late]

variable (unlimited : h.latest = none)
include unlimited

theorem State.decideShot_outside_bands (outside : s.bandFor n h = none) : s.decideShot n x h = s.regRefused n x := by
  simp [State.decideShot, sends, alive, addressed, wide, unlimited, outside]

variable {b : Nat} (inside : s.bandFor n h = some b) (plain : h.secured = false)
include inside plain

/-- R113: duty is checked at the decision while coexistence is off. -/
theorem State.decideShot_over_duty (alone : s.flag (Reg.trxCoexCtl n) 0 = false) (excess : s.dutyFits b (16000 + h.airNs) = false) :
    s.decideShot n x h = s.dutyRefused n x := by
  simp [State.decideShot, sends, alive, addressed, wide, unlimited, inside, plain, alone, excess]

theorem State.decideShot_enters (fits : s.flag (Reg.trxCoexCtl n) 0 = true ∨ s.dutyFits b (16000 + h.airNs) = true)
    (near : s.outsideSpan n h = false) : s.decideShot n x h = s.enterTx n x h b := by
  have within : (!s.flag (Reg.trxCoexCtl n) 0 && !s.dutyFits b (16000 + h.airNs)) = false := by
    rcases fits with f | f <;> simp [f]
  simp [State.decideShot, sends, alive, addressed, wide, unlimited, inside, plain, within, near]

end

/-- Settles O21: a decision in SYNTH or CAL, and the checks of one on a locked radio in their order. -/
theorem transmitDecision : Obligations.TransmitDecision := by
  intro s n x h waits serving
  refine ⟨fun locks => ⟨fun _ => execTxDecision_unlocked_late waits serving locks,
    execTxDecision_unlocked_waits waits serving locks⟩, fun locked free => ?_⟩
  have decides {t : State} (h : s.decideShot n x h = t) : exec (.txDecision n x) s = .next t :=
    (execTxDecision_locked waits serving locked free).trans (congrArg _ h)
  have wide : s.trx n ≠ 5 := by omega
  refine ⟨fun inhibited => decides (State.decideShot_inhibited x h inhibited), fun sends alive named => ?_⟩
  have addressed : (h.unicast && s.macAddress n == 0xFFFE) = false := by rcases named with a | a <;> simp [a]
  refine ⟨fun _ limit late => decides (State.decideShot_late x sends alive addressed wide limit late), fun unlimited => ?_⟩
  have outside := State.decideShot_outside_bands x sends alive addressed wide unlimited
  refine ⟨fun unlicensed => decides (outside (State.bandFor_unlicensed n h unlicensed)), fun banned => decides (outside banned),
    fun b inside plain => ⟨fun alone excess => ?_, fun fits near => ?_⟩⟩
  · exact decides (State.decideShot_over_duty x sends alive addressed wide unlimited inside plain alone excess)
  · exact decides (State.decideShot_enters x sends alive addressed wide unlimited inside plain fits near)

end Sys2Proof.Machine
end

section
/-! SUPPORT. The derivation of a loading (R156): what a subcarrier carries, which one gives a bit up, and what trimming keeps. -/

namespace Sys2Proof.Machine

/-! ### What a ratio carries (Table 4-8) -/

theorem loadThreshold_mono {m n : Nat} (lower : m ≤ n) (top : n ≤ 8) : loadThreshold m ≤ loadThreshold n := by
  have table : ∀ n ≤ 8, ∀ m ≤ n, loadThreshold m ≤ loadThreshold n := by decide
  exact table n top m lower

/-- A subcarrier's bits fit its ratio: at most 8, and their threshold with the rate and margin is met. -/
def BitsFit (extra : Int) (e : Nat × Int) : Prop := e.1 ≤ 8 ∧ (e.1 ≠ 0 → loadThreshold e.1 + extra ≤ e.2)

theorem bitsFor_le (extra snr : Int) : bitsFor extra snr ≤ 8 :=
  List.length_filter_le _ _

/-- A predicate that holds below `m` only holds of at most `m` numbers. -/
theorem length_filter_range_le {p : Nat → Bool} {m : Nat} (n : Nat) (below : ∀ i < n, p i = true → i < m) :
    ((List.range n).filter p).length ≤ m := by
  induction n with
  | zero => exact Nat.zero_le m
  | succ n ih =>
    by_cases above : m ≤ n
    · have fails : ¬ p n = true := fun holds => by
        have := below n n.lt_succ_self holds
        omega
      rw [List.range_succ, List.filter_append, List.filter_cons_of_neg fails, List.filter_nil, List.append_nil]
      exact ih fun i inside => below i (Nat.lt_succ_of_lt inside)
    · calc ((List.range (n + 1)).filter p).length
        _ ≤ (List.range (n + 1)).length := List.length_filter_le _ _
        _ = n + 1 := List.length_range
        _ ≤ m := by omega

/-- The thresholds that a ratio meets are the lowest ones, so the last of as many as it meets is among them. -/
theorem bitsFor_meets {extra snr : Int} (carries : bitsFor extra snr ≠ 0) : loadThreshold (bitsFor extra snr) + extra ≤ snr := by
  refine Decidable.byContradiction fun misses => ?_
  have fewer : bitsFor extra snr ≤ bitsFor extra snr - 1 := by
    refine length_filter_range_le 8 fun i inside met => Nat.lt_of_not_le fun above => misses ?_
    have higher : loadThreshold (bitsFor extra snr) ≤ loadThreshold (i + 1) := loadThreshold_mono (by omega) inside
    exact Int.le_trans (Int.add_le_add_right higher extra) (of_decide_eq_true met)
  omega

theorem bitsFor_fits (extra snr : Int) : BitsFit extra (bitsFor extra snr, snr) :=
  ⟨bitsFor_le extra snr, bitsFor_meets⟩

theorem BitsFit.pred {extra x : Int} {n : Nat} (fits : BitsFit extra (n + 1, x)) : BitsFit extra (n, x) := by
  obtain ⟨top, met⟩ := fits
  have lower : loadThreshold n + extra ≤ loadThreshold (n + 1) + extra := Int.add_le_add_right (loadThreshold_mono n.le_succ top) extra
  exact ⟨Nat.le_trans n.le_succ top, fun _ => Int.le_trans lower (met n.succ_ne_zero)⟩

/-! ### The subcarrier of least excess -/

/-- One step of the search for the least excess: a subcarrier against the best so far. -/
def lesserExcess (extra : Int) (best : Option (Int × Nat)) (e : (Nat × Int) × Nat) : Option (Int × Nat) :=
  if e.1.1 = 0 then best
  else
    let excess := e.1.2 - (loadThreshold e.1.1 + extra)
    match best with
    | none => some (excess, e.2)
    | some b => if excess < b.1 then some (excess, e.2) else best

theorem leastExcess_eq (extra : Int) (l : List (Nat × Int)) :
    leastExcess extra l = (l.zipIdx.foldl (lesserExcess extra) none).map (·.2) := rfl

/-- A step keeps the best, unless that leaves a subcarrier that carries bits without one, or takes a subcarrier that carries bits. -/
theorem lesserExcess_cases (extra : Int) (best : Option (Int × Nat)) (e : (Nat × Int) × Nat) :
    (lesserExcess extra best e = best ∧ (best = none → e.1.1 = 0))
    ∨ (e.1.1 ≠ 0 ∧ ∃ excess, lesserExcess extra best e = some (excess, e.2)) := by
  unfold lesserExcess
  by_cases empty : e.1.1 = 0
  · exact .inl ⟨if_pos empty, fun _ => empty⟩
  · rw [if_neg empty]
    cases best with
    | none => exact .inr ⟨empty, _, rfl⟩
    | some b =>
      dsimp only
      split
      · exact .inr ⟨empty, _, rfl⟩
      · exact .inl ⟨rfl, nofun⟩

theorem foldl_lesserExcess_some {extra : Int} {best : Option (Int × Nat)} {l : List ((Nat × Int) × Nat)} {b : Int × Nat}
    (found : l.foldl (lesserExcess extra) best = some b) : best = some b ∨ ∃ e ∈ l, e.2 = b.2 ∧ e.1.1 ≠ 0 := by
  induction l generalizing best with
  | nil => exact .inl found
  | cons e l ih =>
    obtain at_e | ⟨e', mem, rest⟩ := ih found
    · obtain ⟨kept, -⟩ | ⟨carries, excess, taken⟩ := lesserExcess_cases extra best e
      · exact .inl (kept.symm.trans at_e)
      · cases taken.symm.trans at_e
        exact .inr ⟨e, List.mem_cons_self, rfl, carries⟩
    · exact .inr ⟨e', List.mem_cons_of_mem e mem, rest⟩

theorem foldl_lesserExcess_none {extra : Int} {best : Option (Int × Nat)} {l : List ((Nat × Int) × Nat)}
    (unfound : l.foldl (lesserExcess extra) best = none) : best = none ∧ ∀ e ∈ l, e.1.1 = 0 := by
  induction l generalizing best with
  | nil => exact ⟨unfound, nofun⟩
  | cons e l ih =>
    obtain ⟨after_e, rest⟩ := ih unfound
    obtain ⟨kept, empty⟩ | ⟨-, excess, taken⟩ := lesserExcess_cases extra best e
    · have before_e : best = none := kept.symm.trans after_e
      exact ⟨before_e, List.forall_mem_cons.mpr ⟨empty before_e, rest⟩⟩
    · cases taken.symm.trans after_e

theorem leastExcess_carries {extra : Int} {l : List (Nat × Int)} {d : Nat} (found : leastExcess extra l = some d) :
    ∃ n x, l[d]? = some (n + 1, x) := by
  rw [leastExcess_eq, Option.map_eq_some_iff] at found
  obtain ⟨b, found, rfl⟩ := found
  obtain start | ⟨⟨⟨n, x⟩, i⟩, mem, rfl, carries⟩ := foldl_lesserExcess_some found
  · cases start
  obtain ⟨n, rfl⟩ := Nat.exists_eq_succ_of_ne_zero carries
  exact ⟨n, x, List.mem_zipIdx_iff_getElem?.mp mem⟩

theorem leastExcess_none_sum {extra : Int} {l : List (Nat × Int)} (unfound : leastExcess extra l = none) :
    (l.map (·.1)).sum = 0 := by
  rw [leastExcess_eq, Option.map_eq_none_iff] at unfound
  refine List.sum_eq_zero_iff_forall_eq_nat.mpr fun n mem => ?_
  obtain ⟨e, inside, rfl⟩ := List.mem_map.mp mem
  obtain ⟨i, at_i⟩ := List.mem_iff_getElem?.mp inside
  exact (foldl_lesserExcess_none unfound).2 (e, i) (List.mem_zipIdx_iff_getElem?.mpr at_i)

/-! ### Trimming -/

theorem setAt_eq_append {α : Type} {l : List α} {i : Nat} {x : α} (f : α → α) (at_i : l[i]? = some x) :
    l = l.take i ++ x :: l.drop (i + 1) ∧ setAt l i f = l.take i ++ f x :: l.drop (i + 1) := by
  obtain ⟨inside, rfl⟩ := List.getElem?_eq_some_iff.mp at_i
  exact ⟨by rw [← List.drop_eq_getElem_cons inside, List.take_append_drop], List.modify_eq_take_cons_drop inside⟩

theorem trimLoading_done {extra : Int} {l : List (Nat × Int)} (fuel : Nat) (done : (l.map (·.1)).sum % 12 = 0) :
    trimLoading extra fuel l = l := by
  cases fuel <;> simp [trimLoading, done]

/-- A total that is no multiple of 12 is not 0, so some subcarrier gives a bit up. -/
theorem trimLoading_takes {extra : Int} {l : List (Nat × Int)} (fuel : Nat) (more : (l.map (·.1)).sum % 12 ≠ 0) :
    ∃ a n x b, l = a ++ (n + 1, x) :: b ∧ trimLoading extra (fuel + 1) l = trimLoading extra fuel (a ++ (n, x) :: b) := by
  rw [trimLoading, if_neg more]
  cases found : leastExcess extra l with
  | none => simp [leastExcess_none_sum found] at more
  | some d =>
    obtain ⟨n, x, at_d⟩ := leastExcess_carries found
    obtain ⟨before, after⟩ := setAt_eq_append (fun e => (e.1 - 1, e.2)) at_d
    exact ⟨_, n, x, _, before, congrArg _ after⟩

/-- What no bit given up destroys, trimming keeps. -/
theorem trimLoading_keeps {extra : Int} {P : List (Nat × Int) → Prop}
    (keeps : ∀ a n x b, P (a ++ (n + 1, x) :: b) → P (a ++ (n, x) :: b)) (fuel : Nat) {l : List (Nat × Int)} (holds : P l) :
    P (trimLoading extra fuel l) := by
  induction fuel generalizing l with
  | zero => exact holds
  | succ fuel ih =>
    by_cases done : (l.map (·.1)).sum % 12 = 0
    · rwa [trimLoading_done _ done]
    · obtain ⟨a, n, x, b, rfl, trimmed⟩ := trimLoading_takes (extra := extra) fuel done
      rw [trimmed]
      exact ih (keeps a n x b holds)

theorem trimLoading_ratios (extra : Int) (fuel : Nat) (l : List (Nat × Int)) :
    (trimLoading extra fuel l).map (·.2) = l.map (·.2) :=
  trimLoading_keeps (P := fun l' => l'.map (·.2) = l.map (·.2)) (fun a n x b kept => by simpa using kept) fuel rfl

theorem trimLoading_fits {extra : Int} (fuel : Nat) {l : List (Nat × Int)} (fits : ∀ e ∈ l, BitsFit extra e) :
    ∀ e ∈ trimLoading extra fuel l, BitsFit extra e := by
  refine trimLoading_keeps (P := fun l => ∀ e ∈ l, BitsFit extra e) (fun a n x b fits => ?_) fuel fits
  simp only [List.forall_mem_append, List.forall_mem_cons] at fits ⊢
  obtain ⟨before, here, after⟩ := fits
  exact ⟨before, here.pred, after⟩

/-- Enough rounds of trimming take away exactly what the total has over a multiple of 12. -/
theorem trimLoading_sum {extra : Int} {fuel : Nat} {l : List (Nat × Int)} (enough : (l.map (·.1)).sum % 12 ≤ fuel) :
    ((trimLoading extra fuel l).map (·.1)).sum + (l.map (·.1)).sum % 12 = (l.map (·.1)).sum := by
  induction fuel generalizing l with
  | zero => rw [Nat.le_zero.mp enough]; rfl
  | succ fuel ih =>
    by_cases done : (l.map (·.1)).sum % 12 = 0
    · rw [trimLoading_done _ done, done, Nat.add_zero]
    · obtain ⟨a, n, x, b, rfl, trimmed⟩ := trimLoading_takes (extra := extra) fuel done
      have one_less : ((a ++ (n + 1, x) :: b).map (·.1)).sum = ((a ++ (n, x) :: b).map (·.1)).sum + 1 := by
        simp only [List.map_append, List.map_cons, List.sum_append, List.sum_cons]
        omega
      have rest := ih (l := a ++ (n, x) :: b) (by omega)
      rw [trimmed]
      omega

/-! ### The loading (R156) -/

theorem deriveLoading_sum (rate : Nat) (margin : Int) (snr : List Int) :
    (deriveLoading rate margin snr).sum + (snr.map (bitsFor (loadOffset rate + margin))).sum % 12
      = (snr.map (bitsFor (loadOffset rate + margin))).sum := by
  have total : (snr.map fun x => (bitsFor (loadOffset rate + margin) x, x)).map (·.1) = snr.map (bitsFor (loadOffset rate + margin)) := by
    simp [Function.comp_def]
  simpa only [total, deriveLoading] using trimLoading_sum (extra := loadOffset rate + margin) (fuel := 12)
    (l := snr.map fun x => (bitsFor (loadOffset rate + margin) x, x)) (by omega)

/-- A loading is one entry for each ratio, and each entry fits its own. -/
theorem deriveLoading_entries (rate : Nat) (margin : Int) (snr : List Int) : ∃ l : List (Nat × Int),
    l.map (·.1) = deriveLoading rate margin snr ∧ l.map (·.2) = snr ∧ ∀ e ∈ l, BitsFit (loadOffset rate + margin) e := by
  refine ⟨_, rfl, ?_, trimLoading_fits 12 ?_⟩
  · simp [trimLoading_ratios, Function.comp_def]
  · simpa using fun x _ => bitsFor_fits (loadOffset rate + margin) x

/-- Settles O24: trimming takes away the remainder by 12, and leaves each entry within what its ratio carries. -/
theorem derivedLoading : Obligations.DerivedLoading := by
  intro rate margin snr extra loading
  have sum : loading.sum + (snr.map (bitsFor extra)).sum % 12 = (snr.map (bitsFor extra)).sum := deriveLoading_sum rate margin snr
  obtain ⟨l, entries, ratios, fits⟩ := deriveLoading_entries rate margin snr
  replace entries : loading = l.map (·.1) := entries.symm
  have length : l.length = snr.length := by rw [← ratios, List.length_map]
  refine ⟨by rw [entries, List.length_map, length], by omega, by omega, by omega, fun d inside => ?_⟩
  rw [← length] at inside
  have bits_d : loading.getD d 0 = l[d].1 := by simp [entries, inside]
  have ratio_d : snr.getD d 0 = l[d].2 := by simp [← ratios, inside]
  rw [bits_d, ratio_d]
  exact fits _ (List.getElem_mem inside)

end Sys2Proof.Machine
end

section
/-! SUPPORT. A reception from its detection to the end of its frame. -/

namespace Sys2Proof.Machine

/-! ### Time and units -/

theorem State.reach_darn (s : State) (t : Nat) : (s.reach t).darn = s.darn := by
  unfold State.reach
  split
  · exact (State.passNs_frame s _).2.2.2.2.1
  · rfl

/-- States with one darning record have their units in the same states. -/
theorem State.unitState_of_darn {s t : State} (h : t.darn = s.darn) (kind unit : Nat) : t.unitState kind unit = s.unitState kind unit := by
  simp only [State.unitState, h]

/-! ### Detections and sync words (R165, R174) -/

/-- R165: a radio that does not receive raises no detection. -/
theorem execDetection_deaf {s : State} {d : Detection} (deaf : s.receiving d.radio = false) : execDetection d s = .next s := by
  simp [execDetection, State.detectable, deaf]

section
variable {s : State} {lane : Nat} {r : Reception} (held : s.reception lane = some r)
include held

theorem execSyncTimeout_search (search : s.laneState lane = 1) : execSyncTimeout lane s
    = .next (((s.reachElapsed r.syncDue).bump (Reg.searchCnt r.detection.radio 5)).releaseLane lane) := by
  simp [execSyncTimeout, held, search]

/-- R174: a sync word of the slot that was detected, stamped by a stamper in service. -/
theorem execSyncFound_detected_slot {stamp : Nat} (search : s.laneState lane = 1) (native : r.detection.filet = false)
    (tested : r.detection.slot ∈ r.slots) (serving : s.unitState 8 (4 + r.detection.radio) ≠ .retired) :
    let t := (s.reach (stamp / 65536)).setFld (Reg.laneStat lane) 2 0 2
    execSyncFound lane r.detection.slot stamp false s = .next (t.setReception lane
      { r with slot := some r.detection.slot, syncAt := t.elapsed, stamp := stamp, firmware := false }) := by
  intro t
  have same : t.unitState 8 (4 + r.detection.radio) = s.unitState 8 (4 + r.detection.radio) :=
    State.unitState_of_darn (State.reach_darn s _) _ _
  have stamps : (t.unitState 8 (4 + r.detection.radio) == .retired) = false := beq_eq_false_iff_ne.mpr (same ▸ serving)
  simp [execSyncFound, held, search, native, tested, t, stamps]

/-! ### Headers (R148, R149) -/

theorem execHeaderReceived_gfsk {h : Nat} (decode : s.laneState lane = 2) (first : r.header = none)
    (native : r.detection.filet = false) (gfsk : isSun r.profile = false) : execHeaderReceived lane h s = .next (s.gfskHeader lane r h) := by
  simp [execHeaderReceived, held, decode, first, native, gfsk]

/-! ### The end of a frame (R150, R175) -/

section
variable {h : Nat} (ok : Bool) (body : Bytes) (snr ferr : Int)
  (decode : s.laneState lane = 2) (passed : r.header = some h) (framed : r.sounding = false)
include decode passed framed

theorem execReceiveComplete_clean : execReceiveComplete lane ok body snr ferr .clean s
    = .next ((s.reachElapsed (r.syncAt + s.receptionNs r)).endReception r.detection.radio lane r ok body snr ferr) := by
  simp [execReceiveComplete, held, decode, passed, framed]

theorem execReceiveComplete_check : execReceiveComplete lane ok body snr ferr .check s
    = .next (((s.reachElapsed (r.syncAt + s.receptionNs r)).loseReception lane r).classError 0 lane) := by
  simp [execReceiveComplete, held, decode, passed, framed]

theorem execReceiveComplete_uncorrectable (row : Nat) : execReceiveComplete lane ok body snr ferr (.uncorrectable row) s
    = .next (((s.reachElapsed (r.syncAt + s.receptionNs r)).loseReception lane r).sramError row true) := by
  simp [execReceiveComplete, held, decode, passed, framed]

end

end

section
variable {h : Nat} (s : State) (lane : Nat) (r : Reception)

theorem State.gfskHeader_check_fails (bad : bits h 31 24 ≠ crc8 (le 3 h) ∨ bits h 23 16 ≠ 0) :
    s.gfskHeader lane r h = s.headerFails lane r 0 :=
  if_pos bad

variable (check : bits h 31 24 = crc8 (le 3 h)) (reserved : bits h 23 16 = 0)
include check reserved

theorem State.gfskHeader_length_fails (bad : 2047 < bits h 12 0 ∨ bits h 12 0 < 4) :
    s.gfskHeader lane r h = s.headerFails lane r 1 := by
  simp [State.gfskHeader, check, reserved, bad]

theorem State.gfskHeader_passes (atLeast : 4 ≤ bits h 12 0) (atMost : bits h 12 0 ≤ 2047) (native : r.detection.filet = false) :
    s.gfskHeader lane r h = s.setReception lane { r with header := some h, table := none } := by
  simp [State.gfskHeader, State.headerPasses, check, reserved, native, Nat.not_lt.mpr atLeast, Nat.not_lt.mpr atMost]

end

/-- R150: a frame whose CRC-32 fails is counted and delivers nothing. -/
theorem State.endReception_crc_fails (s : State) (n lane : Nat) (r : Reception) (body : Bytes) (snr ferr : Int) :
    s.endReception n lane r false body snr ferr = ((s.releaseLane lane).sight r).bump (Reg.modCnt n 2) := rfl

theorem State.endReception_crc_passes (s : State) (n lane : Nat) (r : Reception) (body : Bytes) (snr ferr : Int) :
    s.endReception n lane r true body snr ferr = (s.releaseLane lane).frameReceived n lane r (padTo (r.len - r.check) body) snr ferr := rfl

/-- Settles O26: a reception's detection, sync word, header and end, in the order in which a lane meets them. -/
theorem receptionsRun : Obligations.ReceptionsRun := by
  intro s lane r held
  refine ⟨fun d => execDetection_deaf, fun search => ⟨execSyncTimeout_search held search, ?_⟩,
    fun decode first native gfsk h => ?_, fun h body snr ferr decode passed framed => ?_⟩
  · rintro slot stamp native rfl tested serving
    exact execSyncFound_detected_slot held search native tested serving
  · have received {t : State} (read : s.gfskHeader lane r h = t) : exec (.headerReceived lane h) s = .next t :=
      (execHeaderReceived_gfsk held decode first native gfsk).trans (congrArg _ read)
    exact ⟨fun bad => received (s.gfskHeader_check_fails lane r bad),
      fun check reserved bad => received (s.gfskHeader_length_fails lane r check reserved bad),
      fun check reserved atLeast atMost => received (s.gfskHeader_passes lane r check reserved atLeast atMost native)⟩
  · intro e
    refine ⟨(execReceiveComplete_clean held false body snr ferr decode passed framed).trans
        (congrArg _ (e.endReception_crc_fails r.detection.radio lane r body snr ferr)),
      (execReceiveComplete_clean held true body snr ferr decode passed framed).trans
        (congrArg _ (e.endReception_crc_passes r.detection.radio lane r body snr ferr)), fun ok => ⟨?_, fun row => ?_⟩⟩
    · exact execReceiveComplete_check held ok body snr ferr decode passed framed
    · exact execReceiveComplete_uncorrectable held ok body snr ferr decode passed framed row

end Sys2Proof.Machine
end

section
/-! SUPPORT. A copy of a contention frame, from the head of its queue to the end of its attempt. -/

namespace Sys2Proof.Machine

/-! ### Frames and copies -/

theorem Table.find_modify {α : Type} (t : Table α) (n : Nat) (f : α → α) :
    Table.find (Table.modify t n f) n = (Table.find t n).map f := by
  induction t with
  | nil => rfl
  | cons e t ih =>
    obtain ⟨k, v⟩ := e
    by_cases here : k = n
    · simp [Table.modify, Table.find_cons, here]
    · simpa [Table.modify, Table.find_cons, here] using ih

theorem State.frame_modFrame (s : State) (id : Nat) (g : AirFrame → AirFrame) : (s.modFrame id g).frame id = (s.frame id).map g :=
  Table.find_modify _ _ _

/-- A change that keeps a copy's member changes what is found under that member. -/
theorem find?_member_map {g : AirCopy → AirCopy} (keeps : ∀ c, (g c).member = c.member) (l : List AirCopy) (m : Nat) :
    (l.map fun c => if c.member = m then g c else c).find? (fun c => c.member == m)
      = (l.find? fun c => c.member == m).map g := by
  induction l with
  | nil => rfl
  | cons c l ih =>
    by_cases here : c.member = m
    · simp [here, keeps]
    · simpa [here] using ih

section
variable {s : State} {x : Nat} {f : AirFrame} {c : AirCopy} (there : s.copy x = some (f, c))
include there

theorem State.frame_of_copy : s.frame (x / 4) = some f := by
  obtain ⟨_, framed, found⟩ := Option.bind_eq_some_iff.mp there
  obtain ⟨_, -, pair⟩ := Option.map_eq_some_iff.mp found
  cases pair
  exact framed

theorem State.find?_of_copy : (f.copies.find? fun c => c.member == x % 4) = some c := by
  obtain ⟨_, -, found⟩ := Option.bind_eq_some_iff.mp there
  obtain ⟨_, member, pair⟩ := Option.map_eq_some_iff.mp found
  cases pair
  exact member

theorem State.copy_modCopy {g : AirCopy → AirCopy} (keeps : ∀ c, (g c).member = c.member) :
    ∃ f', (s.modCopy (x / 4) (x % 4) g).copy x = some (f', g c) := by
  simp [State.copy, State.modCopy, State.frame_modFrame, State.frame_of_copy there, find?_member_map keeps,
    State.find?_of_copy there]

/-! ### Backoff (R197) -/

theorem State.enterBackoff_drawn (on : s.macOn (chanRadio c.chan) = true) :
    s.enterBackoff (x / 4) (x % 4) = s.draw.2.modCopy (x / 4) (x % 4) fun y => { y with
      phase := .backoff, due := s.elapsed + s.draw.1 % 2 ^ c.be * field (f.set (chanRadio c.chan)).bo 15 0 * 1000 } := by
  have on' : s.draw.2.macOn (chanRadio c.chan) = true := on
  simp only [State.enterBackoff, Nat.div_add_mod', there, State.waitEnd, on', if_true]
  rfl

/-- R197: the draw leaves fewer than 2^be slots to wait. -/
theorem State.enterBackoff_slots (on : s.macOn (chanRadio c.chan) = true) :
    ∃ (k : Nat) (f' : AirFrame), k < 2 ^ c.be ∧ (s.enterBackoff (x / 4) (x % 4)).copy x
      = some (f', { c with phase := .backoff, due := s.elapsed + k * field (f.set (chanRadio c.chan)).bo 15 0 * 1000 }) := by
  rw [State.enterBackoff_drawn there on]
  have drawn : s.draw.2.copy x = some (f, c) := there
  obtain ⟨f', found⟩ := State.copy_modCopy drawn (g := fun y => { y with
    phase := .backoff, due := s.elapsed + s.draw.1 % 2 ^ c.be * field (f.set (chanRadio c.chan)).bo 15 0 * 1000 }) fun _ => rfl
  exact ⟨_, f', Nat.mod_lt _ (Nat.two_pow_pos _), found⟩

end

/-! ### The head of a queue (R191, R196) -/

section
variable {s : State} {id : Nat} {f : AirFrame} (framed : s.frame id = some f)
include framed

theorem execQueueHead_waits (held : s.mayStart id f = false) : execQueueHead id s = .next s := by
  simp [execQueueHead, framed, held]

theorem execQueueHead_peer {q : Nat} (target : f.target = .peer q) (home : f.plait = none) (new : f.started = false)
    (first : s.mayStart id f = true) : execQueueHead id s = .next
      (((s.setFld (Reg.peerSeq q) 11 0 ((s.fld (Reg.peerSeq q) 11 0 + 1) % 4096)).modFrame id fun f => { f with
        started := true, seq := s.fld (Reg.peerSeq q) 11 0 }).startAttempt id) := by
  simp [execQueueHead, framed, target, home, new, first]

end

/-! ### Backoff and listening (R193, R201) -/

theorem State.safePoint_goes (s : State) (x : Nat) {f : AirFrame} (goes : f.stopping = none) (k : State → State) :
    s.safePoint x f k = k s := by
  simp [State.safePoint, goes]

theorem State.safePoint_stops (s : State) (x : Nat) {f : AirFrame} (stops : f.stopping.isSome = true) (k : State → State) :
    s.safePoint x f k = s.copyEnded (x / 4) (x % 4) false :=
  if_pos stops

/-- A copy goes to its decision at once. -/
def State.copyDecides (s : State) (x : Nat) : State :=
  s.modCopy (x / 4) (x % 4) fun c => { c with phase := .decide, due := s.elapsed }

/-- A copy goes to its listen, the radio to a state that receives (R193). -/
def State.copyListens (s : State) (x : Nat) (c : AirCopy) (ns : Nat) : State :=
  let e := s.enterListen (chanRadio c.chan) c.chan
  e.modCopy (x / 4) (x % 4) fun y => { y with
    phase := .listen, due := e.elapsed + (if s.trx (chanRadio c.chan) = 2 then 20000 else 0) + ns }

/-- A busy listen counted, in the engine and in the copy, whose backoff widens. -/
def State.busyCounted (s : State) (x : Nat) (f : AirFrame) (c : AirCopy) : State :=
  (s.bump (Reg.wmacCnt (chanRadio c.chan) 4)).modCopy (x / 4) (x % 4) fun y => { y with
    busy := y.busy + 1, be := min (y.be + 1) (field (f.set (chanRadio c.chan)).bo 23 20) }

/-- A busy listen draws a new backoff, until cca_max is passed. -/
def State.listenBusy (s : State) (x : Nat) (f : AirFrame) (c : AirCopy) : State :=
  if field (f.set (chanRadio c.chan)).ctl 15 8 < c.busy + 1 then
    (((s.busyCounted x f c).bump (Reg.wmacCnt (chanRadio c.chan) 5)).countPeer f 7).copyEnded (x / 4) (x % 4) true
  else (s.busyCounted x f c).enterBackoff (x / 4) (x % 4)

section
variable {s : State} {x : Nat} {f : AirFrame} {c : AirCopy} (there : s.copy x = some (f, c))
include there

section
variable (on : s.macOn (chanRadio c.chan) = true)
include on

section
variable (backs : c.phase = .backoff)
include backs

theorem execBackoffExpiry_unlistened (goes : f.stopping = none)
    (free : (s.reachElapsed c.due).listenFor (f.set (chanRadio c.chan)).lbt c.chan = none) :
    execBackoffExpiry x s = .next ((s.reachElapsed c.due).copyDecides x) := by
  simp [execBackoffExpiry, there, on, backs, State.safePoint_goes _ x goes, free, State.copyDecides]

theorem execBackoffExpiry_listens (goes : f.stopping = none) {thr : Int} {ns : Nat}
    (listen : (s.reachElapsed c.due).listenFor (f.set (chanRadio c.chan)).lbt c.chan = some (thr, ns)) :
    execBackoffExpiry x s = .next ((s.reachElapsed c.due).copyListens x c ns) := by
  simp [execBackoffExpiry, there, on, backs, State.safePoint_goes _ x goes, listen, State.copyListens]

theorem execBackoffExpiry_stops (stops : f.stopping.isSome = true) :
    execBackoffExpiry x s = .next ((s.reachElapsed c.due).copyEnded (x / 4) (x % 4) false) := by
  simp [execBackoffExpiry, there, on, backs, State.safePoint_stops _ x stops]

end

section
variable (listens : c.phase = .listen)
include listens

theorem execListenDone_clear (goes : f.stopping = none) (quiet : (s.reachElapsed c.due).receptionIn c.chan = false) :
    execListenDone x false s = .next ((s.reachElapsed c.due).copyDecides x) := by
  simp [execListenDone, there, on, listens, State.safePoint_goes _ x goes, quiet, State.copyDecides]

theorem execListenDone_busy (goes : f.stopping = none) :
    execListenDone x true s = .next ((s.reachElapsed c.due).listenBusy x f c) := by
  simp [execListenDone, there, on, listens, State.safePoint_goes _ x goes, State.listenBusy, State.busyCounted]

theorem execListenDone_stops (busy : Bool) (stops : f.stopping.isSome = true) :
    execListenDone x busy s = .next ((s.reachElapsed c.due).copyEnded (x / 4) (x % 4) false) := by
  simp [execListenDone, there, on, listens, State.safePoint_stops _ x stops]

end

end

/-! ### The deferral to receptions (R194) -/

/-- The allowance of a waiting copy spent. -/
def State.deferralSpent (s : State) (x : Nat) (f : AirFrame) (c : AirCopy) : State :=
  (s.passNs (s.deferLeft f c)).modCopy (x / 4) (x % 4) fun y => { y with
    waited := max y.waited (field (f.set (chanRadio c.chan)).ctl 31 16 * 1000), waitSince := none }

section
variable {since : Nat} (decides : c.phase = .decide) (waits : c.waitSince = some since)
include decides waits

theorem execDeferRxExpiry_unlistened
    (free : (s.deferralSpent x f c).listenFor (f.set (chanRadio c.chan)).lbt c.chan = none) :
    execDeferRxExpiry x s = .next (s.deferralSpent x f c) := by
  unfold State.deferralSpent at free ⊢
  simp [execDeferRxExpiry, there, decides, waits, free]

theorem execDeferRxExpiry_listens {thr : Int} {ns : Nat}
    (listen : (s.deferralSpent x f c).listenFor (f.set (chanRadio c.chan)).lbt c.chan = some (thr, ns)) :
    execDeferRxExpiry x s = .next ((s.deferralSpent x f c).modCopy (x / 4) (x % 4) fun y => { y with
      phase := .listen, due := (s.deferralSpent x f c).elapsed + ns }) := by
  unfold State.deferralSpent at listen ⊢
  simp [execDeferRxExpiry, there, decides, waits, listen]

end

/-! ### The acknowledgement window (R198) -/

theorem execAckWindowClose_pending (pending : s.ackPending (chanRadio c.chan) c.chan c.due = true) :
    execAckWindowClose x s = .next s := by
  simp [execAckWindowClose, there, pending]

theorem execAckWindowClose_unmatched (waits : c.phase = .ackWait)
    (unmatched : s.ackPending (chanRadio c.chan) c.chan c.due = false) : execAckWindowClose x s = .next
      ((((s.reachElapsed c.due).countPeer f 9).dropHold (.ack (chanRadio c.chan) x)).2.copyEnded (x / 4) (x % 4) false) := by
  simp [execAckWindowClose, there, waits, unmatched]

end

/-- Settles O28: a frame's start, its backoff, and each step of a copy up to the end of its attempt. -/
theorem contentionAttempts : Obligations.ContentionAttempts := by
  intro s x f c there n b decided
  have framed := State.frame_of_copy there
  refine ⟨fun q target home new => ⟨execQueueHead_waits framed, execQueueHead_peer framed target home new⟩, fun on => ?_,
    fun on goes => ⟨fun backs => ⟨execBackoffExpiry_unlistened there on backs goes, fun _ _ => execBackoffExpiry_listens there on backs goes⟩,
      fun listens => ⟨execListenDone_clear there on listens goes, execListenDone_busy there on listens goes⟩⟩,
    fun on stops => ⟨fun backs => execBackoffExpiry_stops there on backs stops,
      fun busy listens => execListenDone_stops there on listens busy stops⟩,
    fun since decides waits => ⟨execDeferRxExpiry_unlistened there decides waits,
      fun _ _ => execDeferRxExpiry_listens there decides waits⟩,
    fun waits => ⟨execAckWindowClose_pending there, execAckWindowClose_unmatched there waits⟩⟩
  obtain ⟨k, f', few, found⟩ := State.enterBackoff_slots there on
  exact ⟨_, k, f', rfl, few, found⟩

end Sys2Proof.Machine
end

section
/-! SUPPORT. What replies, events, waiting and a lane's release leave of scheduled access: all of it. -/

namespace Sys2Proof.Machine

/-! ### Replies and events -/

theorem foldl_sched {α : Type} {f : State → α → State} (keeps : ∀ s a, (f s a).sched = s.sched) (l : List α) (s : State) :
    (l.foldl f s).sched = s.sched := by
  induction l generalizing s with
  | nil => rfl
  | cons a l ih => exact (ih _).trans (keeps s a)

@[simp] theorem State.pushPrivileged_sched (s : State) (node : Nat) (x : Copy) : (s.pushPrivileged node x).sched = s.sched := by
  unfold State.pushPrivileged
  dsimp only
  split <;> rfl

@[simp] theorem State.pumpRing_sched (s : State) (n ring : Nat) : (s.pumpRing n ring).sched = s.sched := by
  unfold State.pumpRing
  dsimp only
  split
  · split
    · rfl
    · split <;> rfl
  · rfl

@[simp] theorem State.deliver_sched (s : State) (n : Nat) (ep : Endpoint) (r : Reply) : (s.deliver n ep r).sched = s.sched := by
  cases ep with
  | pcie ring =>
    simp only [State.deliver]
    split
    · rw [State.pumpRing_sched, State.modRing_sched]
    · rfl
  | spi =>
    simp only [State.deliver]
    split <;> rfl
  | inband mac vlan port => exact State.pushPrivileged_sched _ _ _
  | replay => rfl
  | chain head => exact State.pushPrivileged_sched _ _ _

@[simp] theorem State.reply_sched (s : State) (o : Origin) (status : Nat) (result : Bytes) : (s.reply o status result).sched = s.sched := by
  have cached (r : Reply) : (if s.bound o.session o.ep then
      s.modSession o.session fun e => { e with cache := cacheAdd e.cache o.tag o.trailer r } else s).sched = s.sched := by
    split <;> rfl
  unfold State.reply
  dsimp only
  split
  · exact cached _
  · exact (State.deliver_sched _ _ _ _).trans (cached _)

@[simp] theorem State.conclude_sched (s : State) (o : Origin) (status : Nat) (result : Bytes) :
    (s.conclude o status result).sched = s.sched := by
  unfold State.conclude State.answerCancel
  split
  · rw [State.reply_sched, State.modSession_sched, State.reply_sched]
  · exact State.reply_sched _ _ _ _

@[simp] theorem State.answerBroadcast_sched (s : State) (n tag d status : Nat) : (s.answerBroadcast n tag d status).sched = s.sched := by
  unfold State.answerBroadcast
  split
  · split
    · dsimp only
      split
      · rw [State.conclude_sched, State.modSession_sched]
      · rfl
    · rfl
  · rfl

@[simp] theorem State.finish_sched (s : State) (o : Outstanding) (status : Nat) (result : Bytes) :
    (s.finish o status result).sched = s.sched := by
  unfold State.finish
  dsimp only
  split
  · rw [State.answerBroadcast_sched, State.modSession_sched]
  · rw [State.conclude_sched, State.modSession_sched]

@[simp] theorem State.raiseTimed_sched (s : State) (n code severity status source : Nat) (forwarded : Bool) (time body : Bytes) :
    (s.raiseTimed n code severity status source forwarded time body).sched = s.sched := by
  unfold State.raiseTimed
  dsimp only
  split
  · rfl
  · split
    · split
      · rw [State.pushPrivileged_sched, State.modSession_sched]
      · split
        · split
          · rw [State.pumpRing_sched, State.modSession_sched, State.modSession_sched]
          · rfl
        · rfl
    · rfl

@[simp] theorem State.raise_sched (s : State) (code severity : Nat) (body : Bytes) (status : Nat) :
    (s.raise code severity body status).sched = s.sched := by
  unfold State.raise
  dsimp only
  split
  · exact foldl_sched (fun s n => s.raiseTimed_sched n code severity status _ false _ body) _ s
  · split
    · exact State.pushPrivileged_sched _ _ _
    · split <;> rfl

/-! ### Time and lanes -/

@[simp] theorem State.reach_sched (s : State) (t : Nat) : (s.reach t).sched = s.sched := by
  unfold State.reach State.passNs
  split
  · dsimp only
    split <;> rfl
  · rfl

@[simp] theorem State.releaseLane_sched (s : State) (l : Nat) : (s.releaseLane l).sched = s.sched := by
  unfold State.releaseLane
  dsimp only
  split <;> rfl

@[simp] theorem State.dropHold_sched (s : State) (h : Hold) : (s.dropHold h).2.sched = s.sched := by
  unfold State.dropHold
  split
  · exact State.releaseLane_sched _ _
  · rfl

end Sys2Proof.Machine
end

section
/-! SUPPORT. A client's context as its numbers read, and the end of a stitch with the score of its occurrence. -/

namespace Sys2Proof.Machine

/-! ### Bits of a number -/

theorem testBit_bits (v hi lo i : Nat) : (bits v hi lo).testBit i = (decide (i < hi + 1 - lo) && v.testBit (lo + i)) := by
  rw [bits, Nat.testBit_mod_two_pow, Nat.testBit_div_two_pow, Nat.add_comm i lo]

/-- A field reads what was written to it. -/
theorem bits_withBits (v x : Nat) {hi lo : Nat} : bits (withBits v hi lo x) hi lo = x % 2 ^ (hi + 1 - lo) := by
  refine Nat.eq_of_testBit_eq fun i => ?_
  rw [testBit_bits, testBit_withBits, Nat.testBit_mod_two_pow]
  by_cases inside : i < hi + 1 - lo
  · rw [if_pos (by omega), Nat.add_sub_cancel_left]
  · simp [inside]

/-- A field keeps its value where another one is written. -/
theorem bits_withBits_other (v x : Nat) {hi lo hi' lo' : Nat} (apart : hi' < lo ∨ hi < lo') :
    bits (withBits v hi lo x) hi' lo' = bits v hi' lo' := by
  refine Nat.eq_of_testBit_eq fun i => ?_
  rw [testBit_bits, testBit_withBits, testBit_bits]
  by_cases inside : i < hi' + 1 - lo'
  · rw [if_neg (by omega)]
  · simp [inside]

/-- A field within an octet does not see what lies above the octet. -/
theorem bits_mod_octet (v : Nat) {hi lo : Nat} (within : hi < 8) : bits (v % 256) hi lo = bits v hi lo := by
  refine Nat.eq_of_testBit_eq fun i => ?_
  rw [testBit_bits, testBit_bits, show 256 = 2 ^ 8 from rfl, Nat.testBit_mod_two_pow]
  by_cases inside : i < hi + 1 - lo
  · simp [show lo + i < 8 by omega]
  · simp [inside]

theorem bit_iff_bits (v i : Nat) : bit v i = true ↔ bits v i i = 1 := by
  simp [bit, bits]

/-! ### Octets -/

theorem ofLe_zeros {b : Bytes} (zero : ∀ x ∈ b, x = 0) : ofLe b = 0 := by
  induction b with
  | nil => rfl
  | cons x b ih =>
    obtain ⟨first, rest⟩ := List.forall_mem_cons.mp zero
    simp [ofLe, first, ih rest]

theorem num_zeros {b : Bytes} (zero : ∀ x ∈ b, x = 0) (off n : Nat) : num b off n = 0 :=
  ofLe_zeros fun x mem => zero x (List.mem_of_mem_drop (List.mem_of_mem_take mem))

/-- A run of octets holds a place of which a number that is not 0 is read. -/
theorem lt_length_of_num {b : Bytes} {off n : Nat} (read : num b off n ≠ 0) : off < b.length := by
  refine Nat.lt_of_not_le fun beyond => read ?_
  rw [num, slice, List.drop_eq_nil_of_le beyond, List.take_nil, ofLe]

theorem num_patch_octet {b : Bytes} {off : Nat} (within : off ≤ b.length) (x : Nat) : num (patch b off (le 1 x)) off 1 = x % 256 := by
  have before : (b.take off).length = off := List.length_take_of_le within
  rw [num, slice, patch, List.append_assoc, List.drop_left' before]
  simp [le, ofLe]

/-! ### Contexts (Table 7-1) -/

section
variable {s t : State} (same : t.sched = s.sched) (c : Nat)
include same

theorem State.context_of_sched : t.context c = s.context c := by
  simp only [State.context, same]

theorem State.clientValid_of_sched : t.clientValid c = s.clientValid c := by
  simp only [State.clientValid, State.context_of_sched same]

theorem State.clientState_of_sched : t.clientState c = s.clientState c := by
  simp only [State.clientState, State.context_of_sched same]

theorem State.clientLevel_of_sched : t.clientLevel c = s.clientLevel c := by
  simp only [State.clientLevel, State.context_of_sched same]

theorem State.clientSamples_of_sched : t.clientSamples c = s.clientSamples c := by
  simp only [State.clientSamples, State.context_of_sched same]

theorem State.clientRadio_of_sched : t.clientRadio c = s.clientRadio c := by
  simp only [State.clientRadio, State.context_of_sched same]

end

/-- A context of 64 octets is read as it was set, whether or not it is listed. -/
theorem State.context_setContext (s : State) (c : Nat) {b : Bytes} (whole : b.length = 64) : (s.setContext c b).context c = b := by
  unfold State.setContext State.context
  by_cases zero : b.all (· == 0) = true
  · rw [if_pos zero, Table.find_drop]
    exact (List.eq_replicate_iff.mpr ⟨whole, by simpa using zero⟩).symm
  · rw [if_neg zero, Table.find_put]
    rfl

/-- A number of a context is read as it was set, whatever the length. -/
theorem State.num_setContext (s : State) (c : Nat) (b : Bytes) (off n : Nat) :
    num ((s.setContext c b).context c) off n = num b off n := by
  unfold State.setContext State.context
  by_cases zero : b.all (· == 0) = true
  · rw [if_pos zero, Table.find_drop, num_zeros (b := b) (by simpa using zero)]
    exact num_zeros (fun x mem => List.eq_of_mem_replicate mem) off n
  · rw [if_neg zero, Table.find_put]
    rfl

/-! ### State and level (R239 to R241) -/

section
variable {s : State} {c : Nat} (valid : s.clientValid c = true)
include valid

/-- A valid context holds its third octet. -/
theorem State.context_holds_flags : 2 < (s.context c).length := by
  refine lt_length_of_num (n := 1) fun zero => ?_
  rw [State.clientValid, zero] at valid
  cases valid

theorem State.flags_setContextBits (hi lo x : Nat) {hi' lo' : Nat} (within : hi' < 8) :
    bits (num ((s.setContextBits c 2 hi lo x).context c) 2 1) hi' lo' = bits (withBits (num (s.context c) 2 1) hi lo x) hi' lo' := by
  rw [State.setContextBits, State.patchContext, State.num_setContext,
    num_patch_octet (Nat.le_of_lt (State.context_holds_flags valid)), bits_mod_octet _ within]

theorem State.clientValid_setContextBits (hi x : Nat) {lo : Nat} (above : 0 < lo) :
    (s.setContextBits c 2 hi lo x).clientValid c = true := by
  rw [State.clientValid, bit_iff_bits, State.flags_setContextBits valid _ _ _ (by decide), bits_withBits_other _ _ (.inl above),
    ← bit_iff_bits]
  exact valid

theorem State.clientState_setThread (st level : Nat) : (s.setThread c st level).clientState c = st % 4 := by
  rw [State.setThread, State.clientState,
    State.flags_setContextBits (State.clientValid_setContextBits valid _ _ (by decide)) _ _ _ (by decide),
    bits_withBits_other _ _ (.inl (by decide)), State.flags_setContextBits valid _ _ _ (by decide)]
  exact bits_withBits _ st

theorem State.clientLevel_setThread (st level : Nat) : (s.setThread c st level).clientLevel c = level % 4 := by
  rw [State.setThread, State.clientLevel,
    State.flags_setContextBits (State.clientValid_setContextBits valid _ _ (by decide)) _ _ _ (by decide)]
  exact bits_withBits _ level

end

/-! ### Scores (R239 to R241) -/

/-- A heard occurrence, as it is counted and as it leaves its client. -/
def State.rethreaded (s : State) (c n : Nat) : State :=
  ((s.bump (Reg.schedCnt n 0)).bump (Reg.schedCnt n 1)).setThread c 1 0

/-- A missed occurrence, as it is counted. -/
def State.missCounted (s : State) (n : Nat) : State := (s.bump (Reg.schedCnt n 0)).bump (Reg.schedCnt n 2)

/-- A client lost (R241). -/
def State.lost (s : State) (c n : Nat) : State := (s.setThread c 3 3).bump (Reg.schedCnt n 8)

/-- What a missed occurrence does to a client at a level. -/
def State.missAt (s : State) (c n : Nat) : (level : Nat) → State
  | 0 => (s.setThread c 2 1).bump (Reg.schedCnt n 6)
  | 1 => s.setThread c 2 2
  | 2 => s.setThread c 2 3
  | _ => (s.lost c n).raise 0x1400 1 (le 2 c ++ le 1 n ++ le 2 ((s.lost c n).clientAddress c)
      ++ slice ((s.lost c n).context c) 32 4 ++ le 1 ((s.lost c n).clientQueue c).length)

section
variable {s : State} {c n : Nat} (radio : s.clientRadio c = n)
include radio

theorem State.heard_eq (x : Int) : s.heard c x = if s.clientLevel c = 0 then s.rethreaded c n
    else ((s.rethreaded c n).bump (Reg.schedCnt n 7)).raise 0x1401 0
      (le 2 c ++ le 1 n ++ le 1 (s.clientLevel c) ++ le 4 (unsigned 32 x)) := by
  subst radio
  rfl

theorem State.missed_unlearned (unlearned : s.clientSamples c = 0) : s.missed c = s.missCounted n := by
  subst radio
  exact if_pos unlearned

theorem State.missed_learned (learned : s.clientSamples c ≠ 0) :
    s.missed c = (s.missCounted n).missAt c n (s.clientLevel c) := by
  subst radio
  exact if_neg learned

end

section
variable {s : State} {c : Nat} (valid : s.clientValid c = true)
include valid

/-- R240: a heard occurrence leaves its client SCHEDULED at level 0. -/
theorem State.heard_thread (x : Int) : (s.heard c x).clientLevel c = 0 ∧ (s.heard c x).clientState c = 1 := by
  have counted : (s.heard c x).sched = (s.rethreaded c (s.clientRadio c)).sched := by
    rw [State.heard_eq rfl]
    split
    · rfl
    · rw [State.raise_sched, State.bump_sched]
  rw [State.clientLevel_of_sched counted, State.clientState_of_sched counted]
  exact ⟨State.clientLevel_setThread valid 1 0, State.clientState_setThread valid 1 0⟩

/-- R241: a client lost is in state LOST. -/
theorem State.missAt_lost (n : Nat) : (s.missAt c n 3).clientState c = 3 :=
  (State.clientState_of_sched (State.raise_sched (s.lost c n) _ _ _ _) c).trans (State.clientState_setThread valid 3 3)

end

/-! ### The end of a stitch -/

/-- A radio past the end of a stitch, the occurrence's window gone. -/
def State.stitchLeft (s : State) (n : Nat) (w : Window) : State :=
  (s.reach w.stitchEnd.toNat).modRadio n fun r => { r with windows := r.windows.filter fun x => x.client != w.client }

theorem State.stitchLeft_sched (s : State) (n : Nat) (w : Window) : (s.stitchLeft n w).sched = s.sched := by
  rw [State.stitchLeft, State.modRadio_sched, State.reach_sched]

section
variable {s : State} {n : Nat} {w : Window} (ends : (s.radio n).windows.find? (fun w => w.opened && w.closed) = some w)
include ends

theorem execStitchEnd_busy (busy : s.stitchBusy n w = true) : execStitchEnd n s = .next s := by
  simp [execStitchEnd, ends, busy]

theorem execStitchEnd_scores (settled : s.stitchBusy n w = false) : execStitchEnd n s = .next ((s.stitchLeft n w).score n w) := by
  simp [execStitchEnd, ends, settled, State.stitchLeft]

end

section
variable {s : State} {n : Nat} {w : Window} (valid : s.clientValid w.client = true) (kept : s.clientState w.client ≠ 3)
include valid kept

theorem State.score_heard {x : Int} (heard : w.heard = some x) : s.score n w = s.heard w.client x := by
  simp [State.score, valid, kept, heard]

variable (unheard : w.heard = none)
include unheard

theorem State.score_sighted (sighted : w.sighted = true) : s.score n w = s.bump (Reg.schedCnt n 3) := by
  simp [State.score, valid, kept, unheard, sighted]

variable (unsighted : w.sighted = false)
include unsighted

theorem State.score_unscored (unscored : w.unscored = true) : s.score n w = s.bump (Reg.schedCnt n 4) := by
  simp [State.score, valid, kept, unheard, unsighted, unscored]

theorem State.score_missed (scored : w.unscored = false) : s.score n w = s.missed w.client := by
  simp [State.score, valid, kept, unheard, unsighted, scored]

end

/-- Settles O30: an occurrence heard, sighted, unscored and missed, and what a miss does at each level. -/
theorem stitchesScored : Obligations.StitchesScored := by
  intro s n w ends
  refine ⟨execStitchEnd_busy ends, fun settled valid kept radio => ?_⟩
  intro c b
  have same : b.sched = s.sched := s.stitchLeft_sched n w
  have scored {t : State} (h : b.score n w = t) : exec (.stitchEnd n) s = .next t :=
    (execStitchEnd_scores ends settled).trans (congrArg _ h)
  rw [← State.clientValid_of_sched same] at valid
  rw [← State.clientState_of_sched same] at kept
  rw [← State.clientRadio_of_sched same] at radio
  rw [← State.clientLevel_of_sched same, ← State.clientSamples_of_sched same]
  refine ⟨fun x heard => ?_, fun unheard sighted => scored (State.score_sighted valid kept unheard sighted),
    fun unheard unsighted unscored => scored (State.score_unscored valid kept unheard unsighted unscored),
    fun unheard unsighted counts => ?_⟩
  · obtain ⟨level, state⟩ := State.heard_thread valid x
    exact ⟨_, scored (State.score_heard valid kept heard), level, state, State.heard_eq radio x⟩
  have missed : b.score n w = b.missed c := State.score_missed valid kept unheard unsighted counts
  refine ⟨fun unlearned => scored (missed.trans (State.missed_unlearned radio unlearned)), fun learned =>
    ⟨_, scored (missed.trans (State.missed_learned radio learned)), fun level => ?_, fun level => ?_, fun level => ?_, fun level => ?_⟩⟩
  · rw [level]
    exact ⟨rfl, State.clientLevel_setThread valid 2 1, State.clientState_setThread valid 2 1⟩
  · rw [level]
    exact ⟨rfl, State.clientLevel_setThread valid 2 2⟩
  · rw [level]
    exact ⟨rfl, State.clientLevel_setThread valid 2 3⟩
  · rw [level]
    exact ⟨State.missAt_lost (s := b.missCounted n) valid n, rfl⟩

end Sys2Proof.Machine
end

section
/-! SUPPORT. A client's context from its fetch to its write-back, and the commands that write it, read it and send to it. -/

namespace Sys2Proof.Machine

/-! ### The resident store (R230, R231) -/

theorem State.makeResident_sched (s : State) (c : Nat) :
    ∃ l, (s.makeResident c).2.sched = { s.sched with resident := l } := by
  unfold State.makeResident
  dsimp only
  split
  · exact ⟨_, rfl⟩
  · split
    · exact ⟨_, rfl⟩
    · exact ⟨_, rfl⟩

theorem State.makeResident_pinned (s : State) (c : Nat) : (s.makeResident c).2.sched.pinned = s.sched.pinned := by
  obtain ⟨l, kept⟩ := s.makeResident_sched c
  rw [kept]

theorem State.makeResident_spoiled (s : State) (c : Nat) : (s.makeResident c).2.sched.spoiled = s.sched.spoiled := by
  obtain ⟨l, kept⟩ := s.makeResident_sched c
  rw [kept]

theorem State.mem_spoiled_loseCopy (s : State) (c o : Nat) : (c, o) ∈ (s.loseCopy c o).sched.spoiled := by
  simp [State.loseCopy]

/-- The device at the fetch of a context, a configuration that waited in force. -/
def State.fetching (s : State) (k o : Nat) : State :=
  (s.reach (s.nominalStart k o - 3 * (s.stitchNs k : Int)).toNat).takeStaged k

/-- A context pinned where the store had room for it. -/
def pinKept (k : Nat) (entered : Bool × State) : State :=
  if entered.1 then { entered.2 with sched := { entered.2.sched with pinned := entered.2.sched.pinned ++ [k] } } else entered.2

theorem pinKept_spoiled (k : Nat) (entered : Bool × State) : (pinKept k entered).sched.spoiled = entered.2.sched.spoiled := by
  unfold pinKept
  split <;> rfl

section
variable {s : State} {k o : Nat} (serves : s.served k = true) (ahead : (s.netNs : Int) ≤ s.nominalStart k o)
include serves ahead

section
variable (free : s.sched.pinned.contains k = false)
include free

theorem fetch_goes : ¬ (!s.served k || s.sched.pinned.contains k || decide (s.nominalStart k o < (s.netNs : Int))) = true := by
  rw [serves, free, decide_eq_false (Int.not_lt.mpr ahead)]
  decide

theorem execContextFetch_clean :
    execContextFetch k o .clean s = .next (pinKept k ((s.fetching k o).makeResident k)) := by
  rcases entered : (s.fetching k o).makeResident k with ⟨kept, t⟩
  unfold State.fetching at entered
  simp only [execContextFetch, if_neg (fetch_goes serves ahead free), entered, pinKept]

theorem execContextFetch_uncorrectable (row : Nat) : execContextFetch k o (.uncorrectable row) s
    = .next (pinKept k ((((s.fetching k o).sramError row true).loseCopy k o).makeResident k)) := by
  rcases entered : (((s.fetching k o).sramError row true).loseCopy k o).makeResident k with ⟨kept, t⟩
  unfold State.fetching at entered
  simp only [execContextFetch, if_neg (fetch_goes serves ahead free), entered, pinKept]

theorem execContextFetch_pins (room : ((s.fetching k o).makeResident k).1 = true) :
    execContextFetch k o .clean s = .next { ((s.fetching k o).makeResident k).2 with
      sched := { ((s.fetching k o).makeResident k).2.sched with pinned := ((s.fetching k o).makeResident k).2.sched.pinned ++ [k] } } :=
  (execContextFetch_clean serves ahead free).trans (congrArg _ (if_pos room))

/-- R542: a copy lost at the fetch spoils its occurrence, whether or not the store has room. -/
theorem execContextFetch_spoils (row : Nat) :
    ∃ t : State, execContextFetch k o (.uncorrectable row) s = .next t ∧ (k, o) ∈ t.sched.spoiled := by
  refine ⟨_, execContextFetch_uncorrectable serves ahead free row, ?_⟩
  rw [pinKept_spoiled, State.makeResident_spoiled]
  exact State.mem_spoiled_loseCopy _ k o

end

section
variable (unplaced : ((s.radio (s.clientRadio k)).windows.any fun w => w.client == k) = false)
include unplaced

/-- The device one stitch length before a stitch. -/
def State.preparing (s : State) (k o : Nat) : State := s.reach (s.nominalStart k o - (s.stitchNs k : Int)).toNat

theorem execStitchPrepare_places (resident : s.sched.resident.contains k = true) (pinned : s.sched.pinned.contains k = true) :
    execStitchPrepare k o s = .next (({ ((s.preparing k o).makeResident k).2 with
      sched := { ((s.preparing k o).makeResident k).2.sched with
        spoiled := ((s.preparing k o).makeResident k).2.sched.spoiled.filter (· != (k, o)) } } : State).modRadio (s.clientRadio k) fun r =>
          { r with windows := r.windows ++ [((s.preparing k o).makeResident k).2.planWindow k o] }) := by
  have resident' : (s.preparing k o).sched.resident.contains k = true := by rwa [State.preparing, State.reach_sched]
  have pinned' : ((s.preparing k o).makeResident k).2.sched.pinned.contains k = true := by
    rwa [State.makeResident_pinned, State.preparing, State.reach_sched]
  unfold State.preparing at *
  simp only [execStitchPrepare, serves, unplaced, Int.not_lt.mpr ahead, Bool.not_true, Bool.or_self, decide_false, Bool.false_eq_true,
    if_false, resident', pinned', if_true]

theorem execStitchPrepare_skips (absent : s.sched.resident.contains k = false) : execStitchPrepare k o s = .next
    (((s.preparing k o).bump (Reg.schedCnt (s.clientRadio k) 5)).modRadio (s.clientRadio k) fun r => { r with skipped := r.skipped + 1 }) := by
  have absent' : (s.preparing k o).sched.resident.contains k = false := by rwa [State.preparing, State.reach_sched]
  unfold State.preparing at *
  simp only [execStitchPrepare, serves, unplaced, Int.not_lt.mpr ahead, Bool.not_true, Bool.or_self, decide_false, Bool.false_eq_true,
    if_false, absent']

end
end

theorem execContextWriteBack_unpins {s : State} {k : Nat} (pinned : s.sched.pinned.contains k = true)
    (unplaced : ((s.radio (s.clientRadio k)).windows.any fun w => w.client == k) = false) :
    execContextWriteBack k s = .next { s with sched := { s.sched with pinned := s.sched.pinned.filter (· != k) } } := by
  simp only [execContextWriteBack, pinned, unplaced, Bool.not_false, Bool.and_self, if_true]

theorem execCtxLate_raises {s : State} {n : Nat} (late : (s.radio n).skipped ≠ 0) : execCtxLate n s = .next
    (((s.reachElapsed (1000000000 + 1000000000 * s.elapsedSecond)).modRadio n fun r => { r with skipped := 0 }).raise 0x1402 1
      (le 1 n ++ le 2 (s.radio n).skipped)) := by
  simp only [execCtxLate, if_neg late]

/-! ### Downlink queues (R246) -/

theorem State.clientQueue_setContext (s : State) (c m : Nat) (b : Bytes) : (s.setContext c b).clientQueue m = s.clientQueue m := rfl

theorem State.clientQueue_setClientQueue (s : State) (c : Nat) (l : List ClientFrame) : (s.setClientQueue c l).clientQueue c = l := by
  cases l with
  | nil => simp [State.setClientQueue, State.patchContext, State.setContext, State.clientQueue]
  | cons f l => simp [State.setClientQueue, State.patchContext, State.setContext, State.clientQueue]

theorem State.clientQueue_of_sched {s t : State} (same : t.sched = s.sched) (c : Nat) : t.clientQueue c = s.clientQueue c := by
  simp only [State.clientQueue, same]

/-- A frame that ends leaves its queue, whatever its command is told. -/
theorem State.clientQueue_endClientFrame (s : State) (c status outcome : Nat) :
    (s.endClientFrame c status outcome).clientQueue c = (s.clientQueue c).tail := by
  unfold State.endClientFrame
  split
  · rename_i empty
    rw [empty, List.tail_nil]
  · rename_i f l queue
    dsimp only
    rw [queue, List.tail_cons, State.clientQueue_of_sched (foldl_sched (fun s o => State.finish_sched s o _ _) _ _)]
    exact State.clientQueue_setClientQueue s c l

theorem foldl_endClientFrame_queue (l : List ClientFrame) (s : State) (c status outcome : Nat) :
    (l.foldl (fun (s : State) _ => s.endClientFrame c status outcome) s).clientQueue c = (s.clientQueue c).drop l.length := by
  induction l generalizing s with
  | nil => rfl
  | cons f l ih => rw [List.foldl_cons, ih, State.clientQueue_endClientFrame, List.drop_tail, List.length_cons]

theorem State.clientQueue_dropClientQueue (s : State) (c : Nat) : (s.dropClientQueue c).clientQueue c = [] := by
  rw [State.dropClientQueue, foldl_endClientFrame_queue, List.drop_length]

theorem State.clientQueue_dropOccurrence (s : State) (c m : Nat) : (s.dropOccurrence c).clientQueue m = s.clientQueue m :=
  State.clientQueue_of_sched (s.dropHold_sched _) m

/-! ### CLIENT_WRITE (R227, R229, R242) -/

theorem clientWriteSpec_code : clientWriteSpec.code = 0x1401 := rfl

section
variable {s : State} {c : Cmd} {p : Bytes} (ready : s.Ready clientWriteSpec c p)
include ready

/-- What holds the address or the stitch of a valid configuration. -/
def State.writeHolder (s : State) (p : Bytes) : Option Bytes :=
  if bit (num (p.drop 4) 2 1) 0 then s.clientHolder (num p 0 2) (p.drop 4) else none

theorem execClientWrite_writes (free : (s.received c).writeHolder p = none) : execClientWrite c p s = .next
    (((s.received c).writeClient (num p 0 2) (p.drop 4)).reply (originOf c 0x1401) (okUnless (s.received c).dramDegraded) []) := by
  unfold State.writeHolder at free
  simp only [execClientWrite, State.run_ready ready, free, State.settle, clientWriteSpec_code]

theorem execClientWrite_held {h : Bytes} (held : (s.received c).writeHolder p = some h) :
    execClientWrite c p s = .next ((s.received c).refuse (originOf c 0x1401) Status.resourceBusy h) := by
  unfold State.writeHolder at held
  simp only [execClientWrite, State.run_ready ready, held, State.settle, clientWriteSpec_code]

end

/-- The first 20 octets of a context under a configuration, at a state and a level. -/
def contextHead (b : Bytes) (st level : Nat) : Bytes :=
  b.take 2 ++ le 1 (withBits (withBits (num b 2 1) 2 1 st) 4 3 level) ++ slice b 3 17

section
variable {b : Bytes} (whole : b.length = 20)
include whole

theorem length_contextHead (st level : Nat) : (contextHead b st level).length = 20 := by
  simp [contextHead, le, slice, whole]

variable (valid : bit (num b 2 1) 0 = true) {s : State} {k : Nat}
include valid

/-- R229: a client that was invalid or changes its address begins anew. -/
theorem State.writeClient_fresh (fresh : s.clientValid k = false ∨ s.clientAddress k ≠ num b 0 2) :
    (s.writeClient k b).clientQueue k = [] ∧ (s.writeClient k b).context k = contextHead b 1 0 ++ List.replicate 44 0 := by
  have begins : (!s.clientValid k || s.clientAddress k != num b 0 2) = true := by
    rcases fresh with f | f <;> simp [f]
  simp only [State.writeClient, valid, begins, Bool.not_true, Bool.false_eq_true, if_false, if_true]
  refine ⟨?_, State.context_setContext _ _ ?_⟩
  · rw [State.clientQueue_setContext]
    exact (State.clientQueue_dropOccurrence _ _ _).trans (State.clientQueue_dropClientQueue _ _)
  · rw [List.length_append, List.length_replicate]
    exact congrArg (· + 44) (length_contextHead whole 1 0)

/-- R229: a client that keeps its address keeps its state, its level and what it has learned. -/
theorem State.writeClient_kept (serving : s.clientValid k = true) (address : s.clientAddress k = num b 0 2)
    (unpinned : s.sched.pinned.contains k = false) (stored : (s.context k).length = 64) (kept : s.clientState k ≠ 3) :
    (s.writeClient k b).context k = contextHead b (s.clientState k) (s.clientLevel k) ++ (s.context k).drop 20 := by
  have restore : (s.clientState k == 3 && bits (num b 2 1) 2 1 == 1) = false := by simp [kept]
  simp only [State.writeClient, valid, serving, address, unpinned, restore, bne_self_eq_false, Bool.not_true, Bool.or_self, Bool.and_false,
    Bool.false_eq_true, if_false]
  refine State.context_setContext _ _ ?_
  rw [List.length_append, List.length_drop, stored]
  exact congrArg (· + 44) (length_contextHead whole _ _)

end

/-! ### CLIENT_READ and CLIENT_SEND (R244, R246) -/

theorem execClientRead_reads {s : State} {c : Cmd} {p : Bytes} (ready : s.Ready clientReadSpec c p) : execClientRead c p s = .next
    ((s.received c).reply (originOf c 0x1402) Status.ok ((s.received c).shownContext (num p 0 2))) := by
  rw [execClientRead, State.run_ready ready]
  rfl

section
variable {s : State} {c : Cmd} {p : Bytes} (ready : s.Ready clientSendSpec c p)
include ready

theorem execClientSend_full (full : (s.received c).clientFull (num p 0 2) = true) : execClientSend c p s = .next
    ((s.received c).reply (originOf c 0x1403) Status.ok ([3] ++ List.replicate 13 0)) := by
  rw [execClientSend, State.run_ready ready, if_pos full]
  rfl

/-- The frame that CLIENT_SEND queues under its number. -/
def sentFrame (s : State) (c : Cmd) (p : Bytes) (id : Nat) : ClientFrame where
  id := id
  bytes := p.drop 4
  macType := num p 3 1
  ackReq := bit (num p 2 1) 0
  secured := bit (num p 2 1) 1
  attempts := 0
  step := none
  budget := s.clientBudget (num p 0 2) (1000000 * (if c.timeout = 0 then 65535 else c.timeout))

theorem execClientSend_queues (room : (s.received c).clientFull (num p 0 2) = false) : execClientSend c p s = .next
    ((((s.received c).newFrame.2).queueClient (num p 0 2)
      (sentFrame (s.received c).newFrame.2 c p (s.received c).newFrame.1)).start clientSendSpec c
        (.clientFrame (num p 0 2) (s.received c).newFrame.1)) := by
  rw [execClientSend, State.run_ready ready, if_neg (by simp [room])]
  rfl

end

/-- Settles O31: the fetch, the preparation and the write-back of a context, and the commands of a client. -/
theorem clientsServed : Obligations.ClientsServed := by
  intro s k n c p
  refine ⟨fun o serves ahead => ?_, execContextWriteBack_unpins, execCtxLate_raises,
    fun ready => ⟨execClientWrite_writes ready, fun _ => execClientWrite_held ready⟩,
    fun b whole valid => ⟨State.writeClient_fresh whole valid, State.writeClient_kept whole valid⟩,
    execClientRead_reads, fun ready => ⟨execClientSend_full ready, execClientSend_queues ready⟩⟩
  intro f
  have at_fetch : f = s.fetching k o := rfl
  rw [at_fetch]
  refine ⟨execContextFetch_pins serves ahead, fun row free => execContextFetch_spoils serves ahead free row, fun unplaced => ?_⟩
  intro b
  have at_prepare : b = s.preparing k o := rfl
  rw [at_prepare]
  exact ⟨execStitchPrepare_places serves ahead unplaced, execStitchPrepare_skips serves ahead unplaced⟩

end Sys2Proof.Machine
end

section
/-! SUPPORT. What an event, a counter and a copy in the packet buffer leave alone. -/

namespace Sys2Proof.Machine

/-! ### Reports: changes of registers, sessions, the packet buffer and the chain, and of nothing else -/

/-- Whether a state is another one but for its registers, its host side, its packet buffer and its chain. -/
def State.ReportsTo (s t : State) : Prop :=
  ∃ regs host tm chain, t = { s with regs := regs, host := host, tm := tm, chain := chain }

theorem State.ReportsTo.refl (s : State) : State.ReportsTo s s := ⟨_, _, _, _, rfl⟩

section
variable {s t : State} (h : s.ReportsTo t)
include h

theorem State.ReportsTo.trans {u : State} (next : t.ReportsTo u) : s.ReportsTo u := by
  obtain ⟨_, _, _, _, rfl⟩ := h
  obtain ⟨_, _, _, _, rfl⟩ := next
  exact ⟨_, _, _, _, rfl⟩

theorem State.ReportsTo.eth_eq : t.eth = s.eth := by
  obtain ⟨_, _, _, _, rfl⟩ := h
  rfl

theorem State.ReportsTo.darn_eq : t.darn = s.darn := by
  obtain ⟨_, _, _, _, rfl⟩ := h
  rfl

theorem State.ReportsTo.foldl {α : Type} {f : State → α → State} (keeps : ∀ {t : State} (a : α), s.ReportsTo t → s.ReportsTo (f t a))
    (l : List α) : s.ReportsTo (l.foldl f t) := by
  induction l generalizing t with
  | nil => exact h
  | cons a l ih => exact ih (keeps a h)

theorem State.ReportsTo.setReg64 {a v : Nat} : s.ReportsTo (t.setReg64 a v) := h.trans ⟨_, _, _, _, rfl⟩

theorem State.ReportsTo.setFld {a hi lo x : Nat} : s.ReportsTo (t.setFld a hi lo x) := h.trans ⟨_, _, _, _, rfl⟩

theorem State.ReportsTo.setFlag {a i : Nat} {b : Bool} : s.ReportsTo (t.setFlag a i b) := h.setFld

theorem State.ReportsTo.modSession {n : Nat} {f : Session → Session} : s.ReportsTo (t.modSession n f) :=
  h.trans ⟨_, _, _, _, rfl⟩

theorem State.ReportsTo.withTm {x : Traffic} : s.ReportsTo { t with tm := x } := h.trans ⟨_, _, _, _, rfl⟩

theorem State.ReportsTo.takeCells {cells : Nat} {ingress : Option Nat} {privileged : Bool} :
    s.ReportsTo (t.takeCells cells ingress privileged).2 := by
  cases ingress <;> cases privileged
  · exact h.withTm.setFld
  · exact h.withTm.setFld.setFld
  · exact h.withTm.setFld.setFld
  · exact h.withTm.setFld.setFld.setFld

theorem State.ReportsTo.freeBuffer {id : Nat} : s.ReportsTo (t.freeBuffer id) := by
  unfold State.freeBuffer
  dsimp only
  split
  · exact h
  · split <;> split
    · exact h.withTm.setFld.setFld.setFld
    · exact h.withTm.setFld.setFld
    · exact h.withTm.setFld.setFld
    · exact h.withTm.setFld

theorem State.ReportsTo.dropCopy {id : Nat} : s.ReportsTo (t.dropCopy id) := by
  unfold State.dropCopy
  split
  · exact h
  · split
    · exact h.freeBuffer
    · exact h.withTm

theorem State.ReportsTo.pushPrivileged {node : Nat} {x : Copy} : s.ReportsTo (t.pushPrivileged node x) := by
  unfold State.pushPrivileged
  dsimp only
  split
  · exact h.takeCells.withTm.withTm
  · exact h.withTm

theorem State.ReportsTo.pumpRing {n ring : Nat} : s.ReportsTo (t.pumpRing n ring) := by
  unfold State.pumpRing
  dsimp only
  split
  · split
    · exact h
    · split <;> exact h.trans ⟨_, _, _, _, rfl⟩
  · exact h

theorem State.ReportsTo.raiseTimed {n code severity status source : Nat} {forwarded : Bool} {time body : Bytes} :
    s.ReportsTo (t.raiseTimed n code severity status source forwarded time body) := by
  unfold State.raiseTimed
  dsimp only
  split
  · exact h
  · split
    · split
      · exact h.modSession.pushPrivileged
      · split
        · split
          · exact h.modSession.modSession.pumpRing
          · exact h.modSession.modSession
        · exact h.modSession.modSession
    · exact h

theorem State.ReportsTo.raise {code severity : Nat} {body : Bytes} {status : Nat} :
    s.ReportsTo (t.raise code severity body status) := by
  unfold State.raise
  dsimp only
  split
  · exact h.foldl (fun _ reports => reports.raiseTimed) _
  · split
    · exact h.pushPrivileged
    · split <;> exact h.trans ⟨_, _, _, _, rfl⟩

/-! ### The counters of a port (R262 to R264) -/

theorem State.ReportsTo.emacCount {n k amount : Nat} : s.ReportsTo (t.emacCount n k amount) := by
  unfold State.emacCount
  dsimp only
  split
  · exact h.setReg64
  · generalize (if k < 32 then (Reg.emacHalfStatLo n, Reg.emacHalfMaskLo n, k)
      else (Reg.emacHalfStatHi n, Reg.emacHalfMaskHi n, k - 32)) = half
    split
    · exact h.setReg64.setFlag.raise
    · exact h.setReg64.setFlag

theorem State.ReportsTo.countGood {n length : Nat} {f : Frame} {pause : Bool} : s.ReportsTo (t.countGood n length f pause) := by
  unfold State.countGood
  dsimp only
  split <;> split
  · exact h.emacCount.emacCount.emacCount.emacCount.emacCount.emacCount
  · exact h.emacCount.emacCount.emacCount.emacCount.emacCount
  · exact h.emacCount.emacCount.emacCount.emacCount.emacCount
  · exact h.emacCount.emacCount.emacCount.emacCount

theorem State.ReportsTo.countSent {n : Nat} {c : Copy} {pause : Bool} : s.ReportsTo (t.countSent n c pause) := by
  unfold State.countSent
  dsimp only
  split <;> split
  · exact h.emacCount.emacCount.emacCount.emacCount.emacCount.emacCount
  · exact h.emacCount.emacCount.emacCount.emacCount.emacCount
  · exact h.emacCount.emacCount.emacCount.emacCount.emacCount
  · exact h.emacCount.emacCount.emacCount.emacCount

end

end Sys2Proof.Machine
end

section
/-! SUPPORT. A frame received on an Ethernet port: the checks of Table 8-1, and what a good frame brings. -/

namespace Sys2Proof.Machine

/-! ### Port records -/

theorem State.port_modPort {s : State} {p : Nat} (f : EthPort → EthPort) (inside : p < s.eth.length) :
    (s.modPort p f).port p = f (s.port p) := by
  simp [State.modPort, State.port, setAt, inside]

/-- States with one set of Ethernet ports have the same port records. -/
theorem State.port_of_eth {s t : State} (h : t.eth = s.eth) (p : Nat) : t.port p = s.port p := by
  simp only [State.port, h]

/-- R253: the pause time that a PAUSE gives. -/
theorem State.port_obeyPause {s : State} {p : Nat} (quanta : Nat) (inside : p < s.eth.length) :
    (s.obeyPause p quanta).port p = { s.port p with pausedUntil := s.elapsed + s.bitTimes p quanta } :=
  State.port_modPort _ inside

/-! ### Checks (Table 8-1) -/

section
variable {s : State} {p : Nat} {frame : Bytes}

theorem State.rxFails_code_error : s.rxFails p frame true = some 22 := rfl

theorem State.rxFails_too_long (long : 9600 < frame.length) : s.rxFails p frame false = some 21 := by
  simp [State.rxFails, long]

theorem State.rxFails_oversize (short : frame.length ≤ 9600) (excess : s.fld (Reg.emacMaxlen p) 13 0 < frame.length) :
    s.rxFails p frame false = some 20 := by
  simp [State.rxFails, Nat.not_lt.mpr short, excess]

theorem State.rxFails_short (within : frame.length ≤ s.fld (Reg.emacMaxlen p) 13 0) (short : frame.length < 64) :
    s.rxFails p frame false = some (if fcsOk frame then 18 else 19) := by
  simp [State.rxFails, show ¬ 9600 < frame.length by omega, Nat.not_lt.mpr within, short]

theorem State.rxFails_wrong_fcs (short : frame.length ≤ 9600) (within : frame.length ≤ s.fld (Reg.emacMaxlen p) 13 0)
    (whole : 64 ≤ frame.length) (wrong : fcsOk frame = false) : s.rxFails p frame false = some 17 := by
  simp [State.rxFails, Nat.not_lt.mpr short, Nat.not_lt.mpr within, Nat.not_lt.mpr whole, wrong]

/-- R263: the counters of a good frame. -/
def State.frameCounted (s : State) (p : Nat) (frame : Bytes) : State :=
  (s.emacCount p 1 (min frame.length 9601)).countGood p frame.length (frameOf frame) ((frameOf frame).type == 0x8808)

/-- A frame that has taken the cells of a buffer, waiting for its lookup. -/
def State.frameWaits (t : State) (p : Nat) (frame : Bytes) (buffer : Nat) : State :=
  (t.pushInbound { port := p, bytes := frame.take (frame.length - 4), report := [], buffer := buffer, length := frame.length
                   stamp := (t.stampNow p false).1 }).pauseAll

/-! ### A frame that meets no receiver, or fails a check -/

/-- R251: a port that is off, disabled or without its link takes no frame. -/
theorem execEthFrameRx_deaf (deaf : (s.on .pkt && s.ethOn p && s.linkOn p) = false) (bad fails : Bool) :
    execEthFrameRx p frame bad fails s = .next s := by
  cases fails <;> simp [execEthFrameRx, State.ethReceive, deaf]

section
variable (live : (s.on .pkt && s.ethOn p && s.linkOn p) = true)
include live

/-- A frame that fails a check, but for an in-band frame that the port does not accept, adds to one counter alone. -/
theorem execEthFrameRx_fails {bad : Bool} {k : Nat} (fails : s.rxFails p frame bad = some k) (other : k ≠ 24) :
    execEthFrameRx p frame bad false s = .next ((s.emacCount p 1 (min frame.length 9601)).emacCount p k) := by
  simp [execEthFrameRx, State.ethReceive, live, fails, other]

/-! ### A good frame -/

variable (good : s.rxFails p frame false = none)
include good

theorem execEthFrameRx_pause (pause : (frameOf frame).type = 0x8808) : execEthFrameRx p frame false false s =
    .next (((s.frameCounted p frame).obeyPause p (numBe (frameOf frame).body 4 2)).startPause p) := by
  simp [execEthFrameRx, State.ethReceive, live, good, pause, State.frameCounted]

section
variable {t : State} {buffer : Nat} (control : (frameOf frame).type ≠ 0x8808) (command : (frameOf frame).type ≠ 0x88B5)
  (taken : (s.frameCounted p frame).takeCells (cellsOf frame.length) (some p) false = (buffer, t))
include control command taken

/-- A data frame that the port's boundary stamper stamps, or that is none of IEEE 1588, waits for its lookup. -/
theorem State.ethReceive_waits {fails : Bool}
    (stamped : (frameOf frame).isPtp = false ∨ fails = false ∧ s.unitState 8 p ≠ .retired) :
    s.ethReceive p frame false fails = (none, t.frameWaits p frame buffer) := by
  have same : t.unitState 8 p = s.unitState 8 p := by
    have reports : s.ReportsTo t := by
      rw [show t = _ from (congrArg Prod.snd taken).symm]
      exact (State.ReportsTo.refl s).emacCount.countGood.takeCells
    exact State.unitState_of_darn reports.darn_eq 8 p
  have counted := taken
  simp only [State.frameCounted, beq_false_of_ne control] at counted
  simp only [State.ethReceive, live, good, beq_false_of_ne control, if_neg command, counted]
  rcases stamped with plain | ⟨rfl, serving⟩
  · simp [plain, State.frameWaits]
  · have boundary : t.stampFor p false false = (t.stampNow p false, false, t) := by
      simp [State.stampFor, State.inFallback, same, serving]
    cases (frameOf frame).isPtp <;> simp [boundary, State.frameWaits]

theorem execEthFrameRx_waits (stamped : (frameOf frame).isPtp = false ∨ s.unitState 8 p ≠ .retired) :
    execEthFrameRx p frame false false s = .next (t.frameWaits p frame buffer) := by
  simp [execEthFrameRx, State.ethReceive_waits live good control command taken (stamped.imp_right fun serving => ⟨rfl, serving⟩), good]

/-- A stamp that fails its check is scored against the port's stamper. -/
theorem execEthFrameRx_scores (plain : (frameOf frame).isPtp = false) :
    execEthFrameRx p frame false true s = .next ((t.frameWaits p frame buffer).unitError 8 p) := by
  simp [execEthFrameRx, State.ethReceive_waits live good control command taken (.inl plain), good, live]

end
end
end

/-- Settles O32: the deaf port, the checks one by one, the PAUSE, and the data frame with and without its stamp scored. -/
theorem ethernetReceiveChecks : Obligations.EthernetReceiveChecks := by
  intro s p frame
  refine ⟨execEthFrameRx_deaf, fun live => ⟨?_, ?_, ?_, ?_, ?_, fun good => ⟨?_, ?_⟩⟩, fun _ => State.port_obeyPause _⟩
  · exact execEthFrameRx_fails live State.rxFails_code_error (by decide)
  · exact fun long => execEthFrameRx_fails live (State.rxFails_too_long long) (by decide)
  · exact fun short excess => execEthFrameRx_fails live (State.rxFails_oversize short excess) (by decide)
  · exact fun _ within short => execEthFrameRx_fails live (State.rxFails_short within short) (by split <;> decide)
  · exact fun short within whole wrong => execEthFrameRx_fails live (State.rxFails_wrong_fcs short within whole wrong) (by decide)
  · exact execEthFrameRx_pause live good
  · exact fun control command stamped buffer t taken => ⟨execEthFrameRx_waits live good control command taken stamped,
      execEthFrameRx_scores live good control command taken⟩

end Sys2Proof.Machine
end

section
/-! SUPPORT. A port's link, its rate and its line, and the read of its counters. -/

namespace Sys2Proof.Machine

/-! ### Registers and time -/

@[simp] theorem State.reachElapsed_flag (s : State) (t a i : Nat) : (s.reachElapsed t).flag a i = s.flag a i := by
  simp only [State.flag_eq_testBit, State.reachElapsed_reg]

theorem State.flag_setFld_ne (s : State) {a b : Nat} (hi lo x i : Nat) (h : b ≠ a) : (s.setFld a hi lo x).flag b i = s.flag b i :=
  State.flag_setReg_ne s i _ h

/-- What a field of a port record holds does not depend on a change that keeps that field, of whichever port. -/
theorem State.port_modPort_field {β : Type} (field : EthPort → β) (s : State) (n m : Nat) {f : EthPort → EthPort}
    (keeps : ∀ e, field (f e) = field e) : field ((s.modPort n f).port m) = field (s.port m) := by
  simp only [State.modPort, State.port, setAt, List.getD_eq_getElem?_getD, List.getElem?_modify]
  cases s.eth[m]? with
  | none => rfl
  | some e => by_cases h : n = m <;> simp [h, keeps]

/-! ### Octets that hold numbers -/

@[simp] theorem length_le (n v : Nat) : (le n v).length = n := by
  induction n generalizing v with
  | zero => rfl
  | succ n ih => simp [le, ih]

theorem ofLe_le (n v : Nat) : ofLe (le n v) = v % 256 ^ n := by
  induction n generalizing v with
  | zero => simp [le, ofLe, Nat.mod_one]
  | succ n ih => rw [le, ofLe, ih, BitVec.toNat_ofNat, (Nat.pow_succ' : 256 ^ (n + 1) = _), Nat.mod_mul]

theorem num_le_append (n v : Nat) (b : Bytes) : num (le n v ++ b) 0 n = v % 256 ^ n := by
  rw [num, slice, List.drop_zero, List.take_left' (length_le n v), ofLe_le]

theorem num_append_right {a : Bytes} {n : Nat} (whole : a.length = n) (b : Bytes) (off k : Nat) :
    num (a ++ b) (n + off) k = num b off k := by
  rw [num, num, slice, slice, ← whole, List.drop_length_add_append]

/-- A row of numbers of one size. -/
theorem length_flatMap_le {α : Type} (n : Nat) (f : α → Nat) (l : List α) : (l.flatMap fun x => le n (f x)).length = n * l.length := by
  induction l with
  | nil => rfl
  | cons x l ih => rw [List.flatMap_cons, List.length_append, length_le, ih, List.length_cons, Nat.mul_succ, Nat.add_comm]

/-- A number of a row of numbers of one size, at its place. -/
theorem num_flatMap_le {α : Type} (n : Nat) (f : α → Nat) (l : List α) {k : Nat} (inside : k < l.length) :
    num (l.flatMap fun x => le n (f x)) (n * k) n = f l[k] % 256 ^ n := by
  induction l generalizing k with
  | nil => exact absurd inside (Nat.not_lt_zero k)
  | cons x l ih =>
    rw [List.flatMap_cons]
    cases k with
    | zero => exact num_le_append n _ _
    | succ k =>
      rw [Nat.mul_succ, Nat.add_comm, num_append_right (length_le n _)]
      exact ih (Nat.lt_of_succ_lt_succ inside)

/-! ### PAUSE (R253, R254) -/

section
variable {s : State} {p : Nat}

theorem execPauseExpiry_ends (paused : s.flag (Reg.emacStat p) 5 = true) : execPauseExpiry p s =
    .next (((s.reachElapsed (s.port p).pausedUntil).setFlag (Reg.emacStat p) 5 false).startPause p) := by
  simp only [execPauseExpiry, if_pos paused]

theorem execPauseRepeat_repeats (pausing : (s.port p).pausing = true)
    (above : s.fld (Reg.tmIng p) 14 0 < 2 * s.fld (Reg.tmIngStat p) 14 0) : execPauseRepeat p s =
    .next (((s.reachElapsed ((s.port p).pauseSent + s.bitTimes p 0x8000)).modPort p fun e => { e with pauseOwed := some 0xFFFF }).startPause p) := by
  simp [execPauseRepeat, pausing, above]

/-! ### Link state (R255 to R257) -/

theorem execLinkDown_loses_sync {t : Nat} (fault : Bool) (up : s.linkOn p = true) (settled : s.flag (Reg.emacStat p) 7 = false)
    (lost : (s.port p).lossSince = some t) : execLinkDown p 0 fault s =
    .next (((s.reachElapsed (t + 1000000 * s.fld (Reg.emacCtl p) 25 16)).linkLost p).raiseLinkDown p 0) := by
  simp [execLinkDown, up, settled, lost]

theorem execRestartIdleEnd_takes_setting (idle : (s.port p).idle = 1) : execRestartIdleEnd p s =
    .next (((s.reachElapsed (2000000 + (s.port p).idleSince)).setFlag (Reg.emacStat p) 1 (s.flag (Reg.emacCtl p) 1)).modPort p
      fun e => { e with idle := 0 }) := by
  simp only [execRestartIdleEnd, if_pos idle, State.reachElapsed_flag]

section
variable (awake : s.awake = true) (powered : s.on .pkt = true) (enabled : s.ethOn p = true)
include awake powered enabled

theorem execPcsSyncChange_notes {sync : Bool} (change : s.flag (Reg.emacStat p) 3 ≠ sync) : execPcsSyncChange p sync s =
    .next ((s.setFlag (Reg.emacStat p) 3 sync).modPort p fun e => { e with
      syncSince := if sync then some s.elapsed else none, lossSince := if sync then none else some s.elapsed }) := by
  simp [execPcsSyncChange, awake, powered, enabled, change]

/-- R255: a link that does not negotiate, 1 ms after synchronisation and outside a rate change. -/
theorem execLinkUp_comes_up {t : Nat} (down : s.linkOn p = false) (driven : (s.port p).idle = 0) (synced : (s.port p).syncSince = some t)
    (steady : (s.port p).change = none) (fixed : s.flag (Reg.emacCtl p) 2 = false) :
    let u := (((s.reachElapsed (1000000 + t)).setFlag (Reg.emacStat p) 0 true).setFlag (Reg.emacStat p) 2 false).setFlag (Reg.emacStat p) 4 false
    execLinkUp p none s = .next ((u.raise 0x2000 0 (le 1 p ++ le 1 (u.fld (Reg.emacStat p) 1 1) ++ [0])).startPause p) := by
  simp [execLinkUp, awake, powered, enabled, down, driven, synced, steady, fixed, le]

end

/-! ### Rate changes (R258 to R260) -/

theorem execRateIdleEnd_switches (idle : (s.port p).idle = 2) : execRateIdleEnd p s =
    .next ((((s.reachElapsed (2000000 + (s.port p).idleSince)).setFlag (Reg.emacStat p) 1 (!s.flag (Reg.emacStat p) 1)).setFlag
      (Reg.emacStat p) 6 (!!s.flag (Reg.emacStat p) 1)).modPort p fun e => { e with idle := 0 }) := by
  simp only [execRateIdleEnd, if_pos idle, State.reachElapsed_flag]

section
variable {cause : Nat} (changing : (s.port p).change = some cause) (down : s.linkOn p = false) (driven : (s.port p).idle = 0)
include changing down driven

theorem execRateRetrainTimeout_returns (leaving : cause ≠ 2) : execRateRetrainTimeout p s =
    .next ((s.reachElapsed (500000000 + (s.port p).idleSince)).changeRate p 2 (s.port p).deciding) := by
  simp [execRateRetrainTimeout, changing, down, driven, leaving]

theorem execRateRetrainTimeout_gives_up (returning : cause = 2) : execRateRetrainTimeout p s =
    .next (((((s.reachElapsed (500000000 + (s.port p).idleSince)).setFlag (Reg.emacStat p) 7 false).setFlag (Reg.emacCtl p) 5 false).modPort p
      fun e => { e with change := none }).raiseLinkDown p 0) := by
  simp [execRateRetrainTimeout, changing, down, driven, returning]

end

/-- The share of a utilisation window noted in EMAC_n_RATE_STAT. -/
def State.windowNoted (s : State) (p percent : Nat) : State := s.setFld (Reg.emacRateStat p) 23 16 (min percent 255)

theorem State.windowNoted_ctl (percent i : Nat) : (s.windowNoted p percent).flag (Reg.emacCtl p) i = s.flag (Reg.emacCtl p) i :=
  State.flag_setFld_ne s _ _ _ i (by simp [Reg.emacCtl, Reg.emacRateStat])

theorem State.windowNoted_stat (percent i : Nat) : (s.windowNoted p percent).flag (Reg.emacStat p) i = s.flag (Reg.emacStat p) i :=
  State.flag_setFld_ne s _ _ _ i (by simp [Reg.emacStat, Reg.emacRateStat])

theorem State.windowNoted_rate (percent : Nat) : (s.windowNoted p percent).reg (Reg.emacRate p) = s.reg (Reg.emacRate p) :=
  State.reg_setFld_ne s _ _ _ (by simp [Reg.emacRate, Reg.emacRateStat])

/-- R258 to R260: what the end of a utilisation window decides, on a port whose link is up at a settled rate. -/
def State.windowDecides (u : State) (p percent : Nat) (rate : Word) (fast : Bool) : State :=
  if fast then
    if percent < field rate 7 0 then
      let w := u.modPort p fun e => { e with quietWindows := e.quietWindows + 1 }
      if field rate 27 16 ≤ (w.port p).quietWindows then w.changeRate p 0 percent else w
    else u.modPort p fun e => { e with quietWindows := 0 }
  else if field rate 15 8 < percent then u.changeRate p 1 percent else u

theorem execRateWindowEnd_decides {percent : Nat} (powered : s.on .pkt = true) (enabled : s.ethOn p = true) (up : s.linkOn p = true)
    (settled : s.flag (Reg.emacStat p) 7 = false) (lowers : s.flag (Reg.emacCtl p) 5 = true) (setting : s.flag (Reg.emacCtl p) 1 = true) :
    execRateWindowEnd p percent s
      = .next ((s.windowNoted p percent).windowDecides p percent (s.reg (Reg.emacRate p)) (s.flag (Reg.emacStat p) 1)) := by
  have lowering : ¬ (!((s.windowNoted p percent).flag (Reg.emacCtl p) 5 && (s.windowNoted p percent).flag (Reg.emacCtl p) 1)) = true := by
    simp [State.windowNoted_ctl, lowers, setting]
  rw [execRateWindowEnd, if_neg (by simp [powered, enabled, up, settled]), ← State.windowNoted_rate percent,
    ← State.windowNoted_stat percent]
  exact congrArg _ (if_neg lowering)

section
variable {percent : Nat} {rate : Word}

theorem State.windowDecides_counts (inside : p < s.eth.length) (quiet : percent < field rate 7 0)
    (few : (s.port p).quietWindows + 1 < field rate 27 16) :
    s.windowDecides p percent rate true = s.modPort p fun e => { e with quietWindows := e.quietWindows + 1 } := by
  simp [State.windowDecides, quiet, State.port_modPort _ inside, Nat.not_le.mpr few]

theorem State.windowDecides_lowers (inside : p < s.eth.length) (quiet : percent < field rate 7 0)
    (enough : field rate 27 16 ≤ (s.port p).quietWindows + 1) : s.windowDecides p percent rate true
      = (s.modPort p fun e => { e with quietWindows := e.quietWindows + 1 }).changeRate p 0 percent := by
  simp [State.windowDecides, quiet, State.port_modPort _ inside, enough]

theorem State.windowDecides_restarts (busy : field rate 7 0 ≤ percent) :
    s.windowDecides p percent rate true = s.modPort p fun e => { e with quietWindows := 0 } := by
  simp [State.windowDecides, Nat.not_lt.mpr busy]

theorem State.windowDecides_lowered :
    s.windowDecides p percent rate false = if field rate 15 8 < percent then s.changeRate p 1 percent else s := rfl

end

/-! ### The transmit line -/

/-- A data frame leaves the line of a port that has no rate change to begin. -/
theorem execEthTxEnd_sends {f : Copy} (sending : (s.port p).line = some f) (data : (s.port p).pauseOnLine = false)
    (steady : (s.port p).idle ≠ 3) : execEthTxEnd p s =
    .next ((((s.countSent p f false).dropCopy f.buffer).modPort p fun e => { e with line := none, pauseOnLine := false }).pauseAll) := by
  have same : (((s.countSent p f false).dropCopy f.buffer).port p) = s.port p :=
    State.port_of_eth (State.ReportsTo.refl s).countSent.dropCopy.eth_eq p
  have kept : ((((s.countSent p f false).dropCopy f.buffer).modPort p fun e => { e with line := none, pauseOnLine := false }).port p).idle
      = (s.port p).idle := by
    refine (State.port_modPort_field EthPort.idle _ p p ?_).trans (congrArg EthPort.idle same)
    exact fun _ => rfl
  simp [execEthTxEnd, sending, data, kept, steady]

/-! ### EMAC_STATS_READ (R263, R265) -/

/-- The result of EMAC_STATS_READ: the status of a port and its 44 counters. -/
def State.portStats (s : State) (n : Nat) : Bytes :=
  le 4 (s.reg (Reg.emacStat n)).toNat ++ (List.range 44).flatMap fun k => le 8 (s.reg64 (Reg.emacCntLo n k))

theorem execEmacStatsRead_reads {c : Cmd} {b : Bytes} (ready : s.Ready emacStatsReadSpec c b) : execEmacStatsRead c b s =
    .next ((s.received c).reply (originOf c 0x2001) Status.ok ((s.received c).portStats (num b 0 1))) := by
  rw [execEmacStatsRead, State.run_ready ready]
  rfl

theorem State.length_portStats (n : Nat) : (s.portStats n).length = 356 := by
  rw [State.portStats, List.length_append, length_le, length_flatMap_le, List.length_range]

theorem State.portStats_status (n : Nat) : num (s.portStats n) 0 4 = (s.reg (Reg.emacStat n)).toNat := by
  rw [State.portStats, num_le_append]
  exact Nat.mod_eq_of_lt (s.reg (Reg.emacStat n)).isLt

theorem State.reg64_lt (a : Nat) : s.reg64 a < 256 ^ 8 := by
  have low := (s.reg a).isLt
  have high := (s.reg (a + 4)).isLt
  rw [State.reg64]
  omega

theorem State.portStats_counter (n : Nat) {k : Nat} (inside : k < 44) :
    num (s.portStats n) (4 + 8 * k) 8 = s.reg64 (Reg.emacCntLo n k) := by
  rw [State.portStats, num_append_right (length_le 4 _), num_flatMap_le 8 _ _ (by simpa using inside), List.getElem_range,
    Nat.mod_eq_of_lt (State.reg64_lt _)]

end

/-- Settles O33: the PAUSE, the link, the rate, the line and the counters of a port, a lemma each. -/
theorem ethernetLinks : Obligations.EthernetLinks := by
  intro s p c b e rate
  refine ⟨execPauseExpiry_ends, execPauseRepeat_repeats, fun awake powered enabled => ⟨?_, ?_, ?_⟩,
    fun _ => execLinkDown_loses_sync, execRestartIdleEnd_takes_setting, execRateIdleEnd_switches,
    fun cause changing down driven => ⟨execRateRetrainTimeout_returns changing down driven,
      execRateRetrainTimeout_gives_up changing down driven⟩,
    fun _ => execEthTxEnd_sends, fun ready => ⟨_, execEmacStatsRead_reads ready, State.length_portStats _,
      State.portStats_status _, fun _ => State.portStats_counter _⟩⟩
  · exact fun _ => execPcsSyncChange_notes awake powered enabled
  · exact fun _ => execLinkUp_comes_up awake powered enabled
  · intro up settled lowers setting inside percent u
    have decides := execRateWindowEnd_decides (percent := percent) powered enabled up settled lowers setting
    refine ⟨fun fast quiet few => ?_, fun fast quiet enough => ?_, fun fast busy => ?_, fun slow => ?_⟩
    · exact (fast ▸ decides).trans (congrArg _ (State.windowDecides_counts inside quiet few))
    · exact (fast ▸ decides).trans (congrArg _ (State.windowDecides_lowers inside quiet enough))
    · exact (fast ▸ decides).trans (congrArg _ (State.windowDecides_restarts busy))
    · exact (slow ▸ decides).trans (congrArg _ State.windowDecides_lowered)

end Sys2Proof.Machine
end

section
/-! SUPPORT. The MAC table by bucket and way: which entry a key finds, which way a write takes, and what a change of entries
leaves of the others. -/

namespace Sys2Proof.Machine

/-! ### Tables and octets after a write -/

/-- What every key of a table finds after a write. -/
theorem Table.find_put_eq_ite {α : Type} (t : Table α) (n : Nat) (x : α) (m : Nat) :
    Table.find (Table.put t n x) m = if m = n then some x else Table.find t m := by
  by_cases here : m = n
  · rw [if_pos here, here, Table.find_put]
  · rw [if_neg here, Table.find_put_ne t x here]

/-- A 64-bit value reads as it was set, modulo 2^64. -/
theorem State.reg64_setReg64 (s : State) (a v : Nat) : (s.setReg64 a v).reg64 a = v % 2 ^ 64 := by
  rw [State.reg64, State.setReg64, State.reg_setReg, State.reg_setReg_ne _ _ (show a ≠ a + 4 by omega), State.reg_setReg,
    BitVec.toNat_ofNat, BitVec.toNat_ofNat]
  omega

theorem take_patch {p : Bytes} {n off : Nat} (new : Bytes) (before : n ≤ off) (inside : off ≤ p.length) :
    (patch p off new).take n = p.take n := by
  rw [patch, List.append_assoc, List.take_append_of_le_length (by rw [List.length_take_of_le inside]; exact before),
    List.take_take, Nat.min_eq_left before]

theorem num_of_take {p q : Bytes} {m : Nat} (same : q.take m = p.take m) {off n : Nat} (before : off + n ≤ m) :
    num q off n = num p off n := by
  have cut (b : Bytes) : slice b off n = ((b.take m).take (off + n)).drop off := by
    rw [slice, List.take_drop, List.take_take, Nat.min_eq_left before]
  rw [num, num, cut, cut, same]

theorem findSome?_range_eq_some_iff {α : Type} {f : Nat → Option α} {n : Nat} {a : α} :
    (List.range n).findSome? f = some a ↔ ∃ i < n, f i = some a ∧ ∀ j < i, f j = none := by
  induction n with
  | zero => simp
  | succ n ih =>
    rw [List.range_succ, List.findSome?_append, Option.or_eq_some_iff, ih, List.findSome?_eq_none_iff]
    constructor
    · rintro (⟨i, inside, at_i, first⟩ | ⟨none, last⟩)
      · exact ⟨i, Nat.lt_succ_of_lt inside, at_i, first⟩
      · exact ⟨n, Nat.lt_succ_self n, by simpa using last, fun j below => none j (List.mem_range.mpr below)⟩
    · rintro ⟨i, inside, at_i, first⟩
      rcases Nat.lt_succ_iff_lt_or_eq.mp inside with below | rfl
      · exact .inl ⟨i, below, at_i, first⟩
      · exact .inr ⟨fun j mem => first j (List.mem_range.mp mem), by simpa using at_i⟩

/-! ### The entry of a key (R277) -/

/-- The entry of a key in one way of its bucket, with its place. -/
def State.macInWay (s : State) (mac : Bytes) (vlan w : Nat) : Option (Nat × Bytes) :=
  ((Table.find s.fwd.mac (4 * macBucket mac vlan + w)).filter (macIs mac vlan)).map (4 * macBucket mac vlan + w, ·)

section
variable {s : State} {mac : Bytes} {vlan w k : Nat} {e : Bytes}

theorem State.macInWay_eq_some_iff : s.macInWay mac vlan w = some (k, e) ↔
    4 * macBucket mac vlan + w = k ∧ Table.find s.fwd.mac (4 * macBucket mac vlan + w) = some e ∧ macIs mac vlan e = true := by
  rw [State.macInWay, Option.map_eq_some_iff]
  simp only [Option.filter_eq_some_iff, Prod.mk.injEq]
  constructor
  · rintro ⟨_, ⟨listed, is⟩, place, rfl⟩
    exact ⟨place, listed, is⟩
  · rintro ⟨place, listed, is⟩
    exact ⟨e, ⟨listed, is⟩, place, rfl⟩

theorem State.macFind_eq (s : State) (mac : Bytes) (vlan : Nat) :
    s.macFind mac vlan = (List.range 4).findSome? (s.macInWay mac vlan) := by
  unfold State.macFind
  dsimp only
  congr 1
  funext w
  unfold State.macInWay
  cases Table.find s.fwd.mac (4 * macBucket mac vlan + w) with
  | none => rfl
  | some e =>
    by_cases is : macIs mac vlan e = true
    · simp only [is, if_true, Option.filter_some, Option.map_some]
    · simp only [if_neg is, Option.filter_some, Option.map_none]

theorem State.macFind_eq_some_iff : s.macFind mac vlan = some (k, e) ↔
    ∃ w < 4, s.macInWay mac vlan w = some (k, e) ∧ ∀ j < w, s.macInWay mac vlan j = none := by
  rw [State.macFind_eq, findSome?_range_eq_some_iff]

theorem State.find_of_macFind (found : s.macFind mac vlan = some (k, e)) : Table.find s.fwd.mac k = some e := by
  obtain ⟨w, -, here, -⟩ := State.macFind_eq_some_iff.mp found
  obtain ⟨rfl, listed, -⟩ := State.macInWay_eq_some_iff.mp here
  exact listed

/-- An entry set in a way of its key's bucket is found by the key when no earlier way holds one of it. -/
theorem State.macFind_setMac (inside : w < 4) (first : ∀ j < w, s.macInWay mac vlan j = none) (is : macIs mac vlan e = true) :
    (s.setMac (4 * macBucket mac vlan + w) e).macFind mac vlan = some (4 * macBucket mac vlan + w, e) := by
  refine State.macFind_eq_some_iff.mpr ⟨w, inside, State.macInWay_eq_some_iff.mpr ⟨rfl, Table.find_put _ _ _, is⟩, fun j below => ?_⟩
  have apart : Table.find (s.setMac (4 * macBucket mac vlan + w) e).fwd.mac (4 * macBucket mac vlan + j)
      = Table.find s.fwd.mac (4 * macBucket mac vlan + j) := Table.find_put_ne _ _ (by omega)
  rw [State.macInWay, apart]
  exact first j below

/-- The key of a valid entry stays that of the entry once its time is stamped. -/
theorem macIs_patch_seen {p : Bytes} (whole : p.length = 16) (valid : bit (num p 8 1) 0 = true) (small : num p 6 2 < 4096)
    (seen : Bytes) : macIs (p.take 6) (num p 6 2) (patch p 12 seen) = true := by
  have kept : (patch p 12 seen).take 12 = p.take 12 := take_patch seen (by decide) (by omega)
  simp [macIs, num_of_take kept, valid, take_patch (p := p) seen (show 6 ≤ 12 by decide) (by omega), Nat.mod_eq_of_lt small]

/-! ### The way that a write takes (R278) -/

/-- Whether a way of a bucket holds a dynamic entry last seen at a time. -/
def State.DynamicAt (s : State) (b w t : Nat) : Prop :=
  ∃ e, Table.find s.fwd.mac (4 * b + w) = some e ∧ bit (num e 8 1) 1 = false ∧ num e 12 4 = t

/-- The least recently seen of the best dynamic way so far and the next one. -/
def State.olderWay (s : State) (b : Nat) (best : Option (Nat × Nat)) (w : Nat) : Option (Nat × Nat) :=
  match Table.find s.fwd.mac (4 * b + w) with
  | some e =>
    if bit (num e 8 1) 1 then best
    else (match best with
      | none => some (w, num e 12 4)
      | some (w', t) => if num e 12 4 < t then some (w, num e 12 4) else some (w', t))
  | none => best

theorem State.macWay_eq (s : State) (mac : Bytes) (vlan : Nat) : s.macWay mac vlan =
    (((s.macFind mac vlan).map fun k => k.1 % 4) <|> s.macFree (macBucket mac vlan)
      <|> ((List.range 4).foldl (s.olderWay (macBucket mac vlan)) none).map (·.1)) := rfl

/-- Whether a way is the dynamic one least recently seen among some of a bucket, none where none of them is dynamic. -/
def State.IsOldest (s : State) (b : Nat) (ws : List Nat) : Option (Nat × Nat) → Prop
  | none => ∀ w ∈ ws, ∀ t, ¬ s.DynamicAt b w t
  | some (w, t) => w ∈ ws ∧ s.DynamicAt b w t ∧ ∀ w' ∈ ws, ∀ t', s.DynamicAt b w' t' → t ≤ t'

section
variable {b : Nat} {ws : List Nat} {best : Option (Nat × Nat)} (old : s.IsOldest b ws best)
include old

theorem State.isOldest_of_fixed (fixed : ∀ t, ¬ s.DynamicAt b w t) : s.IsOldest b (ws ++ [w]) best := by
  cases best with
  | none => exact List.forall_mem_append.mpr ⟨old, List.forall_mem_singleton.mpr fixed⟩
  | some x =>
    obtain ⟨mem, dynamic, least⟩ := old
    exact ⟨List.mem_append_left _ mem, dynamic,
      List.forall_mem_append.mpr ⟨least, List.forall_mem_singleton.mpr fun t here => absurd here (fixed t)⟩⟩

theorem State.isOldest_olderWay (w : Nat) : s.IsOldest b (ws ++ [w]) (s.olderWay b best w) := by
  unfold State.olderWay
  cases listed : Table.find s.fwd.mac (4 * b + w) with
  | none => exact State.isOldest_of_fixed old fun t ⟨e, found, _⟩ => by simp [listed] at found
  | some e =>
    have only : ∀ t, s.DynamicAt b w t → bit (num e 8 1) 1 = false ∧ num e 12 4 = t := by
      rintro t ⟨e', found, dynamic, seen⟩
      obtain rfl := Option.some.inj (listed.symm.trans found)
      exact ⟨dynamic, seen⟩
    by_cases fixed : bit (num e 8 1) 1 = true
    · simp only [fixed, if_true]
      exact State.isOldest_of_fixed old fun t here => absurd fixed (by simp [(only t here).1])
    · simp only [if_neg fixed]
      have here : s.DynamicAt b w (num e 12 4) := ⟨e, listed, by simpa using fixed, rfl⟩
      have mem_last : w ∈ ws ++ [w] := List.mem_append_right _ (List.mem_singleton_self w)
      cases best with
      | none =>
        exact ⟨mem_last, here, List.forall_mem_append.mpr ⟨fun v mem t there => absurd there (old v mem t),
          List.forall_mem_singleton.mpr fun t seen => Nat.le_of_eq (only t seen).2⟩⟩
      | some x =>
        obtain ⟨v, t⟩ := x
        obtain ⟨mem, dynamic, least⟩ := old
        by_cases earlier : num e 12 4 < t
        · simp only [if_pos earlier]
          exact ⟨mem_last, here, List.forall_mem_append.mpr ⟨fun v' mem' t' there => Nat.le_trans (Nat.le_of_lt earlier) (least v' mem' t' there),
            List.forall_mem_singleton.mpr fun t' seen => Nat.le_of_eq (only t' seen).2⟩⟩
        · simp only [if_neg earlier]
          exact ⟨List.mem_append_left _ mem, dynamic, List.forall_mem_append.mpr ⟨least,
            List.forall_mem_singleton.mpr fun t' seen => Nat.le_trans (Nat.not_lt.mp earlier) (Nat.le_of_eq (only t' seen).2)⟩⟩

theorem State.isOldest_foldl (more : List Nat) : s.IsOldest b (ws ++ more) (more.foldl (s.olderWay b) best) := by
  induction more generalizing ws best with
  | nil => rw [List.append_nil]; exact old
  | cons w more ih => rw [List.append_cons]; exact ih (State.isOldest_olderWay old w)

end

theorem State.isOldest_nil (s : State) (b : Nat) : s.IsOldest b [] none := fun _ mem => absurd mem List.not_mem_nil

end

section
variable {s : State} {mac : Bytes} {vlan : Nat}

theorem State.macWay_of_found {k : Nat} {e : Bytes} (found : s.macFind mac vlan = some (k, e)) :
    s.macWay mac vlan = some (k % 4) := by
  simp [State.macWay_eq, found]

variable (absent : s.macFind mac vlan = none)
include absent

theorem State.macWay_of_free {w : Nat} (free : s.macFree (macBucket mac vlan) = some w) : s.macWay mac vlan = some w := by
  simp [State.macWay_eq, absent, free]

theorem State.macWay_of_full (full : s.macFree (macBucket mac vlan) = none) : s.macWay mac vlan
    = ((List.range 4).foldl (s.olderWay (macBucket mac vlan)) none).map (·.1) := by
  simp [State.macWay_eq, absent, full]

/-- In a full bucket a write takes the dynamic way least recently seen. -/
theorem State.macWay_oldest (full : s.macFree (macBucket mac vlan) = none) {w : Nat} (way : s.macWay mac vlan = some w) :
    ∃ t, s.IsOldest (macBucket mac vlan) (List.range 4) (some (w, t)) := by
  rw [State.macWay_of_full absent full] at way
  obtain ⟨⟨w', t⟩, oldest, rfl⟩ := Option.map_eq_some_iff.mp way
  exact ⟨t, oldest ▸ State.isOldest_foldl (s.isOldest_nil _) _⟩

end

/-- The way that a write takes is one of the four, and no way before it holds the key. -/
theorem State.macWay_first {s : State} {mac : Bytes} {vlan w : Nat} (way : s.macWay mac vlan = some w) :
    w < 4 ∧ ∀ j < w, s.macInWay mac vlan j = none := by
  cases found : s.macFind mac vlan with
  | some x =>
    obtain ⟨v, inside, here, first⟩ := State.macFind_eq_some_iff.mp found
    obtain ⟨place, -⟩ := State.macInWay_eq_some_iff.mp here
    have taken : w = x.1 % 4 := Option.some.inj (way.symm.trans (State.macWay_of_found found))
    have same : w = v := by omega
    exact same ▸ ⟨inside, first⟩
  | none =>
    have nowhere : ∀ j < 4, s.macInWay mac vlan j = none := by
      simpa [State.macFind_eq] using found
    have inside : w < 4 := by
      cases free : s.macFree (macBucket mac vlan) with
      | some v =>
        obtain rfl := Option.some.inj (way.symm.trans (State.macWay_of_free found free))
        exact List.mem_range.mp (List.mem_of_find?_eq_some free)
      | none =>
        obtain ⟨t, mem, -⟩ := State.macWay_oldest found free way
        exact List.mem_range.mp mem
    exact ⟨inside, fun j below => nowhere j (Nat.lt_trans below inside)⟩

end Sys2Proof.Machine
end

section
/-! SUPPORT. The commands that write and read the forwarding tables. -/

namespace Sys2Proof.Machine

/-! ### The MAC table -/

/-- Dynamic entries removed: they are counted, and the table keeps the others. -/
theorem State.dropMac_eq (s : State) (p : Bytes → Bool) :
    s.dropMac p = ((s.fwd.mac.filter fun (e : Nat × Bytes) => !bit (num e.2 8 1) 1 && p e.2).length,
      { s with fwd := { s.fwd with mac := s.fwd.mac.filter fun (e : Nat × Bytes) => !(!bit (num e.2 8 1) 1 && p e.2) } }) := by
  simp only [State.dropMac, Table.keep, Bool.not_and, Bool.not_not]

/-- What FWD_MAC_WRITE leaves in a way, before its reply. -/
def State.macWritten (s : State) (p : Bytes) (w : Nat) : State :=
  s.setMac (4 * macBucket (p.take 6) (num p 6 2) + w) (patch p 12 (le 4 s.seconds))

section
variable {s : State} {c : Cmd} {p : Bytes} (ready : s.Ready fwdMacWriteSpec c p)
include ready

theorem fwdMacWrite_key : p.length = 16 ∧ num p 6 2 < 4096 := by
  have whole := ready.length
  have range := ready.range
  simp only [fwdMacWriteSpec, vlanOk, Bool.and_eq_true, decide_eq_true_eq, beq_iff_eq] at whole range
  exact ⟨whole, by omega⟩

variable (valid : bit (num p 8 1) 0 = true)
include valid

theorem execFwdMacWrite_writes {w : Nat} (way : (s.received c).macWay (p.take 6) (num p 6 2) = some w) : execFwdMacWrite c p s =
    .next (((s.received c).macWritten p w).reply (originOf c 0x2101) Status.ok
      (le 2 (macBucket (p.take 6) (num p 6 2)) ++ le 1 w)) := by
  simp only [execFwdMacWrite, State.run_ready ready, valid, way, if_true]
  rfl

theorem execFwdMacWrite_full (full : (s.received c).macWay (p.take 6) (num p 6 2) = none) : execFwdMacWrite c p s =
    .next ((s.received c).refuse (originOf c 0x2101) Status.resourceBusy (le 2 (macBucket (p.take 6) (num p 6 2)))) := by
  simp only [execFwdMacWrite, State.run_ready ready, valid, full, if_true]
  rfl

theorem State.macFind_macWritten {w : Nat} {r : State} (way : r.macWay (p.take 6) (num p 6 2) = some w) :
    (r.macWritten p w).macFind (p.take 6) (num p 6 2)
      = some (4 * macBucket (p.take 6) (num p 6 2) + w, patch p 12 (le 4 r.seconds)) := by
  obtain ⟨inside, first⟩ := State.macWay_first way
  obtain ⟨whole, small⟩ := fwdMacWrite_key ready
  exact State.macFind_setMac inside first (macIs_patch_seen whole valid small _)

end

theorem execFwdMacRead_reads {s : State} {c : Cmd} {p : Bytes} (ready : s.Ready fwdMacReadSpec c p) : execFwdMacRead c p s =
    .next ((s.received c).reply (originOf c 0x2102) Status.ok
      ((((s.received c).macFind (p.take 6) (num p 6 2)).map (·.2)).getD (List.replicate 16 0))) := by
  rw [execFwdMacRead, State.run_ready ready]
  rfl

/-- Whether FWD_MAC_FLUSH names the port and the VLAN of an entry. -/
def flushes (p e : Bytes) : Bool :=
  (num p 0 2 == 0xFFFF || num e 10 2 == num p 0 2) && (num p 2 2 == 0 || num e 6 2 % 4096 == num p 2 2)

theorem execFwdMacFlush_flushes {s : State} {c : Cmd} {p : Bytes} (ready : s.Ready fwdMacFlushSpec c p) : execFwdMacFlush c p s =
    .next (((s.received c).dropMac (flushes p)).2.reply (originOf c 0x2103) Status.ok
      (le 2 ((s.received c).dropMac (flushes p)).1)) := by
  rw [execFwdMacFlush, State.run_ready ready]
  rfl

/-! ### VLANs, prefixes, next hops and access control -/

section
variable {s : State} {c : Cmd} {p : Bytes}

theorem execFwdVlanWrite_writes (ready : s.Ready fwdVlanWriteSpec c p) : execFwdVlanWrite c p s =
    .next (({ s.received c with fwd := { (s.received c).fwd with vlans := Table.put (s.received c).fwd.vlans (num p 0 2) p } } : State).reply
      (originOf c 0x2104) Status.ok []) := by
  rw [execFwdVlanWrite, State.run_ready ready]
  rfl

theorem State.vlan_putVlan (r : State) (n : Nat) (e : Bytes) (v : Nat) :
    ({ r with fwd := { r.fwd with vlans := Table.put r.fwd.vlans n e } } : State).vlan v = if v = n then e else r.vlan v := by
  simp only [State.vlan, Table.find_put_eq_ite]
  split <;> rfl

theorem execFwdVlanRead_reads (ready : s.Ready fwdVlanReadSpec c p) : execFwdVlanRead c p s =
    .next ((s.received c).reply (originOf c 0x2105) Status.ok ((s.received c).vlan (num p 0 2))) := by
  rw [execFwdVlanRead, State.run_ready ready]
  rfl

theorem execFwdRouteWrite_refuses (ready : s.Ready fwdRouteWriteSpec c p) {k : Nat}
    (twin : (s.received c).routeTwin (num p 0 2) (p.drop 4) = some k) : execFwdRouteWrite c p s =
    .next ((s.received c).refuse (originOf c 0x2106) Status.resourceBusy (le 2 k)) := by
  simp only [execFwdRouteWrite, State.run_ready ready, twin]
  rfl

theorem execFwdRouteWrite_writes (ready : s.Ready fwdRouteWriteSpec c p)
    (single : (s.received c).routeTwin (num p 0 2) (p.drop 4) = none) : execFwdRouteWrite c p s =
    .next (({ s.received c with fwd := { (s.received c).fwd with
      routes := Table.put (s.received c).fwd.routes (num p 0 2) (p.drop 4) } } : State).reply (originOf c 0x2106) Status.ok []) := by
  simp only [execFwdRouteWrite, State.run_ready ready, single]
  rfl

theorem execFwdNhWrite_writes (ready : s.Ready fwdNhWriteSpec c p) : execFwdNhWrite c p s =
    .next (({ s.received c with fwd := { (s.received c).fwd with
      nextHops := Table.put (s.received c).fwd.nextHops (num p 0 2) (p.drop 4) } } : State).reply (originOf c 0x2107) Status.ok []) := by
  rw [execFwdNhWrite, State.run_ready ready]
  rfl

theorem execFwdAclWrite_writes (ready : s.Ready fwdAclWriteSpec c p) : execFwdAclWrite c p s =
    .next ((({ s.received c with fwd := { (s.received c).fwd with
      acl := Table.put (s.received c).fwd.acl (num p 0 2) (p.drop 4) } } : State).setReg64 (Reg.fwdAclHitLo (num p 0 2)) 0).reply
        (originOf c 0x2108) Status.ok []) := by
  rw [execFwdAclWrite, State.run_ready ready]
  rfl

/-- The entry of Table 9-5, 9-6 or 9-7 that FWD_TABLE_READ returns. -/
def State.tableEntry (s : State) (table i : Nat) : Bytes :=
  if table = 0 then (Table.find s.fwd.routes i).getD (List.replicate 20 0)
  else if table = 1 then (Table.find s.fwd.nextHops i).getD blankHop
  else (Table.find s.fwd.acl i).getD (List.replicate 96 0)

theorem execFwdTableRead_reads (ready : s.Ready fwdTableReadSpec c p) : execFwdTableRead c p s =
    .next ((s.received c).reply (originOf c 0x2109) Status.ok ((s.received c).tableEntry (num p 0 1) (num p 2 2))) := by
  rw [execFwdTableRead, State.run_ready ready]
  unfold State.tableEntry
  match num p 0 1 with
  | 0 => rfl
  | 1 => rfl
  | n + 2 => rfl

/-! ### FWD_FRAME_SEND -/

section
variable (ready : s.Ready fwdFrameSendSpec c p)
include ready

theorem execFwdFrameSend_enters (looked : num p 0 1 = 0) {t : State}
    (entered : (s.received c).enter 0x80 (num p 4 2) (p.drop 8) [] = (true, t)) : execFwdFrameSend c p s =
    .next (t.reply (originOf c 0x210A) Status.ok []) := by
  simp only [execFwdFrameSend, State.run_ready ready, looked, entered, Nat.zero_ne_one, if_false]
  rfl

theorem execFwdFrameSend_refuses (direct : num p 0 1 = 1) (other : c.session ≠ 0) : execFwdFrameSend c p s =
    .next ((s.received c).refuse (originOf c 0x210A) Status.notPermitted []) := by
  rw [execFwdFrameSend, State.run_ready ready, if_pos direct, if_pos other]
  rfl

theorem execFwdFrameSend_sends (direct : num p 0 1 = 1) (first : c.session = 0) {t : State}
    (sent : (s.received c).sendDirect (p.drop 8) (num p 2 2) none = some t) : execFwdFrameSend c p s =
    .next (t.reply (originOf c 0x210A) Status.ok []) := by
  rw [execFwdFrameSend, State.run_ready ready, if_pos direct, if_neg (fun other => other first)]
  simp only [sent]
  rfl

end
end

/-- Settles O34: the ways of a bucket that FWD_MAC_WRITE takes, and what each other command writes or returns. -/
theorem forwardingTables : Obligations.ForwardingTables := by
  intro s c p r mac vlan b put
  refine ⟨fun ready valid => ⟨fun w way => ⟨execFwdMacWrite_writes ready valid way, State.macFind_macWritten ready valid way⟩,
      execFwdMacWrite_full ready valid⟩, fun k e => State.macWay_of_found, fun absent => ⟨fun w => State.macWay_of_free absent, ?_⟩,
    execFwdMacRead_reads, fun ready => ?_, fun ready => ⟨_, execFwdVlanWrite_writes ready, rfl, State.vlan_putVlan _ _ _⟩,
    execFwdVlanRead_reads, fun ready => ⟨fun k => execFwdRouteWrite_refuses ready, fun single =>
      ⟨_, execFwdRouteWrite_writes ready single, rfl, Table.find_put_eq_ite _ _ _⟩⟩,
    fun ready => ⟨_, execFwdNhWrite_writes ready, rfl, Table.find_put_eq_ite _ _ _⟩,
    fun ready => ⟨_, execFwdAclWrite_writes ready, rfl, State.reg64_setReg64 _ _ 0, Table.find_put_eq_ite _ _ _⟩,
    execFwdTableRead_reads, fun ready => ⟨fun looked _ => execFwdFrameSend_enters ready looked,
      execFwdFrameSend_refuses ready, fun direct first _ => execFwdFrameSend_sends ready direct first⟩⟩
  · intro full w way
    obtain ⟨_, -, ⟨e, listed, dynamic, rfl⟩, least⟩ := State.macWay_oldest absent full way
    exact ⟨e, listed, dynamic, fun w' e' inside listed' dynamic' =>
      least w' (List.mem_range.mpr inside) _ ⟨e', listed', dynamic', rfl⟩⟩
  · have removes := execFwdMacFlush_flushes ready
    rw [State.dropMac_eq] at removes
    exact removes

end Sys2Proof.Machine
end

section
/-! SUPPORT. The lookup of a frame: how it is taken, where bridging and flooding send it, what learning leaves of the MAC table,
and the ageing of that table. -/

namespace Sys2Proof.Machine

/-! ### FWD_LOOKUP (R274) -/

theorem execFwdLookup_decides {s : State} {i : Inbound} {l : List Inbound} (front : s.fwd.inbox = i :: l) (awake : s.awake = true) :
    execFwdLookup .clean s = .next (({ s with fwd := { s.fwd with inbox := l } } : State).lookup i).pauseAll := by
  simp only [execFwdLookup, State.decideNext, front, awake, if_true]

theorem execFwdLookup_loses {s : State} (row : Nat) (powered : s.on .pkt = true) :
    execFwdLookup (.uncorrectable row) s = .next (s.sramError row true).loseNext := by
  simp only [execFwdLookup, powered, if_true]

/-- A frame without a VLAN that admits it is counted in vlan_in_drop and gives its cells back. -/
theorem State.lookup_unadmitted {s : State} {i : Inbound} (here : i.chainPort = none) (known : i.unknown = false)
    (unadmitted : (s.fwdCount 0).ingressVlan i (frameOf i.bytes) = none) :
    s.lookup i = ((s.fwdCount 0).fwdCount 6).freeBuffer i.buffer := by
  simp [State.lookup, here, known, unadmitted]

/-! ### Bridging (R276) -/

section
variable {s : State} {f : Frame} {vlan k : Nat} {e : Bytes} (found : s.macFind f.dst vlan = some (k, e)) (ingress : Nat) (chain : Bool)
include found

theorem State.bridge_discards (discard : bit (num e 8 1) 2 = true) : s.bridge f vlan ingress chain = (none, s.fwdCount 24) := by
  simp only [State.bridge, found, discard, if_true]

variable (kept : bit (num e 8 1) 2 = false) (unicast : isGroup f.dst = false)
include kept unicast

theorem State.bridge_unicast : s.bridge f vlan ingress chain =
    if num e 10 2 = ingress then (none, s.fwdCount 24)
    else if !s.portReachable (num e 10 2) then (none, s.fwdCount 21)
    else (some [num e 10 2], s.fwdCount 1) := by
  simp [State.bridge, found, kept, unicast]

end

/-- The ports that a flood reaches whatever the frame's address: other wired members, the chain and the host. -/
def State.floodWired (s : State) (vlan ingress : Nat) (chain : Bool) : List Nat :=
  ((List.range 4).filter fun e => s.vlanMember vlan e && e != ingress)
    ++ (if s.vlanMember vlan 4 && !chain && !s.others.isEmpty then [chainFlood] else [])
    ++ (if s.vlanMember vlan 5 && ingress != 0x80 then [0x80] else [])

theorem State.flood_ports (s : State) (f : Frame) (vlan ingress : Nat) (chain : Bool) :
    (s.flood f vlan ingress chain).1 = s.floodWired vlan ingress chain
      ++ if isGroup f.dst ∧ bit (num (s.vlan vlan) 2 1) 3
        then ((List.range 3).filter fun n => s.vlanMember vlan (6 + n)).map (0x2400 + ·) else [] := by
  by_cases group : isGroup f.dst = true
  · simp [State.flood, State.floodWired, group]
  · simp [State.flood, State.floodWired, group]

/-- What a port of a flood is, and why the flood reaches it. -/
theorem State.mem_flood {s : State} {f : Frame} {vlan ingress q : Nat} {chain : Bool} (mem : q ∈ (s.flood f vlan ingress chain).1) :
    (q < 4 ∧ q ≠ ingress ∧ s.vlanMember vlan q = true) ∨ (q = 0x3F ∧ chain = false) ∨ (q = 0x80 ∧ ingress ≠ 0x80)
      ∨ (0x2400 ≤ q ∧ isGroup f.dst = true ∧ bit (num (s.vlan vlan) 2 1) 3 = true) := by
  simp only [State.flood_ports, State.floodWired, List.mem_append, List.mem_ite_nil_right, List.mem_filter, List.mem_range,
    List.mem_singleton, List.mem_map, Bool.and_eq_true, Bool.not_eq_true', bne_iff_ne] at mem
  rcases mem with ((⟨low, member, other⟩ | ⟨⟨⟨-, own⟩, -⟩, here⟩) | ⟨⟨-, other⟩, here⟩) | ⟨⟨group, reaches⟩, n, -, rfl⟩
  · exact .inl ⟨low, other, member⟩
  · exact .inr (.inl ⟨here, own⟩)
  · exact .inr (.inr (.inl ⟨here, other⟩))
  · exact .inr (.inr (.inr ⟨Nat.le_add_right _ _, group, reaches⟩))

section
variable {s : State} {f : Frame} {vlan ingress q : Nat} {chain : Bool}

theorem State.ingress_not_mem_flood (wired : ingress < 4 ∨ ingress = 0x80) : ingress ∉ (s.flood f vlan ingress chain).1 := by
  intro mem
  rcases State.mem_flood mem with ⟨-, other, -⟩ | ⟨here, -⟩ | ⟨here, other⟩ | ⟨above, -⟩
  · exact other rfl
  · omega
  · exact other here
  · omega

theorem State.chain_not_mem_flood (came : chain = true) : chainFlood ∉ (s.flood f vlan ingress chain).1 := by
  intro mem
  rcases State.mem_flood mem with ⟨low, -⟩ | ⟨-, own⟩ | ⟨here, -⟩ | ⟨above, -⟩
  · exact absurd low (by decide)
  · exact absurd came (by simp [own])
  · exact absurd here (by decide)
  · exact absurd above (by decide)

variable (mem : q ∈ (s.flood f vlan ingress chain).1)
include mem

theorem State.radio_of_mem_flood (radio : isRadio q = true) : isGroup f.dst = true ∧ bit (num (s.vlan vlan) 2 1) 3 = true := by
  rw [isRadio, decide_eq_true_eq] at radio
  rcases State.mem_flood mem with ⟨low, -⟩ | ⟨here, -⟩ | ⟨here, -⟩ | ⟨-, reaches⟩
  · omega
  · omega
  · omega
  · exact reaches

theorem State.wired_of_mem_flood (low : q < 4) : s.vlanMember vlan q = true := by
  rcases State.mem_flood mem with ⟨-, -, member⟩ | ⟨here, -⟩ | ⟨here, -⟩ | ⟨above, -⟩
  · exact member
  · omega
  · omega
  · omega

end

/-! ### Learning (R279) -/

/-- Whether an entry of the MAC table keeps its key, its flags and, where it is static, its port. -/
def Relearned (e x : Bytes) : Prop :=
  e.length = 16 → x.take 10 = e.take 10 ∧ (bit (num e 8 1) 1 = true → x.take 12 = e.take 12)

theorem Relearned.refl (e : Bytes) : Relearned e e := fun _ => ⟨rfl, fun _ => rfl⟩

theorem relearned_seen (e seen : Bytes) : Relearned e (patch e 12 seen) := fun whole =>
  ⟨take_patch seen (by decide) (by omega), fun _ => take_patch seen (by decide) (by omega)⟩

theorem relearned_moved {e : Bytes} (dynamic : bit (num e 8 1) 1 = false) (seen port : Bytes) :
    Relearned e (patch (patch e 12 seen) 10 port) := by
  refine fun whole => ⟨?_, fun fixed => absurd fixed (by simp [dynamic])⟩
  rw [take_patch port (by decide) (by simp [patch, whole]; omega), take_patch seen (by decide) (by omega)]

/-- An entry set in the MAC table leaves every entry, given that it keeps what the one at its place keeps. -/
theorem State.find_setMac_relearned {s : State} {n : Nat} {x : Bytes} (keeps : ∀ e, Table.find s.fwd.mac n = some e → Relearned e x)
    {k : Nat} {e : Bytes} (listed : Table.find s.fwd.mac k = some e) :
    ∃ e', Table.find (s.setMac n x).fwd.mac k = some e' ∧ Relearned e e' := by
  by_cases here : k = n
  · exact ⟨x, here ▸ Table.find_put _ _ _, keeps e (here ▸ listed)⟩
  · exact ⟨e, (Table.find_put_ne _ x here).trans listed, .refl e⟩

theorem State.ReportsTo.fwd_eq {s t : State} (h : s.ReportsTo t) : t.fwd = s.fwd := by
  obtain ⟨_, _, _, _, rfl⟩ := h
  rfl

theorem State.learnFull_mac (s : State) (b : Nat) : (s.learnFull b).fwd.mac = s.fwd.mac := by
  unfold State.learnFull
  dsimp only
  split
  · rfl
  · rw [(State.ReportsTo.refl _).raise.fwd_eq]
    rfl

/-- A bucket's free way lists no entry. -/
theorem State.find_of_macFree {s : State} {b w : Nat} (free : s.macFree b = some w) : Table.find s.fwd.mac (4 * b + w) = none := by
  simpa using List.find?_some free

theorem State.learn_relearned {s : State} (src : Bytes) (vlan port : Nat) {k : Nat} {e : Bytes} (listed : Table.find s.fwd.mac k = some e) :
    ∃ e', Table.find (s.learn src vlan port).2.fwd.mac k = some e' ∧ Relearned e e' := by
  have same : ∃ e', Table.find s.fwd.mac k = some e' ∧ Relearned e e' := ⟨e, listed, .refl e⟩
  unfold State.learn
  split
  · exact same
  · cases found : s.macFind src vlan with
    | none =>
      cases free : s.macFree (macBucket src vlan) with
      | none =>
        simpa only [free, State.learnFull_mac] using same
      | some w =>
        simp only [free]
        exact State.find_setMac_relearned (fun e listed => by simp [State.find_of_macFree free] at listed) listed
    | some x =>
      obtain ⟨n, x⟩ := x
      have only : ∀ e, Table.find s.fwd.mac n = some e → x = e := fun e listed =>
        Option.some.inj ((State.find_of_macFind found).symm.trans listed)
      dsimp only
      split
      · exact State.find_setMac_relearned (fun e listed => only e listed ▸ relearned_seen x _) listed
      · split
        case isTrue => exact same
        case isFalse dynamic =>
          exact State.find_setMac_relearned (fun e listed => only e listed ▸ relearned_moved (by simpa using dynamic) _ _) listed

/-! ### MAC_AGE_SCAN (R280) -/

theorem execMacAgeScan_removes {s : State} (awake : s.awake = true) (ages : s.fld Reg.fwdAge 19 0 ≠ 0) : execMacAgeScan s =
    .next ((s.dropMac fun e => decide (s.fld Reg.fwdAge 19 0 ≤ (s.seconds + 2 ^ 32 - num e 12 4) % 2 ^ 32)).2.fwdCount 12
      (s.dropMac fun e => decide (s.fld Reg.fwdAge 19 0 ≤ (s.seconds + 2 ^ 32 - num e 12 4) % 2 ^ 32)).1) := by
  simp [execMacAgeScan, awake, ages]

/-- Settles O35: the front of the inbox, the bridging of a hit, the flood of a miss, learning, and ageing. -/
theorem framesForwarded : Obligations.FramesForwarded := by
  intro s
  refine ⟨fun i l front awake => ⟨execFwdLookup_decides front awake, fun here known unadmitted => ?_⟩,
    fun row => execFwdLookup_loses row,
    fun f vlan ingress k e chain found => ⟨State.bridge_discards found ingress chain, fun kept unicast => ?_⟩,
    fun f vlan ingress chain => ⟨State.ingress_not_mem_flood, State.chain_not_mem_flood, fun q mem => State.radio_of_mem_flood mem,
      fun q mem => State.wired_of_mem_flood mem⟩, fun src vlan port k e => State.learn_relearned src vlan port, fun awake ages => ?_⟩
  · exact State.lookup_unadmitted here known unadmitted ▸ execFwdLookup_decides front awake
  · rw [State.bridge_unicast found ingress chain kept unicast]
    refine ⟨fun back => if_pos back, fun away dead => ?_, fun away live => ?_⟩
    · rw [if_neg away, dead]; rfl
    · rw [if_neg away, live]; rfl
  · have removes := execMacAgeScan_removes awake ages
    rw [State.dropMac_eq] at removes
    exact removes

end Sys2Proof.Machine
end

section
/-! SUPPORT. Shapers, and the scheduling decision of a port node: what a charge leaves of the tokens, which child `pick` takes, and
whom a copy served from a class queue is charged to. -/

namespace Sys2Proof.Machine

/-! ### What the shapers read -/

/-- Whether two states agree in what the shapers read: registers, tokens and time. -/
structure State.SameShapers (s t : State) : Prop where
  regs : t.regs = s.regs
  tokens : t.tm.tokens = s.tm.tokens
  elapsed : t.elapsed = s.elapsed

theorem State.fld_of_regs {s t : State} (h : t.regs = s.regs) (a hi lo : Nat) : t.fld a hi lo = s.fld a hi lo := by
  simp only [State.fld, State.reg, h]

theorem State.rate_of_regs {s t : State} (h : t.regs = s.regs) (k : Nat) : t.rate k = s.rate k :=
  congrArg (· * 64) (State.fld_of_regs h _ 15 0)

theorem State.burst_of_regs {s t : State} (h : t.regs = s.regs) (k : Nat) : t.burst k = s.burst k :=
  congrArg (· * 256) (State.fld_of_regs h _ 31 16)

section
variable {s t : State} (same : s.SameShapers t)
include same

theorem State.SameShapers.subParent_eq (n : Nat) : t.subParent n = s.subParent n := State.fld_of_regs same.regs _ 8 0

theorem State.SameShapers.micros_eq : t.micros = s.micros := congrArg (· / 1000) same.elapsed

theorem State.SameShapers.tokensNow_eq (k : Nat) : t.tokensNow k = s.tokensNow k := by
  simp only [State.tokensNow, State.rate_of_regs same.regs, State.burst_of_regs same.regs, same.micros_eq, same.tokens]

theorem State.SameShapers.eligible_eq (k : Nat) : t.eligible k = s.eligible k := by
  simp only [State.eligible, State.rate_of_regs same.regs, same.tokensNow_eq]

theorem State.SameShapers.accounted_eq (p : Nat) (c : Copy) : t.accounted p c = s.accounted p c := by
  simp only [State.accounted, State.overhead, State.sfld, State.reg, same.regs]

/-- A charge of one node depends on nothing else. -/
theorem State.SameShapers.charge (k a : Nat) : (s.charge k a).SameShapers (t.charge k a) := by
  simp only [State.charge, State.rate_of_regs same.regs, State.burst_of_regs same.regs, same.tokensNow_eq]
  split
  · exact same
  · exact ⟨same.regs, by simp only [State.setTokens, same.tokens, same.micros_eq], same.elapsed⟩

theorem State.SameShapers.setQueue (q : Nat) (l : List Copy) : s.SameShapers (t.setQueue q l) :=
  ⟨same.regs, same.tokens, same.elapsed⟩

theorem State.SameShapers.setDeficit (k : Nat) (v : Int) : s.SameShapers (t.setDeficit k v) :=
  ⟨same.regs, same.tokens, same.elapsed⟩

theorem State.SameShapers.foldl_setDeficit (a : Int) (l : List Nat) :
    s.SameShapers (l.foldl (fun (s : State) k => s.setDeficit k (s.deficit k - a)) t) := by
  induction l generalizing t with
  | nil => exact same
  | cons k l ih => exact ih (same.setDeficit _ _)

theorem State.SameShapers.countNode (k a : Nat) : s.SameShapers (t.countNode k a) := ⟨same.regs, same.tokens, same.elapsed⟩

theorem State.SameShapers.tmCount (p k n : Nat) : s.SameShapers (t.tmCount p k n) := ⟨same.regs, same.tokens, same.elapsed⟩

theorem State.SameShapers.emptied (q : Nat) : s.SameShapers (t.emptied q) := by
  unfold State.emptied
  dsimp only
  split
  · exact same
  · split <;> split
    · exact same.setDeficit _ _
    · exact (same.setDeficit _ _).setDeficit _ _
    · exact (same.setDeficit _ _).setDeficit _ _
    · exact ((same.setDeficit _ _).setDeficit _ _).setDeficit _ _

/-- Nodes charged one after the other, each with its count of what it has served. -/
theorem State.SameShapers.foldl_charge (a : Nat) (l : List Nat) : (l.foldl (fun s k => s.charge k a) s).SameShapers
    (l.foldl (fun s k => (s.charge k a).countNode k a) t) := by
  induction l generalizing s t with
  | nil => exact same
  | cons k l ih => exact ih ((same.charge k a).countNode k a)

end

theorem State.SameShapers.refl (s : State) : s.SameShapers s := ⟨rfl, rfl, rfl⟩

/-! ### Tokens (R300) -/

/-- A shaped node has gained its rate in each microsecond since its tokens were set, up to its burst. -/
theorem State.tokensNow_of_find {s : State} {k : Nat} (shaped : s.rate k ≠ 0) {v : Int} {at_ : Nat}
    (held : Table.find s.tm.tokens k = some ⟨v, at_⟩) :
    s.tokensNow k = min ((s.burst k * 8000 : Nat) : Int) (v + ((s.rate k * (s.micros - at_) : Nat) : Int)) := by
  simp only [State.tokensNow, held, Option.getD_some, if_neg shaped]

theorem State.tokensNow_le {s : State} {k : Nat} (shaped : s.rate k ≠ 0) : s.tokensNow k ≤ ((s.burst k * 8000 : Nat) : Int) := by
  rw [State.tokensNow, if_neg shaped]
  exact Int.min_le_left _ _

@[simp] theorem State.passNs_tm (s : State) (n : Nat) : (s.passNs n).tm = s.tm := by
  unfold State.passNs
  split <;> rfl

theorem State.find_setTokens (s : State) (k : Nat) (v : Int) : Table.find (s.setTokens k v).tm.tokens k = some ⟨v, s.micros⟩ :=
  Table.find_put _ _ _

theorem State.tokensNow_setTokens {s : State} {k : Nat} (shaped : s.rate k ≠ 0) (v : Int) :
    (s.setTokens k v).tokensNow k = min ((s.burst k * 8000 : Nat) : Int) v := by
  have now : (s.setTokens k v).micros - s.micros = 0 := Nat.sub_self _
  have kept : (s.setTokens k v).burst k = s.burst k := rfl
  rw [State.tokensNow_of_find (s := s.setTokens k v) shaped (s.find_setTokens k v), now, kept, Nat.mul_zero, Int.natCast_zero, Int.add_zero]

theorem State.tokensNow_setTokens_passNs {s : State} {k : Nat} (shaped : s.rate k ≠ 0) (v : Int) (n : Nat) :
    ((s.setTokens k v).passNs n).tokensNow k
      = min ((s.burst k * 8000 : Nat) : Int) (v + ((s.rate k * ((s.elapsed + n) / 1000 - s.elapsed / 1000) : Nat) : Int)) := by
  obtain ⟨time, regs, -⟩ := State.passNs_frame (s.setTokens k v) n
  have held : Table.find ((s.setTokens k v).passNs n).tm.tokens k = some ⟨v, s.micros⟩ := by
    rw [State.passNs_tm]
    exact s.find_setTokens k v
  have rate : ((s.setTokens k v).passNs n).rate k = s.rate k := State.rate_of_regs (s := s) regs k
  have burst : ((s.setTokens k v).passNs n).burst k = s.burst k := State.burst_of_regs (s := s) regs k
  rw [State.tokensNow_of_find (rate ▸ shaped) held, rate, burst, State.micros, time]
  rfl

/-- The tokens that a charge leaves to a node: its floor, or those it has less 8,000 millibits a byte. -/
def State.tokensLeft (s : State) (k a : Nat) : Int :=
  max (-(((s.burst k + 9663) * 8000 : Nat) : Int)) (s.tokensNow k - ((8000 * a : Nat) : Int))

section
variable {s : State} {k : Nat} (shaped : s.rate k ≠ 0) (a : Nat)
include shaped

theorem State.charge_shaped : s.charge k a = s.setTokens k (s.tokensLeft k a) := if_neg shaped

theorem State.tokensNow_charge : (s.charge k a).tokensNow k = s.tokensLeft k a := by
  have most := State.tokensNow_le shaped
  rw [State.charge_shaped shaped, State.tokensNow_setTokens shaped]
  refine Int.min_eq_right ?_
  unfold State.tokensLeft
  omega

theorem State.tokensNow_charge_ne {j : Nat} (other : j ≠ k) : (s.charge k a).tokensNow j = s.tokensNow j := by
  have kept : Table.find (s.setTokens k (s.tokensLeft k a)).tm.tokens j = Table.find s.tm.tokens j := Table.find_put_ne _ _ other
  rw [State.charge_shaped shaped, State.tokensNow, kept]
  rfl

end

theorem State.eligible_shaped {s : State} {k : Nat} (shaped : s.rate k ≠ 0) : s.eligible k = decide (0 ≤ s.tokensNow k) := by
  simp [State.eligible, shaped]

theorem State.eligible_unshaped {s : State} {k : Nat} (unshaped : s.rate k = 0) : s.eligible k = true := by
  simp [State.eligible, unshaped]

theorem State.charge_unshaped {s : State} {k : Nat} (unshaped : s.rate k = 0) (a : Nat) : s.charge k a = s := if_pos unshaped

/-! ### pick (R302): the child taken, and what the choice changes -/

/-- Whether a state is another one but for the deficits and the last children served. -/
def State.PicksTo (s t : State) : Prop :=
  ∃ deficits current, t = { s with tm := { s.tm with deficits := deficits, current := current } }

theorem State.PicksTo.refl (s : State) : s.PicksTo s := ⟨_, _, rfl⟩

theorem State.PicksTo.trans {s t u : State} (h : s.PicksTo t) (next : t.PicksTo u) : s.PicksTo u := by
  obtain ⟨_, _, rfl⟩ := h
  obtain ⟨_, _, rfl⟩ := next
  exact ⟨_, _, rfl⟩

theorem State.PicksTo.sameShapers {s t : State} (h : s.PicksTo t) : s.SameShapers t := by
  obtain ⟨_, _, rfl⟩ := h
  exact ⟨rfl, rfl, rfl⟩

theorem State.picksTo_setDeficit (s : State) (k : Nat) (v : Int) : s.PicksTo (s.setDeficit k v) := ⟨_, _, rfl⟩

theorem nextKid_mem {e : List Kid} {k : Nat} {c : Kid} (next : nextKid e k = some c) : c ∈ e := by
  unfold nextKid at next
  cases found : e.find? fun c => k < c.key with
  | none => exact List.mem_of_head? (by simpa [found] using next)
  | some c' =>
    obtain rfl : c' = c := by simpa [found] using next
    exact List.mem_of_find?_eq_some found

theorem drrLoop_picks {e : List Kid} (n : Nat) {c : Kid} (mem : c ∈ e) (s : State) :
    (drrLoop e n c s).1 ∈ e ∧ s.PicksTo (drrLoop e n c s).2 := by
  induction n generalizing c s with
  | zero => exact ⟨mem, .refl s⟩
  | succ n ih =>
    have member : (nextKid e c.key).getD c ∈ e := by
      cases next : nextKid e c.key with
      | none => exact mem
      | some c' => exact nextKid_mem next
    unfold drrLoop
    split
    · obtain ⟨inside, picks⟩ := ih member _
      exact ⟨inside, (s.picksTo_setDeficit _ _).trans picks⟩
    · exact ⟨mem, .refl s⟩

theorem drr_picks {e : List Kid} {key k : Nat} {s t : State} (picked : drr e key s = some (k, t)) :
    (∃ c ∈ e, c.key = k) ∧ s.PicksTo t := by
  obtain ⟨⟨c, u⟩, start, ends⟩ := Option.map_eq_some_iff.mp picked
  have started : c ∈ e ∧ s.PicksTo u := by
    split at start
    case h_1 c' found =>
      obtain ⟨_, -, found⟩ := Option.bind_eq_some_iff.mp found
      cases start
      exact ⟨List.mem_of_find?_eq_some found, .refl s⟩
    case h_2 =>
      obtain ⟨c', first, made⟩ := Option.map_eq_some_iff.mp start
      cases made
      refine ⟨?_, s.picksTo_setDeficit _ _⟩
      split at first
      · exact nextKid_mem first
      · exact List.mem_of_head? first
  obtain ⟨inside, picks⟩ := drrLoop_picks (64 * e.length) started.1 u
  cases ends
  exact ⟨⟨_, inside, rfl⟩, (started.2.trans picks).trans ⟨_, _, rfl⟩⟩

theorem pick_picks {x k : Nat} {kids : List Kid} {s t : State} (picked : pick x kids s = some (k, t)) :
    (∃ c ∈ kids, c.key = k) ∧ s.PicksTo t := by
  unfold pick at picked
  split at picked
  · obtain ⟨⟨c, mem, rfl⟩, picks⟩ := drr_picks picked
    exact ⟨⟨c, (List.mem_filter.mp mem).1, rfl⟩, picks⟩
  · cases picked

theorem State.mem_svcKids {s : State} {p : Nat} {c : Kid} (mem : c ∈ s.svcKids p) :
    ∃ v, c.key = svcKey v ∧ s.svcParent v = p ∧ s.eligible (svcKey v) = true := by
  obtain ⟨v, ready, rfl⟩ := List.mem_map.mp mem
  have ready := (List.mem_filter.mp ready).2
  simp only [Bool.and_eq_true, beq_iff_eq] at ready
  obtain ⟨⟨parent, eligible⟩, -⟩ := ready
  exact ⟨v, rfl, parent, eligible⟩

theorem State.mem_subKids {s : State} {p v : Nat} {c : Kid} (mem : c ∈ s.subKids p v) :
    ∃ n, c.key = subKey n ∧ s.subParent n = v ∧ s.eligible (subKey n) = true := by
  obtain ⟨n, ready, rfl⟩ := List.mem_map.mp mem
  have ready := (List.mem_filter.mp ready).2
  simp only [Bool.and_eq_true, beq_iff_eq] at ready
  exact ⟨n, rfl, ready.1, ready.2⟩

/-! ### One scheduling decision (R302) -/

@[simp] theorem State.queue_setQueue (s : State) (q : Nat) (l : List Copy) : (s.setQueue q l).queue q = l := by
  cases l <;> simp [State.queue, State.setQueue]

@[simp] theorem State.queue_charge (s : State) (k a q : Nat) : (s.charge k a).queue q = s.queue q := by
  unfold State.charge
  split <;> rfl

@[simp] theorem State.queue_tmCount (s : State) (p k n q : Nat) : (s.tmCount p k n).queue q = s.queue q := rfl

@[simp] theorem State.queue_countNode (s : State) (k a q : Nat) : (s.countNode k a).queue q = s.queue q := rfl

/-- A copy of the privileged queue is served whatever the tokens, and charged to the port node by its length alone. -/
theorem State.serveNode_privileged {s : State} {p : Nat} {c : Copy} {l : List Copy} (front : s.queue p = c :: l) :
    s.serveNode p = some (c, ((((s.setQueue p l).charge p c.length).tmCount p 1).tmCount p 2 c.length).countNode p c.length) := by
  simp only [State.serveNode, front]

theorem State.serveNode_ineligible {s : State} {p : Nat} (empty : s.queue p = []) (spent : s.eligible p = false) :
    s.serveNode p = none := by
  simp [State.serveNode, empty, spent]

/-- What the departure of a class queue's head leaves: the deficits and the tokens along its path charged, and the copy counted. -/
def State.classServed (s : State) (p v n q a : Nat) (l : List Copy) : State :=
  ((([n, v, p].foldl (fun (s : State) k => (s.charge k a).countNode k a)
    (([q, n, v].foldl (fun (s : State) k => s.setDeficit k (s.deficit k - (a : Int))) (s.setQueue (q - 0x10000) l)).emptied (q - 0x10000))).tmCount
      p 1).tmCount p 2 a)

/-- A class queue's departure charges its subscriber, its service node and its port node, and no other node. -/
theorem State.classServed_tokens (s : State) (p v n q a : Nat) (l : List Copy) : (s.classServed p v n q a l).tm.tokens
    = (((s.charge n a).charge v a).charge p a).tm.tokens := by
  have queues := ((State.SameShapers.refl s).setQueue (q - 0x10000) l).foldl_setDeficit (a : Int) [q, n, v]
  exact ((((queues.emptied (q - 0x10000)).foldl_charge a [n, v, p]).tmCount p 1 1).tmCount p 2 a).tokens

/-- What a port node serves beneath its privileged queue comes from a subscriber and a service node on the way to it, all eligible. -/
theorem State.serveNode_class {s t : State} {p : Nat} {c : Copy} (empty : s.queue p = []) (served : s.serveNode p = some (c, t)) :
    s.eligible p = true ∧ ∃ sub q l u, s.svcParent (s.subParent sub) = p ∧ s.eligible (subKey sub) = true
      ∧ s.eligible (svcKey (s.subParent sub)) = true ∧ s.PicksTo u
      ∧ t = u.classServed p (svcKey (s.subParent sub)) (subKey sub) q (u.accounted p c) l := by
  unfold State.serveNode at served
  rw [empty] at served
  dsimp only at served
  split at served
  · cases served
  next eligible =>
    obtain ⟨⟨vk, s1⟩, picked, served⟩ := Option.bind_eq_some_iff.mp served
    obtain ⟨⟨nk, s2⟩, picked', served⟩ := Option.bind_eq_some_iff.mp served
    obtain ⟨⟨q, s3⟩, picked'', served⟩ := Option.bind_eq_some_iff.mp served
    obtain ⟨⟨_, mem, rfl⟩, picks⟩ := pick_picks picked
    obtain ⟨v, key, parent, svcReady⟩ := State.mem_svcKids mem
    obtain ⟨⟨_, mem', rfl⟩, picks'⟩ := pick_picks picked'
    obtain ⟨sub, key', parent', subReady⟩ := State.mem_subKids mem'
    obtain ⟨-, picks''⟩ := pick_picks picked''
    have below : s.subParent sub = v := by
      rw [← picks.sameShapers.subParent_eq, parent', key]
      exact Nat.add_sub_cancel_left _ _
    subst below
    rw [picks.sameShapers.eligible_eq] at subReady
    refine ⟨by simpa using eligible, sub, q, ?_⟩
    dsimp only at served
    split at served
    · cases served
    next c' l front =>
      cases served
      rw [key, key']
      exact ⟨l, s3, parent, subReady, svcReady, (picks.trans picks').trans picks'', rfl⟩

/-- Settles O36: the tokens after a charge, and what each of the two ways of being served charges. -/
theorem shapersHold : Obligations.ShapersHold := by
  intro s k a p
  refine ⟨fun shaped => ⟨State.eligible_shaped shaped, State.tokensNow_charge shaped a, fun j => State.tokensNow_charge_ne shaped a,
      fun n => ?_⟩, fun unshaped => ⟨State.eligible_unshaped unshaped, State.charge_unshaped unshaped a⟩,
    fun c l front => ⟨_, State.serveNode_privileged front, ?_, ?_⟩, State.serveNode_ineligible, fun _ empty c t served => ?_⟩
  · rw [State.tokensNow_charge shaped, State.charge_shaped shaped]
    exact State.tokensNow_setTokens_passNs shaped _ n
  · exact ((((((State.SameShapers.refl s).setQueue p l).charge p c.length).tmCount p 1 1).tmCount p 2 _).countNode p _).tokens
  · simp
  · obtain ⟨eligible, sub, q, l, u, parent, subReady, svcReady, picks, rfl⟩ := State.serveNode_class empty served
    have same := picks.sameShapers
    refine ⟨sub, _, rfl, parent.symm, subReady, svcReady, eligible, ?_⟩
    rw [State.classServed_tokens, same.accounted_eq]
    exact (((same.charge (subKey sub) _).charge (svcKey (s.subParent sub)) _).charge p _).tokens

end Sys2Proof.Machine
end

section
/-! SUPPORT. TM_PORT_SERVE at a port node that is not ready (R292). -/

namespace Sys2Proof.Machine

/-- What goes wrong with a frame's cells does not matter where the node takes no frame: none is read. -/
theorem execTmPortServe_not_ready {s : State} {n : Nat} (trouble : UnitFault) (inside : n < 16) (powered : s.on .pkt = true)
    (awake : s.awake = true) (busy : (if n < 4 then s.startPause n else s).nodeReady n = false) :
    execTmPortServe n trouble s = .next (if n < 4 then s.startPause n else s) := by
  simp [execTmPortServe, powered, awake, Nat.not_le.mpr inside, busy]

/-- After reset ETH0 has no link, so its node takes no frame. -/
theorem reset_eth0_not_ready : (State.reset.startPause 0).nodeReady 0 = false := by decide

/-- Row 0 of the SRAM serves after reset, and an uncorrectable error would retire it. -/
theorem reset_row0_retires : (State.reset.startPause 0).unitState 5 0 = .serving
    ∧ (((((State.reset.startPause 0).ageQueues 0).sramError 0 true).loseHead 0).pauseAll).unitState 5 0 = .retired := by decide +kernel

/-- Refutes O37: its clause on a cell that cannot be read stands outside the hypothesis that the node is ready, so it asks ETH0
after reset, whose link is down, to retire SRAM row 0, where TM_PORT_SERVE reads no cell and leaves the row serving. -/
theorem not_trafficServed : ¬ Obligations.TrafficServed := by
  intro holds
  obtain ⟨served, -⟩ := holds State.reset 0 ⟨.pcie 0, 0, 0, 0, 0, 0, true, false, false, false⟩ []
  obtain ⟨-, -, retires⟩ := served (by decide) (by decide) (by decide)
  have waits := execTmPortServe_not_ready (s := State.reset) (n := 0) (.uncorrectable 0) (by decide) (by decide) (by decide) reset_eth0_not_ready
  have same := Host.Outcome.next.inj (waits.symm.trans (retires 0))
  obtain ⟨serving, retired⟩ := reset_row0_retires
  exact absurd ((serving.symm.trans (congrArg (fun s => s.unitState 5 0) same)).trans retired) (by decide)

end Sys2Proof.Machine
end

section
/-! SUPPORT. Octets laid out one after another, fields of a register read back, and what waiting and reporting keep. -/

namespace Sys2Proof.Machine

/-! ### Octets laid out one after another -/

@[simp] theorem length_be (n v : Nat) : (be n v).length = n := by
  rw [be, List.length_reverse, length_le]

@[simp] theorem num_le (n v : Nat) : num (le n v) 0 n = v % 256 ^ n := by
  rw [num, slice, List.drop_zero, List.take_of_length_le (length_le n v).le, ofLe_le]

/-- A number beyond the first part is read from the second. -/
theorem num_append_beyond {a b : Bytes} {off n : Nat} (beyond : a.length ≤ off) : num (a ++ b) off n = num b (off - a.length) n := by
  rw [num, num, slice, slice, List.drop_append, List.drop_eq_nil_of_le beyond, List.nil_append]

/-- A number within the first part is read from it. -/
theorem num_append_within {a b : Bytes} {off n : Nat} (within : off + n ≤ a.length) : num (a ++ b) off n = num a off n := by
  rw [num, num, slice, slice, List.drop_append_of_le_length (by omega), List.take_append_of_le_length (by rw [List.length_drop]; omega)]

/-- A number within a run of numbers of one size, at its place. -/
theorem num_range_le {n m k : Nat} (f : Nat → Nat) (inside : k < m) :
    num ((List.range m).flatMap fun x => le n (f x)) (n * k) n = f k % 256 ^ n := by
  rw [num_flatMap_le n f _ (by simpa using inside), List.getElem_range]

/-- A register's word as four octets. -/
theorem num_le_word (w : Word) : num (le 4 w.toNat) 0 4 = w.toNat := by
  rw [num_le]
  exact Nat.mod_eq_of_lt w.isLt

/-! ### Fields of a register -/

theorem bits_mod_word (v : Nat) {hi lo : Nat} (within : hi < 32) : bits (v % 2 ^ 32) hi lo = bits v hi lo := by
  refine Nat.eq_of_testBit_eq fun i => ?_
  rw [testBit_bits, testBit_bits, Nat.testBit_mod_two_pow]
  by_cases inside : i < hi + 1 - lo
  · simp [show lo + i < 32 by omega]
  · simp [inside]

theorem field_withField (w : Word) (x : Nat) {hi lo : Nat} (within : hi < 32) :
    field (withField w hi lo x) hi lo = x % 2 ^ (hi + 1 - lo) := by
  rw [field, withField, BitVec.toNat_ofNat, bits_mod_word _ within, bits_withBits]

theorem field_withField_other (w : Word) (x : Nat) {hi lo hi' lo' : Nat} (within : hi' < 32) (apart : hi' < lo ∨ hi < lo') :
    field (withField w hi lo x) hi' lo' = field w hi' lo' := by
  rw [field, withField, BitVec.toNat_ofNat, bits_mod_word _ within, bits_withBits_other _ _ apart, field]

theorem field_lt (w : Word) (hi lo : Nat) : field w hi lo < 2 ^ (hi + 1 - lo) := Nat.mod_lt _ (Nat.two_pow_pos _)

theorem State.fld_lt (s : State) (a hi lo : Nat) : s.fld a hi lo < 2 ^ (hi + 1 - lo) := field_lt _ hi lo

theorem State.fld_setFld (s : State) (a x : Nat) {hi lo : Nat} (within : hi < 32) :
    (s.setFld a hi lo x).fld a hi lo = x % 2 ^ (hi + 1 - lo) := by
  rw [State.fld, State.setFld, State.reg_setReg, field_withField _ _ within]

/-- A field keeps its value where another one of its register is written. -/
theorem State.fld_setFld_other (s : State) (a x : Nat) {hi lo hi' lo' : Nat} (within : hi' < 32) (apart : hi' < lo ∨ hi < lo') :
    (s.setFld a hi lo x).fld a hi' lo' = s.fld a hi' lo' := by
  rw [State.fld, State.setFld, State.reg_setReg, field_withField_other _ _ within apart, State.fld]

/-- A field keeps its value where another register is written. -/
theorem State.fld_setFld_ne (s : State) {a b : Nat} (hi lo x hi' lo' : Nat) (h : b ≠ a) :
    (s.setFld a hi lo x).fld b hi' lo' = s.fld b hi' lo' := State.fld_setReg_ne s hi' lo' _ h

theorem State.fld_setFlag_other (s : State) (a : Nat) (x : Bool) {i hi' lo' : Nat} (within : hi' < 32) (apart : hi' < i ∨ i < lo') :
    (s.setFlag a i x).fld a hi' lo' = s.fld a hi' lo' := State.fld_setFld_other s a _ within apart

theorem State.fld_setFlag_ne (s : State) {a b : Nat} (i : Nat) (x : Bool) (hi' lo' : Nat) (h : b ≠ a) :
    (s.setFlag a i x).fld b hi' lo' = s.fld b hi' lo' := State.fld_setReg_ne s hi' lo' _ h

theorem State.flag_setFlag_ne (s : State) {a b : Nat} (i j : Nat) (x : Bool) (h : b ≠ a) :
    (s.setFlag a i x).flag b j = s.flag b j := State.flag_setReg_ne s j _ h

/-- A saturating counter advanced. -/
theorem State.fld_bumpFld (s : State) (a n : Nat) {hi lo : Nat} (within : hi < 32) :
    (s.bumpFld a hi lo n).fld a hi lo = min (s.fld a hi lo + n) (2 ^ (hi + 1 - lo) - 1) := by
  rw [State.bumpFld, State.fld_setFld _ _ _ within, Nat.mod_eq_of_lt]
  have := Nat.two_pow_pos (hi + 1 - lo)
  omega

theorem State.reg_bump (s : State) (a n : Nat) : ((s.bump a n).reg a).toNat = min ((s.reg a).toNat + n) (2 ^ 32 - 1) := by
  have whole (t : State) : (t.reg a).toNat = t.fld a 31 0 := by
    have := (t.reg a).isLt
    simp [State.fld, field, bits]
    omega
  rw [whole, State.bump, State.fld_bumpFld _ _ _ (by decide), whole]

theorem State.reg_bumpFld_ne (s : State) {a b : Nat} (hi lo n : Nat) (h : b ≠ a) : (s.bumpFld a hi lo n).reg b = s.reg b :=
  State.reg_setReg_ne s _ h

theorem State.fld_of_reg {s t : State} {a : Nat} (h : t.reg a = s.reg a) (hi lo : Nat) : t.fld a hi lo = s.fld a hi lo :=
  congrArg (field · hi lo) h

theorem State.flag_of_reg {s t : State} {a : Nat} (h : t.reg a = s.reg a) (i : Nat) : t.flag a i = s.flag a i := by
  rw [State.flag, State.flag, State.fld_of_reg h]

theorem State.reg_of_regs {s t : State} (h : t.regs = s.regs) (a : Nat) : t.reg a = s.reg a := by
  rw [State.reg, State.reg, h]

/-! ### Waiting changes time alone -/

theorem State.passNs_eq (s : State) (n : Nat) : s.passNs n = { s with elapsed := s.elapsed + n, time := (s.passNs n).time } := by
  unfold State.passNs
  split <;> rfl

theorem State.reach_eq (s : State) (t : Nat) : s.reach t = { s with elapsed := (s.reach t).elapsed, time := (s.reach t).time } := by
  unfold State.reach
  split
  · dsimp only
    rw [State.passNs_eq]
  · rfl

theorem State.reachElapsed_eq (s : State) (t : Nat) :
    s.reachElapsed t = { s with elapsed := (s.reachElapsed t).elapsed, time := (s.reachElapsed t).time } := by
  unfold State.reachElapsed
  split
  · rw [State.passNs_eq]
  · rfl

@[simp] theorem State.reach_regs (s : State) (t : Nat) : (s.reach t).regs = s.regs := by rw [State.reach_eq]

@[simp] theorem State.reach_reg (s : State) (t a : Nat) : (s.reach t).reg a = s.reg a := State.reg_of_regs (s.reach_regs t) a

@[simp] theorem State.reach_fld (s : State) (t a hi lo : Nat) : (s.reach t).fld a hi lo = s.fld a hi lo :=
  State.fld_of_reg (s.reach_reg t a) hi lo

@[simp] theorem State.reach_meas (s : State) (t : Nat) : (s.reach t).meas = s.meas := by rw [State.reach_eq]

@[simp] theorem State.reachElapsed_fld (s : State) (t a hi lo : Nat) : (s.reachElapsed t).fld a hi lo = s.fld a hi lo :=
  State.fld_of_reg (s.reachElapsed_reg t a) hi lo

/-! ### What a report or a reply leaves: the registers but for the packet buffer's cells -/

/-- Whether a state has the registers of another one, but for TM_BUF_STAT. -/
def State.SameRegs (s t : State) : Prop := ∀ a, a ≠ Reg.tmBufStat → t.reg a = s.reg a

theorem State.SameRegs.of_regs {s t u : State} (h : s.SameRegs t) (same : u.regs = t.regs) : s.SameRegs u :=
  fun a other => (State.reg_of_regs same a).trans (h a other)

section
variable {s t : State} (h : s.SameRegs t)
include h

theorem State.SameRegs.foldl {α : Type} {f : State → α → State} (keeps : ∀ {t : State} (a : α), s.SameRegs t → s.SameRegs (f t a))
    (l : List α) : s.SameRegs (l.foldl f t) := by
  induction l generalizing t with
  | nil => exact h
  | cons a l ih => exact ih (keeps a h)

theorem State.SameRegs.setCells {hi lo x : Nat} : s.SameRegs (t.setFld Reg.tmBufStat hi lo x) :=
  fun a other => (State.reg_setFld_ne t hi lo x other).trans (h a other)

theorem State.SameRegs.modSession {n : Nat} {f : Session → Session} : s.SameRegs (t.modSession n f) := h.of_regs rfl

theorem State.SameRegs.pushPrivileged {node : Nat} {x : Copy} : s.SameRegs (t.pushPrivileged node x) := by
  unfold State.pushPrivileged State.takeCells
  dsimp only
  split
  · exact (State.SameRegs.setCells (State.SameRegs.setCells (h.of_regs rfl))).of_regs rfl
  · exact h.of_regs rfl

theorem State.SameRegs.pumpRing {n ring : Nat} : s.SameRegs (t.pumpRing n ring) := by
  unfold State.pumpRing
  dsimp only
  split
  · split
    · exact h
    · split <;> exact h.of_regs rfl
  · exact h

theorem State.SameRegs.raiseTimed {n code severity status source : Nat} {forwarded : Bool} {time body : Bytes} :
    s.SameRegs (t.raiseTimed n code severity status source forwarded time body) := by
  unfold State.raiseTimed
  dsimp only
  split
  · exact h
  · split
    · split
      · exact h.modSession.pushPrivileged
      · split
        · split
          · exact h.modSession.modSession.pumpRing
          · exact h.modSession.modSession
        · exact h.modSession.modSession
    · exact h

theorem State.SameRegs.raise {code severity : Nat} {body : Bytes} {status : Nat} : s.SameRegs (t.raise code severity body status) := by
  unfold State.raise
  dsimp only
  split
  · exact h.foldl (fun _ same => same.raiseTimed) _
  · split
    · exact h.pushPrivileged
    · split <;> exact h.of_regs rfl

end

theorem State.SameRegs.refl (s : State) : s.SameRegs s := fun _ _ => rfl

theorem State.raise_reg (s : State) (code severity : Nat) (body : Bytes) (status : Nat) {a : Nat} (other : a ≠ Reg.tmBufStat) :
    (s.raise code severity body status).reg a = s.reg a := (State.SameRegs.refl s).raise a other

/-! A report leaves every part but the registers, the host side, the packet buffer and the chain. -/

section
variable (s : State) (code severity : Nat) (body : Bytes) (status : Nat)

@[simp] theorem State.raise_elapsed : (s.raise code severity body status).elapsed = s.elapsed := by
  obtain ⟨_, _, _, _, e⟩ := (State.ReportsTo.refl s).raise (code := code) (severity := severity) (body := body) (status := status)
  rw [e]

@[simp] theorem State.raise_time : (s.raise code severity body status).time = s.time := by
  obtain ⟨_, _, _, _, e⟩ := (State.ReportsTo.refl s).raise (code := code) (severity := severity) (body := body) (status := status)
  rw [e]

@[simp] theorem State.raise_meas : (s.raise code severity body status).meas = s.meas := by
  obtain ⟨_, _, _, _, e⟩ := (State.ReportsTo.refl s).raise (code := code) (severity := severity) (body := body) (status := status)
  rw [e]

@[simp] theorem State.raise_darn : (s.raise code severity body status).darn = s.darn := by
  obtain ⟨_, _, _, _, e⟩ := (State.ReportsTo.refl s).raise (code := code) (severity := severity) (body := body) (status := status)
  rw [e]

@[simp] theorem State.raise_sec : (s.raise code severity body status).sec = s.sec := by
  obtain ⟨_, _, _, _, e⟩ := (State.ReportsTo.refl s).raise (code := code) (severity := severity) (body := body) (status := status)
  rw [e]

@[simp] theorem State.raise_cipher : (s.raise code severity body status).cipher = s.cipher := by
  obtain ⟨_, _, _, _, e⟩ := (State.ReportsTo.refl s).raise (code := code) (severity := severity) (body := body) (status := status)
  rw [e]

@[simp] theorem State.raise_dram : (s.raise code severity body status).dram = s.dram := by
  obtain ⟨_, _, _, _, e⟩ := (State.ReportsTo.refl s).raise (code := code) (severity := severity) (body := body) (status := status)
  rw [e]

@[simp] theorem State.raise_power : (s.raise code severity body status).power = s.power := by
  obtain ⟨_, _, _, _, e⟩ := (State.ReportsTo.refl s).raise (code := code) (severity := severity) (body := body) (status := status)
  rw [e]

@[simp] theorem State.raise_rtc : (s.raise code severity body status).rtc = s.rtc := by
  obtain ⟨_, _, _, _, e⟩ := (State.ReportsTo.refl s).raise (code := code) (severity := severity) (body := body) (status := status)
  rw [e]

@[simp] theorem State.raise_boot : (s.raise code severity body status).boot = s.boot := by
  obtain ⟨_, _, _, _, e⟩ := (State.ReportsTo.refl s).raise (code := code) (severity := severity) (body := body) (status := status)
  rw [e]

@[simp] theorem State.raise_radios : (s.raise code severity body status).radios = s.radios := by
  obtain ⟨_, _, _, _, e⟩ := (State.ReportsTo.refl s).raise (code := code) (severity := severity) (body := body) (status := status)
  rw [e]

@[simp] theorem State.raise_draws : (s.raise code severity body status).draws = s.draws := by
  obtain ⟨_, _, _, _, e⟩ := (State.ReportsTo.refl s).raise (code := code) (severity := severity) (body := body) (status := status)
  rw [e]

@[simp] theorem State.raise_ctl : (s.raise code severity body status).ctl = s.ctl := by
  obtain ⟨_, _, _, _, e⟩ := (State.ReportsTo.refl s).raise (code := code) (severity := severity) (body := body) (status := status)
  rw [e]

end

/-! ### An exit source (R447) -/

/-- An exit source changes PWR_WAKE_SRC, PWR_STATE and the power part. -/
theorem State.wakeSource_eq (s : State) (k : Nat) :
    s.wakeSource k = { s with regs := (s.wakeSource k).regs, power := (s.wakeSource k).power } := by
  unfold State.wakeSource
  split <;> rfl

theorem State.wakeSource_reg (s : State) (k : Nat) {a : Nat} (other : a ≠ Reg.pwrWakeSrc ∧ a ≠ Reg.pwrState) :
    (s.wakeSource k).reg a = s.reg a := by
  unfold State.wakeSource
  split
  · exact (State.reg_setFlag_ne _ _ _ other.2).trans (State.reg_setFlag_ne _ _ _ other.1)
  · rfl

@[simp] theorem State.wakeSource_elapsed (s : State) (k : Nat) : (s.wakeSource k).elapsed = s.elapsed := by rw [State.wakeSource_eq]

@[simp] theorem State.wakeSource_meas (s : State) (k : Nat) : (s.wakeSource k).meas = s.meas := by rw [State.wakeSource_eq]

end Sys2Proof.Machine
end

section
/-! SUPPORT. The calendar: the days of the Gregorian calendar of 2000 to 2399 in their order, and the second that follows. -/

namespace Sys2Proof.Machine

/-! ### Dates (R348) -/

theorem dateOk_iff {y m d : Nat} :
    dateOk y m d = true ↔ 2000 ≤ y ∧ y ≤ 2399 ∧ 1 ≤ m ∧ m ≤ 12 ∧ 1 ≤ d ∧ d ≤ monthDays y m := by
  simp [dateOk, and_assoc]

theorem timeOk_iff {h m sec : Nat} : timeOk h m sec = true ↔ h ≤ 23 ∧ m ≤ 59 ∧ sec ≤ 59 := by
  simp [timeOk, and_assoc]

theorem leapYear_iff {y : Nat} : leapYear y = true ↔ y % 4 = 0 ∧ (y % 100 ≠ 0 ∨ y % 400 = 0) := by
  simp [leapYear]

theorem monthDays_le (y m : Nat) : monthDays y m ≤ 31 := by
  unfold monthDays
  split_ifs <;> omega

theorem monthDays_pos (y m : Nat) : 1 ≤ monthDays y m := by
  unfold monthDays
  split_ifs <;> omega

/-- The first day of a month follows the last day of the month before. -/
theorem yearDay_next_month (y : Nat) {m : Nat} (month : 1 ≤ m) : yearDay y (m + 1) 1 = yearDay y m (monthDays y m) + 1 := by
  obtain ⟨k, rfl⟩ : ∃ k, m = k + 1 := ⟨m - 1, by omega⟩
  simp [yearDay, List.range_succ]

theorem yearDay_succ (y m d : Nat) : yearDay y m (d + 1) = yearDay y m d + 1 := rfl

theorem yearDay_last (y : Nat) : yearDay y 12 31 = if leapYear y then 366 else 365 := by
  cases h : leapYear y <;> simp [yearDay, List.range_succ, monthDays, h]

/-- The date after a date, the calendar of 400 years taken as a circle (R349). -/
def dayAfter (y m d : Nat) : Nat × Nat × Nat :=
  if d < monthDays y m then (y, m, d + 1)
  else if m < 12 then (y, m + 1, 1)
  else if y < 2399 then (y + 1, 1, 1)
  else (2000, 1, 1)

/-- The four ways in which a day ends. -/
theorem dayAfter_cases {y m d : Nat} (ok : dateOk y m d = true) :
    (d < monthDays y m ∧ dayAfter y m d = (y, m, d + 1))
    ∨ (d = monthDays y m ∧ m < 12 ∧ dayAfter y m d = (y, m + 1, 1))
    ∨ (m = 12 ∧ d = 31 ∧ y < 2399 ∧ dayAfter y m d = (y + 1, 1, 1))
    ∨ ((y, m, d) = (2399, 12, 31) ∧ dayAfter y m d = (2000, 1, 1)) := by
  obtain ⟨-, yhi, -, mhi, -, dhi⟩ := dateOk_iff.mp ok
  unfold dayAfter
  by_cases within : d < monthDays y m
  · exact .inl ⟨within, if_pos within⟩
  rw [if_neg within]
  by_cases month : m < 12
  · exact .inr (.inl ⟨by omega, month, if_pos month⟩)
  obtain rfl : m = 12 := by omega
  have last : monthDays y 12 = 31 := rfl
  rw [if_neg month]
  by_cases year : y < 2399
  · exact .inr (.inr (.inl ⟨rfl, by omega, year, if_pos year⟩))
  · exact .inr (.inr (.inr ⟨by simp; omega, if_neg year⟩))

theorem dayAfter_ok {y m d y' m' d' : Nat} (ok : dateOk y m d = true) (next : dayAfter y m d = (y', m', d')) :
    dateOk y' m' d' = true := by
  obtain ⟨ylo, yhi, mlo, mhi, dlo, dhi⟩ := dateOk_iff.mp ok
  have first := monthDays_pos y' m'
  rcases dayAfter_cases ok with ⟨_, e⟩ | ⟨_, _, e⟩ | ⟨_, _, _, e⟩ | ⟨_, e⟩ <;> rw [e] at next <;> cases next <;>
    exact dateOk_iff.mpr (by omega)

/-- A day that is not the last of the 400 years is followed by the day with the next number. -/
theorem dayNumber_dayAfter {y m d y' m' d' : Nat} (ok : dateOk y m d = true) (next : dayAfter y m d = (y', m', d'))
    (more : (y, m, d) ≠ (2399, 12, 31)) : dayNumber y' m' d' = dayNumber y m d + 1 := by
  obtain ⟨ylo, yhi, mlo, mhi, dlo, dhi⟩ := dateOk_iff.mp ok
  have counted : 1 ≤ yearDay y m d := Nat.le_add_left_of_le dlo
  rcases dayAfter_cases ok with ⟨_, e⟩ | ⟨rfl, _, e⟩ | ⟨rfl, rfl, _, e⟩ | ⟨last, e⟩
  · rw [e] at next
    cases next
    simp only [dayNumber, yearDay_succ]
    omega
  · rw [e] at next
    cases next
    simp only [dayNumber, yearDay_next_month y mlo]
    omega
  · rw [e] at next
    cases next
    have leap := leapYear_iff (y := y)
    have first : yearDay (y + 1) 1 1 = 1 := rfl
    have whole := yearDay_last y
    simp only [dayNumber, first, whole]
    split_ifs with h
    · have := leap.mp h
      omega
    · have := mt leap.mpr h
      omega
  · exact absurd last more

/-- The weekday is continuous, over the end of the 400 years as well: they are 20,871 weeks. -/
theorem weekday_dayAfter {y m d y' m' d' : Nat} (ok : dateOk y m d = true) (next : dayAfter y m d = (y', m', d')) :
    weekday y' m' d' = (weekday y m d + 1) % 7 := by
  by_cases last : (y, m, d) = (2399, 12, 31)
  · cases last
    cases next
    decide
  · simp only [weekday, dayNumber_dayAfter ok next last]
    omega

/-! ### The calendar's registers -/

@[simp] theorem State.setDate_elapsed (s : State) (y m d : Nat) : (s.setDate y m d).elapsed = s.elapsed := rfl

@[simp] theorem State.setTime_elapsed (s : State) (h m sec : Nat) : (s.setTime h m sec).elapsed = s.elapsed := rfl

theorem State.setDate_reg (s : State) (y m d : Nat) {a : Nat} (other : a ≠ Reg.rtcDay ∧ a ≠ Reg.rtcMon ∧ a ≠ Reg.rtcYear) :
    (s.setDate y m d).reg a = s.reg a := by
  obtain ⟨day, month, year⟩ := other
  simp only [State.setDate, State.reg_setReg_ne _ _ day, State.reg_setReg_ne _ _ month, State.reg_setReg_ne _ _ year]

theorem State.setTime_reg (s : State) (h m sec : Nat) {a : Nat} (other : a ≠ Reg.rtcHour ∧ a ≠ Reg.rtcMin ∧ a ≠ Reg.rtcSec) :
    (s.setTime h m sec).reg a = s.reg a := by
  obtain ⟨hour, minute, second⟩ := other
  simp only [State.setTime, State.reg_setReg_ne _ _ hour, State.reg_setReg_ne _ _ minute, State.reg_setReg_ne _ _ second]

theorem State.setDate_timeOfDay (s : State) (y m d : Nat) : (s.setDate y m d).timeOfDay = s.timeOfDay := by
  simp only [State.timeOfDay, State.setDate_reg s y m d (a := Reg.rtcHour) (by decide),
    State.setDate_reg s y m d (a := Reg.rtcMin) (by decide), State.setDate_reg s y m d (a := Reg.rtcSec) (by decide)]

theorem State.setTime_date (s : State) (h m sec : Nat) : (s.setTime h m sec).date = s.date := by
  simp only [State.date, State.fld, State.setTime_reg s h m sec (a := Reg.rtcYear) (by decide),
    State.setTime_reg s h m sec (a := Reg.rtcMon) (by decide), State.setTime_reg s h m sec (a := Reg.rtcDay) (by decide)]

theorem State.timeOfDay_setTime (s : State) {h m sec : Nat} (ok : timeOk h m sec = true) :
    (s.setTime h m sec).timeOfDay = (h, m, sec) := by
  obtain ⟨hour, minute, second⟩ := timeOk_iff.mp ok
  have hours : (s.setTime h m sec).reg Reg.rtcHour = word h := by
    rw [State.setTime, State.reg_setReg_ne _ _ (by decide), State.reg_setReg_ne _ _ (by decide), State.reg_setReg]
  have minutes : (s.setTime h m sec).reg Reg.rtcMin = word m := by
    rw [State.setTime, State.reg_setReg_ne _ _ (by decide), State.reg_setReg]
  have seconds : (s.setTime h m sec).reg Reg.rtcSec = word sec := State.reg_setReg _ _ _
  simp only [State.timeOfDay, hours, minutes, seconds, BitVec.toNat_ofNat, Prod.mk.injEq]
  omega

/-- The day register holds the weekday beside the day. -/
theorem State.reg_day_setDate (s : State) (y m d : Nat) : (s.setDate y m d).reg Reg.rtcDay = word (d + 256 * weekday y m d) := by
  rw [State.setDate, State.reg_setReg_ne _ _ (by decide), State.reg_setReg_ne _ _ (by decide), State.reg_setReg]

theorem State.date_setDate (s : State) {y m d : Nat} (ok : dateOk y m d = true) : (s.setDate y m d).date = (y, m, d) := by
  obtain ⟨-, year, -, month, -, day⟩ := dateOk_iff.mp ok
  have short := monthDays_le y m
  have years : (s.setDate y m d).reg Reg.rtcYear = word y := State.reg_setReg _ _ _
  have months : (s.setDate y m d).reg Reg.rtcMon = word m := by
    rw [State.setDate, State.reg_setReg_ne _ _ (by decide), State.reg_setReg]
  have week : weekday y m d < 7 := Nat.mod_lt _ (by decide)
  simp only [State.date, State.fld, State.reg_day_setDate, years, months, field, bits, BitVec.toNat_ofNat, Prod.mk.injEq]
  omega

theorem State.weekday_setDate (s : State) {y m d : Nat} (ok : dateOk y m d = true) :
    (s.setDate y m d).fld Reg.rtcDay 10 8 = weekday y m d := by
  obtain ⟨-, -, -, -, -, day⟩ := dateOk_iff.mp ok
  have short := monthDays_le y m
  have week : weekday y m d < 7 := Nat.mod_lt _ (by decide)
  simp only [State.fld, State.reg_day_setDate, field, bits, BitVec.toNat_ofNat]
  omega

/-! ### The second that follows (R348, R349) -/

/-- The state in which the prescaler has completed its cycles and begun again, the calendar not yet moved on. -/
def State.secondDue (s : State) : State :=
  let e := s.rtc.since + (32767 + 1000000000 * (32768 - (s.reg Reg.rtcSsec).toNat)) / 32768
  let b := (s.reachElapsed e).setReg Reg.rtcSsec 0
  { b with rtc := { b.rtc with since := e } }

theorem execRtcSecond_stands {s : State} (halted : s.rtcHalted = true) : execRtcSecond s = .next s := by
  simp [execRtcSecond, halted]

theorem execRtcSecond_counts {s : State} (runs : s.rtcHalted = false) (ticks : s.rtc.stopped = false) :
    execRtcSecond s = .next s.secondDue.nextSecond := by
  simp [execRtcSecond, runs, ticks, State.secondDue]

theorem State.secondDue_reg (s : State) {a : Nat} (other : a ≠ Reg.rtcSsec) : s.secondDue.reg a = s.reg a :=
  (State.reg_setReg_ne (s.reachElapsed _) 0 other).trans (State.reachElapsed_reg s _ a)

theorem State.secondDue_ssec (s : State) : s.secondDue.reg Reg.rtcSsec = 0 :=
  State.reg_setReg (s.reachElapsed _) Reg.rtcSsec 0

theorem State.secondDue_date (s : State) : s.secondDue.date = s.date := by
  simp only [State.date, State.fld, State.secondDue_reg s (a := Reg.rtcYear) (by decide),
    State.secondDue_reg s (a := Reg.rtcMon) (by decide), State.secondDue_reg s (a := Reg.rtcDay) (by decide)]

theorem State.secondDue_timeOfDay (s : State) : s.secondDue.timeOfDay = s.timeOfDay := by
  simp only [State.timeOfDay, State.secondDue_reg s (a := Reg.rtcHour) (by decide),
    State.secondDue_reg s (a := Reg.rtcMin) (by decide), State.secondDue_reg s (a := Reg.rtcSec) (by decide)]

/-- The prescaler's cycles have been waited for. -/
theorem State.secondDue_elapsed (s : State) :
    s.rtc.since + 1000000000 * (32768 - (s.reg Reg.rtcSsec).toNat) / 32768 ≤ s.secondDue.elapsed := by
  have reached : s.secondDue.elapsed
      = max s.elapsed (s.rtc.since + (32767 + 1000000000 * (32768 - (s.reg Reg.rtcSsec).toNat)) / 32768) :=
    State.reachElapsed_elapsed _ _
  omega

/-- Within a day the time of day moves on by one second. -/
theorem State.nextSecond_within {s : State} {h m sec : Nat} (time : s.timeOfDay = (h, m, sec)) (ok : timeOk h m sec = true)
    (more : (h, m, sec) ≠ (23, 59, 59)) : ∃ h' m' sec', s.nextSecond = s.setTime h' m' sec' ∧ timeOk h' m' sec' = true
      ∧ h' * 3600 + m' * 60 + sec' = h * 3600 + m * 60 + sec + 1 := by
  obtain ⟨hour, minute, second⟩ := timeOk_iff.mp ok
  simp only [ne_eq, Prod.mk.injEq] at more
  simp only [State.nextSecond, time, timeOk_iff]
  split_ifs with seconds minutes hours
  · exact ⟨_, _, _, rfl, by omega⟩
  · exact ⟨_, _, _, rfl, by omega⟩
  · exact ⟨_, _, _, rfl, by omega⟩
  · omega

theorem State.nextSecond_midnight {s : State} (time : s.timeOfDay = (23, 59, 59)) : s.nextSecond = (s.setTime 0 0 0).nextDay := by
  simp [State.nextSecond, time]

/-- The next day is the date that follows; the last of the 400 years is reported as it wraps. -/
theorem State.nextDay_eq {s : State} {y m d y' m' d' : Nat} (date : s.date = (y, m, d)) (ok : dateOk y m d = true)
    (next : dayAfter y m d = (y', m', d')) : s.nextDay = if (y, m, d) = (2399, 12, 31)
      then ((s.setDate y' m' d').setFlag Reg.rtcEvt 2 true).raise 0x3101 0 [] else s.setDate y' m' d' := by
  simp only [State.nextDay, date]
  rcases dayAfter_cases ok with ⟨within, e⟩ | ⟨rfl, within, e⟩ | ⟨rfl, rfl, within, e⟩ | ⟨last, e⟩
  · rw [e] at next
    cases next
    rw [if_pos within, if_neg]
    rintro ⟨⟩
    exact absurd within (by decide)
  · rw [e] at next
    cases next
    rw [if_neg (by omega), if_pos within, if_neg (by simp; omega)]
  · rw [e] at next
    cases next
    have days : monthDays y 12 = 31 := rfl
    rw [days, if_neg (by omega), if_neg (by omega), if_pos within, if_neg (by simp; omega)]
  · rw [e] at next
    cases last
    cases next
    rfl

/-- The note of a wrap leaves the date and the time of day. -/
theorem State.calendar_noteWrap (s : State) : (s.setFlag Reg.rtcEvt 2 true).date = s.date
    ∧ (s.setFlag Reg.rtcEvt 2 true).timeOfDay = s.timeOfDay := by
  have keeps {a : Nat} (other : a ≠ Reg.rtcEvt) : (s.setFlag Reg.rtcEvt 2 true).reg a = s.reg a := State.reg_setFlag_ne s 2 true other
  exact ⟨by simp only [State.date, State.fld, keeps (a := Reg.rtcYear) (by decide), keeps (a := Reg.rtcMon) (by decide),
      keeps (a := Reg.rtcDay) (by decide)],
    by simp only [State.timeOfDay, keeps (a := Reg.rtcHour) (by decide), keeps (a := Reg.rtcMin) (by decide),
      keeps (a := Reg.rtcSec) (by decide)]⟩

/-- Settles O40: within a day the time of day moves on; at midnight the date does, by the four ways in which a day ends. -/
theorem calendarCounts : Obligations.CalendarCounts := by
  intro s y m d h mi sec date time dateReal timeReal
  refine ⟨execRtcSecond_stands, fun runs ticks => ?_, leapYear_iff, by decide⟩
  have due : s.secondDue.date = (y, m, d) := s.secondDue_date.trans date
  have dueTime : s.secondDue.timeOfDay = (h, mi, sec) := s.secondDue_timeOfDay.trans time
  have counts := execRtcSecond_counts runs ticks
  by_cases midnight : (h, mi, sec) = (23, 59, 59)
  · cases midnight
    obtain ⟨⟨y', m', d'⟩, after⟩ : ∃ e, dayAfter y m d = e := ⟨_, rfl⟩
    have real := dayAfter_ok dateReal after
    have moved := State.nextDay_eq ((State.setTime_date _ 0 0 0).trans due) dateReal after
    rw [State.nextSecond_midnight dueTime, moved] at counts
    have shown := State.date_setDate (s.secondDue.setTime 0 0 0) real
    have zero : ((s.secondDue.setTime 0 0 0).setDate y' m' d').timeOfDay = (0, 0, 0) :=
      (State.setDate_timeOfDay _ _ _ _).trans (State.timeOfDay_setTime _ rfl)
    have restarted : ((s.secondDue.setTime 0 0 0).setDate y' m' d').reg Reg.rtcSsec = 0 := by
      rw [State.setDate_reg _ _ _ _ (by decide), State.setTime_reg _ _ _ _ (by decide), State.secondDue_ssec]
    have week := State.weekday_setDate (s.secondDue.setTime 0 0 0) real
    have continuous := weekday_dayAfter dateReal after
    by_cases last : (y, m, d) = (2399, 12, 31)
    · rw [if_pos last] at counts
      have wrapped : (y', m', d') = (2000, 1, 1) := by
        cases last
        exact after.symm
      obtain ⟨noted, notedTime⟩ := State.calendar_noteWrap ((s.secondDue.setTime 0 0 0).setDate y' m' d')
      have keeps {a : Nat} := State.reg_setFlag_ne ((s.secondDue.setTime 0 0 0).setDate y' m' d') (b := a) 2 true (a := Reg.rtcEvt)
      exact ⟨_, y', m', d', 0, 0, 0, counts.trans (by rw [if_pos ⟨last, rfl⟩]), noted.trans shown, notedTime.trans zero, real, rfl,
        fun more => absurd ⟨last, rfl⟩ more, fun _ => ⟨wrapped, rfl, State.flag_setFlag _ _ _ (by decide)⟩,
        fun _ => ⟨(by rw [State.fld, keeps (by decide)]; exact week), continuous⟩, (keeps (by decide)).trans restarted, s.secondDue_elapsed⟩
    · rw [if_neg last] at counts
      have later := dayNumber_dayAfter dateReal after last
      exact ⟨_, y', m', d', 0, 0, 0, counts.trans (by rw [if_neg fun ends => last ends.1]), shown, zero, real, rfl,
        fun _ => by omega, fun ends => absurd ends.1 last, fun _ => ⟨week, continuous⟩, restarted, s.secondDue_elapsed⟩
  · obtain ⟨h', mi', sec', moved, real, later⟩ := State.nextSecond_within dueTime timeReal midnight
    rw [moved] at counts
    exact ⟨_, y, m, d, h', mi', sec', counts.trans (by rw [if_neg fun ends => midnight ends.2]), (State.setTime_date _ _ _ _).trans due,
      State.timeOfDay_setTime _ real, dateReal, real, fun _ => by omega, fun ends => absurd ends.2 midnight, fun other => absurd rfl other,
      (State.setTime_reg _ _ _ _ (by decide)).trans s.secondDue_ssec, s.secondDue_elapsed⟩

end Sys2Proof.Machine
end

section
/-! SUPPORT. A measurement heard on a port whose boundary stamper has been retired (R321). -/

namespace Sys2Proof.Machine

/-- A measurement from a port that may not be the slave port does not count. -/
theorem execTimeMeasurement_not_slave {s : State} {v : Int} {m : MasterInfo}
    (fallback : ({ s with time := { s.time with offers := Table.put s.time.offers m.port m.identity } } : State).notSlave m.port = true) :
    execTimeMeasurement 1 v m s = .next s := by
  simp [execTimeMeasurement, fallback]

/-- A correction that time cannot take is shown in TIME_OFFSET and changes nothing else. -/
theorem State.measured_out_of_range {s : State} {v : Int} (out : s.timeFits v = false) :
    s.measured v = (.range, s.setFld Reg.timeOffset 31 0 (unsigned 32 (saturate 32 (-v)))) := by
  have unfit : (s.setFld Reg.timeOffset 31 0 (unsigned 32 (saturate 32 (-v)))).timeFits v = false := out
  simp [State.measured, State.measure, unfit]

/-- ETH0 with its boundary stamper retired, and a master that ETH1 hears as well. -/
def inFallback : State :=
  let s := (((State.reset.setReg Reg.timeCtl 1).setReg (Reg.timePtpCfg 0) 5).setReg (Reg.emacStat 0) 1).setUnit 8 0 .retired
  { s with time := { s.time with masters := [1], offers := [(1, List.replicate 8 0)] } }

/-- What that master says when ETH0 hears it. -/
def heardTwice : MasterInfo := ⟨0, 0, List.replicate 8 0, 0, false⟩

theorem inFallback_not_slave : ({ inFallback with time := { inFallback.time with
    offers := Table.put inFallback.time.offers heardTwice.port heardTwice.identity } } : State).notSlave heardTwice.port = true := by decide

/-- Heeding the master adds ETH0 to the ports on which one is heard. -/
theorem inFallback_heeded : (inFallback.heedMaster 1 heardTwice).time.masters = [1, 0] ∧ inFallback.time.masters = [1] := by decide

/-- Refutes O38: its clause on a measurement of source 1 leaves out R321. ETH0 is in fallback and ETH1 offers the same master, so
TIME_MEASUREMENT of ETH0 changes nothing, where the clause asks it to heed the master. -/
theorem not_timeFollowsItsSource : ¬ Obligations.TimeFollowsItsSource := by
  intro holds
  obtain ⟨-, -, -, -, heeds, -⟩ := holds inFallback (-1)
  have asked := heeds heardTwice (by decide) (by decide) (by decide) (by decide) (by decide) (by decide)
  have same := Host.Outcome.next.inj ((execTimeMeasurement_not_slave inFallback_not_slave).symm.trans asked)
  rw [State.measured_out_of_range (by decide)] at same
  obtain ⟨heeded, before⟩ := inFallback_heeded
  exact absurd ((before.symm.trans (congrArg (fun s => s.time.masters) same)).trans heeded) (by decide)

end Sys2Proof.Machine
end

section
/-! SUPPORT. What the time function serves: masters, messages, converter starts, pulses, stamps and the reads of time. -/

namespace Sys2Proof.Machine

/-! ### Masters and messages (R322, R325, R335) -/

section
variable {s : State} {n : Nat}

theorem execAnnounceTimeout_loses (on : s.ptpOn n = true) : execAnnounceTimeout n s = .next (
    let b := { s with time := { s.time with masters := s.time.masters.filter (· != n) } }
    if s.timeSource = 1 ∧ s.slavePort = n then (b.setSlave 0xF).loseSource else b) :=
  congrArg _ (if_pos on)

/-- A Sync or an Announce of a port that is a master port and not the slave port. -/
theorem execPtpMessageDue_sends {k : Nat} (on : s.ptpOn n = true) (up : s.flag (Reg.emacStat n) 0 = true)
    (master : s.flag (Reg.timePtpCfg n) 1 = true) (other : s.slavePort ≠ n) (kind : k < 2) : execPtpMessageDue n k s = .next (
      let sequence := (Table.find s.time.sequences (n * 4 + k)).getD 0
      let b := { s with time := { s.time with sequences := Table.put s.time.sequences (n * 4 + k) ((sequence + 1) % 65536) } }
      b.pushPrivileged n { buffer := 0, bytes := b.ptpFrame n k sequence, length := (b.ptpFrame n k sequence).length + 4, port := n, stamp := if k = 1 then none else some sequence }) := by
  match k, kind with
  | 0, _ => simp [execPtpMessageDue, on, up, master, other]
  | 1, _ => simp [execPtpMessageDue, on, up, master, other]

theorem execTimeAnnounceDue_queues (enabled : s.fld Reg.timeRadioCfg 31 16 ≠ 0) (awake : s.awake = true) : execTimeAnnounceDue n s
    = .next (s.sendBroadcast (s.fld (Reg.fwdRadioCfg n) 31 16) 3 false (List.replicate 20 0) none none).2 := by
  simp [execTimeAnnounceDue, enabled, awake]

end

/-! ### Converter starts (R330) -/

/-- The grid instant at or after a bound is less than a period beyond a bound on the grid's side of the phase. -/
theorem gridAfter_spec (phase : Nat) {period : Nat} (bound : Int) (positive : 0 < period) :
    gridAfter phase period bound % period = phase % period ∧ bound ≤ (gridAfter phase period bound : Int)
      ∧ ((phase : Int) ≤ bound → (gridAfter phase period bound : Int) < period + bound) := by
  unfold gridAfter
  split
  · omega
  · obtain ⟨gap, hgap⟩ : ∃ gap : Nat, bound - (phase : Int) = gap := ⟨(bound - (phase : Int)).toNat, by omega⟩
    have parts := Nat.div_add_mod (gap + period - 1) period
    have less := Nat.mod_lt (gap + period - 1) positive
    rw [hgap, Int.toNat_natCast, Nat.add_mul_mod_self_right, Nat.mul_comm]
    refine ⟨rfl, ?_, fun _ => ?_⟩ <;> omega

/-- The instant of the next converter start (R330). -/
def State.startInstant (s : State) : Nat :=
  gridAfter (s.fld Reg.timeConvPhase 16 0) 125000 (match s.time.lastStart with
    | some t => 62500 + t
    | none => s.netNs)

theorem State.startConverters_lastStart (s : State) (samples : List Int) (failing : List Nat) :
    (s.startConverters samples failing).time.lastStart = some (s.startInstant : Int) := rfl

/-- A converter start adds one sample of the inputs. -/
theorem State.startConverters_samples (s : State) (samples : List Int) (failing : List Nat) :
    (s.startConverters samples failing).meas.samples = (s.reach s.startInstant).meas.samples ++ [{
      instant := s.startInstant
      codes := (List.range 18).map fun i => if failing.contains ((s.reach s.startInstant).channelOf i) then none
        else (s.reach s.startInstant).codeOf i (samples.getD i 0)
      flags := bitOf (s.reach s.startInstant).unsure + 2 * bitOf (s.reach s.startInstant).time.stepped }] := rfl

section
variable {s : State} (on : s.on .meas = true) (awake : s.awake = true) (enabled : s.flag Reg.measCtl 0 = true)
include on awake enabled

theorem execConverterStart_samples (samples : List Int) : execConverterStart samples [] s = .next (s.startConverters samples []) := by
  simp [execConverterStart, State.sampling, on, awake, enabled]

theorem execConverterStart_scores (samples : List Int) {k : Nat} (inside : k < 18) (serving : s.unitState 2 k = .serving) :
    execConverterStart samples [k] s = .next ((s.startConverters samples [k]).classError 2 k) := by
  simp [execConverterStart, State.sampling, on, awake, enabled, inside, serving]

end

/-- A converter start takes the grid instant at least half a period after the last start. -/
theorem State.startInstant_spec (s : State) : s.startInstant % 125000 = s.fld Reg.timeConvPhase 16 0 % 125000
    ∧ ∀ last, s.time.lastStart = some last → 62500 + last ≤ (s.startInstant : Int)
      ∧ ((s.fld Reg.timeConvPhase 16 0 : Int) ≤ last → (s.startInstant : Int) < 125000 + (62500 + last)) := by
  refine ⟨(gridAfter_spec _ _ (by decide)).1, fun last started => ?_⟩
  have grid := gridAfter_spec (s.fld Reg.timeConvPhase 16 0) (62500 + last) (period := 125000) (by decide)
  rw [State.startInstant, started]
  exact ⟨grid.2.1, fun late => grid.2.2 (by omega)⟩

/-- An input of a channel that fails its check delivers no code. -/
theorem State.startConverters_failing (s : State) (samples : List Int) {i k : Nat} (inside : i < 18) (routed : s.channelOf i = k) :
    ((s.startConverters samples [k]).meas.samples.getLast?.map fun (x : Sample) => x.codes.getD i none) = some none := by
  have same : (s.reach s.startInstant).channelOf i = k := (s.reach_fld _ _ _ _).trans routed
  rw [State.startConverters_samples, List.getLast?_concat, Option.map_some]
  simp [List.getD_eq_getElem?_getD, inside, same]

/-! ### Pulses (R337, R338) -/

theorem State.modPulse_congr {s : State} {n : Nat} {f g : Pulse → Pulse} (h : f (s.pulse n) = g (s.pulse n)) :
    s.modPulse n f = s.modPulse n g :=
  congrArg (fun l => { s with time := { s.time with pulses := l } }) (setAt_congr ({} : Pulse) h)

theorem State.reach_pulse (s : State) (t n : Nat) : (s.reach t).pulse n = s.pulse n := by
  have same : (s.reach t).time.pulses = s.time.pulses := by
    unfold State.reach State.passNs
    split
    · split <;> rfl
    · rfl
  rw [State.pulse, same, State.pulse]

theorem State.drivePulse_pulse (s : State) (g : Pulse) (active : Bool) (n : Nat) : (s.drivePulse g active).pulse n = s.pulse n := by
  unfold State.drivePulse State.drive
  dsimp only
  split <;> simp [State.pulse]

section
variable {s : State} {n : Nat} (running : (s.pulse n).running = true)
include running

theorem execPulseEdge_ends (active : (s.pulse n).active = true) : execPulseEdge n s = .next (
    let g := s.pulse n
    let e := ((s.reach (g.last.getD 0 + (g.width : Int)).toNat).drivePulse g false).modPulse n fun g => { g with active := false }
    if g.count ≠ 0 ∧ g.count ≤ g.emitted then (e.stopPulse n).raise 0x3004 0 (le 1 n ++ [0] ++ le 1 g.output) else e) := by
  simp only [execPulseEdge, running, active, Bool.not_true, Bool.false_eq_true, if_false, if_true]

theorem execPulseEdge_begins (idle : (s.pulse n).active = false) (first : (s.pulse n).last = none) : execPulseEdge n s = .next (
    let b := s.reach (s.pulse n).start
    ((b.drivePulse (s.pulse n) true).modPulse n fun g => { g with
      active := true, emitted := g.emitted + 1, last := some ((max g.start b.netNs : Nat) : Int) }).bumpFld (Reg.plsStat n) 31 16) := by
  have latched : (((s.reach (s.pulse n).start).drivePulse (s.pulse n) true).pulse n).start = (s.pulse n).start := by
    rw [State.drivePulse_pulse, State.reach_pulse]
  simp only [execPulseEdge, running, idle, first, Bool.not_true, Bool.false_eq_true, if_false]
  exact congrArg (fun t : State => Host.Outcome.next (t.bumpFld (Reg.plsStat n) 31 16)) (State.modPulse_congr (by rw [latched]))

end

/-! ### Stamps (R320) -/

theorem execTimeStampOverflow_reports {s : State} {n : Nat} (dropped : (s.port n).stampDrops ≠ 0)
    (new : (s.port n).stampSecond ≠ some s.elapsedSecond) : execTimeStampOverflow n s
    = .next ((s.modPort n fun e => { e with stampDrops := 0, stampSecond := some s.elapsedSecond }).raise 0x3003 1
      (le 1 n ++ le 4 (s.port n).stampDrops)) := by
  simp only [execTimeStampOverflow, dropped, new, or_self, if_false]

/-! ### Commands (R333, R342) -/

/-- The result of TIME_STATUS. -/
def State.timeReport (s : State) : Bytes :=
  le 1 s.timeState ++ le 1 s.timeSource ++ le 1 s.slavePort ++ le 1 (s.fld Reg.timeState 15 8)
    ++ le 4 (s.reg Reg.timeOffset).toNat ++ le 4 (s.reg Reg.timeFreq).toNat ++ le 8 (s.reg64 Reg.timeRefusedLo)
    ++ le 2 (unsigned 16 s.time.utcOffset) ++ le 1 (bitOf s.time.leap) ++ [0] ++ s.time.master ++ le 4 s.heldSeconds

theorem State.timeState_lt (s : State) : s.timeState < 8 := s.fld_lt Reg.timeState 2 0

theorem State.timeReport_shows (s : State) : num s.timeReport 0 1 = s.timeState ∧ num s.timeReport 1 1 = s.timeSource
    ∧ num s.timeReport 4 4 = (s.reg Reg.timeOffset).toNat ∧ num s.timeReport 8 4 = (s.reg Reg.timeFreq).toNat := by
  have states := s.timeState_lt
  have sources : s.timeSource < 4 := s.fld_lt Reg.timeCtl 1 0
  have offset := (s.reg Reg.timeOffset).isLt
  have freq := (s.reg Reg.timeFreq).isLt
  simp (disch := simp) only [State.timeReport, List.append_assoc, num_append_beyond, num_le_append, length_le, Nat.reduceSub]
  omega

section
variable {s : State} {c : Cmd} {p : Bytes}

theorem execTimeStatus_reports (ready : s.Ready timeStatusSpec c p) (powered : (s.received c).on .pkt = true) :
    execTimeStatus c p s = .next ((s.received c).reply (originOf c 0x3001) Status.ok (s.received c).timeReport) := by
  simp [execTimeStatus, State.run_ready ready, powered, State.settle]
  rfl

/-- The result of TIME_READ. -/
def State.timeShown (s : State) : Bytes := le 6 s.seconds ++ le 4 s.nanos ++ le 2 (s.time.now % 65536) ++ le 1 s.timeState

theorem State.timeShown_shows (s : State) : s.timeShown.length = 13 ∧ num s.timeShown 0 6 = s.seconds % 2 ^ 48 ∧ num s.timeShown 6 4 = s.nanos
    ∧ num s.timeShown 10 2 = s.time.now % 65536 ∧ num s.timeShown 12 1 = s.timeState := by
  have states := s.timeState_lt
  have nanos : s.nanos < 1000000000 := Nat.mod_lt _ (by decide)
  refine ⟨by simp [State.timeShown], ?_⟩
  simp (disch := simp) only [State.timeShown, List.append_assoc, num_append_beyond, num_le_append, num_le, length_le, Nat.reduceSub]
  omega

theorem execTimeRead_reads (ready : s.Ready timeReadSpec c p) (powered : (s.received c).on .pkt = true) :
    execTimeRead c p s = .next ((s.received c).reply (originOf c 0x3002) Status.ok (s.received c).timeShown) := by
  simp [execTimeRead, State.run_ready ready, powered, State.settle]
  rfl

theorem execTimeStampRead_takes (ready : s.Ready timeStampReadSpec c p) : execTimeStampRead c p s = .next (
    let r := s.received c
    let l := (r.port (num p 0 1)).stamps.take (num p 1 1)
    let t := r.modPort (num p 0 1) fun x => { x with stamps := x.stamps.drop l.length }
    (t.setFld (Reg.timeSqStat (num p 0 1)) 4 0 (t.port (num p 0 1)).stamps.length).reply (originOf c 0x3005) Status.ok
      (le 1 l.length ++ [0, 0, 0] ++ l.flatMap stampEntry)) := by
  rw [execTimeStampRead, State.run_ready ready]
  rfl

theorem execTimeFrameSend_refuses (ready : s.Ready timeFrameSendSpec c p) (consumed : (s.received c).ptpOn (num p 0 1) = true) :
    execTimeFrameSend c p s = .next ((s.received c).refuse (originOf c 0x3006) Status.resourceBusy ([1] ++ le 1 (num p 0 1))) := by
  simp [execTimeFrameSend, State.run_ready ready, consumed, State.settle]
  rfl

theorem execTimeFrameSend_sends (ready : s.Ready timeFrameSendSpec c p) (free : (s.received c).ptpOn (num p 0 1) = false) {t : State}
    (sent : (s.received c).sendDirect (p.drop 4) (num p 0 1) (some (num p 2 2)) = some t) :
    execTimeFrameSend c p s = .next (t.reply (originOf c 0x3006) Status.ok []) := by
  simp [execTimeFrameSend, State.run_ready ready, free, sent, State.settle]
  rfl

theorem execTimeClientStep_refuses (ready : s.Ready timeClientStepSpec c p)
    (ordered : (((s.received c).clientQueue (num p 0 2)).any fun f => f.step.isSome) = true) :
    execTimeClientStep c p s = .next ((s.received c).refuse (originOf c 0x3007) Status.resourceBusy []) := by
  rw [execTimeClientStep, State.run_ready ready]
  simp only [ordered, if_true]
  rfl

theorem execTimeClientStep_orders (ready : s.Ready timeClientStepSpec c p)
    (free : (((s.received c).clientQueue (num p 0 2)).any fun f => f.step.isSome) = false) : execTimeClientStep c p s = .next (
      let r := s.received c; let q := num p 0 2
      let t := r.orderStep q (signed 32 (num p 4 4))
      (t.setClientQueue q ((t.clientQueue q).map fun f => if f.id = r.sched.frames then { f with
        budget := r.clientBudget q (1000000 * (if c.timeout = 0 then 1000 else c.timeout)) } else f)).start timeClientStepSpec c (.clientFrame q r.sched.frames)) := by
  rw [execTimeClientStep, State.run_ready ready]
  simp only [free, Bool.false_eq_true, if_false]
  rfl

end

/-- Settles O39: the events of the time function and its commands, a lemma each. -/
theorem timeServed : Obligations.TimeServed := by
  intro s n k c p
  refine ⟨execAnnounceTimeout_loses, execPtpMessageDue_sends, execTimeAnnounceDue_queues, fun on awake enabled samples => ?_,
    fun on awake enabled samples k inside serving => ?_, fun running => ⟨execPulseEdge_ends running, execPulseEdge_begins running⟩,
    execTimeStampOverflow_reports, fun ready powered => ?_, fun ready powered => ?_, execTimeStampRead_takes,
    fun ready => ⟨execTimeFrameSend_refuses ready, fun free _ => execTimeFrameSend_sends ready free⟩,
    fun ready => ⟨execTimeClientStep_refuses ready, execTimeClientStep_orders ready⟩⟩
  · obtain ⟨grid, spaced⟩ := s.startInstant_spec
    exact ⟨_, _, execConverterStart_samples on awake enabled samples, s.startConverters_lastStart samples [], grid,
      by simp [State.startConverters_samples], spaced⟩
  · exact ⟨_, execConverterStart_scores on awake enabled samples inside serving,
      fun i input routed => s.startConverters_failing samples input routed⟩
  · obtain ⟨state, source, offset, freq⟩ := (s.received c).timeReport_shows
    exact ⟨_, execTimeStatus_reports ready powered, state, source, offset, freq⟩
  · exact ⟨_, execTimeRead_reads ready powered, (s.received c).timeShown_shows⟩

end Sys2Proof.Machine
end

section
/-! SUPPORT. Outputs: what driving one leaves, the writes of a control cycle, and the two commands. -/

namespace Sys2Proof.Machine

/-! ### An output driven (R380) -/

/-- Driving an output writes its value register alone. -/
theorem State.drive_reg_eq (s : State) (k v a : Nat) :
    (s.drive k v).reg a = ((s.setFld (Reg.outVal k) 15 0 v).setFlag (Reg.outVal k) 16 true).reg a := by
  unfold State.drive
  dsimp only
  split
  · rfl
  · exact State.modOutput_reg _ _ _ _

/-- Driving an output changes the outputs alone beside the registers. -/
theorem State.drive_frame (s : State) (k v : Nat) : (s.drive k v).elapsed = s.elapsed
    ∧ (s.drive k v).meas = { s.meas with outs := (s.drive k v).meas.outs } := by
  unfold State.drive
  dsimp only
  split <;> simp [State.modOutput]

theorem State.drive_reg (s : State) {a k : Nat} (v : Nat) (other : a ≠ Reg.outVal k) : (s.drive k v).reg a = s.reg a := by
  rw [State.drive_reg_eq, State.reg_setFlag_ne _ _ _ other, State.reg_setFld_ne _ _ _ _ other]

theorem State.drive_value (s : State) (k v : Nat) : (s.drive k v).fld (Reg.outVal k) 15 0 = v % 65536 := by
  rw [State.fld_of_reg (s.drive_reg_eq k v _), State.fld_setFlag_other _ _ _ (by decide) (by decide)]
  exact State.fld_setFld _ _ _ (by decide)

theorem State.drive_driven (s : State) (k v : Nat) : (s.drive k v).flag (Reg.outVal k) 16 = true := by
  rw [State.flag_of_reg (s.drive_reg_eq k v _), State.flag_setFlag _ _ _ (by decide)]

theorem State.drive_holderCode (s : State) (k v : Nat) : (s.drive k v).holderCode k = s.holderCode k := by
  rw [State.holderCode, State.fld_of_reg (s.drive_reg_eq k v _), State.fld_setFlag_other _ _ _ (by decide) (by decide),
    State.fld_setFld_other _ _ _ (by decide) (by decide), State.holderCode]

/-- The value of a driven output together with its bit that says so. -/
theorem State.drive_value_driven (s : State) (k v : Nat) : (s.drive k v).fld (Reg.outVal k) 16 0 = 65536 + v % 65536 := by
  have value := s.drive_value k v
  have driven := s.drive_driven k v
  simp [State.flag, State.fld, field, bits] at value driven ⊢
  omega

theorem outVal_inj {j k : Nat} (other : j ≠ k) : Reg.outVal j ≠ Reg.outVal k := by
  unfold Reg.outVal
  omega

theorem outStat_ne_outVal (j k : Nat) : Reg.outStat j ≠ Reg.outVal k := by
  unfold Reg.outStat Reg.outVal
  omega

theorem outVal_ne_suppressed {k : Nat} (inside : k < 16) : Reg.outVal k ≠ Reg.ctlpCnt 6 ∧ Reg.outStat k ≠ Reg.ctlpCnt 6 := by
  unfold Reg.outVal Reg.outStat Reg.ctlpCnt
  omega

/-! ### The writes of a cycle (R379, R383) -/

/-- One write of a control cycle takes effect, or is suppressed. -/
def State.applyWrite (s : State) (w : Nat × Nat) : State :=
  if s.holderCode w.1 ≠ 1 then s
  else if s.flag (Reg.outStat w.1) 2 then s.bump (Reg.ctlpCnt 6)
  else s.drive w.1 w.2

/-- Whether a write of the program meets an override. -/
def State.suppresses (s : State) (w : Nat × Nat) : Bool := decide (s.holderCode w.1 = 1) && s.flag (Reg.outStat w.1) 2

section
variable {s : State} {w : Nat × Nat}

/-- What one write does: nothing on an output that the program does not hold, a count under an override, else a drive. -/
theorem State.applyWrite_cases (s : State) (w : Nat × Nat) : (s.holderCode w.1 ≠ 1 ∧ s.applyWrite w = s)
    ∨ (s.holderCode w.1 = 1 ∧ s.flag (Reg.outStat w.1) 2 = true ∧ s.applyWrite w = s.bump (Reg.ctlpCnt 6))
    ∨ (s.holderCode w.1 = 1 ∧ s.flag (Reg.outStat w.1) 2 = false ∧ s.applyWrite w = s.drive w.1 w.2) := by
  unfold State.applyWrite
  by_cases held : s.holderCode w.1 = 1
  · cases overridden : s.flag (Reg.outStat w.1) 2 <;> simp [held]
  · simp [held]

theorem State.applyWrite_ctl (s : State) (w : Nat × Nat) : (s.applyWrite w).ctl = s.ctl := by
  rcases s.applyWrite_cases w with ⟨_, e⟩ | ⟨_, _, e⟩ | ⟨_, _, e⟩ <;> rw [e]
  · rfl
  · unfold State.drive
    dsimp only
    split <;> simp

/-- A write changes no holder and no override. -/
theorem State.applyWrite_keeps (s : State) (w : Nat × Nat) {k : Nat} (inside : k < 16) :
    (s.applyWrite w).holderCode k = s.holderCode k ∧ (s.applyWrite w).flag (Reg.outStat k) 2 = s.flag (Reg.outStat k) 2 := by
  obtain ⟨val, stat⟩ := outVal_ne_suppressed inside
  rcases s.applyWrite_cases w with ⟨_, e⟩ | ⟨_, _, e⟩ | ⟨_, _, e⟩ <;> rw [e]
  · exact ⟨rfl, rfl⟩
  · exact ⟨State.fld_of_reg (State.reg_bump_ne s 1 val) 18 17, State.flag_of_reg (State.reg_bump_ne s 1 stat) 2⟩
  · refine ⟨?_, State.flag_of_reg (s.drive_reg w.2 (outStat_ne_outVal k w.1)) 2⟩
    by_cases same : k = w.1
    · subst same
      exact s.drive_holderCode _ _
    · exact State.fld_of_reg (s.drive_reg w.2 (outVal_inj same)) 18 17

theorem State.applyWrite_suppresses (s : State) (w : Nat × Nat) {x : Nat × Nat} (inside : x.1 < 16) :
    (s.applyWrite w).suppresses x = s.suppresses x := by
  obtain ⟨holder, overridden⟩ := s.applyWrite_keeps w inside
  rw [State.suppresses, holder, overridden, State.suppresses]

/-- A write leaves every output but its own, and its own where the program does not hold it. -/
theorem State.applyWrite_other (s : State) (w : Nat × Nat) {k : Nat} (inside : k < 16) (other : k ≠ w.1 ∨ s.holderCode k ≠ 1) :
    (s.applyWrite w).reg (Reg.outVal k) = s.reg (Reg.outVal k) := by
  rcases s.applyWrite_cases w with ⟨_, e⟩ | ⟨_, _, e⟩ | ⟨held, _, e⟩ <;> rw [e]
  · exact State.reg_bump_ne s 1 (outVal_ne_suppressed inside).1
  · refine s.drive_reg _ (outVal_inj fun same => ?_)
    subst same
    exact other.elim (fun h => h rfl) fun free => free held

/-! A list of writes, one after another. -/

/-- Every write leaves the holders, the overrides and the outputs that no write of the list reaches. -/
theorem foldl_applyWrite_keeps (l : List (Nat × Nat)) (s : State) {k : Nat} (inside : k < 16) :
    (l.foldl State.applyWrite s).holderCode k = s.holderCode k
      ∧ (k ∉ l.map (·.1) ∨ s.holderCode k ≠ 1 → (l.foldl State.applyWrite s).reg (Reg.outVal k) = s.reg (Reg.outVal k)) := by
  induction l generalizing s with
  | nil => exact ⟨rfl, fun _ => rfl⟩
  | cons w l ih =>
    obtain ⟨holder, -⟩ := s.applyWrite_keeps w inside
    obtain ⟨held, kept⟩ := ih (s.applyWrite w)
    refine ⟨held.trans holder, fun other => ?_⟩
    rw [List.map_cons, List.mem_cons, not_or] at other
    rw [List.foldl_cons, kept (other.imp And.right fun free => holder ▸ free),
      s.applyWrite_other w inside (other.imp And.left id)]

/-- A write to an output that the program holds reaches it, unless it is overridden. -/
theorem foldl_applyWrite_reaches {l : List (Nat × Nat)} (distinct : (l.map (·.1)).Nodup) (inside : ∀ e ∈ l, e.1 < 16) (s : State)
    {k v : Nat} (mem : (k, v) ∈ l) (held : s.holderCode k = 1) : let t := l.foldl State.applyWrite s
      if s.flag (Reg.outStat k) 2 then t.reg (Reg.outVal k) = s.reg (Reg.outVal k) else t.fld (Reg.outVal k) 16 0 = 65536 + v % 65536 := by
  induction l generalizing s with
  | nil => exact absurd mem List.not_mem_nil
  | cons w l ih =>
    obtain ⟨fresh, distinct⟩ := List.nodup_cons.mp distinct
    have within : k < 16 := inside _ mem
    obtain ⟨holder, overridden⟩ := s.applyWrite_keeps w within
    rcases List.mem_cons.mp mem with rfl | later
    · obtain ⟨-, kept⟩ := foldl_applyWrite_keeps l (s.applyWrite (k, v)) within
      have same := kept (.inl fresh)
      rcases s.applyWrite_cases (k, v) with ⟨free, _⟩ | ⟨_, forced, e⟩ | ⟨_, free, e⟩
      · exact absurd held free
      · simp only [List.foldl_cons, forced, if_true]
        rw [same, e, State.reg_bump_ne s 1 (outVal_ne_suppressed within).1]
      · simp only [List.foldl_cons, free, Bool.false_eq_true, if_false]
        rw [State.fld_of_reg same, e, State.drive_value_driven]
    · have step := ih distinct (fun e he => inside e (List.mem_cons_of_mem _ he)) (s.applyWrite w) later (holder.trans held)
      have other : k ≠ w.1 := fun same => fresh (List.mem_map.mpr ⟨_, later, same⟩)
      rw [overridden, s.applyWrite_other w within (.inl other)] at step
      exact step

/-- The writes that meet an override are counted. -/
theorem foldl_applyWrite_count {l : List (Nat × Nat)} (inside : ∀ e ∈ l, e.1 < 16) (s : State) :
    ((l.foldl State.applyWrite s).reg (Reg.ctlpCnt 6)).toNat
      = min ((s.reg (Reg.ctlpCnt 6)).toNat + (l.filter s.suppresses).length) (2 ^ 32 - 1) := by
  induction l generalizing s with
  | nil =>
    have := (s.reg (Reg.ctlpCnt 6)).isLt
    simp
    omega
  | cons w l ih =>
    have within := inside w List.mem_cons_self
    have later : ∀ e ∈ l, e.1 < 16 := fun e he => inside e (List.mem_cons_of_mem _ he)
    have same : l.filter (s.applyWrite w).suppresses = l.filter s.suppresses :=
      List.filter_congr fun e he => s.applyWrite_suppresses w (later e he)
    rw [List.foldl_cons, ih later, same]
    rcases s.applyWrite_cases w with ⟨free, e⟩ | ⟨held, forced, e⟩ | ⟨held, free, e⟩
    · simp [e, State.suppresses, free]
    · have counted := State.reg_bump s (Reg.ctlpCnt 6) 1
      have one : (List.filter s.suppresses (w :: l)).length = (l.filter s.suppresses).length + 1 := by
        simp [State.suppresses, held, forced]
      rw [e, counted, one]
      omega
    · have other : Reg.ctlpCnt 6 ≠ Reg.outVal w.1 := (outVal_ne_suppressed within).1.symm
      rw [e, s.drive_reg _ other]
      simp [State.suppresses, free]

end

/-- The state in which the writes of a cycle take effect. -/
def State.cycleApplies (s : State) (trigger : Nat) : State :=
  { s.reach (200000 + trigger) with ctl := { (s.reach (200000 + trigger)).ctl with writes := none } }

theorem execCycleOutputApply_writes {s : State} {writes : List (Nat × Nat)} {trigger : Nat} (waiting : s.ctl.writes = some (writes, trigger)) :
    execCycleOutputApply true s = .next (writes.foldl State.applyWrite (s.cycleApplies trigger)) := by
  simp only [execCycleOutputApply, waiting, if_true]
  rfl

theorem State.cycleApplies_reg (s : State) (trigger a : Nat) : (s.cycleApplies trigger).reg a = s.reg a := s.reach_reg _ a

theorem foldl_applyWrite_ctl (l : List (Nat × Nat)) (s : State) : (l.foldl State.applyWrite s).ctl = s.ctl := by
  induction l generalizing s with
  | nil => rfl
  | cons w l ih => rw [List.foldl_cons, ih, State.applyWrite_ctl]

/-! ### OUT_SET and OUT_OVERRIDE (R383) -/

theorem State.holderCode_le (s : State) (k : Nat) : s.holderCode k ≤ 3 := Nat.le_of_lt_succ (s.fld_lt (Reg.outVal k) 18 17)

section
variable {s : State} {c : Cmd} {p : Bytes}

section
variable (ready : s.Ready outSetSpec c p) (powered : (s.received c).on .meas = true)
include ready powered

theorem execOutSet_drives (free : (s.received c).holderCode (num p 0 1) = 0) : execOutSet c p s
    = .next (((s.received c).drive (num p 0 1) (num p 2 2)).reply (originOf c 0x4016) Status.ok []) := by
  simp [execOutSet, State.run_ready ready, powered, free, State.settle]
  rfl

theorem execOutSet_held (held : (s.received c).holderCode (num p 0 1) ≠ 0) : execOutSet c p s
    = .next ((s.received c).refuse (originOf c 0x4016) Status.resourceBusy ((s.received c).holderResult (num p 0 1))) := by
  simp [execOutSet, State.run_ready ready, powered, held, State.settle]
  rfl

end

section
variable (ready : s.Ready outOverrideSpec c p) (powered : (s.received c).on .meas = true)
include ready powered

theorem execOutOverride_forces (force : num p 1 1 = 1) (program : (s.received c).holderCode (num p 0 1) = 1) : execOutOverride c p s
    = .next ((((s.received c).drive (num p 0 1) (num p 2 2)).setFlag (Reg.outStat (num p 0 1)) 2 true).reply (originOf c 0x4017) Status.ok []) := by
  simp [execOutOverride, State.run_ready ready, powered, force, program, State.settle]
  rfl

theorem execOutOverride_drives (force : num p 1 1 = 1) (free : (s.received c).holderCode (num p 0 1) = 0) : execOutOverride c p s
    = .next (((s.received c).drive (num p 0 1) (num p 2 2)).reply (originOf c 0x4017) Status.ok []) := by
  simp [execOutOverride, State.run_ready ready, powered, force, free, State.settle]
  rfl

theorem execOutOverride_held (force : num p 1 1 = 1) (held : 2 ≤ (s.received c).holderCode (num p 0 1)) : execOutOverride c p s
    = .next ((s.received c).refuse (originOf c 0x4017) Status.resourceBusy ((s.received c).holderResult (num p 0 1))) := by
  have most := (s.received c).holderCode_le (num p 0 1)
  obtain holder | holder : (s.received c).holderCode (num p 0 1) = 2 ∨ (s.received c).holderCode (num p 0 1) = 3 := by omega
  · simp [execOutOverride, State.run_ready ready, powered, force, holder, State.settle]
    rfl
  · simp [execOutOverride, State.run_ready ready, powered, force, holder, State.settle]
    rfl

theorem execOutOverride_releases (release : num p 1 1 = 0) (overridden : (s.received c).flag (Reg.outStat (num p 0 1)) 2 = true) :
    execOutOverride c p s
      = .next (((s.received c).setFlag (Reg.outStat (num p 0 1)) 2 false).reply (originOf c 0x4017) Status.ok []) := by
  simp [execOutOverride, State.run_ready ready, powered, release, overridden, State.settle]
  rfl

theorem execOutOverride_nothing (release : num p 1 1 = 0) (free : (s.received c).flag (Reg.outStat (num p 0 1)) 2 = false) :
    execOutOverride c p s = .next ((s.received c).reply (originOf c 0x4017) Status.ok []) := by
  simp [execOutOverride, State.run_ready ready, powered, release, free, State.settle]
  rfl

end

end

/-- A command of session 0 only is not permitted to another session. -/
theorem State.not_permits_of_session (s : State) {spec : OpSpec} {c : Cmd} (only : spec.session0 = true) (other : c.session ≠ 0) :
    s.permits spec c = false := by
  simp [State.permits, only, other]

/-- Settles O42: a drive, the writes of a cycle by induction on their list, and the two commands. -/
theorem outputsCommanded : Obligations.OutputsCommanded := by
  intro s
  refine ⟨fun k v _ => ⟨s.drive_holderCode k v, s.drive_value k v, s.drive_driven k v,
      State.flag_of_reg (s.drive_reg v (outStat_ne_outVal k k)) 2⟩, fun writes trigger waiting distinct inside => ?_, fun c p => ?_⟩
  · have same (k : Nat) : (s.cycleApplies trigger).holderCode k = s.holderCode k := State.fld_of_reg (s.cycleApplies_reg trigger _) 18 17
    have overridden (k : Nat) : (s.cycleApplies trigger).flag (Reg.outStat k) 2 = s.flag (Reg.outStat k) 2 :=
      State.flag_of_reg (s.cycleApplies_reg trigger _) 2
    refine ⟨_, execCycleOutputApply_writes waiting, by rw [foldl_applyWrite_ctl]; rfl, fun k v mem held => ?_, fun k within other => ?_, ?_⟩
    · have reached := foldl_applyWrite_reaches distinct inside (s.cycleApplies trigger) mem ((same k).trans held)
      rw [overridden, s.cycleApplies_reg] at reached
      exact reached
    · rw [(foldl_applyWrite_keeps writes (s.cycleApplies trigger) within).2 (other.imp id fun free => (same k).symm ▸ free), s.cycleApplies_reg]
    · have suppressed : (s.cycleApplies trigger).suppresses = s.suppresses :=
        funext fun w => by rw [State.suppresses, same, overridden, State.suppresses]
      rw [foldl_applyWrite_count inside, suppressed, s.cycleApplies_reg]
      rfl
  · exact ⟨fun ready powered => ⟨execOutSet_drives ready powered, execOutSet_held ready powered⟩,
      fun other => State.not_permits_of_session _ rfl other,
      fun ready powered => ⟨execOutOverride_forces ready powered, execOutOverride_drives ready powered, execOutOverride_held ready powered,
        execOutOverride_releases ready powered, execOutOverride_nothing ready powered⟩⟩

end Sys2Proof.Machine
end

section
/-! SUPPORT. Timers and capture inputs: what the events of a timer leave of every other unit. -/

namespace Sys2Proof.Machine

/-! ### Records -/

theorem State.timer_modTimer (s : State) {n : Nat} (f : Timer → Timer) (inside : n < s.meas.timers.length) :
    (s.modTimer n f).timer n = f (s.timer n) := by
  simp [State.modTimer, State.timer, setAt, inside]

theorem State.timer_modTimer_other (s : State) {n m : Nat} (f : Timer → Timer) (other : m ≠ n) :
    (s.modTimer n f).timer m = s.timer m := by
  simp [State.modTimer, State.timer, setAt, Ne.symm other, List.getD_eq_getElem?_getD]

/-- What a field of a timer's record holds does not depend on a change that keeps that field, of whichever timer. -/
theorem State.timer_modTimer_field {β : Type} (field : Timer → β) (s : State) (n m : Nat) {f : Timer → Timer}
    (keeps : ∀ t, field (f t) = field t) : field ((s.modTimer n f).timer m) = field (s.timer m) := by
  simp only [State.modTimer, State.timer, setAt, List.getD_eq_getElem?_getD, List.getElem?_modify]
  cases s.meas.timers[m]? with
  | none => rfl
  | some t => by_cases h : n = m <;> simp [h, keeps]

theorem State.capture_modCapture (s : State) {k : Nat} (f : Capture → Capture) (inside : k < s.meas.caps.length) :
    (s.modCapture k f).capture k = f (s.capture k) := by
  simp [State.modCapture, State.capture, setAt, inside]

theorem State.capture_modCapture_other (s : State) {k j : Nat} (f : Capture → Capture) (other : j ≠ k) :
    (s.modCapture k f).capture j = s.capture j := by
  simp [State.modCapture, State.capture, setAt, Ne.symm other, List.getD_eq_getElem?_getD]

/-! ### The events of a timer (R433, R437) -/

/-- The registers that an event of a timer can change: its events, an output's value, an exit request, the cells of a report. -/
def eventReg (n a : Nat) : Prop :=
  a = Reg.tmBufStat ∨ a = Reg.pwrWakeSrc ∨ a = Reg.pwrState ∨ a = Reg.tmrEvt n ∨ ∃ k < 16, a = Reg.outVal k

/-- What an event of a timer leaves: time, the capture inputs, other registers, other timers and most of its own. -/
structure State.EventTo (n : Nat) (s t : State) : Prop where
  regs : ∀ a, ¬ eventReg n a → t.reg a = s.reg a
  elapsed : t.elapsed = s.elapsed
  caps : t.meas.caps = s.meas.caps
  go : t.meas.goWritten = s.meas.goWritten
  others : ∀ m, m ≠ n → t.timer m = s.timer m
  since : (t.timer n).since = (s.timer n).since
  waiting : (t.timer n).waiting = (s.timer n).waiting
  armed : (t.timer n).armed = (s.timer n).armed
  count : t.meas.timers.length = s.meas.timers.length

theorem State.EventTo.refl (n : Nat) (s : State) : State.EventTo n s s :=
  ⟨fun _ _ => rfl, rfl, rfl, rfl, fun _ _ => rfl, rfl, rfl, rfl, rfl⟩

theorem State.EventTo.trans {n : Nat} {s t u : State} (h : State.EventTo n s t) (next : State.EventTo n t u) : State.EventTo n s u :=
  ⟨fun a other => (next.regs a other).trans (h.regs a other), next.elapsed.trans h.elapsed, next.caps.trans h.caps, next.go.trans h.go,
    fun m other => (next.others m other).trans (h.others m other), next.since.trans h.since, next.waiting.trans h.waiting,
    next.armed.trans h.armed, next.count.trans h.count⟩

/-- A change of registers and of nothing that timers and capture inputs keep. -/
theorem State.EventTo.of_regs {n : Nat} {s t : State} (regs : ∀ a, ¬ eventReg n a → t.reg a = s.reg a) (elapsed : t.elapsed = s.elapsed)
    (timers : t.meas.timers = s.meas.timers) (caps : t.meas.caps = s.meas.caps) (go : t.meas.goWritten = s.meas.goWritten) :
    State.EventTo n s t := by
  have same (m : Nat) : t.timer m = s.timer m := by rw [State.timer, timers, State.timer]
  exact ⟨regs, elapsed, caps, go, fun m _ => same m, congrArg _ (same n), congrArg _ (same n), congrArg _ (same n), congrArg _ timers⟩

theorem State.EventTo.setFld {n a : Nat} {s : State} {hi lo x : Nat} (own : eventReg n a) : State.EventTo n s (s.setFld a hi lo x) :=
  .of_regs (fun _ other => State.reg_setFld_ne s hi lo x fun same => other (same ▸ own)) rfl rfl rfl rfl

theorem State.EventTo.raise {n code severity status : Nat} {s : State} {body : Bytes} :
    State.EventTo n s (s.raise code severity body status) :=
  .of_regs (fun _ other => s.raise_reg code severity body status fun same => other (.inl same)) (by simp) (by simp) (by simp) (by simp)

theorem State.EventTo.wakeSource {n k : Nat} {s : State} : State.EventTo n s (s.wakeSource k) :=
  .of_regs (fun _ other => s.wakeSource_reg k ⟨fun same => other (.inr (.inl same)), fun same => other (.inr (.inr (.inl same)))⟩)
    (by simp) (by simp) (by simp) (by simp)

theorem State.EventTo.modTimer {n : Nat} {s : State} {f : Timer → Timer} (since : ∀ t, (f t).since = t.since)
    (waiting : ∀ t, (f t).waiting = t.waiting) (armed : ∀ t, (f t).armed = t.armed) : State.EventTo n s (s.modTimer n f) :=
  ⟨fun a _ => State.modTimer_reg s n f a, rfl, rfl, rfl, fun _ other => s.timer_modTimer_other f other,
    s.timer_modTimer_field Timer.since n n since, s.timer_modTimer_field Timer.waiting n n waiting,
    s.timer_modTimer_field Timer.armed n n armed, by simp [State.modTimer, setAt]⟩

theorem State.EventTo.drive {n k v : Nat} {s : State} (inside : k < 16) : State.EventTo n s (s.drive k v) := by
  have shown : ¬ (∃ a, ¬ eventReg n a ∧ a = Reg.outVal k) := fun ⟨_, other, same⟩ => other (.inr (.inr (.inr (.inr ⟨k, inside, same⟩))))
  obtain ⟨elapsed, meas⟩ := s.drive_frame k v
  exact .of_regs (fun a other => s.drive_reg v fun same => shown ⟨a, other, same⟩) elapsed (by rw [meas]) (by rw [meas]) (by rw [meas])

theorem State.EventTo.driveTimer {n : Nat} {active : Bool} {s : State} : State.EventTo n s (s.driveTimer n active) := by
  unfold State.driveTimer
  dsimp only
  split
  · exact .refl n s
  · refine State.EventTo.trans ?_ (.drive (field_lt _ 16 13))
    exact .modTimer (fun _ => rfl) (fun _ => rfl) fun _ => rfl

/-- The event bits of a timer with causes added. -/
def State.eventNoted (s : State) (n causes : Nat) : State := s.setFld (Reg.tmrEvt n) 2 0 (Nat.lor (s.fld (Reg.tmrEvt n) 2 0) causes)

/-- The exit that a period event requests. -/
def State.eventWakes (s : State) (n causes : Nat) : State :=
  if bit causes 0 && n < 8 && s.flag (Reg.tmrCtl n) 3 then s.wakeSource 2 else s

/-- Whether TMR_EXPIRED was raised less than a millisecond ago. -/
def State.recentlyTold (s : State) (n : Nat) : Bool :=
  match (s.timer n).raised with
  | some r => decide (s.elapsed < 1000000 + r)
  | none => false

/-- TMR_EXPIRED, or the count of what waits for it. -/
def State.eventTold (s : State) (n causes : Nat) : State :=
  if s.flag (Reg.tmrCtl n) 4 then
    let t := s.timer n
    let periods := t.periods + bitOf (bit causes 0)
    let all := Nat.lor t.causes causes
    if s.recentlyTold n then
      s.modTimer n fun t => { t with periods := periods, causes := all }
    else
      (s.modTimer n fun t => { t with periods := 0, causes := 0, raised := some s.elapsed }).raise 0x5200 0
        (le 1 n ++ le 1 all ++ le 4 periods)
  else s

theorem State.timerEvent_eq (s : State) (n causes : Nat) :
    s.timerEvent n causes = ((s.eventNoted n causes).eventWakes n causes).eventTold n causes := rfl

theorem State.EventTo.eventWakes {n causes : Nat} {s : State} : State.EventTo n s (s.eventWakes n causes) := by
  unfold State.eventWakes
  split
  · exact .wakeSource
  · exact .refl n s

theorem State.EventTo.eventTold {n causes : Nat} {s : State} : State.EventTo n s (s.eventTold n causes) := by
  unfold State.eventTold
  dsimp only
  split
  · split
    · exact .modTimer (fun _ => rfl) (fun _ => rfl) fun _ => rfl
    · refine State.EventTo.trans ?_ .raise
      exact .modTimer (fun _ => rfl) (fun _ => rfl) fun _ => rfl
  · exact .refl n s

theorem State.EventTo.timerEvent {n causes : Nat} {s : State} : State.EventTo n s (s.timerEvent n causes) := by
  have noted : State.EventTo n s (s.eventNoted n causes) := .setFld (.inr (.inr (.inr (.inl rfl))))
  exact noted.trans (State.EventTo.eventWakes.trans .eventTold)

theorem State.EventTo.compareEvent {n : Nat} {s : State} : State.EventTo n s (s.compareEvent n) := by
  unfold State.compareEvent
  dsimp only
  split
  · exact State.EventTo.timerEvent.trans .driveTimer
  · exact State.EventTo.timerEvent.trans .driveTimer
  · exact State.EventTo.timerEvent

/-- The bits of a timer's events: those that were set, and the causes added. -/
theorem State.flag_timerEvent (s : State) {n causes i : Nat} (bit_ : i < 3) :
    (s.timerEvent n causes).flag (Reg.tmrEvt n) i = (s.flag (Reg.tmrEvt n) i || causes.testBit i) := by
  have apart : Reg.tmrEvt n ≠ Reg.pwrWakeSrc ∧ Reg.tmrEvt n ≠ Reg.pwrState ∧ Reg.tmrEvt n ≠ Reg.tmBufStat := by
    unfold Reg.tmrEvt Reg.pwrWakeSrc Reg.pwrState Reg.tmBufStat
    omega
  have told (t : State) : (t.eventTold n causes).reg (Reg.tmrEvt n) = t.reg (Reg.tmrEvt n) := by
    unfold State.eventTold
    dsimp only
    split
    · split
      · exact State.modTimer_reg _ _ _ _
      · exact (State.raise_reg _ _ _ _ _ apart.2.2).trans (State.modTimer_reg _ _ _ _)
    · rfl
  have woken (t : State) : (t.eventWakes n causes).reg (Reg.tmrEvt n) = t.reg (Reg.tmrEvt n) := by
    unfold State.eventWakes
    split
    · exact t.wakeSource_reg 2 ⟨apart.1, apart.2.1⟩
    · rfl
  rw [State.timerEvent_eq, State.flag_of_reg ((told _).trans (woken _)), State.eventNoted, State.flag_setFld _ _ _ _ _ (by omega),
    if_pos (by omega)]
  have low : (s.fld (Reg.tmrEvt n) 2 0).testBit i = s.flag (Reg.tmrEvt n) i := by
    rw [State.fld, field, testBit_bits, State.flag_eq_testBit, Nat.zero_add]
    simp [bit_]
  rw [Nat.sub_zero, ← low]
  exact Nat.testBit_or _ _ _

/-- No event of a timer changes a timer's control, count, period or compare register, TMR_RUN or a capture input's registers. -/
theorem not_eventReg_timer (n m : Nat) (inside : m < 16) : ¬ eventReg n (Reg.tmrCtl m) ∧ ¬ eventReg n (Reg.tmrCnt m) ∧ ¬ eventReg n Reg.tmrRun
    ∧ ¬ eventReg n (Reg.tmrPeriodAct m) ∧ ¬ eventReg n (Reg.tmrCmp m) := by
  unfold eventReg Reg.tmBufStat Reg.pwrWakeSrc Reg.pwrState Reg.tmrEvt Reg.outVal Reg.tmrCtl Reg.tmrCnt Reg.tmrRun Reg.tmrPeriodAct Reg.tmrCmp
  refine ⟨?_, ?_, ?_, ?_, ?_⟩ <;> rintro (h | h | h | h | ⟨k, _, h⟩) <;> omega

theorem not_eventReg_capture {n : Nat} (inside : n < 16) (k : Nat) : ¬ eventReg n (Reg.tmrCapStat k) ∧ ¬ eventReg n (Reg.tmrCapFlag k) := by
  unfold eventReg Reg.tmBufStat Reg.pwrWakeSrc Reg.pwrState Reg.tmrEvt Reg.outVal Reg.tmrCapStat Reg.tmrCapFlag
  refine ⟨?_, ?_⟩ <;> rintro (h | h | h | h | ⟨j, _, h⟩) <;> omega

/-! ### A timer's output (R433) -/

theorem State.driveTimer_reg (s : State) (n : Nat) (active : Bool) {a : Nat} (other : ∀ k < 16, a ≠ Reg.outVal k) :
    (s.driveTimer n active).reg a = s.reg a := by
  unfold State.driveTimer
  dsimp only
  split
  · rfl
  · exact (State.drive_reg _ _ (other _ (field_lt _ 16 13))).trans (State.modTimer_reg _ _ _ _)

/-- A timer that drives an output puts it at the level of its own. -/
theorem State.driveTimer_drives (s : State) {n : Nat} (active : Bool) (inside : n < s.meas.timers.length) (mode : s.fld (Reg.tmrCtl n) 12 11 ≠ 0) :
    ((s.driveTimer n active).timer n).active = active
      ∧ (s.driveTimer n active).fld (Reg.outVal (s.fld (Reg.tmrCtl n) 16 13)) 15 0
        = levelValue (s.fld (Reg.tmrCtl n) 16 13) (active != s.flag (Reg.tmrCtl n) 17) := by
  have small (k : Nat) (high : Bool) : levelValue k high < 65536 := by
    unfold levelValue bitOf
    split_ifs <;> omega
  have driven : s.driveTimer n active = (s.modTimer n fun t => { t with active := active }).drive (s.fld (Reg.tmrCtl n) 16 13)
      (levelValue (s.fld (Reg.tmrCtl n) 16 13) (active != s.flag (Reg.tmrCtl n) 17)) := by
    rw [State.driveTimer]
    exact if_neg mode
  refine ⟨?_, ?_⟩
  · obtain ⟨-, meas⟩ := State.drive_frame (s.modTimer n fun t => { t with active := active }) (s.fld (Reg.tmrCtl n) 16 13)
      (levelValue (s.fld (Reg.tmrCtl n) 16 13) (active != s.flag (Reg.tmrCtl n) 17))
    have own := s.timer_modTimer (fun t => { t with active := active }) inside
    rw [driven, State.timer, meas]
    exact congrArg Timer.active own
  · rw [driven, State.drive_value, Nat.mod_eq_of_lt (small _ _)]

theorem State.driveTimer_events (s : State) (n : Nat) (active : Bool) :
    (s.driveTimer n active).reg (Reg.tmrEvt n) = s.reg (Reg.tmrEvt n) :=
  s.driveTimer_reg n active fun k small => by
    unfold Reg.tmrEvt Reg.outVal
    omega

/-- A compare event sets its own bit among a timer's events. -/
theorem State.flag_compareEvent (s : State) {n i : Nat} (bit_ : i < 3) :
    (s.compareEvent n).flag (Reg.tmrEvt n) i = (s.flag (Reg.tmrEvt n) i || Nat.testBit 2 i) := by
  unfold State.compareEvent
  dsimp only
  split
  · rw [State.flag_of_reg (State.driveTimer_events _ _ _), State.flag_timerEvent _ bit_]
  · rw [State.flag_of_reg (State.driveTimer_events _ _ _), State.flag_timerEvent _ bit_]
  · exact State.flag_timerEvent _ bit_

/-- States with the same metering part have the same timers. -/
theorem State.timer_of_meas {s t : State} (h : t.meas = s.meas) (n : Nat) : t.timer n = s.timer n := by
  rw [State.timer, h, State.timer]

theorem State.timerEvent_active (s : State) (n causes : Nat) : ((s.timerEvent n causes).timer n).active = (s.timer n).active := by
  have told (t : State) : ((t.eventTold n causes).timer n).active = (t.timer n).active := by
    unfold State.eventTold
    dsimp only
    split
    · split
      · exact State.timer_modTimer_field Timer.active _ _ _ fun _ => rfl
      · exact (congrArg Timer.active (State.timer_of_meas (State.raise_meas _ _ _ _ _) n)).trans
          (State.timer_modTimer_field Timer.active _ _ _ fun _ => rfl)
    · rfl
  have woken (t : State) : (t.eventWakes n causes).timer n = t.timer n := by
    unfold State.eventWakes
    split
    · exact State.timer_of_meas (t.wakeSource_meas 2) n
    · rfl
  rw [State.timerEvent_eq, told, woken, State.eventNoted]
  rfl

theorem State.compareEvent_active (s : State) {n : Nat} (inside : n < s.meas.timers.length) (small : n < 16) :
    (s.fld (Reg.tmrCtl n) 12 11 = 1 → ((s.compareEvent n).timer n).active = true)
      ∧ (s.fld (Reg.tmrCtl n) 12 11 = 2 → ((s.compareEvent n).timer n).active = !(s.timer n).active)
      ∧ (s.fld (Reg.tmrCtl n) 12 11 = 1 ∨ s.fld (Reg.tmrCtl n) 12 11 = 2 →
        (s.compareEvent n).fld (Reg.outVal (s.fld (Reg.tmrCtl n) 16 13)) 15 0
          = levelValue (s.fld (Reg.tmrCtl n) 16 13) (((s.compareEvent n).timer n).active != s.flag (Reg.tmrCtl n) 17)) := by
  have event : State.EventTo n s (s.timerEvent n 2) := .timerEvent
  have ctl := event.regs _ (not_eventReg_timer n n small).1
  have mode := State.fld_of_reg ctl 12 11
  have room : n < (s.timerEvent n 2).meas.timers.length := event.count ▸ inside
  have before : ((s.timerEvent n 2).timer n).active = (s.timer n).active := s.timerEvent_active n 2
  have drives (active : Bool) (on : s.fld (Reg.tmrCtl n) 12 11 ≠ 0) := (s.timerEvent n 2).driveTimer_drives active room (mode ▸ on)
  rw [State.fld_of_reg ctl 16 13, State.flag_of_reg ctl 17] at drives
  have first (one : s.fld (Reg.tmrCtl n) 12 11 = 1) : s.compareEvent n = (s.timerEvent n 2).driveTimer n true := by
    simp only [State.compareEvent, mode, one]
  have second (two : s.fld (Reg.tmrCtl n) 12 11 = 2) : s.compareEvent n = (s.timerEvent n 2).driveTimer n (!(s.timer n).active) := by
    simp only [State.compareEvent, mode, two, before]
  refine ⟨fun one => ?_, fun two => ?_, ?_⟩
  · rw [first one]
    exact (drives true (by omega)).1
  · rw [second two]
    exact (drives _ (by omega)).1
  · rintro (one | two)
    · rw [first one, (drives true (by omega)).1]
      exact (drives true (by omega)).2
    · rw [second two, (drives _ (by omega)).1]
      exact (drives _ (by omega)).2

/-! ### A wrap (R425, R428) -/

/-- The active period of a timer after a wrap: the one that waited, where one did. -/
def State.periodTaken (s : State) (n : Nat) : State :=
  match (s.timer n).waiting with
  | some p => (s.setReg (Reg.tmrPeriodAct n) (word p)).modTimer n fun t => { t with waiting := none }
  | none => s

/-- What the output does at a wrap to a count. -/
def State.wrapOutput (s : State) (n count : Nat) (short : Bool) : State :=
  let cmp := (s.reg (Reg.tmrCmp n)).toNat
  if !short && decide (cmp ≤ count) && decide (cmp < s.periodOf n) then s.compareEvent n
  else if s.fld (Reg.tmrCtl n) 12 11 = 1 then s.driveTimer n false
  else s

theorem State.wrap_eq (s : State) (n count : Nat) (short : Bool) : s.wrap n count short
    = (((s.setReg (Reg.tmrCnt n) (word count)).periodTaken n).timerEvent n (if short then 5 else 1)).wrapOutput n count short := rfl

theorem State.EventTo.wrapOutput {n count : Nat} {short : Bool} {s : State} : State.EventTo n s (s.wrapOutput n count short) := by
  unfold State.wrapOutput
  dsimp only
  split
  · exact .compareEvent
  · split
    · exact .driveTimer
    · exact .refl n s

/-- The output at a wrap may come with a compare event; a short wrap has none. -/
theorem State.flag_wrapOutput (s : State) (n count i : Nat) (short : Bool) (bit_ : i < 3) (other : i ≠ 1 ∨ short = true) :
    (s.wrapOutput n count short).flag (Reg.tmrEvt n) i = s.flag (Reg.tmrEvt n) i := by
  unfold State.wrapOutput
  dsimp only
  split
  · rename_i compare
    have long : short = false := by
      cases short
      · rfl
      · simp at compare
    have two : Nat.testBit 2 i = false := by
      have : i = 0 ∨ i = 2 := by
        rw [long] at other
        simp at other
        omega
      rcases this with rfl | rfl <;> rfl
    rw [State.flag_compareEvent s bit_, two, Bool.or_false]
  · split
    · exact State.flag_of_reg (State.driveTimer_events _ _ _) i
    · rfl

section
variable (s : State) (n : Nat)

theorem State.periodTaken_reg {a : Nat} (other : a ≠ Reg.tmrPeriodAct n) : (s.periodTaken n).reg a = s.reg a := by
  unfold State.periodTaken
  split
  · exact (State.modTimer_reg _ _ _ _).trans (State.reg_setReg_ne s _ other)
  · rfl

theorem State.periodTaken_periodOf : (s.periodTaken n).periodOf n = (match (s.timer n).waiting with
    | some p => p % 2 ^ 32
    | none => s.periodOf n) := by
  unfold State.periodTaken
  cases (s.timer n).waiting with
  | none => rfl
  | some p => simp [State.periodOf]

theorem State.periodTaken_waiting (inside : n < s.meas.timers.length) : ((s.periodTaken n).timer n).waiting = none := by
  unfold State.periodTaken
  split
  · rw [State.timer_modTimer _ _ (by simpa using inside)]
  · assumption

theorem State.periodTaken_since : ((s.periodTaken n).timer n).since = (s.timer n).since := by
  unfold State.periodTaken
  split
  · exact State.timer_modTimer_field Timer.since _ _ _ fun _ => rfl
  · rfl

theorem State.periodTaken_frame : (s.periodTaken n).elapsed = s.elapsed ∧ (s.periodTaken n).meas.caps = s.meas.caps := by
  unfold State.periodTaken
  split <;> exact ⟨rfl, rfl⟩

end

/-- What a wrap leaves of a timer: the count, the events, the period that waited, and the instant from which it counts. -/
theorem State.wrap_leaves (s : State) {n : Nat} (count : Nat) (short : Bool) (small : n < 16) (inside : n < s.meas.timers.length) :
    let t := s.wrap n count short
    t.elapsed = s.elapsed ∧ t.reg (Reg.tmrCnt n) = word count
      ∧ t.flag (Reg.tmrEvt n) 0 = true ∧ t.flag (Reg.tmrEvt n) 2 = (s.flag (Reg.tmrEvt n) 2 || short)
      ∧ (short = true → t.flag (Reg.tmrEvt n) 1 = s.flag (Reg.tmrEvt n) 1)
      ∧ t.periodOf n = (match (s.timer n).waiting with | some p => p % 2 ^ 32 | none => s.periodOf n)
      ∧ (t.timer n).waiting = none ∧ (t.timer n).since = (s.timer n).since := by
  have cntAct : Reg.tmrCnt n ≠ Reg.tmrPeriodAct n := by
    unfold Reg.tmrCnt Reg.tmrPeriodAct
    omega
  have evtAct : Reg.tmrEvt n ≠ Reg.tmrPeriodAct n ∧ Reg.tmrEvt n ≠ Reg.tmrCnt n := by
    unfold Reg.tmrEvt Reg.tmrCnt Reg.tmrPeriodAct
    omega
  obtain ⟨-, cnt, -, act, -⟩ := not_eventReg_timer n n small
  have event : State.EventTo n ((s.setReg (Reg.tmrCnt n) (word count)).periodTaken n) (s.wrap n count short) :=
    State.EventTo.timerEvent.trans .wrapOutput
  obtain ⟨elapsed, -⟩ := (s.setReg (Reg.tmrCnt n) (word count)).periodTaken_frame n
  have events (i : Nat) (bit_ : i < 3) (other : i ≠ 1 ∨ short = true) : (s.wrap n count short).flag (Reg.tmrEvt n) i
      = (s.flag (Reg.tmrEvt n) i || Nat.testBit (if short then 5 else 1) i) := by
    rw [State.wrap_eq, State.flag_wrapOutput _ _ _ _ _ bit_ other, State.flag_timerEvent _ bit_,
      State.flag_of_reg (State.periodTaken_reg _ _ evtAct.1), State.flag_setReg_ne _ _ _ evtAct.2]
  have causes : Nat.testBit (if short then 5 else 1) 0 = true ∧ Nat.testBit (if short then 5 else 1) 2 = short
      ∧ Nat.testBit (if short then 5 else 1) 1 = false := by
    cases short <;> decide
  obtain ⟨period, early, compare⟩ := causes
  refine ⟨event.elapsed.trans elapsed, ?_, ?_, ?_, fun isShort => ?_, ?_, ?_, ?_⟩
  · rw [event.regs _ cnt, State.periodTaken_reg _ _ cntAct, State.reg_setReg]
  · rw [events 0 (by decide) (.inl (by decide)), period, Bool.or_true]
  · rw [events 2 (by decide) (.inl (by decide)), early]
  · rw [events 1 (by decide) (.inr isShort), compare, Bool.or_false]
  · rw [State.periodOf, event.regs _ act]
    refine (State.periodTaken_periodOf _ n).trans ?_
    rw [State.periodOf, State.reg_setReg_ne _ _ cntAct.symm]
    rfl
  · exact event.waiting.trans (State.periodTaken_waiting _ n inside)
  · exact event.since.trans (State.periodTaken_since _ n)

/-! ### TIMER_WRAP and TIMER_COMPARE -/

/-- The state in which a timer's event comes, its instant reached. -/
def State.atTick (s : State) (n e : Nat) : State := (s.reachElapsed e).modTimer n fun t => { t with since := e }

/-- The instant at which a timer wraps: the tick that reaches its period, or the next where the count is past it. -/
def State.wrapTick (s : State) (n : Nat) : Nat :=
  s.tickTime n (if s.periodOf n ≤ (s.reg (Reg.tmrCnt n)).toNat then 1 else s.periodOf n - (s.reg (Reg.tmrCnt n)).toNat)

/-- The count that a wrap leaves: what the coarse tick of the 32.768 kHz states has beyond the period, else 0. -/
def State.wrapCount (s : State) (n : Nat) : Nat :=
  if s.slowTick = true ∧ (s.reg (Reg.tmrCnt n)).toNat < s.periodOf n
    then (s.reg (Reg.tmrCnt n)).toNat + s.ticks n (s.timer n).since (s.wrapTick n) - s.periodOf n else 0

/-- The instant at which a timer's count becomes CMP. -/
def State.compareTick (s : State) (n : Nat) : Nat := s.tickTime n ((s.reg (Reg.tmrCmp n)).toNat - (s.reg (Reg.tmrCnt n)).toNat)

/-- The count at that instant: CMP, or in the 32.768 kHz states what the coarse tick makes of it. -/
def State.compareCount (s : State) (n : Nat) : Nat :=
  if s.slowTick then (s.reg (Reg.tmrCnt n)).toNat + s.ticks n (s.timer n).since (s.compareTick n) else (s.reg (Reg.tmrCmp n)).toNat

/-- The state in which a timer's compare event comes. -/
def State.atCompare (s : State) (n : Nat) : State :=
  (s.atTick n (s.compareTick n)).setReg (Reg.tmrCnt n) (word (s.compareCount n))

section
variable {s : State} {n : Nat}

theorem execTimerWrap_stands (still : s.counting n = false) : execTimerWrap n s = .next s := by
  simp [execTimerWrap, still]

theorem execTimerCompare_stands (still : s.counting n = false) : execTimerCompare n s = .next s := by
  simp [execTimerCompare, still]

theorem State.reachElapsed_slowTick (s : State) (e : Nat) : (s.reachElapsed e).slowTick = s.slowTick := by
  rw [State.slowTick, State.reachElapsed_flag, State.asleep, State.powerState, State.reachElapsed_fld]
  rfl

/-- The ticks between two instants depend on registers alone. -/
theorem State.ticks_of_regs {s t : State} (same : t.regs = s.regs) (n start stop : Nat) : t.ticks n start stop = s.ticks n start stop := by
  have flags (a i : Nat) : t.flag a i = s.flag a i := State.flag_of_reg (State.reg_of_regs same a) i
  have slow : t.slowTick = s.slowTick := by simp only [State.slowTick, State.asleep, State.powerState, flags, State.fld_of_regs same]
  simp only [State.ticks, slow, flags, State.fld_of_regs same]

section
variable (counts : s.counting n = true) (clocked : s.flag (Reg.tmrCtl n) 5 = false)
include counts clocked

theorem execTimerWrap_wraps : execTimerWrap n s
    = .next ((s.atTick n (s.wrapTick n)).wrap n (s.wrapCount n) (decide (s.periodOf n ≤ (s.reg (Reg.tmrCnt n)).toNat))) := by
  obtain ⟨-, regs, -⟩ := s.reachElapsed_frame (s.tickTime n (s.periodOf n - (s.reg (Reg.tmrCnt n)).toNat))
  by_cases short : s.periodOf n ≤ (s.reg (Reg.tmrCnt n)).toNat
  · simp [execTimerWrap, counts, clocked, short, State.atTick, Nat.not_lt.mpr short, State.wrapTick, State.wrapCount]
  · simp [execTimerWrap, counts, clocked, short, State.atTick, State.reachElapsed_slowTick, State.ticks_of_regs regs, Nat.lt_of_not_le short,
      State.wrapTick, State.wrapCount]

theorem execTimerCompare_compares (below : (s.reg (Reg.tmrCnt n)).toNat < (s.reg (Reg.tmrCmp n)).toNat)
    (within : (s.reg (Reg.tmrCmp n)).toNat < s.periodOf n) : execTimerCompare n s = .next ((s.atCompare n).compareEvent n) := by
  obtain ⟨-, regs, -⟩ := s.reachElapsed_frame (s.tickTime n ((s.reg (Reg.tmrCmp n)).toNat - (s.reg (Reg.tmrCnt n)).toNat))
  simp [execTimerCompare, counts, clocked, Nat.not_le.mpr below, Nat.not_le.mpr within, State.atTick, State.reachElapsed_slowTick, State.ticks_of_regs regs,
    State.atCompare, State.compareTick, State.compareCount]

end

theorem State.reachElapsed_meas (s : State) (e : Nat) : (s.reachElapsed e).meas = s.meas := by rw [State.reachElapsed_eq]

theorem State.atTick_reg (s : State) (n e a : Nat) : (s.atTick n e).reg a = s.reg a :=
  (State.modTimer_reg _ _ _ _).trans (s.reachElapsed_reg e a)

theorem State.atTick_elapsed (s : State) (n e : Nat) : (s.atTick n e).elapsed = max s.elapsed e := s.reachElapsed_elapsed e

theorem State.atTick_timer (s : State) (e : Nat) (inside : n < s.meas.timers.length) :
    (s.atTick n e).timer n = { s.timer n with since := e } := by
  have same := s.reachElapsed_meas e
  rw [State.atTick, State.timer_modTimer _ _ (by rw [same]; exact inside), State.timer_of_meas same]

theorem State.atTick_timers (s : State) (n e : Nat) : (s.atTick n e).meas.timers.length = s.meas.timers.length := by
  simp [State.atTick, State.modTimer, setAt, State.reachElapsed_meas]

end

/-! ### TMR_GO (R432) -/

/-- A release of timers reaches one timer. -/
def State.goStep (s : State) (n : Nat) : State :=
  if (s.timer n).armed && !s.flag (Reg.tmrCtl n) 0 then
    let w := s.reg (Reg.tmrCtl n)
    (s.timerCtlWritten n w (withField w 0 0 1)).modTimer n fun t => { t with armed := false }
  else s.modTimer n fun t => { t with armed := false }

/-- The instant of a release: the first microsecond 64 µs after the write. -/
def releaseInstant (written : Nat) : Nat := (64000 + written + 999) / 1000 * 1000

/-- The state in which a release reaches its timers. -/
def State.goReached (s : State) (written : Nat) : State :=
  let b := s.reachElapsed (releaseInstant written)
  { b with meas := { b.meas with goWritten := none } }

theorem execTmrGoRelease_releases {s : State} {w : Nat} (written : s.meas.goWritten = some w) : execTmrGoRelease s
    = .next (((List.range 16).foldl State.goStep (s.goReached w)).finishWork (· == .tmrGo) Status.ok []) := by
  simp only [execTmrGoRelease, written]
  rfl

/-- What a release of another timer leaves of a timer. -/
structure State.SameTimer (n : Nat) (s t : State) : Prop where
  timer : t.timer n = s.timer n
  ctl : t.reg (Reg.tmrCtl n) = s.reg (Reg.tmrCtl n)
  cnt : t.reg (Reg.tmrCnt n) = s.reg (Reg.tmrCnt n)
  run : t.flag Reg.tmrRun n = s.flag Reg.tmrRun n
  elapsed : t.elapsed = s.elapsed
  go : t.meas.goWritten = s.meas.goWritten
  count : t.meas.timers.length = s.meas.timers.length

theorem State.SameTimer.refl (n : Nat) (s : State) : State.SameTimer n s s := ⟨rfl, rfl, rfl, rfl, rfl, rfl, rfl⟩

theorem State.SameTimer.trans {n : Nat} {s t u : State} (h : State.SameTimer n s t) (next : State.SameTimer n t u) : State.SameTimer n s u :=
  ⟨next.timer.trans h.timer, next.ctl.trans h.ctl, next.cnt.trans h.cnt, next.run.trans h.run, next.elapsed.trans h.elapsed,
    next.go.trans h.go, next.count.trans h.count⟩

theorem State.SameTimer.of_event {n m : Nat} {s t : State} (small : n < 16) (other : n ≠ m) (h : State.EventTo m s t) : State.SameTimer n s t := by
  obtain ⟨ctl, cnt, run, -⟩ := not_eventReg_timer m n small
  exact ⟨h.others n other, h.regs _ ctl, h.regs _ cnt, State.flag_of_reg (h.regs _ run) n, h.elapsed, h.go, h.count⟩

theorem State.SameTimer.modTimer {n m : Nat} {s : State} (other : n ≠ m) (f : Timer → Timer) : State.SameTimer n s (s.modTimer m f) :=
  ⟨s.timer_modTimer_other f other, State.modTimer_reg _ _ _ _, State.modTimer_reg _ _ _ _, State.flag_of_reg (State.modTimer_reg _ _ _ _) n,
    rfl, rfl, by simp [State.modTimer, setAt]⟩

/-- A register of another timer is written. -/
theorem State.SameTimer.setReg {n m a : Nat} {s : State} (w : Word) (other : n ≠ m) (own : a = Reg.tmrCtl m ∨ a = Reg.tmrCnt m) :
    State.SameTimer n s (s.setReg a w) := by
  have apart : Reg.tmrCtl n ≠ a ∧ Reg.tmrCnt n ≠ a ∧ Reg.tmrRun ≠ a := by
    unfold Reg.tmrCtl Reg.tmrCnt Reg.tmrRun at *
    omega
  obtain ⟨ctl, cnt, run⟩ := apart
  exact ⟨rfl, State.reg_setReg_ne s w ctl, State.reg_setReg_ne s w cnt, State.flag_setReg_ne s n w run, rfl, rfl, rfl⟩

theorem tmrRun_ne (n : Nat) : Reg.tmrCtl n ≠ Reg.tmrRun ∧ Reg.tmrCnt n ≠ Reg.tmrRun := by
  unfold Reg.tmrCtl Reg.tmrCnt Reg.tmrRun
  omega

theorem State.SameTimer.setRun {n m : Nat} {s : State} (small : n < 16) (other : n ≠ m) (on : Bool) :
    State.SameTimer n s (s.setFlag Reg.tmrRun m on) :=
  ⟨rfl, State.reg_setFlag_ne s m on (tmrRun_ne n).1, State.reg_setFlag_ne s m on (tmrRun_ne n).2,
    State.flag_setFlag_other s Reg.tmrRun on (by omega) other, rfl, rfl, rfl⟩

/-- A timer whose enable bit has been set, its output not yet driven. -/
def State.timerEnabled (s : State) (m : Nat) (w : Word) : State := ((s.settleTimer m).setReg (Reg.tmrCtl m) w).setFlag Reg.tmrRun m true

/-- Setting a timer's enable bit moves no output: it drives the one it has, if it has one. -/
theorem State.timerCtlWritten_enable (s : State) (m : Nat) (w : Word) : State.EventTo m (s.timerEnabled m (withField w 0 0 1))
    (s.timerCtlWritten m w (withField w 0 0 1)) := by
  have mode (hi lo : Nat) (above : 0 < lo) (high : hi < 32) : field (withField w 0 0 1) hi lo = field w hi lo :=
    field_withField_other w 1 high (.inr above)
  have on : field (withField w 0 0 1) 0 0 = 1 := field_withField w 1 (by decide)
  have still : (field w 16 11 != field w 16 11) = false := bne_self_eq_false _
  unfold State.timerCtlWritten
  simp only [mode 16 11 (by decide) (by decide), still, on, Bool.false_eq_true, if_false, beq_self_eq_true]
  split
  · exact .refl m _
  · exact .driveTimer

/-- A timer that does not count keeps its count when it is brought up to now. -/
theorem State.settleTimer_cnt (s : State) {n : Nat} (still : s.counting n = false) :
    (s.settleTimer n).reg (Reg.tmrCnt n) = s.reg (Reg.tmrCnt n) := by
  have count : s.count n = (s.reg (Reg.tmrCnt n)).toNat := by simp [State.count, still]
  rw [State.settleTimer]
  refine (State.modTimer_reg _ _ _ _).trans ?_
  rw [State.reg_setReg, count, word, BitVec.ofNat_toNat, BitVec.setWidth_eq]

theorem State.SameTimer.timerEnabled {n m : Nat} {s : State} (w : Word) (small : n < 16) (other : n ≠ m) :
    State.SameTimer n s (s.timerEnabled m w) := by
  have settled : State.SameTimer n s (s.settleTimer m) := (State.SameTimer.setReg _ other (.inr rfl)).trans (.modTimer other _)
  exact settled.trans ((State.SameTimer.setReg w other (.inl rfl)).trans (.setRun small other true))

/-- A release that reaches another timer leaves a timer as it is. -/
theorem State.SameTimer.goStep {n m : Nat} {s : State} (small : n < 16) (other : n ≠ m) : State.SameTimer n s (s.goStep m) := by
  unfold State.goStep
  dsimp only
  split
  · refine .trans ?_ (.modTimer other _)
    exact (State.SameTimer.timerEnabled _ small other).trans (.of_event small other (s.timerCtlWritten_enable m _))
  · exact .modTimer other _

theorem State.SameTimer.foldl_goStep {n : Nat} (small : n < 16) {l : List Nat} (absent : n ∉ l) (s : State) :
    State.SameTimer n s (l.foldl State.goStep s) := by
  induction l generalizing s with
  | nil => exact .refl n s
  | cons m l ih =>
    rw [List.mem_cons, not_or] at absent
    exact (State.SameTimer.goStep small absent.1).trans (ih absent.2 _)

/-- What a release leaves of the timer that it reaches: enabled at its present count if it is named and not yet enabled. -/
theorem State.goStep_own (s : State) {n : Nat} (small : n < 16) (inside : n < s.meas.timers.length) :
    (s.goStep n).elapsed = s.elapsed ∧ (s.goStep n).meas.goWritten = s.meas.goWritten ∧ (s.goStep n).reg (Reg.tmrCnt n) = s.reg (Reg.tmrCnt n)
      ∧ ((s.goStep n).timer n).armed = false
      ∧ ((s.timer n).armed = true → s.flag (Reg.tmrCtl n) 0 = false →
        (s.goStep n).flag (Reg.tmrCtl n) 0 = true ∧ (s.goStep n).flag Reg.tmrRun n = true)
      ∧ ((s.timer n).armed = false ∨ s.flag (Reg.tmrCtl n) 0 = true → (s.goStep n).reg (Reg.tmrCtl n) = s.reg (Reg.tmrCtl n)) := by
  obtain ⟨ctl, cnt, run, -⟩ := not_eventReg_timer n n small
  by_cases named : (s.timer n).armed = true ∧ s.flag (Reg.tmrCtl n) 0 = false
  · have step : s.goStep n = (s.timerCtlWritten n (s.reg (Reg.tmrCtl n)) (withField (s.reg (Reg.tmrCtl n)) 0 0 1)).modTimer n
        fun t => { t with armed := false } := by simp [State.goStep, named]
    have event := s.timerCtlWritten_enable n (s.reg (Reg.tmrCtl n))
    have still : s.counting n = false := by simp [State.counting, named.2]
    have ctlCnt : Reg.tmrCnt n ≠ Reg.tmrCtl n := by
      unfold Reg.tmrCnt Reg.tmrCtl
      omega
    have count : (s.timerEnabled n (withField (s.reg (Reg.tmrCtl n)) 0 0 1)).reg (Reg.tmrCnt n) = s.reg (Reg.tmrCnt n) := by
      rw [State.timerEnabled, State.reg_setFlag_ne _ _ _ (tmrRun_ne n).2, State.reg_setReg_ne _ _ ctlCnt, s.settleTimer_cnt still]
    have room : n < (s.timerCtlWritten n (s.reg (Reg.tmrCtl n)) (withField (s.reg (Reg.tmrCtl n)) 0 0 1)).meas.timers.length := by
      rw [event.count]
      simpa [State.timerEnabled, State.settleTimer, State.modTimer, setAt] using inside
    rw [step]
    refine ⟨event.elapsed, event.go, ?_, ?_, fun _ _ => ⟨?_, ?_⟩, fun other => ?_⟩
    · rw [State.modTimer_reg, event.regs _ cnt, count]
    · rw [State.timer_modTimer _ _ room]
    · rw [State.flag_of_reg (State.modTimer_reg _ _ _ _), State.flag_of_reg (event.regs _ ctl), State.timerEnabled,
        State.flag_of_reg (State.reg_setFlag_ne _ _ _ (tmrRun_ne n).1), State.flag, State.fld_setReg, field_withField _ _ (by decide)]
      rfl
    · rw [State.flag_of_reg (State.modTimer_reg _ _ _ _), State.flag_of_reg (event.regs _ run), State.timerEnabled,
        State.flag_setFlag _ _ _ (by omega)]
    · simp [named] at other
  · have step : s.goStep n = s.modTimer n fun t => { t with armed := false } := by
      rw [State.goStep, if_neg]
      simpa using named
    rw [step]
    refine ⟨rfl, rfl, State.modTimer_reg _ _ _ _, ?_, fun armed off => absurd ⟨armed, off⟩ named, fun _ => State.modTimer_reg _ _ _ _⟩
    rw [State.timer_modTimer _ _ inside]

/-- What a release leaves of a timer, whichever others it reaches before and after. -/
theorem State.foldl_goStep_leaves (s : State) {n : Nat} (small : n < 16) (inside : n < s.meas.timers.length) :
    let u := (List.range 16).foldl State.goStep s
    u.elapsed = s.elapsed ∧ u.meas.goWritten = s.meas.goWritten ∧ u.reg (Reg.tmrCnt n) = s.reg (Reg.tmrCnt n) ∧ (u.timer n).armed = false
      ∧ ((s.timer n).armed = true → s.flag (Reg.tmrCtl n) 0 = false → u.flag (Reg.tmrCtl n) 0 = true ∧ u.flag Reg.tmrRun n = true)
      ∧ ((s.timer n).armed = false ∨ s.flag (Reg.tmrCtl n) 0 = true → u.reg (Reg.tmrCtl n) = s.reg (Reg.tmrCtl n)) := by
  obtain ⟨before, after, parts⟩ := List.append_of_mem (List.mem_range.mpr small)
  have distinct := parts ▸ List.nodup_range (n := 16)
  obtain ⟨-, later, apart⟩ := List.nodup_append.mp distinct
  have early : n ∉ before := fun mem => apart n mem n List.mem_cons_self rfl
  have first := State.SameTimer.foldl_goStep small early s
  have last := State.SameTimer.foldl_goStep small (List.nodup_cons.mp later).1 ((before.foldl State.goStep s).goStep n)
  have flags := State.flag_of_reg first.ctl 0
  obtain ⟨elapsed, go, cnt, armed, enabled, kept⟩ := (before.foldl State.goStep s).goStep_own small (first.count ▸ inside)
  simp only [parts, List.foldl_append, List.foldl_cons]
  rw [first.timer, flags] at enabled kept
  refine ⟨?_, ?_, ?_, ?_, fun named off => ?_, fun other => ?_⟩
  · rw [last.elapsed, elapsed, first.elapsed]
  · rw [last.go, go, first.go]
  · rw [last.cnt, cnt, first.cnt]
  · rw [last.timer, armed]
  · obtain ⟨on, run⟩ := enabled named off
    exact ⟨(State.flag_of_reg last.ctl 0).trans on, last.run.trans run⟩
  · rw [last.ctl, kept other, first.ctl]

/-- Settles O49: TIMER_WRAP, TIMER_COMPARE and the release, each from what its event leaves of the timer. -/
theorem timersRun : Obligations.TimersRun := by
  intro s n small timers
  have inside : n < s.meas.timers.length := timers ▸ small
  refine ⟨fun counts clocked => ?_, fun counts clocked below within => ?_,
    fun still => ⟨execTimerWrap_stands still, execTimerCompare_stands still⟩, fun w written => ?_⟩
  · obtain ⟨elapsed, cnt, periodSet, shortSet, compareKept, period, waiting, since⟩ := (s.atTick n (s.wrapTick n)).wrap_leaves (s.wrapCount n)
      (decide (s.periodOf n ≤ (s.reg (Reg.tmrCnt n)).toNat)) small (by rw [State.atTick_timers]; exact inside)
    have flags (i : Nat) : (s.atTick n (s.wrapTick n)).flag (Reg.tmrEvt n) i = s.flag (Reg.tmrEvt n) i := State.flag_of_reg (s.atTick_reg n _ _) i
    have act : (s.atTick n (s.wrapTick n)).periodOf n = s.periodOf n := congrArg BitVec.toNat (s.atTick_reg n _ _)
    rw [State.atTick_elapsed] at elapsed
    rw [s.atTick_timer _ inside] at period since
    rw [act] at period
    rw [flags] at shortSet compareKept
    exact ⟨_, execTimerWrap_wraps counts clocked, elapsed ▸ le_max_right _ _, fun early => elapsed.trans (max_eq_right early), cnt,
      periodSet, shortSet, fun short => compareKept (decide_eq_true short), period, waiting, since⟩
  · have event : State.EventTo n (s.atCompare n) ((s.atCompare n).compareEvent n) := .compareEvent
    have apart : Reg.tmrCtl n ≠ Reg.tmrCnt n ∧ Reg.tmrEvt n ≠ Reg.tmrCnt n := by
      unfold Reg.tmrCtl Reg.tmrEvt Reg.tmrCnt
      omega
    have ctl : (s.atCompare n).reg (Reg.tmrCtl n) = s.reg (Reg.tmrCtl n) := (State.reg_setReg_ne _ _ apart.1).trans (s.atTick_reg n _ _)
    have evt : (s.atCompare n).reg (Reg.tmrEvt n) = s.reg (Reg.tmrEvt n) := (State.reg_setReg_ne _ _ apart.2).trans (s.atTick_reg n _ _)
    have timer : (s.atCompare n).timer n = { s.timer n with since := s.compareTick n } := s.atTick_timer _ inside
    obtain ⟨active, toggles, drives⟩ := (s.atCompare n).compareEvent_active (show n < (s.atTick n _).meas.timers.length by
      rw [State.atTick_timers]; exact inside) small
    rw [timer] at toggles
    rw [State.fld_of_reg ctl, State.fld_of_reg ctl, State.flag_of_reg ctl] at drives
    rw [State.fld_of_reg ctl] at active toggles
    refine ⟨_, execTimerCompare_compares counts clocked below within, ?_, ?_, ?_, ?_, active, toggles, drives⟩
    · exact (le_max_right s.elapsed _).trans ((s.atTick_elapsed n _).symm.trans event.elapsed.symm).le
    · rw [event.regs _ (not_eventReg_timer n n small).2.1, State.atCompare, State.reg_setReg, State.compareCount, State.compareTick]
    · rw [State.flag_compareEvent _ (by decide)]
      exact Bool.or_true _
    · rw [State.flag_compareEvent _ (by decide), State.flag_of_reg evt]
      exact Bool.or_false _
  · obtain ⟨elapsed, go, cnt, armed, enabled, kept⟩ := (s.goReached w).foldl_goStep_leaves small (by
      show n < (s.reachElapsed _).meas.timers.length
      rw [State.reachElapsed_meas]
      exact inside)
    have same (a : Nat) : (s.goReached w).reg a = s.reg a := s.reachElapsed_reg _ a
    have timer : (s.goReached w).timer n = s.timer n := State.timer_of_meas (s.reachElapsed_meas _) n
    rw [timer, State.flag_of_reg (same _) 0] at enabled kept
    rw [same] at cnt kept
    refine ⟨_, execTmrGoRelease_releases written, go, ?_, fun named off => ⟨(enabled named off).1, (enabled named off).2, cnt⟩,
      fun other => ⟨kept other, cnt⟩, armed⟩
    have reached : (s.goReached w).elapsed = max s.elapsed (releaseInstant w) := s.reachElapsed_elapsed _
    rw [elapsed, reached, releaseInstant]
    omega

end Sys2Proof.Machine
end

section
/-! SUPPORT. Edges at the capture inputs (R386, R435, R436). -/

namespace Sys2Proof.Machine

/-! ### What timers and exit sources leave of the capture inputs -/

/-- The capture inputs and their status registers as they were. -/
structure State.SameCaptures (s t : State) : Prop where
  caps : t.meas.caps = s.meas.caps
  stat : ∀ k, k < 8 → t.reg (Reg.tmrCapStat k) = s.reg (Reg.tmrCapStat k)
  flag : ∀ k, k < 8 → t.reg (Reg.tmrCapFlag k) = s.reg (Reg.tmrCapFlag k)

theorem State.SameCaptures.refl (s : State) : s.SameCaptures s := ⟨rfl, fun _ _ => rfl, fun _ _ => rfl⟩

theorem State.SameCaptures.trans {s t u : State} (h : s.SameCaptures t) (next : t.SameCaptures u) : s.SameCaptures u :=
  ⟨next.caps.trans h.caps, fun k small => (next.stat k small).trans (h.stat k small), fun k small => (next.flag k small).trans (h.flag k small)⟩

theorem State.SameCaptures.capture {s t : State} (h : s.SameCaptures t) (k : Nat) : t.capture k = s.capture k := by
  rw [State.capture, h.caps, State.capture]

theorem State.SameCaptures.of_event {n : Nat} {s t : State} (small : n < 16) (h : State.EventTo n s t) : s.SameCaptures t :=
  ⟨h.caps, fun k _ => h.regs _ (not_eventReg_capture small k).1, fun k _ => h.regs _ (not_eventReg_capture small k).2⟩

theorem State.SameCaptures.modTimer {n : Nat} {s : State} (f : Timer → Timer) : s.SameCaptures (s.modTimer n f) :=
  ⟨rfl, fun _ _ => State.modTimer_reg _ _ _ _, fun _ _ => State.modTimer_reg _ _ _ _⟩

theorem State.SameCaptures.setReg {n a : Nat} {s : State} (w : Word) (small : n < 16) (own : a = Reg.tmrCnt n ∨ a = Reg.tmrPeriodAct n) :
    s.SameCaptures (s.setReg a w) := by
  have apart (k : Nat) : Reg.tmrCapStat k ≠ a ∧ Reg.tmrCapFlag k ≠ a := by
    unfold Reg.tmrCapStat Reg.tmrCapFlag Reg.tmrCnt Reg.tmrPeriodAct at *
    omega
  exact ⟨rfl, fun k _ => State.reg_setReg_ne s w (apart k).1, fun k _ => State.reg_setReg_ne s w (apart k).2⟩

theorem State.SameCaptures.wrap {n count : Nat} {short : Bool} {s : State} (small : n < 16) : s.SameCaptures (s.wrap n count short) := by
  have counted : s.SameCaptures (s.setReg (Reg.tmrCnt n) (word count)) := .setReg _ small (.inl rfl)
  have taken (t : State) : t.SameCaptures (t.periodTaken n) := by
    unfold State.periodTaken
    split
    · exact (State.SameCaptures.setReg _ small (.inr rfl)).trans (.modTimer _)
    · exact .refl t
  exact counted.trans ((taken _).trans (.of_event small (State.EventTo.timerEvent.trans .wrapOutput)))

theorem State.SameCaptures.edgeTick {n : Nat} {s : State} (small : n < 16) : s.SameCaptures (s.edgeTick n) := by
  have counted (w : Word) : s.SameCaptures (s.setReg (Reg.tmrCnt n) w) := .setReg w small (.inl rfl)
  unfold State.edgeTick
  dsimp only
  split
  · exact .wrap small
  · split
    · exact (counted _).trans (.of_event small .compareEvent)
    · exact counted _

/-- The timers that count an input's edges take one (Table 16-1). -/
def State.countEdge (s : State) (input : Nat) (level : Bool) (i : Nat) : State :=
  let n := 8 + i
  let ctl := s.reg (Reg.tmrCtl n)
  if s.counting n && field ctl 5 5 = 1 && field ctl 8 6 = input && edgeSelected (field ctl 10 9) level then
    let e := (s.timer n).edges + 1
    if s.fld (Reg.tmrPre n) 15 0 < e then (s.modTimer n fun t => { t with edges := 0 }).edgeTick n
    else s.modTimer n fun t => { t with edges := e }
  else s

theorem State.SameCaptures.countEdge {input i : Nat} {level : Bool} {s : State} (small : i < 8) : s.SameCaptures (s.countEdge input level i) := by
  unfold State.countEdge
  dsimp only
  split
  · split
    · exact (State.SameCaptures.modTimer _).trans (.edgeTick (by omega))
    · exact .modTimer _
  · exact .refl s

theorem State.SameCaptures.countEdges {input : Nat} {level : Bool} (s : State) :
    s.SameCaptures ((List.range 8).foldl (fun (s : State) i => s.countEdge input level i) s) := by
  have keeps (l : List Nat) (within : ∀ i ∈ l, i < 8) (t : State) :
      t.SameCaptures (l.foldl (fun (s : State) i => s.countEdge input level i) t) := by
    induction l generalizing t with
    | nil => exact .refl t
    | cons i l ih =>
      exact (State.SameCaptures.countEdge (within i List.mem_cons_self)).trans (ih (fun j mem => within j (List.mem_cons_of_mem _ mem)) _)
  exact keeps _ (fun i mem => List.mem_range.mp mem) s

theorem State.SameCaptures.wakeCapture {c : Nat} {s : State} : s.SameCaptures (s.wakeCapture c) := by
  have apart (k : Nat) : (k < 8 → Reg.tmrCapStat k ≠ Reg.pwrWakeSrc ∧ Reg.tmrCapStat k ≠ Reg.pwrState)
      ∧ (k < 8 → Reg.tmrCapFlag k ≠ Reg.pwrWakeSrc ∧ Reg.tmrCapFlag k ≠ Reg.pwrState) := by
    unfold Reg.tmrCapStat Reg.tmrCapFlag Reg.pwrWakeSrc Reg.pwrState
    omega
  unfold State.wakeCapture
  split
  · refine ⟨by rw [State.wakeSource_meas]; rfl, fun k small => ?_, fun k small => ?_⟩
    · exact (State.wakeSource_reg _ 4 ((apart k).1 small)).trans (State.reg_setFlag_ne _ _ _ ((apart k).1 small).1)
    · exact (State.wakeSource_reg _ 4 ((apart k).2 small)).trans (State.reg_setFlag_ne _ _ _ ((apart k).2 small).1)
  · exact .refl s

/-! ### An edge placed in its queue, or dropped -/

/-- Whether an edge of an input is captured. -/
def State.edgeCaptured (s : State) (k : Nat) (level : Bool) : Prop :=
  field (s.reg (Reg.tmrCapCfg k)) 0 0 = 1 ∧ edgeSelected (field (s.reg (Reg.tmrCapCfg k)) 2 1) level = true

section
variable {s : State} {k stamp : Nat} {level : Bool}

/-- The entry that a captured edge makes. -/
def State.edgeEntry (s : State) (k : Nat) (level : Bool) (stamp : Nat) : CapEntry :=
  ⟨stamp, if field (s.reg (Reg.tmrCapCfg k)) 3 3 = 1 then s.count (field (s.reg (Reg.tmrCapCfg k)) 7 4) else 0, level, s.unsure⟩

theorem State.captureStamp_ignores (other : ¬ s.edgeCaptured k level) : s.captureStamp k level stamp = s := by
  have off : field (s.reg (Reg.tmrCapCfg k)) 0 0 = 0 ∨ (!edgeSelected (field (s.reg (Reg.tmrCapCfg k)) 2 1) level) = true := by
    have small : field (s.reg (Reg.tmrCapCfg k)) 0 0 < 2 := field_lt _ 0 0
    by_cases enabled : field (s.reg (Reg.tmrCapCfg k)) 0 0 = 0
    · exact .inl enabled
    · right
      have one : field (s.reg (Reg.tmrCapCfg k)) 0 0 = 1 := by omega
      simpa [State.edgeCaptured, one] using other
  exact if_pos off

section
variable (captured : s.edgeCaptured k level)
include captured

theorem State.edgeCaptured.goes_on : ¬ (field (s.reg (Reg.tmrCapCfg k)) 0 0 = 0 ∨ (!edgeSelected (field (s.reg (Reg.tmrCapCfg k)) 2 1) level) = true) := by
  simp [captured.1, captured.2]

theorem State.captureStamp_queues (room : (s.capture k).queue.length < 4) : s.captureStamp k level stamp
    = (s.modCapture k fun x => { x with queue := x.queue ++ [s.edgeEntry k level stamp] }).bumpFld (Reg.tmrCapStat k) 2 0 := by
  unfold State.captureStamp
  dsimp only
  rw [if_neg captured.goes_on, if_pos room]
  rfl

/-- A dropped edge: the overflow flag is set and the drop counted, in the record and in the register. -/
theorem State.captureStamp_drops (full : 4 ≤ (s.capture k).queue.length) : ∃ f : Capture → Capture, (∀ x, ∃ n d, f x = { x with drops := n, dropSecond := d })
    ∧ ∃ t : State, t = ((s.setFlag (Reg.tmrCapFlag k) 0 true).bumpFld (Reg.tmrCapStat k) 31 16).modCapture k f
      ∧ (s.captureStamp k level stamp = t ∨ s.captureStamp k level stamp = t.raise 0x5201 1 (le 1 k ++ le 4 1)) := by
  unfold State.captureStamp
  dsimp only
  rw [if_neg captured.goes_on, if_neg (Nat.not_lt.mpr full)]
  split
  · exact ⟨_, fun x => ⟨_, x.dropSecond, rfl⟩, _, rfl, .inl rfl⟩
  · exact ⟨_, fun x => ⟨_, _, rfl⟩, _, rfl, .inr rfl⟩

end

theorem capStat_ne_capFlag (k : Nat) : Reg.tmrCapFlag k ≠ Reg.tmrCapStat k ∧ Reg.tmrCapFlag k ≠ Reg.tmBufStat ∧ Reg.tmrCapStat k ≠ Reg.tmBufStat := by
  unfold Reg.tmrCapFlag Reg.tmrCapStat Reg.tmBufStat
  omega

/-- States with the same capture inputs. -/
theorem State.capture_of_caps {s t : State} (h : t.meas.caps = s.meas.caps) (k : Nat) : t.capture k = s.capture k := by
  rw [State.capture, h, State.capture]

/-- What an edge leaves of its input, of the others and of the input's registers. -/
theorem State.captureStamp_leaves (inside : k < s.meas.caps.length) : let u := s.captureStamp k level stamp
    (∀ j, j ≠ k → u.capture j = s.capture j) ∧ (u.capture k).level = (s.capture k).level ∧ (u.capture k).edges = (s.capture k).edges
      ∧ (u.capture k).lastEdge = (s.capture k).lastEdge
      ∧ (s.edgeCaptured k level ∧ (s.capture k).queue.length < 4 → (u.capture k).queue = (s.capture k).queue ++ [s.edgeEntry k level stamp])
      ∧ (¬ (s.edgeCaptured k level ∧ (s.capture k).queue.length < 4) → (u.capture k).queue = (s.capture k).queue)
      ∧ (s.edgeCaptured k level → 4 ≤ (s.capture k).queue.length →
        u.flag (Reg.tmrCapFlag k) 0 = true ∧ u.fld (Reg.tmrCapStat k) 31 16 = min (s.fld (Reg.tmrCapStat k) 31 16 + 1) 65535)
      ∧ (¬ (s.edgeCaptured k level ∧ 4 ≤ (s.capture k).queue.length) → u.reg (Reg.tmrCapFlag k) = s.reg (Reg.tmrCapFlag k)) := by
  obtain ⟨flagStat, flagCells, statCells⟩ := capStat_ne_capFlag k
  by_cases captured : s.edgeCaptured k level
  · by_cases room : (s.capture k).queue.length < 4
    · have own := s.capture_modCapture (fun x => { x with queue := x.queue ++ [s.edgeEntry k level stamp] }) inside
      have same (j : Nat) : ((s.modCapture k fun x => { x with queue := x.queue ++ [s.edgeEntry k level stamp] }).bumpFld (Reg.tmrCapStat k) 2 0).capture j
          = (s.modCapture k fun x => { x with queue := x.queue ++ [s.edgeEntry k level stamp] }).capture j := rfl
      simp only [State.captureStamp_queues captured room, same, own]
      refine ⟨fun j other => s.capture_modCapture_other _ other, trivial, trivial, trivial, fun _ => trivial, fun h => absurd ⟨captured, room⟩ h,
        fun _ full => absurd room (Nat.not_lt.mpr full), fun _ => ?_⟩
      rw [State.reg_bumpFld_ne _ _ _ _ flagStat, State.modCapture_reg]
    · obtain ⟨f, drops, t, made, ends⟩ := State.captureStamp_drops (stamp := stamp) captured (Nat.not_lt.mp room)
      obtain ⟨n, d, dropped⟩ := drops (s.capture k)
      have ended : (s.captureStamp k level stamp).meas = t.meas ∧ (s.captureStamp k level stamp).reg (Reg.tmrCapFlag k) = t.reg (Reg.tmrCapFlag k)
          ∧ (s.captureStamp k level stamp).reg (Reg.tmrCapStat k) = t.reg (Reg.tmrCapStat k) := by
        rcases ends with e | e <;> rw [e]
        · exact ⟨rfl, rfl, rfl⟩
        · exact ⟨State.raise_meas _ _ _ _ _, State.raise_reg _ _ _ _ _ flagCells, State.raise_reg _ _ _ _ _ statCells⟩
      obtain ⟨meas, flag, stat⟩ := ended
      have seen (j : Nat) : (s.captureStamp k level stamp).capture j = (s.modCapture k f).capture j := by
        refine (State.capture_of_caps (congrArg _ meas) j).trans ?_
        rw [made]
        rfl
      have own := s.capture_modCapture f inside
      simp only [seen, own, dropped]
      refine ⟨fun j other => s.capture_modCapture_other f other, trivial, trivial, trivial, fun h => absurd h.2 room, fun _ => trivial, fun _ full => ⟨?_, ?_⟩,
        fun h => absurd ⟨captured, Nat.not_lt.mp room⟩ h⟩
      · rw [State.flag_of_reg flag, made, State.flag_of_reg (State.modCapture_reg _ _ _ _),
          State.flag_of_reg (State.reg_bumpFld_ne _ _ _ _ flagStat), State.flag_setFlag _ _ _ (by decide)]
      · rw [State.fld_of_reg stat, made, State.fld_of_reg (State.modCapture_reg _ _ _ _), State.fld_bumpFld _ _ _ (by decide),
          State.fld_setFlag_ne _ _ _ _ _ flagStat.symm]
        rfl
  · rw [State.captureStamp_ignores captured]
    exact ⟨fun _ _ => rfl, rfl, rfl, rfl, fun h => absurd h.1 captured, fun _ => rfl, fun h => absurd h captured, fun _ => rfl⟩

end

/-! ### CAPTURE_EDGE -/

section
variable {s : State} {k stamp : Nat} {level : Bool}

/-- The state in which an edge counts: its level has persisted for the debounce time. -/
def State.edgeReached (s : State) (k stamp : Nat) : State := s.reach (stamp + 10000 * s.fld (Reg.measCapCfg k) 7 0)

/-- The edge noted at its input. -/
def State.edgeNoted (s : State) (k stamp : Nat) (level : Bool) : State :=
  (s.edgeReached k stamp).modCapture k fun x => { x with level := level, edges := x.edges + 1, lastEdge := some stamp }

theorem execCaptureEdge_same (same : (s.capture k).level = level) : execCaptureEdge k level stamp s = .next s := by
  simp [execCaptureEdge, same]

theorem execCaptureEdge_off (change : (s.capture k).level ≠ level) (off : s.on .meas = false) :
    execCaptureEdge k level stamp s = .next ((s.modCapture k fun x => { x with level := level }).wakeCapture k) := by
  simp [execCaptureEdge, change, off]

theorem execCaptureEdge_counts (change : (s.capture k).level ≠ level) (on : s.on .meas = true) : execCaptureEdge k level stamp s
    = .next (((List.range 8).foldl (fun (s : State) i => s.countEdge k level i) ((s.edgeNoted k stamp level).captureStamp k level stamp)).wakeCapture k) := by
  simp only [execCaptureEdge, change, on, if_false, if_true]
  rfl

end

/-! ### TMR_CAPTURE_READ -/

theorem CapEntry.length_bytes (e : CapEntry) : e.bytes.length = 16 := by simp [CapEntry.bytes]

/-- An entry as TMR_CAPTURE_READ lays it out (Table 16-2). -/
theorem CapEntry.bytes_shows (e : CapEntry) : num e.bytes 0 6 = e.stamp / 1000000000 % 2 ^ 48 ∧ num e.bytes 6 4 = e.stamp % 1000000000
    ∧ num e.bytes 10 4 = e.count % 2 ^ 32 ∧ num e.bytes 14 1 = bitOf e.rising + 2 * bitOf e.held := by
  have flags : bitOf e.rising + 2 * bitOf e.held < 4 := by cases e.rising <;> cases e.held <;> decide
  simp (disch := simp) only [CapEntry.bytes, List.append_assoc, num_append_beyond, num_le_append, length_le, Nat.reduceSub]
  omega

/-- A number of one of a row of equally long entries. -/
theorem num_flatMap_entry {α : Type} {f : α → Bytes} {m : Nat} (whole : ∀ x, (f x).length = m) {l : List α} {j : Nat} {e : α} (at_j : l[j]? = some e)
    {off n : Nat} (within : off + n ≤ m) : num (l.flatMap f) (m * j + off) n = num (f e) off n := by
  induction l generalizing j with
  | nil => simp at at_j
  | cons x l ih =>
    rw [List.flatMap_cons]
    cases j with
    | zero =>
      obtain rfl : x = e := by simpa using at_j
      rw [Nat.mul_zero, Nat.zero_add, num_append_within (by rw [whole]; exact within)]
    | succ j =>
      rw [Nat.mul_succ, Nat.add_comm (m * j), Nat.add_assoc, num_append_right (whole x)]
      exact ih (by simpa using at_j)

theorem length_flatMap_entry {α : Type} {f : α → Bytes} {m : Nat} (whole : ∀ x, (f x).length = m) (l : List α) :
    (l.flatMap f).length = m * l.length := by
  induction l with
  | nil => rfl
  | cons x l ih => rw [List.flatMap_cons, List.length_append, whole, ih, List.length_cons, Nat.mul_succ, Nat.add_comm]

/-- The result of TMR_CAPTURE_READ: how many entries, the overflow flag, and the entries. -/
def State.capturesTaken (s : State) (k n : Nat) : Bytes :=
  le 1 ((s.capture k).queue.take n).length ++ le 1 (s.fld (Reg.tmrCapFlag k) 0 0) ++ [0, 0] ++ ((s.capture k).queue.take n).flatMap CapEntry.bytes

theorem execTmrCaptureRead_takes {s : State} {c : Cmd} {p : Bytes} (ready : s.Ready tmrCaptureReadSpec c p) : execTmrCaptureRead c p s = .next (
    let r := s.received c; let k := num p 0 1; let l := (r.capture k).queue.take (num p 1 1)
    let t := r.modCapture k fun x => { x with queue := x.queue.drop l.length }
    (t.setFld (Reg.tmrCapStat k) 2 0 (t.capture k).queue.length).reply (originOf c 0x5200) Status.ok (r.capturesTaken k (num p 1 1))) := by
  rw [execTmrCaptureRead, State.run_ready ready]
  rfl

theorem State.capturesTaken_shows (s : State) (k : Nat) {n : Nat} (few : n ≤ 4) :
    let taken := (s.capture k).queue.take n; let b := s.capturesTaken k n
    b.length = 4 + 16 * taken.length ∧ num b 0 1 = taken.length ∧ num b 1 1 = s.fld (Reg.tmrCapFlag k) 0 0
      ∧ ∀ j (e : CapEntry), taken[j]? = some e → num b (4 + 16 * j) 6 = e.stamp / 1000000000 % 2 ^ 48 ∧ num b (10 + 16 * j) 4 = e.stamp % 1000000000
        ∧ num b (14 + 16 * j) 4 = e.count % 2 ^ 32 ∧ num b (18 + 16 * j) 1 = bitOf e.rising + 2 * bitOf e.held := by
  have count : ((s.capture k).queue.take n).length ≤ 4 := (List.length_take_le _ _).trans few
  have flag : s.fld (Reg.tmrCapFlag k) 0 0 < 2 := s.fld_lt _ 0 0
  have head : (le 1 ((s.capture k).queue.take n).length ++ le 1 (s.fld (Reg.tmrCapFlag k) 0 0) ++ [0, 0] : Bytes).length = 4 := by simp
  refine ⟨?_, ?_, ?_, fun j e at_j => ?_⟩
  · rw [State.capturesTaken, List.length_append, head, length_flatMap_entry CapEntry.length_bytes]
  · simp (disch := simp) only [State.capturesTaken, List.append_assoc, num_le_append]
    omega
  · simp (disch := simp) only [State.capturesTaken, List.append_assoc, num_append_beyond, num_le_append, length_le, Nat.reduceSub]
    omega
  · obtain ⟨seconds, nanos, ticks, flags⟩ := e.bytes_shows
    have entry (off m : Nat) (within : off + m ≤ 16) : num (s.capturesTaken k n) (4 + (16 * j + off)) m = num e.bytes off m :=
      (num_append_right head _ _ _).trans (num_flatMap_entry CapEntry.length_bytes at_j within)
    have place (off : Nat) : 4 + off + 16 * j = 4 + (16 * j + off) := by omega
    exact ⟨(entry 0 6 (by decide)).trans seconds, (place 6 ▸ entry 6 4 (by decide)).trans nanos,
      (place 10 ▸ entry 10 4 (by decide)).trans ticks, (place 14 ▸ entry 14 1 (by decide)).trans flags⟩

theorem length_setAt {α : Type} (l : List α) (i : Nat) (f : α → α) : (setAt l i f).length = l.length := by
  simp [setAt]

theorem bitOf_flags (rising held : Bool) : bitOf rising + 2 * bitOf held = (if rising then 1 else 0) + (if held then 2 else 0) := by
  cases rising <;> cases held <;> rfl

/-- Settles O50: an edge by what it leaves of its input, and the entries that a read takes. -/
theorem edgesCaptured : Obligations.EdgesCaptured := by
  intro s k stamp level small caps
  have inside : k < s.meas.caps.length := caps ▸ small
  refine ⟨execCaptureEdge_same, fun change off => ?_, fun change on => ?_, fun c p ready => ?_⟩
  · have woken : (s.modCapture k fun x => { x with level := level }).SameCaptures ((s.modCapture k fun x => { x with level := level }).wakeCapture k) :=
      .wakeCapture
    have own := s.capture_modCapture (fun x => { x with level := level }) inside
    refine ⟨_, execCaptureEdge_off change off, ?_, ?_, ?_⟩ <;> rw [woken.capture, own]
  · have meas : (s.edgeReached k stamp).meas = s.meas := State.reach_meas _ _
    have within : k < (s.edgeReached k stamp).meas.caps.length := by rw [meas]; exact inside
    have own := (s.edgeReached k stamp).capture_modCapture (fun x => { x with level := level, edges := x.edges + 1, lastEdge := some stamp }) within
    have before (j : Nat) : (s.edgeReached k stamp).capture j = s.capture j := State.capture_of_caps (congrArg _ meas) j
    have noted : (s.edgeNoted k stamp level).capture k
        = { s.capture k with level := level, edges := (s.capture k).edges + 1, lastEdge := some stamp } := by rw [← before k]; exact own
    have reg (a : Nat) : (s.edgeNoted k stamp level).reg a = s.reg a := State.reach_reg _ _ a
    have length : (s.edgeNoted k stamp level).meas.caps.length = s.meas.caps.length := by
      rw [← meas]
      exact length_setAt _ _ _
    obtain ⟨others, lev, edges, last, queued, kept, dropped, flag⟩ :=
      State.captureStamp_leaves (stamp := stamp) (level := level) (s := s.edgeNoted k stamp level) (length ▸ inside)
    have after := (State.SameCaptures.countEdges (input := k) (level := level) ((s.edgeNoted k stamp level).captureStamp k level stamp)).trans
      (.wakeCapture (c := k))
    have captured : (s.edgeNoted k stamp level).edgeCaptured k level ↔ s.edgeCaptured k level := by simp only [State.edgeCaptured, reg]
    have entry : (s.edgeNoted k stamp level).edgeEntry k level stamp = ⟨stamp, if field (s.reg (Reg.tmrCapCfg k)) 3 3 = 1 then
        (s.edgeReached k stamp).count (field (s.reg (Reg.tmrCapCfg k)) 7 4) else 0, level, (s.edgeReached k stamp).unsure⟩ := by
      rw [State.edgeEntry, reg]
      rfl
    rw [captured, noted] at queued kept dropped flag
    rw [noted] at lev edges last
    refine ⟨_, execCaptureEdge_counts change on, by rw [after.capture, lev], by rw [after.capture, edges], by rw [after.capture, last],
      fun j _ other => ?_, ?_, fun chosen full => ⟨?_, ?_⟩, fun free => ?_⟩
    · rw [after.capture, others j other]
      exact (State.capture_modCapture_other _ _ other).trans (before j)
    · rw [after.capture]
      split
      · next placed => rw [queued placed, entry]; rfl
      · next unplaced => exact kept unplaced
    · rw [State.flag_of_reg (after.flag k small), (dropped chosen full).1]
    · rw [State.fld_of_reg (after.stat k small), (dropped chosen full).2, State.fld_of_reg (reg _)]
    · rw [after.flag k small, flag free, reg]
  · obtain ⟨_, atMost⟩ : num p 0 1 < 8 ∧ num p 1 1 ≤ 4 := by
      have range := ready.range
      simp [tmrCaptureReadSpec] at range
      omega
    have within : num p 0 1 < (s.received c).meas.caps.length := by
      have same : (s.received c).meas = s.meas := rfl
      rw [same, caps]
      assumption
    obtain ⟨length, count, flag, entries⟩ := (s.received c).capturesTaken_shows (num p 0 1) atMost
    refine ⟨_, _, execTmrCaptureRead_takes ready, ?_, length, count, flag, fun j e at_j => ?_⟩
    · have own := (s.received c).capture_modCapture (fun x => { x with queue := x.queue.drop (((s.received c).capture (num p 0 1)).queue.take (num p 1 1)).length }) within
      have drops (l : List CapEntry) (n : Nat) : l.drop (l.take n).length = l.drop n := by simp [List.drop_eq_drop_iff]
      exact (congrArg Capture.queue ((State.capture_of_caps rfl _).trans own)).trans (drops _ _)
    · obtain ⟨seconds, nanos, ticks, flags⟩ := entries j e at_j
      exact ⟨seconds, nanos, ticks, flags.trans (bitOf_flags _ _)⟩

end Sys2Proof.Machine
end

section
/-! SUPPORT. Key pages: what a page holds once filled, and what erasing leaves (R397 to R399). -/

namespace Sys2Proof.Machine

theorem bit_eq_testBit (v i : Nat) : bit v i = v.testBit i := (Nat.testBit_eq_decide_div_mod_eq (x := v) (i := i)).symm

theorem mem_bitsSet {n v i : Nat} : i ∈ bitsSet n v ↔ i < n ∧ bit v i = true := by simp [bitsSet]

/-- A fold keeps what each of its steps keeps. -/
theorem foldl_keeps {σ α β : Type} (part : σ → β) {f : σ → α → σ} (keeps : ∀ t a, part (f t a) = part t) (l : List α) (t : σ) :
    part (l.foldl f t) = part t := by
  induction l generalizing t with
  | nil => rfl
  | cons a l ih => rw [List.foldl_cons, ih, keeps]

/-- A mask made of flags has each flag as its bit. -/
theorem testBit_maskSum (f : Nat → Bool) (n : Nat) : ((List.range n).map fun i => bitOf (f i) * 2 ^ i).sum < 2 ^ n
    ∧ ∀ q, ((List.range n).map fun i => bitOf (f i) * 2 ^ i).sum.testBit q = (decide (q < n) && f q) := by
  induction n with
  | zero => simp
  | succ n ih =>
    obtain ⟨below, flags⟩ := ih
    have top : bitOf (f n) ≤ 1 := by cases f n <;> decide
    rw [List.range_succ, List.map_append, List.sum_append, List.map_singleton, List.sum_singleton, Nat.add_comm, Nat.mul_comm]
    refine ⟨?_, fun q => ?_⟩
    · have := Nat.mul_le_mul_left (2 ^ n) top
      rw [Nat.pow_succ]
      omega
    · rw [Nat.testBit_two_pow_mul_add _ below]
      split
      · next less => simp [flags, less, show q < n + 1 by omega]
      · next notLess =>
        rcases Nat.eq_or_lt_of_le (Nat.not_lt.mp notLess) with rfl | more
        · cases f n <;> simp [bitOf]
        · have high : bitOf (f n) < 2 ^ (q - n) := top.trans_lt (Nat.one_lt_two_pow (by omega))
          simp [Nat.testBit_lt_two_pow high, show ¬ q < n + 1 by omega]

theorem State.bit_loadedMask (s : State) {q : Nat} (page : q < 16) : bit s.loadedMask q = s.pageLoaded q := by
  rw [bit_eq_testBit, State.loadedMask, (testBit_maskSum s.pageLoaded 16).2, decide_eq_true page, Bool.true_and]

/-! ### What the in-band sessions' page leaves -/

theorem State.inbandPageChanged_keeps {β : Type} (part : State → β) (keeps : ∀ (t : State) n f, part (t.modSession n f) = part t) (s : State) (mask : Nat) :
    part (s.inbandPageChanged mask) = part s := by
  unfold State.inbandPageChanged
  split
  · refine foldl_keeps part (fun t n => ?_) _ _
    split
    · split
      · exact keeps _ _ _
      · rfl
    · rfl
  · rfl

@[simp] theorem State.inbandPageChanged_reg (s : State) (mask a : Nat) : (s.inbandPageChanged mask).reg a = s.reg a :=
  s.inbandPageChanged_keeps (·.reg a) (fun _ _ _ => rfl) mask

@[simp] theorem State.inbandPageChanged_cipher (s : State) (mask : Nat) : (s.inbandPageChanged mask).cipher = s.cipher :=
  s.inbandPageChanged_keeps (·.cipher) (fun _ _ _ => rfl) mask

/-! ### Pages erased -/

/-- One page emptied. -/
def State.erasePage (s : State) (q : Nat) : State :=
  let t := (s.setReg (Reg.ciphPageCfg q) 0).setReg (Reg.ciphPageKcv q) 0
  { t with cipher := { t.cipher with keys := Table.drop t.cipher.keys q } }

theorem State.erasePages_eq (s : State) (mask : Nat) : s.erasePages mask
    = ((bitsSet 16 (Nat.land mask s.loadedMask)).foldl State.erasePage s).inbandPageChanged (Nat.land mask s.loadedMask) := rfl

theorem ciphPage_apart (p q : Nat) : Reg.ciphPageCfg q ≠ Reg.ciphPageKcv p ∧ (q ≠ p → Reg.ciphPageCfg q ≠ Reg.ciphPageCfg p ∧ Reg.ciphPageKcv q ≠ Reg.ciphPageKcv p) := by
  unfold Reg.ciphPageCfg Reg.ciphPageKcv
  omega

theorem State.erasePage_reg (s : State) (p : Nat) {a : Nat} (cfg : a ≠ Reg.ciphPageCfg p) (kcv : a ≠ Reg.ciphPageKcv p) :
    (s.erasePage p).reg a = s.reg a := (State.reg_setReg_ne _ _ kcv).trans (State.reg_setReg_ne _ _ cfg)

theorem State.erasePage_cfg_same (s : State) (q : Nat) : (s.erasePage q).reg (Reg.ciphPageCfg q) = 0 :=
  (State.reg_setReg_ne _ _ (ciphPage_apart q q).1).trans (State.reg_setReg _ _ _)

theorem State.erasePage_cfg (s : State) (p q : Nat) :
    (s.erasePage p).reg (Reg.ciphPageCfg q) = if q = p then 0 else s.reg (Reg.ciphPageCfg q) := by
  split
  · next same => rw [same, State.erasePage_cfg_same]
  · next other => exact s.erasePage_reg p ((ciphPage_apart p q).2 other).1 (ciphPage_apart p q).1

theorem State.erasePage_key (s : State) (p q : Nat) :
    Table.find (s.erasePage p).cipher.keys q = if q = p then none else Table.find s.cipher.keys q := by
  split
  · next same => rw [same]; exact Table.find_drop _ _
  · next other => exact Table.find_drop_ne _ other

theorem State.foldl_erasePage (l : List Nat) (s : State) (q : Nat) :
    (l.foldl State.erasePage s).reg (Reg.ciphPageCfg q) = (if q ∈ l then 0 else s.reg (Reg.ciphPageCfg q))
      ∧ Table.find (l.foldl State.erasePage s).cipher.keys q = if q ∈ l then none else Table.find s.cipher.keys q := by
  induction l generalizing s with
  | nil => simp
  | cons p l ih =>
    obtain ⟨cfg, key⟩ := ih (s.erasePage p)
    rw [List.foldl_cons, cfg, key, State.erasePage_cfg, State.erasePage_key]
    simp only [List.mem_cons]
    by_cases same : q = p <;> by_cases later : q ∈ l <;> simp [same, later]

/-- A page after pages of a mask have been emptied. -/
theorem State.erasePages_page (s : State) (mask : Nat) {q : Nat} (page : q < 16) (loaded : s.pageLoaded q = true) :
    (s.erasePages mask).reg (Reg.ciphPageCfg q) = (if bit mask q = true then 0 else s.reg (Reg.ciphPageCfg q))
      ∧ Table.find (s.erasePages mask).cipher.keys q = if bit mask q = true then none else Table.find s.cipher.keys q := by
  have gone : q ∈ bitsSet 16 (Nat.land mask s.loadedMask) ↔ bit mask q = true := by
    have both : bit (Nat.land mask s.loadedMask) q = (bit mask q && bit s.loadedMask q) := by
      simp only [bit_eq_testBit]
      exact Nat.testBit_and _ _ _
    rw [mem_bitsSet, both, s.bit_loadedMask page, loaded]
    simp [page]
  obtain ⟨cfg, key⟩ := State.foldl_erasePage (bitsSet 16 (Nat.land mask s.loadedMask)) s q
  rw [State.erasePages_eq, State.inbandPageChanged_reg, State.inbandPageChanged_cipher, cfg, key]
  simp only [gone, and_self]

theorem State.pageLoaded_of_cleared {s : State} {q : Nat} (cleared : s.reg (Reg.ciphPageCfg q) = 0) : s.pageLoaded q = false := by
  rw [State.pageLoaded, State.flag_eq_testBit, cleared]
  simp

/-! ### A page filled -/

/-- The configuration of a filled page (R397). -/
def pageConfig (identity modes generation : Nat) (key : Bytes) : Nat :=
  1 + 2 * bitOf (decide (16 < key.length)) + 4 * identity + 64 * modes + 1024 * generation

theorem State.fillPage_cfg (s : State) (page identity modes generation : Nat) (key : Bytes) :
    (s.fillPage page identity modes generation key).reg (Reg.ciphPageCfg page) = word (pageConfig identity modes generation key) :=
  (State.inbandPageChanged_reg _ _ _).trans ((State.reg_setReg_ne _ _ (ciphPage_apart page page).1).trans (State.reg_setReg _ _ _))

theorem State.fillPage_key (s : State) (page identity modes generation : Nat) (key : Bytes) :
    Table.find (s.fillPage page identity modes generation key).cipher.keys page = some key := by
  rw [State.fillPage, State.inbandPageChanged_cipher]
  exact Table.find_put _ _ _

section
variable {identity modes generation : Nat} {key : Bytes} (identity_small : identity < 16) (modes_small : modes < 16) (generation_small : generation < 16)
include identity_small modes_small generation_small

/-- A filled page shows what it was loaded with. -/
theorem State.fillPage_shows (s : State) (page : Nat) : let t := s.fillPage page identity modes generation key
    t.pageLoaded page = true ∧ t.fld (Reg.ciphPageCfg page) 5 2 = identity ∧ t.fld (Reg.ciphPageCfg page) 9 6 = modes
      ∧ t.fld (Reg.ciphPageCfg page) 13 10 = generation ∧ (t.flag (Reg.ciphPageCfg page) 1 = true ↔ 16 < key.length) := by
  have long : bitOf (decide (16 < key.length)) ≤ 1 ∧ (bitOf (decide (16 < key.length)) = 1 ↔ 16 < key.length) := by
    by_cases more : 16 < key.length <;> simp [bitOf, more]
  have whole : pageConfig identity modes generation key % 2 ^ 32
      = 1 + 2 * bitOf (decide (16 < key.length)) + 4 * identity + 64 * modes + 1024 * generation := by
    rw [pageConfig]
    omega
  simp only [State.pageLoaded, State.flag, State.fld, State.fillPage_cfg, field, word, BitVec.toNat_ofNat, whole, bits, decide_eq_true_eq]
  omega

end

/-! ### Commands -/

section
variable {s : State} {c : Cmd} {p : Bytes} (ready : s.Ready keyLoadSpec c p)
include ready

theorem execKeyLoad_plain_deployed (plain : bit (num p 3 1) 1 = false) (deployed : (s.received c).lifecycle = 2) :
    execKeyLoad c p s = .next ((s.received c).refuse (originOf c 0x5000) Status.notPermitted []) := by
  simp [execKeyLoad, State.run_ready ready, plain, deployed, State.settle]
  rfl

section
variable (unclosed : (s.received c).loadClosed = false)
include unclosed

theorem execKeyLoad_loaded (loaded : (s.received c).pageLoaded (num p 0 1) = true)
    (usable : if bit (num p 3 1) 1 = true then (s.received c).sec.transportKey ≠ none else (s.received c).lifecycle ≠ 2) :
    execKeyLoad c p s = .next ((s.received c).refuse (originOf c 0x5000) Status.resourceBusy
      [BitVec.ofNat 8 (num p 0 1), BitVec.ofNat 8 ((s.received c).fld (Reg.ciphPageCfg (num p 0 1)) 5 2)]) := by
  split at usable
  · next wrapped =>
    simp [execKeyLoad, State.run_ready ready, wrapped, usable, loaded, unclosed, State.settle]
    rfl
  · next plain =>
    simp [execKeyLoad, State.run_ready ready, plain, usable, loaded, unclosed, State.settle]
    rfl

section
variable (empty : (s.received c).pageLoaded (num p 0 1) = false)
include empty

theorem execKeyLoad_unwraps_not (wrapped : bit (num p 3 1) 1 = true) {kek : Bytes} (transport : (s.received c).sec.transportKey = some kek)
    (bad : unwrap kek (p.drop 4) = none) : execKeyLoad c p s = .next ((s.received c).refuse (originOf c 0x5000) Status.paramRange []) := by
  simp [execKeyLoad, State.run_ready ready, wrapped, transport, empty, unclosed, bad, State.settle]
  rfl

theorem execKeyLoad_unwraps (wrapped : bit (num p 3 1) 1 = true) {kek key : Bytes} (transport : (s.received c).sec.transportKey = some kek)
    (good : unwrap kek (p.drop 4) = some key) : execKeyLoad c p s
      = .next (((s.received c).fillPage (num p 0 1) (num p 1 1) (num p 2 1 % 16) (num p 2 1 / 16) key).reply (originOf c 0x5000) Status.ok
          (le 3 (checkValue key))) := by
  simp [execKeyLoad, State.run_ready ready, wrapped, transport, empty, unclosed, good, State.settle]
  rfl

theorem execKeyLoad_plain (plain : bit (num p 3 1) 1 = false) (undeployed : (s.received c).lifecycle ≠ 2) : execKeyLoad c p s
      = .next (((s.received c).fillPage (num p 0 1) (num p 1 1) (num p 2 1 % 16) (num p 2 1 / 16) (p.drop 4)).reply (originOf c 0x5000) Status.ok
          (le 3 (checkValue (p.drop 4)))) := by
  simp [execKeyLoad, State.run_ready ready, plain, undeployed, empty, unclosed, State.settle]
  rfl

end

end

end

/-- Settles O45: the commands by the checks they make, the pages by what filling and erasing leave of their registers. -/
theorem keyLoading : Obligations.KeyLoading := by
  intro s c p
  refine ⟨fun other => ⟨State.not_permits_of_session _ rfl other, State.not_permits_of_session _ rfl other⟩, fun ready unclosed => ⟨?_, ?_, ?_, ?_⟩, ?_, ?_, ?_⟩
  · exact execKeyLoad_plain_deployed ready
  · exact execKeyLoad_loaded ready unclosed
  · exact fun empty wrapped kek transport => ⟨execKeyLoad_unwraps_not ready unclosed empty wrapped transport,
      fun key => execKeyLoad_unwraps ready unclosed empty wrapped transport⟩
  · exact execKeyLoad_plain ready unclosed
  · intro identity modes generation key _ identity_small modes_small generation_small
    obtain ⟨loaded, bound, served, generated, long⟩ := s.fillPage_shows (key := key) identity_small modes_small generation_small (num p 0 1)
    exact ⟨loaded, bound, served, generated, long, s.fillPage_key _ _ _ _ _⟩
  · intro ready
    exact congrArg _ (State.run_ready ready _)
  · intro mask q page loaded
    obtain ⟨cfg, key⟩ := s.erasePages_page mask page loaded
    refine ⟨fun named => ?_, fun unnamed => ?_⟩
    · rw [if_pos named] at cfg key
      exact ⟨State.pageLoaded_of_cleared cfg, key⟩
    · rw [unnamed] at cfg key
      exact ⟨cfg, key⟩

end Sys2Proof.Machine
end

section
/-! SUPPORT. The cipher engines: their queues, the replay window, alarms and the commands (R392 to R409). -/

namespace Sys2Proof.Machine

/-! ### The queue a free engine serves (R394) -/

section
variable {s : State}

theorem State.nextQueue_transmit (waiting : s.cipher.queues.getD 0 [] ≠ []) : s.nextQueue = some 0 := by
  have head : ((s.cipher.queues.getD 0 []).head?).isSome = true := by
    cases e : s.cipher.queues.getD 0 [] with
    | nil => exact absurd e waiting
    | cons x l => rfl
  exact if_pos head

/-- Whether the head of a queue has waited 100 µs. -/
def State.headWaited (s : State) (q : Nat) : Bool :=
  (((s.cipher.queues.getD q []).head?).map fun r => decide (100000 + r.queued ≤ s.elapsed)).getD false

theorem State.headWaited_iff {q : Nat} : s.headWaited q = true ↔ ∃ x l, s.cipher.queues.getD q [] = x :: l ∧ 100000 + x.queued ≤ s.elapsed := by
  unfold State.headWaited
  cases s.cipher.queues.getD q [] <;> simp

/-- The first queue from 1 to 3 whose head has waited. -/
theorem State.nextQueue_waited {q : Nat} (idle : s.cipher.queues.getD 0 [] = []) (from_ : 1 ≤ q) (upTo : q ≤ 3) (waited : s.headWaited q = true)
    (first : ∀ j, 1 ≤ j → j < q → s.headWaited j = false) : s.nextQueue = some q := by
  have found : [1, 2, 3].find? s.headWaited = some q := by
    obtain rfl | rfl | rfl : q = 1 ∨ q = 2 ∨ q = 3 := by omega
    · simp [waited]
    · simp [waited, first 1]
    · simp [waited, first 1, first 2]
  unfold State.nextQueue
  have heads (j : Nat) : ((s.cipher.queues.getD j []).head?.map fun r => decide (100000 + r.queued ≤ s.elapsed)).getD false = s.headWaited j := rfl
  simp only [idle, heads, found, List.head?_nil, Option.isSome_none, Bool.false_eq_true, if_false]

end

/-! ### An engine takes a request, and ends its operation -/

theorem getD_setAt_same {α : Type} {l : List α} {i : Nat} (f : α → α) (d : α) (inside : i < l.length) : (setAt l i f).getD i d = f (l.getD i d) := by
  simp [setAt, inside]

/-- The state with a request taken off the head of its queue. -/
def State.withQueue (s : State) (q : Nat) (l : List Request) : State :=
  { s with cipher := { s.cipher with queues := setAt s.cipher.queues q fun _ => l } }

theorem getD_length_of_ne_nil {α : Type} {l : List (List α)} {i : Nat} {x : α} {m : List α} (some_ : l.getD i [] = x :: m) : i < l.length := by
  by_contra beyond
  rw [List.getD_eq_default _ _ (Nat.not_lt.mp beyond)] at some_
  cases some_

section
variable {s : State} {e q : Nat} {x : Request} {l : List Request} (engine : e < 5) (serving : s.unitState 3 e = .serving)
  (free : Table.find s.cipher.engines e = none) (on : s.on .sec = true) (next : s.nextQueue = some q) (head : s.cipher.queues.getD q [] = x :: l)
include engine serving free on next head

theorem execCipherOpStart_takes : execCipherOpStart e s = .next (if s.mayServe x then
      let op : Operation := { request := x, key := (Table.find s.cipher.keys x.page).getD [], generation := s.pageGeneration x.page }
      { s.withQueue q l with cipher := { (s.withQueue q l).cipher with engines := Table.put s.cipher.engines e op } }
    else (s.withQueue q l).refuseRequest x) := by
  have goes_on : ¬ (decide (5 ≤ e) || s.unitState 3 e != .serving || (Table.find s.cipher.engines e).isSome || !s.on .sec) = true := by
    simp [engine, serving, free, on]
  unfold execCipherOpStart
  rw [if_neg goes_on]
  simp only [next, head]
  rfl

end

@[simp] theorem State.scoreError_cipher (s : State) (kind unit : Nat) : (s.scoreError kind unit).2.cipher = s.cipher := by
  unfold State.scoreError State.setScore
  dsimp only
  split
  · rfl
  · split <;> rfl

/-- The state with an engine free. -/
def State.engineFreed (s : State) (e : Nat) : State :=
  { s with cipher := { s.cipher with engines := Table.drop s.cipher.engines e } }

section
variable {s : State} {e : Nat} {o : Operation} (busy : Table.find s.cipher.engines e = some o)
include busy

theorem execCipherOpDone_passed : execCipherOpDone e true s = .next ((s.engineFreed e).concludeOp o) := by
  simp only [execCipherOpDone, busy]
  rfl

theorem execCipherOpDone_again (few : o.request.executions < 3) (below : ((s.engineFreed e).scoreError 3 e).1 = false) :
    execCipherOpDone e false s = .next (
      let t := ((s.engineFreed e).scoreError 3 e).2.bumpFld (Reg.ciphEngStat e) 31 16
      { t with cipher := { t.cipher with
          queues := setAt t.cipher.queues o.request.purpose.queue ({ o.request with executions := o.request.executions + 1 } :: ·) } }) := by
  have again : ¬ 3 ≤ o.request.executions := Nat.not_le.mpr few
  simp only [execCipherOpDone, busy, again, if_false, Bool.false_eq_true]
  change Host.Outcome.next (if ((s.engineFreed e).scoreError 3 e).1 = true then _ else _) = _
  rw [below]
  rfl

end

/-! ### The replay window (R405) -/

section
variable {k : LinkRecord} {counter current : Nat} (valid : k.valid = true)
include valid

theorem LinkRecord.accept_ahead (ahead : k.top < counter) : ∃ w, bit w 0 = true
    ∧ k.accept counter k.topGeneration current = some { k with top := counter, topGeneration := k.topGeneration, window := w } := by
  have low : bit (if 32 ≤ counter - k.top then 1 else (k.window * 2 ^ (counter - k.top) + 1) % 2 ^ 32) 0 = true := by
    split
    · decide
    · obtain ⟨d, step⟩ : ∃ d, counter - k.top = d + 1 := ⟨counter - k.top - 1, by omega⟩
      have even : k.window * 2 ^ (counter - k.top) = 2 * (k.window * 2 ^ d) := by rw [step, Nat.pow_succ]; ring
      rw [even]
      simp [bit]
  exact ⟨_, low, by simp [LinkRecord.accept, valid, ahead]⟩

theorem LinkRecord.accept_within (behind : counter ≤ k.top) (near : k.top - counter ≤ 31) (new : bit k.window (k.top - counter) = false) :
    k.accept counter k.topGeneration current = some { k with window := k.window + 2 ^ (k.top - counter) } := by
  simp [LinkRecord.accept, valid, Nat.not_lt.mpr behind, near, new]

/-- A counter seen, and one behind the window, are replays. -/
theorem LinkRecord.accept_replay (behind : counter ≤ k.top) (seen : 31 < k.top - counter ∨ bit k.window (k.top - counter) = true) :
    k.accept counter k.topGeneration current = none := by
  rcases seen with far | marked
  · simp [LinkRecord.accept, valid, Nat.not_lt.mpr behind, Nat.not_le.mpr far]
  · simp [LinkRecord.accept, valid, Nat.not_lt.mpr behind, marked]

end

theorem bit_add_self {w i : Nat} (clear : bit w i = false) : bit (w + 2 ^ i) i = true := by
  have low : w / 2 ^ i % 2 = 0 := by
    simp only [bit, decide_eq_false_iff_not] at clear
    omega
  have up : (w + 2 ^ i) / 2 ^ i = w / 2 ^ i + 1 := Nat.add_div_right _ (Nat.two_pow_pos i)
  simp only [bit, up, decide_eq_true_eq]
  omega

/-! ### Alarms and the backup registers -/

theorem State.clearBackup_reg (s : State) {i : Nat} (register : i < 8) : s.clearBackup.reg (Reg.rtcBkpData i) = 0 := by
  have cleared (l : List Nat) (t : State) : (l.foldl (fun (t : State) i => t.setReg (Reg.rtcBkpData i) 0) t).reg (Reg.rtcBkpData i)
      = if i ∈ l then 0 else t.reg (Reg.rtcBkpData i) := by
    induction l generalizing t with
    | nil => rfl
    | cons j l ih =>
      rw [List.foldl_cons, ih]
      by_cases same : i = j
      · rw [same, State.reg_setReg]
        simp
      · have apart : Reg.rtcBkpData i ≠ Reg.rtcBkpData j := by
          unfold Reg.rtcBkpData
          omega
        rw [State.reg_setReg_ne _ _ apart]
        simp [same]
  rw [State.clearBackup, cleared, if_pos (List.mem_range.mpr register)]

@[simp] theorem State.clearBackup_sec (s : State) : s.clearBackup.sec = s.sec := by
  refine foldl_keeps State.sec (fun _ _ => ?_) _ _
  rfl

theorem execAlarmDetected_inactive {s : State} {alarm : Alarm} (inactive : s.alarmActive alarm = false) : execAlarmDetected alarm s = .next s := by
  simp [execAlarmDetected, inactive]

section
variable {s : State} {alarm : Alarm} (active : s.alarmActive alarm = true)
include active

theorem execAlarmDetected_backup (backup : s.powerState = 4) :
    execAlarmDetected alarm s = .next ({ s with sec := { s.sec with backupTamper := true } }).clearBackup := by
  simp [execAlarmDetected, active, backup]

theorem execAlarmDetected_sounds (powered : s.powerState ≠ 4) : execAlarmDetected alarm s = .next (
    if alarm = .tamper then (((s.clearBackup.voidNonce).closeDebug 6).sound 0 0).wakeSource 5
    else if alarm = .shield then ((s.clearBackup.voidNonce).closeDebug 6).sound 1 0 else s.sound (alarmLatch alarm) (alarmReason alarm)) := by
  cases alarm <;> simp [execAlarmDetected, active, powered, alarmLatch, alarmReason]

end

/-! ### The previous page, and KEY_STATUS -/

theorem execPrevPageHoldExpiry_ends {s : State} {due : Nat} (held : s.cipher.prevDue = some due) : execPrevPageHoldExpiry s
    = .next (let t := (s.reachElapsed due).setFlag Reg.ciphRadioCfg 8 false; { t with cipher := { t.cipher with prevDue := none } }) := by
  simp only [execPrevPageHoldExpiry, held]

/-- What KEY_STATUS answers. -/
def State.pageWords (s : State) : Bytes :=
  (List.range 16).flatMap fun i => le 4 (s.reg (Reg.ciphPageCfg i)).toNat ++ le 4 (s.reg (Reg.ciphPageKcv i)).toNat

theorem State.pageWords_shows (s : State) : s.pageWords.length = 128
    ∧ ∀ i, i < 16 → num s.pageWords (8 * i) 4 = (s.reg (Reg.ciphPageCfg i)).toNat ∧ num s.pageWords (8 * i + 4) 4 = (s.reg (Reg.ciphPageKcv i)).toNat := by
  have whole (i : Nat) : (le 4 (s.reg (Reg.ciphPageCfg i)).toNat ++ le 4 (s.reg (Reg.ciphPageKcv i)).toNat : Bytes).length = 8 := by simp
  refine ⟨?_, fun i page => ?_⟩
  · rw [State.pageWords, length_flatMap_entry whole, List.length_range]
  · have at_i : (List.range 16)[i]? = some i := by simp [page]
    have entry (off : Nat) (within : off + 4 ≤ 8) := num_flatMap_entry whole at_i within
    refine ⟨(entry 0 (by decide)).trans ?_, (entry 4 (by decide)).trans ?_⟩
    · rw [num_append_within (by simp), num_le_word]
    · rw [num_append_beyond (by simp), length_le, Nat.sub_self, num_le_word]

/-- Settles O46: each part by the rule for it above. -/
theorem cipherServed : Obligations.CipherServed := by
  intro s e c p
  refine ⟨State.nextQueue_transmit, ?_, ?_, ?_, ?_, ?_, ?_, ?_, ?_, ?_⟩
  · intro q x l idle from_ upTo head waited first
    refine State.nextQueue_waited idle from_ upTo (State.headWaited_iff.mpr ⟨x, l, head, waited⟩) fun j after before => ?_
    by_contra early
    obtain ⟨y, m, other, due⟩ := State.headWaited_iff.mp (Bool.not_eq_false _ ▸ early)
    exact absurd due (Nat.not_le.mpr (first j y m after before other))
  · intro q x l engine serving free on next head
    have takes := execCipherOpStart_takes engine serving free on next head
    refine ⟨fun refused => ?_, fun served => ?_⟩
    · rw [refused] at takes
      exact takes
    · rw [served] at takes
      exact ⟨_, takes, getD_setAt_same _ _ (getD_length_of_ne_nil head), Table.find_put _ _ _⟩
  · intro mask
    rw [State.erasePages_eq, State.inbandPageChanged_cipher]
    exact foldl_keeps (f := State.erasePage) (fun t : State => t.cipher.engines) (fun _ _ => rfl) _ _
  · intro o busy
    refine ⟨fun id run => ⟨fun out result => ?_, fun failed => ?_⟩, fun few below inside => ?_⟩
    · refine (execCipherOpDone_passed busy).trans ?_
      simp only [State.concludeOp, run, result]
      rfl
    · refine (execCipherOpDone_passed busy).trans ?_
      simp only [State.concludeOp, run, failed]
      rfl
    · refine ⟨_, execCipherOpDone_again busy few below, ?_, ?_⟩
      · simp only [State.bumpFld_cipher, State.scoreError_cipher]
        exact Table.find_drop _ _
      · simp only [State.bumpFld_cipher, State.scoreError_cipher]
        exact getD_setAt_same _ _ inside
  · rintro k counter _ current valid rfl
    refine ⟨fun ahead => ?_, fun behind near new => ?_, fun far => ?_⟩
    · obtain ⟨w, marked, accepted⟩ := k.accept_ahead (current := current) valid ahead
      refine ⟨_, accepted, rfl, marked, LinkRecord.accept_replay (k := { k with top := counter, window := w }) valid (le_refl _) (.inr ?_)⟩
      simpa using marked
    · exact ⟨_, LinkRecord.accept_within valid behind near new, rfl,
        LinkRecord.accept_replay (k := { k with window := k.window + 2 ^ (k.top - counter) }) valid behind (.inr (bit_add_self new))⟩
    · exact LinkRecord.accept_replay valid (by omega) (.inl (by omega))
  · refine fun alarm => ⟨execAlarmDetected_inactive, execAlarmDetected_sounds, fun active backup =>
      ⟨_, execAlarmDetected_backup active backup, ?_, fun i register => State.clearBackup_reg _ register⟩⟩
    rw [State.clearBackup_sec]
  · intro due held
    refine ⟨_, execPrevPageHoldExpiry_ends held, ?_, rfl, ?_, ?_, ?_⟩
    · exact (le_max_right _ _).trans_eq (State.reachElapsed_elapsed _ _).symm
    · exact State.flag_setFlag _ _ _ (by decide)
    · exact (State.fld_setFlag_other _ _ _ (by decide) (.inl (by decide))).trans (State.reachElapsed_fld _ _ _ _ _)
    · exact (State.fld_setFlag_other _ _ _ (by decide) (.inr (by decide))).trans (State.reachElapsed_fld _ _ _ _ _)
  · exact fun ready => ⟨_, congrArg _ (State.run_ready ready _), (s.received c).pageWords_shows⟩
  · exact fun ready room => ⟨_, _, congrArg _ (State.run_ready ready _), getD_setAt_same _ _ room, rfl, rfl, rfl, rfl, rfl, rfl⟩

end Sys2Proof.Machine
end

section
/-! SUPPORT. What a reply, the end of a command and a service request leave of the device. -/

namespace Sys2Proof.Machine

/-- Whether a state is another one but for what replies and events move: the host side, the packet buffer with its
status register, and the chain. -/
structure State.AnswersTo (s t : State) : Prop where
  reports : s.ReportsTo t
  regs : s.SameRegs t

theorem State.AnswersTo.refl (s : State) : s.AnswersTo s := ⟨.refl s, .refl s⟩

section
variable {s t : State} (h : s.AnswersTo t)
include h

theorem State.AnswersTo.of_regs {u : State} (reports : t.ReportsTo u) (same : u.regs = t.regs) : s.AnswersTo u :=
  ⟨h.reports.trans reports, h.regs.of_regs same⟩

theorem State.AnswersTo.foldl {α : Type} {f : State → α → State} (keeps : ∀ {t : State} (a : α), s.AnswersTo t → s.AnswersTo (f t a))
    (l : List α) : s.AnswersTo (l.foldl f t) := by
  induction l generalizing t with
  | nil => exact h
  | cons a l ih => exact ih (keeps a h)

theorem State.AnswersTo.withHost {x : HostPort} : s.AnswersTo { t with host := x } := h.of_regs ⟨_, _, _, _, rfl⟩ rfl

theorem State.AnswersTo.modSession {n : Nat} {f : Session → Session} : s.AnswersTo (t.modSession n f) := h.withHost

theorem State.AnswersTo.msi {v : Nat} : s.AnswersTo (t.msi v) := h.withHost

theorem State.AnswersTo.pushPrivileged {node : Nat} {x : Copy} : s.AnswersTo (t.pushPrivileged node x) :=
  ⟨h.reports.pushPrivileged, h.regs.pushPrivileged⟩

theorem State.AnswersTo.pumpRing {n ring : Nat} : s.AnswersTo (t.pumpRing n ring) := ⟨h.reports.pumpRing, h.regs.pumpRing⟩

theorem State.AnswersTo.raise {code severity : Nat} {body : Bytes} {status : Nat} : s.AnswersTo (t.raise code severity body status) :=
  ⟨h.reports.raise, h.regs.raise⟩

theorem State.AnswersTo.deliver {n : Nat} {ep : Endpoint} {r : Reply} : s.AnswersTo (t.deliver n ep r) := by
  unfold State.deliver
  split
  · split
    · exact State.AnswersTo.pumpRing h.withHost
    · exact h
  · split
    · exact h.modSession
    · exact h.withHost
  · exact h.pushPrivileged
  · exact h
  · exact h.pushPrivileged

theorem State.AnswersTo.reply {o : Origin} {status : Nat} {result : Bytes} : s.AnswersTo (t.reply o status result) := by
  have cached (f : Session → Session) : s.AnswersTo (if t.bound o.session o.ep then t.modSession o.session f else t) := by
    split
    · exact h.modSession
    · exact h
  unfold State.reply
  dsimp only
  split
  · exact cached _
  · exact (cached _).deliver

theorem State.AnswersTo.answerCancel {n tag : Nat} : s.AnswersTo (t.answerCancel n tag) := by
  unfold State.answerCancel
  split
  · exact h.modSession.reply
  · exact h

theorem State.AnswersTo.conclude {o : Origin} {status : Nat} {result : Bytes} : s.AnswersTo (t.conclude o status result) :=
  h.reply.answerCancel

theorem State.AnswersTo.answerBroadcast {n tag d status : Nat} : s.AnswersTo (t.answerBroadcast n tag d status) := by
  unfold State.answerBroadcast
  split
  · split
    · dsimp only
      split
      · exact h.modSession.conclude
      · exact h.modSession
    · exact h
  · exact h

theorem State.AnswersTo.finish {o : Outstanding} {status : Nat} {result : Bytes} : s.AnswersTo (t.finish o status result) := by
  unfold State.finish
  dsimp only
  split
  · exact h.modSession.answerBroadcast
  · exact h.modSession.conclude

theorem State.AnswersTo.finishWork {p : Work → Bool} {status : Nat} {result : Bytes} : s.AnswersTo (t.finishWork p status result) :=
  h.foldl (fun _ answers => answers.finish) _

theorem State.AnswersTo.noteSummary {old : State} : s.AnswersTo (t.noteSummary old) := by
  unfold State.noteSummary
  split
  · exact h
  · exact h.msi

theorem State.AnswersTo.reg {a : Nat} (other : a ≠ Reg.tmBufStat) : t.reg a = s.reg a := h.regs a other

/-- What a report leaves of a part that it does not move. -/
theorem State.AnswersTo.part_eq {β : Type} (part : State → β) (unmoved : ∀ (u : State) regs host tm chain,
    part { u with regs := regs, host := host, tm := tm, chain := chain } = part u) : part t = part s := by
  obtain ⟨_, _, _, _, e⟩ := h.reports
  rw [e, unmoved]

theorem State.AnswersTo.dram_eq : t.dram = s.dram := h.part_eq (·.dram) fun _ _ _ _ _ => rfl

theorem State.AnswersTo.darn_eq : t.darn = s.darn := h.part_eq (·.darn) fun _ _ _ _ _ => rfl

end

end Sys2Proof.Machine
end

section
/-! SUPPORT. One access to the DRAM: what a retired row, an activation and a touched bank leave of it (R412 to R422). -/

namespace Sys2Proof.Machine

/-! ### Rows retired -/

@[simp] theorem State.setSvc_dram (s : State) (b : Nat) : (s.setSvc b).dram = s.dram := by
  unfold State.setSvc
  split
  · rfl
  · exact ((State.AnswersTo.refl (s.setFlag Reg.darnSvc b true)).raise.noteSummary).dram_eq

@[simp] theorem State.finishWork_dram (s : State) (p : Work → Bool) (status : Nat) (result : Bytes) :
    (s.finishWork p status result).dram = s.dram := (State.AnswersTo.refl s).finishWork.dram_eq

@[simp] theorem State.logDarn_dram (s : State) (kind unitKind unit spare cause : Nat) :
    (s.logDarn kind unitKind unit spare cause).dram = s.dram := rfl

@[simp] theorem State.setScore_dram (s : State) (kind unit : Nat) (x : Score) : (s.setScore kind unit x).dram = s.dram := by
  unfold State.setScore
  dsimp only
  split <;> rfl

@[simp] theorem State.darnCount_dram (s : State) (j : Nat) : (s.darnCount j).dram = s.dram := rfl

@[simp] theorem State.scoreError_dram (s : State) (kind unit : Nat) : (s.scoreError kind unit).2.dram = s.dram := by
  unfold State.scoreError
  split
  · rfl
  · exact State.setScore_dram _ _ _ _

@[simp] theorem State.fence_row_dram (s : State) (u : Nat) : (s.fence 4 u).dram = s.dram := by
  have counted : (((s.setUnit 4 u .retired).setScore 4 u ⟨255, (s.scoreOf 4 u).errors⟩).darnCount 1).dram = s.dram :=
    State.setScore_dram _ _ _ _
  unfold State.fence
  dsimp only
  split
  · next high => exact absurd high (by decide)
  · split
    · split
      · exact counted
      · exact counted
    · exact counted
    · exact counted

/-- A class's report of few or no spares left. -/
def State.classReported (s : State) (k : Nat) (spare : Option Nat) (needed : Bool) : State :=
  if 6 < k then s
  else if spare.isSome then
    if s.sparesLeft k ≤ s.fld (Reg.darnClassCfg k) 31 24 then s.raise 0x7001 1 (le 1 k ++ le 1 (s.sparesLeft k)) else s
  else if needed then (s.setFlag (Reg.darnClassStat k) 24 true).setSvc k else s

theorem State.classReported_dram (s : State) (k : Nat) (spare : Option Nat) (needed : Bool) : (s.classReported k spare needed).dram = s.dram := by
  unfold State.classReported
  split
  · rfl
  · split
    · split
      · exact State.raise_dram _ _ _ _ _
      · rfl
    · split
      · rw [State.setSvc_dram, State.setFlag_dram]
      · rfl

/-- A retirement logged and reported. -/
def State.retireReported (s : State) (k u cause : Nat) (spare : Option Nat) (took : Nat) : State :=
  let t := (s.setFld Reg.darnStat 31 16 (max (s.fld Reg.darnStat 31 16) (min 0xFFFF took))).logDarn 0 k u (spare.getD 0xFFFF) cause
  t.raise 0x7000 (if spare.isSome then 1 else 2)
    (le 1 k ++ le 2 u ++ le 2 (spare.getD 0xFFFF) ++ le 1 cause ++ le 2 (min 0xFFFF took) ++ le 1 (if k ≤ 6 then t.sparesLeft k else 0)) Status.unitRetired

theorem State.concludeRetire_eq (s : State) (k u cause : Nat) (spare : Option Nat) (took : Nat) (needed : Bool) :
    s.concludeRetire k u cause spare took needed
      = ((s.retireReported k u cause spare took).classReported k spare needed).finishWork (Work.retires k u) Status.ok (le 2 (spare.getD 0xFFFF)) := rfl

@[simp] theorem State.concludeRetire_dram (s : State) (k u cause : Nat) (spare : Option Nat) (took : Nat) (needed : Bool) :
    (s.concludeRetire k u cause spare took needed).dram = s.dram := by
  rw [State.concludeRetire_eq, State.finishWork_dram, State.classReported_dram, State.retireReported, State.raise_dram, State.logDarn_dram, State.setFld_dram]

/-- A row's remap entry written, with what is left of the spares. -/
def State.rowRemapped (s : State) (channel e key r : Nat) : State :=
  let s := s.setReg (Reg.dramRemap channel e) (word (1 + 2 * key + r * 2 ^ 21))
  let s := s.setFld Reg.dramSpareStat (8 * channel + 5) (8 * channel) (s.rowsLeft channel - 1)
  (s.setFld (Reg.darnClassStat 4) 15 8 (min (s.rowsLeft 0) (s.rowsLeft 1))).bump64 (Reg.dramCntLo 9)

theorem State.rowRemapped_dram (s : State) (channel e key r : Nat) : (s.rowRemapped channel e key r).dram = s.dram := by
  rw [State.rowRemapped, State.bump64_dram, State.setFld_dram, State.setFld_dram, State.setReg_dram]

/-- The entries of a channel's remapped rows, and the spare rows taken of a bank. -/
def State.rowsTaken (s : State) (channel key : Nat) : List Nat :=
  ((s.remapped channel).filter fun e => s.remapOf channel e % 16 == key % 16).map fun e => s.fld (Reg.dramRemap channel e) 23 21

theorem State.retireRow_eq (s : State) (row cause : Nat) : s.retireRow row cause = if s.unitState 4 row = .retired then (none, s) else
    let f := s.fence 4 row; let channel := row / 2 ^ 20; let key := remapKey row
    match (List.range 32).find? (fun e => !(f.remapped channel).contains e), (List.range 8).find? (fun r => !(f.rowsTaken channel key).contains r) with
    | some e, some r =>
      let t := f.rowRemapped channel e key r
      (some (e, r), (t.raise 0x5101 0 (le 1 channel ++ le 1 (key % 2) ++ le 1 (key / 2 % 8) ++ le 2 (row % 65536) ++ le 1 e ++ le 1 (t.rowsLeft channel))).concludeRetire 4 row cause (some r) 0 true)
    | _, _ => (none, f.concludeRetire 4 row cause none 0 true) := rfl

@[simp] theorem State.retireRow_dram (s : State) (row cause : Nat) : (s.retireRow row cause).2.dram = s.dram := by
  rw [State.retireRow_eq]
  split
  · rfl
  · dsimp only
    split
    · dsimp only
      rw [State.concludeRetire_dram, State.raise_dram, State.rowRemapped_dram, State.fence_row_dram]
    · dsimp only
      rw [State.concludeRetire_dram, State.fence_row_dram]

/-- A read that finds no uncorrectable word. -/
theorem State.checkRead_dram (s : State) (p a region : Nat) {ecc : EccFault} (correctable : ecc ≠ .uncorrectable)
    (healthy : s.dram.poison.contains (a / 64) = false) : (s.checkRead p a ecc region).dram = s.dram := by
  unfold State.checkRead
  simp only [healthy, Bool.false_eq_true, if_false]
  cases ecc with
  | clean => rfl
  | corrected =>
    dsimp only
    split
    · rw [State.retireRow_dram, State.scoreError_dram]
      rfl
    · rw [State.scoreError_dram]
      rfl
  | uncorrectable => exact absurd rfl correctable

theorem State.checkRead_clean (s : State) (p a region : Nat) (healthy : s.dram.poison.contains (a / 64) = false) :
    s.checkRead p a .clean region = s := by
  unfold State.checkRead
  simp only [healthy, Bool.false_eq_true, if_false]

/-! ### Activations (R420) -/

/-- An activation of a bank whose activations are not throttled, counted. -/
def State.activated (s : State) (p bank : Nat) : State :=
  let t := s.bump64 (Reg.dramCntLo 2)
  { t with dram := { t.dram with
      acts := Table.put s.dram.acts (p * 32 + bank) ((Table.find s.dram.acts (p * 32 + bank)).getD 0 + 1)
      lastAct := Table.put s.dram.lastAct (p * 32 + bank) s.elapsed } }

/-- A port throttled on a bank. -/
def State.portThrottled (s : State) (p bank : Nat) : State :=
  let t := { s with dram := { s.dram with throttled := s.dram.throttled ++ [p * 32 + bank] } }
  (t.setFlag Reg.dramActFlag p true).setFlag (Reg.dramPortStat p) 7 true

/-- Whether an activation has to wait for the gap of a throttled bank. -/
def State.activationLate (s : State) (p bank : Nat) : Bool :=
  match Table.find s.dram.lastAct (p * 32 + bank) with
  | some t => s.dram.throttled.contains (p * 32 + bank) && decide (s.elapsed < t + s.fld Reg.dramActCtl 31 16)
  | none => false

/-- The state in which a bank that may have to wait is activated. -/
def State.activationDue (s : State) (p bank : Nat) : State :=
  if s.activationLate p bank then
    (s.reachElapsed (((Table.find s.dram.lastAct (p * 32 + bank)).getD 0) + s.fld Reg.dramActCtl 31 16)).bump64 (Reg.dramCntLo 8)
  else s

theorem State.activationDue_unthrottled {s : State} {p bank : Nat} (free : s.dram.throttled.contains (p * 32 + bank) = false) :
    s.activationDue p bank = s := by
  refine if_neg ?_
  rw [State.activationLate, free]
  split <;> simp

/-- Whether an activation passes the threshold of a bank not yet throttled. -/
def State.passesThreshold (s : State) (p bank : Nat) : Prop :=
  s.fld Reg.dramActCtl 15 0 ≤ (Table.find s.dram.acts (p * 32 + bank)).getD 0 + 1 ∧ ¬ s.dram.throttled.contains (p * 32 + bank) = true

/-- DRAM_ACT_THROTTLED, at the port's first throttled bank. -/
def State.throttleReported (s : State) (p bank n : Nat) (first : Bool) : State :=
  if first then s.raise 0x5102 1 (le 1 p ++ le 1 (bank / 16) ++ le 1 (bank / 8 % 2) ++ le 1 (bank % 8) ++ le 4 n) else s

theorem reg64_pair_ne {a b : Nat} (lo : b ≠ a) (hi : b ≠ a + 4) (s : State) (n : Nat) : (s.bump64 a n).reg b = s.reg b :=
  (State.reg_setReg_ne _ _ hi).trans (State.reg_setReg_ne _ _ lo)

theorem State.activated_reg (s : State) (p bank : Nat) {a : Nat} (other : a < 0x510100) : (s.activated p bank).reg a = s.reg a := by
  have apart : a ≠ Reg.dramCntLo 2 ∧ a ≠ Reg.dramCntLo 2 + 4 := by
    unfold Reg.dramCntLo
    omega
  exact reg64_pair_ne apart.1 apart.2 s 1

theorem State.activate_below (s : State) (p bank : Nat) (below : ¬ (s.activationDue p bank).passesThreshold p bank) :
    s.activate p bank = (s.activationDue p bank).activated p bank := by
  refine if_neg fun passes => below ⟨?_, passes.2⟩
  rw [← State.fld_of_reg ((s.activationDue p bank).activated_reg p bank (a := Reg.dramActCtl) (by decide))]
  exact passes.1

theorem State.activate_past (s : State) (p bank : Nat) (past : (s.activationDue p bank).passesThreshold p bank) :
    s.activate p bank = (((s.activationDue p bank).activated p bank).portThrottled p bank).throttleReported p bank
      ((Table.find (s.activationDue p bank).dram.acts (p * 32 + bank)).getD 0 + 1)
      (!((s.activationDue p bank).dram.throttled.any fun x => x / 32 == p)) := by
  refine if_pos ⟨?_, past.2⟩
  have same := State.fld_of_reg ((s.activationDue p bank).activated_reg p bank (a := Reg.dramActCtl) (by decide)) 15 0
  exact same.symm ▸ past.1

/-! ### A touched bank (R419) -/

/-- The state with a row of a bank open: activated where it was not. -/
def State.rowOpened (s : State) (p bank row : Nat) : State := if s.openRow bank == some row then s else s.activate p bank

/-- What the page policy leaves of a bank's predictor. -/
def predictorAfter (policy old : Nat) (hit : Bool) : Nat := if policy ≠ 0 then old else if hit then min (old + 1) 3 else old - 1

/-- A touched bank: its predictor, its last row, and whether the row stays open. -/
def State.bankTouched (s : State) (bank row new policy : Nat) : State :=
  { s with dram := { s.dram with
      predictors := if new = 2 then Table.drop s.dram.predictors bank else Table.put s.dram.predictors bank new
      last := Table.put s.dram.last bank row
      openRows := if policy = 1 ∨ (policy = 0 ∧ 2 ≤ new) then Table.put s.dram.openRows bank (row, s.elapsed) else Table.drop s.dram.openRows bank } }

theorem State.touchRow_eq (s : State) (p bank row : Nat) : s.touchRow p bank row =
    let hit := Table.find s.dram.last bank == some row
    let t := (s.rowOpened p bank row).bump64 (Reg.dramCntLo (if hit then 3 else 4))
    t.bankTouched bank row (predictorAfter (t.fld Reg.dramPageCtl 1 0) ((Table.find t.dram.predictors bank).getD 2) hit) (t.fld Reg.dramPageCtl 1 0) := rfl

/-- What an activation keeps of the DRAM, its configuration among it: all but its counts, its times and its throttles. -/
structure State.SameRows (s t : State) : Prop where
  cells : t.dram.cells = s.dram.cells
  poison : t.dram.poison = s.dram.poison
  predictors : t.dram.predictors = s.dram.predictors
  pageCtl : t.reg Reg.dramPageCtl = s.reg Reg.dramPageCtl
  cfg : t.reg Reg.dramCfg = s.reg Reg.dramCfg

theorem State.SameRows.refl (s : State) : s.SameRows s := ⟨rfl, rfl, rfl, rfl, rfl⟩

theorem State.SameRows.trans {s t u : State} (h : s.SameRows t) (next : t.SameRows u) : s.SameRows u :=
  ⟨next.cells.trans h.cells, next.poison.trans h.poison, next.predictors.trans h.predictors, next.pageCtl.trans h.pageCtl,
    next.cfg.trans h.cfg⟩

theorem State.SameRows.of_dram {s t : State} (dram : t.dram = s.dram) (low : ∀ a, a < 0x510014 → a ≠ Reg.tmBufStat → t.reg a = s.reg a) : s.SameRows t :=
  ⟨by rw [dram], by rw [dram], by rw [dram], low _ (by decide) (by decide), low _ (by decide) (by decide)⟩

theorem State.SameRows.bump64 (s : State) (i n : Nat) : s.SameRows (s.bump64 (Reg.dramCntLo i) n) := by
  refine .of_dram rfl fun a low _ => ?_
  have apart : a ≠ Reg.dramCntLo i ∧ a ≠ Reg.dramCntLo i + 4 := by
    unfold Reg.dramCntLo
    omega
  exact reg64_pair_ne apart.1 apart.2 s n

theorem State.SameRows.activationDue (s : State) (p bank : Nat) : s.SameRows (s.activationDue p bank) := by
  have due (t : Nat) : s.SameRows (s.reachElapsed t) := .of_dram (by rw [State.reachElapsed_eq]) fun _ _ _ => State.reachElapsed_reg _ _ _
  unfold State.activationDue
  split
  · exact (due _).trans (.bump64 _ _ _)
  · exact .refl s

theorem State.SameRows.activated (s : State) (p bank : Nat) : s.SameRows (s.activated p bank) :=
  ⟨rfl, rfl, rfl, s.activated_reg p bank (by decide), s.activated_reg p bank (by decide)⟩

theorem State.SameRows.portThrottled (s : State) (p bank : Nat) : s.SameRows (s.portThrottled p bank) := by
  have low {a : Nat} (below : a < 0x510014) : (s.portThrottled p bank).reg a = s.reg a := by
    have apart : a ≠ Reg.dramPortStat p ∧ a ≠ Reg.dramActFlag := by
      unfold Reg.dramPortStat Reg.dramActFlag
      omega
    exact (State.reg_setFlag_ne _ _ _ apart.1).trans (State.reg_setFlag_ne _ _ _ apart.2)
  exact ⟨rfl, rfl, rfl, low (by decide), low (by decide)⟩

theorem State.SameRows.throttleReported (s : State) (p bank n : Nat) (first : Bool) : s.SameRows (s.throttleReported p bank n first) := by
  unfold State.throttleReported
  split
  · exact .of_dram (State.raise_dram _ _ _ _ _) fun _ _ other => State.raise_reg _ _ _ _ _ other
  · exact .refl s

theorem State.SameRows.activate (s : State) (p bank : Nat) : s.SameRows (s.activate p bank) := by
  have counted := (State.SameRows.activationDue s p bank).trans (.activated _ p bank)
  by_cases past : (s.activationDue p bank).passesThreshold p bank
  · rw [State.activate_past _ _ _ past]
    exact (counted.trans (.portThrottled _ _ _)).trans (.throttleReported _ _ _ _ _)
  · rw [State.activate_below _ _ _ past]
    exact counted

theorem State.SameRows.rowOpened (s : State) (p bank row : Nat) : s.SameRows (s.rowOpened p bank row) := by
  unfold State.rowOpened
  split
  · exact .refl s
  · exact .activate _ _ _

theorem find_predictor (t : Table Nat) (bank new : Nat) : (Table.find (if new = 2 then Table.drop t bank else Table.put t bank new) bank).getD 2 = new := by
  split
  · next two => rw [Table.find_drop, two]; rfl
  · rw [Table.find_put]; rfl

/-- A touched bank, its predictor and the row that stands open. -/
theorem State.touchRow_shows (s : State) (p bank row : Nat) : let t := s.touchRow p bank row
    let hit := Table.find s.dram.last bank == some row; let old := (Table.find s.dram.predictors bank).getD 2
    let new := (Table.find t.dram.predictors bank).getD 2; let policy := s.fld Reg.dramPageCtl 1 0
    Table.find t.dram.last bank = some row ∧ new = predictorAfter policy old hit
      ∧ Table.find t.dram.openRows bank = (if policy = 1 ∨ (policy = 0 ∧ 2 ≤ new) then some (row, t.elapsed) else none)
      ∧ t.dram.cells = s.dram.cells ∧ t.reg Reg.dramCfg = s.reg Reg.dramCfg := by
  have same := (State.SameRows.rowOpened s p bank row).trans (.bump64 _ (if Table.find s.dram.last bank == some row then 3 else 4) 1)
  have policy := State.fld_of_reg same.pageCtl 1 0
  rw [State.touchRow_eq]
  dsimp only
  rw [policy, same.predictors]
  refine ⟨Table.find_put _ _ _, find_predictor _ _ _, ?_, same.cells, same.cfg⟩
  simp only [State.bankTouched, find_predictor]
  split
  · exact Table.find_put _ _ _
  · exact Table.find_drop _ _

theorem State.reg64_bump64 (s : State) (a n : Nat) : (s.bump64 a n).reg64 a = (s.reg64 a + n) % 2 ^ 64 := by
  rw [State.bump64, State.reg64_setReg64, Nat.mod_mod]

theorem State.reg64_bump64_dram (s : State) {i j : Nat} (n : Nat) (other : j ≠ i) :
    (s.bump64 (Reg.dramCntLo i) n).reg64 (Reg.dramCntLo j) = s.reg64 (Reg.dramCntLo j) := by
  have apart : (Reg.dramCntLo j ≠ Reg.dramCntLo i ∧ Reg.dramCntLo j ≠ Reg.dramCntLo i + 4)
      ∧ Reg.dramCntLo j + 4 ≠ Reg.dramCntLo i ∧ Reg.dramCntLo j + 4 ≠ Reg.dramCntLo i + 4 := by
    unfold Reg.dramCntLo
    omega
  rw [State.reg64, reg64_pair_ne apart.1.1 apart.1.2, reg64_pair_ne apart.2.1 apart.2.2, State.reg64]

/-- What a touch of the row that stands open counts: a hit or a conflict. -/
theorem State.touchRow_counts {s : State} {p bank row : Nat} (opened : s.openRow bank = some row) : let t := s.touchRow p bank row
    let k := if Table.find s.dram.last bank == some row then 3 else 4
    t.reg64 (Reg.dramCntLo k) = (s.reg64 (Reg.dramCntLo k) + 1) % 2 ^ 64
      ∧ ∀ j, j ≠ k → t.reg64 (Reg.dramCntLo j) = s.reg64 (Reg.dramCntLo j) := by
  have still : s.rowOpened p bank row = s := if_pos (by simp [opened])
  rw [State.touchRow_eq, still]
  exact ⟨State.reg64_bump64 _ _ _, fun j other => State.reg64_bump64_dram _ _ other⟩

/-! ### The level of a port's buffer (R417) -/

/-- The level and the panic of a port, written. -/
def State.levelWritten (s : State) (p level : Nat) (panic : Bool) : State :=
  (s.setFld (Reg.dramPortStat p) 5 0 level).setFlag (Reg.dramPortStat p) 6 panic

/-- Whether a level puts a port in panic. -/
def State.levelPanics (s : State) (p level : Nat) : Bool := decide (p < 4) && decide (s.fld (Reg.dramPortCfg p) 13 8 ≤ level)

theorem State.portLevel_eq (s : State) (p level : Nat) : s.portLevel p level =
    let now := s.levelPanics p level; let t := s.levelWritten p level now
    if now && !s.portPanic p then t.bumpFld (Reg.dramPortStat p) 31 16 else if s.portPanic p && !now then t.afterPanic else t := rfl

theorem State.afterPanic_cells (s : State) : s.afterPanic.dram.cells = s.dram.cells ∧ s.afterPanic.dram.poison = s.dram.poison := by
  unfold State.afterPanic
  split <;> exact ⟨rfl, rfl⟩

theorem State.afterPanic_stat (s : State) {p : Nat} (port : p < 5) : s.afterPanic.reg (Reg.dramPortStat p) = s.reg (Reg.dramPortStat p) := by
  have apart : Reg.dramPortStat p ≠ Reg.dramCntLo 10 ∧ Reg.dramPortStat p ≠ Reg.dramCntLo 10 + 4 := by
    unfold Reg.dramPortStat Reg.dramCntLo
    omega
  unfold State.afterPanic
  split
  · rfl
  · exact reg64_pair_ne apart.1 apart.2 s _

theorem State.portLevel_cells (s : State) (p level : Nat) :
    (s.portLevel p level).dram.cells = s.dram.cells ∧ (s.portLevel p level).dram.poison = s.dram.poison := by
  rw [State.portLevel_eq]
  dsimp only
  split
  · exact ⟨rfl, rfl⟩
  · split
    · exact State.afterPanic_cells _
    · exact ⟨rfl, rfl⟩

theorem State.portLevel_stat (s : State) {p level hi lo : Nat} (port : p < 5) (low : hi < 16) :
    (s.portLevel p level).fld (Reg.dramPortStat p) hi lo = (s.levelWritten p level (s.levelPanics p level)).fld (Reg.dramPortStat p) hi lo := by
  rw [State.portLevel_eq]
  dsimp only
  split
  · exact State.fld_setFld_other _ _ _ (by omega) (.inl low)
  · split
    · exact State.fld_of_reg (State.afterPanic_stat _ port) _ _
    · rfl

theorem State.portLevel_shows (s : State) {p level : Nat} (port : p < 5) (entries : level ≤ 32) :
    (s.portLevel p level).portPanic p = s.levelPanics p level ∧ (s.portLevel p level).fld (Reg.dramPortStat p) 5 0 = level := by
  constructor
  · rw [State.portPanic, State.flag, s.portLevel_stat port (by decide)]
    exact State.flag_setFlag _ _ _ (by decide)
  · rw [s.portLevel_stat port (by decide)]
    refine (State.fld_setFlag_other _ _ _ (by decide) (.inl (by decide))).trans ((State.fld_setFld _ _ _ (by decide)).trans ?_)
    omega

theorem State.arbitrates_iff (s : State) (p : Nat) :
    s.arbitrates p = true ↔ if s.portPanic p then ∀ j, j < p → s.portPanic j = false else ∀ j, j < 4 → s.portPanic j = false := by
  unfold State.arbitrates State.anyPanic
  split <;> simp

/-! ### One access -/

section
variable {s : State} {port a region level : Nat} {ecc : EccFault} (ready : s.dramReady = true) (inside : port < 5)
include ready inside

theorem execDramAccess_beyond (write : Option Bytes) (beyond : s.dramCapacity ≤ a) :
    execDramAccess port a write ecc region level s = .fault (.noDevice a) := by
  simp [execDramAccess, ready, Nat.not_le.mpr inside, beyond]

theorem execDramAccess_waits (write : Option Bytes) (within : a < s.dramCapacity) (waits : (s.portLevel port level).arbitrates port = false) :
    execDramAccess port a write ecc region level s = .next (s.portLevel port level) := by
  simp [execDramAccess, ready, Nat.not_le.mpr inside, Nat.not_le.mpr within, waits]

/-- The state in which an access that the arbiter takes transfers its data. -/
def State.accessTaken (s : State) (port a level : Nat) : State :=
  let t := s.portLevel port level
  (t.touchRow port (bankOf (t.dramRow a)) (t.openedRow (t.dramRow a))).portLevel port (level - 1)

omit ready inside in
theorem State.accessTaken_cells (s : State) (port a level : Nat) : (s.accessTaken port a level).dram.cells = s.dram.cells := by
  obtain ⟨_, _, _, cells, _⟩ := (s.portLevel port level).touchRow_shows port (bankOf ((s.portLevel port level).dramRow a))
    ((s.portLevel port level).openedRow ((s.portLevel port level).dramRow a))
  exact (State.portLevel_cells _ _ _).1.trans (cells.trans (State.portLevel_cells _ _ _).1)

section
variable (within : a < s.dramCapacity) (taken : (s.portLevel port level).arbitrates port = true)
include within taken

theorem execDramAccess_write (b : Bytes) (ecc : EccFault) (region : Nat) : execDramAccess port a (some b) ecc region level s = .next (
    let t := (s.accessTaken port a level).bump64 (Reg.dramCntLo 1) 64
    { t with dram := { t.dram with cells := Memory.writeBytes t.dram.cells 0 (a / 64 * 64) (padTo 64 b), poison := t.dram.poison.filter (· != a / 64) } }) := by
  have goes_on : ¬ (!s.dramReady || decide (5 ≤ port)) = true := by simp [ready, inside]
  unfold execDramAccess
  rw [if_neg goes_on, if_neg (Nat.not_le.mpr within)]
  simp only [taken]
  rfl

theorem execDramAccess_read : execDramAccess port a none ecc region level s
    = .next (((s.accessTaken port a level).bump64 (Reg.dramCntLo 0) 64).checkRead port a ecc region) := by
  have goes_on : ¬ (!s.dramReady || decide (5 ≤ port)) = true := by simp [ready, inside]
  unfold execDramAccess
  rw [if_neg goes_on, if_neg (Nat.not_le.mpr within)]
  simp only [taken]
  rfl

end

end

theorem getD_padTo {n i : Nat} {p : Bytes} (fits : p.length ≤ n) : (padTo n p).getD i 0 = p.getD i 0 := by
  rw [padTo, List.take_of_length_le fits]
  by_cases inside : i < p.length
  · simp [List.getD_eq_getElem?_getD, List.getElem?_append_left inside]
  · rw [List.getD_append_right _ _ _ _ (Nat.not_lt.mp inside), List.getD_eq_default p _ (Nat.not_lt.mp inside)]
    by_cases less : i - p.length < n - p.length <;> simp [List.getD_eq_getElem?_getD, less]

theorem length_padTo {n : Nat} {p : Bytes} (fits : p.length ≤ n) : (padTo n p).length = n := by
  rw [padTo, List.length_append, List.take_of_length_le fits, List.length_replicate]
  omega

theorem predictorAfter_eq (policy old : Nat) (hit : Bool) :
    predictorAfter policy old hit = if policy = 0 then (if hit = true then min (old + 1) 3 else old - 1) else old := by
  by_cases zero : policy = 0 <;> simp [predictorAfter, zero]

/-- Settles O47: an access by the level, the row and the transfer it comes to; activations by their threshold. -/
theorem dramAccessed : Obligations.DramAccessed := by
  intro s port a
  refine ⟨fun ready inside write ecc region level => ⟨execDramAccess_beyond ready inside write, fun within => ⟨execDramAccess_waits ready inside write within,
    fun taken => ⟨?_, ?_⟩⟩⟩, s.arbitrates_iff port, ?_, ?_, ?_⟩
  · rintro data rfl fits
    refine ⟨_, execDramAccess_write ready inside within taken data ecc region, fun x => ?_⟩
    dsimp only
    rw [Memory.read_writeBytes, length_padTo fits, getD_padTo fits, State.bump64_dram, State.accessTaken_cells]
  · rintro rfl
    have cells : ((s.accessTaken port a level).bump64 (Reg.dramCntLo 0) 64).dram.cells = s.dram.cells := s.accessTaken_cells port a level
    refine ⟨_, execDramAccess_read ready inside within taken, cells, fun correctable healthy => ?_, ?_⟩
    · rw [State.checkRead_dram _ _ _ _ correctable healthy, cells]
    · rintro rfl healthy
      exact State.checkRead_clean _ _ _ _ healthy
  · intro level inside entries
    obtain ⟨panic, shown⟩ := s.portLevel_shows inside entries
    exact ⟨by rw [panic, State.levelPanics, Bool.and_eq_true, decide_eq_true_eq, decide_eq_true_eq], shown⟩
  · intro bank row
    obtain ⟨last, new, opens, _, _⟩ := s.touchRow_shows port bank row
    rw [predictorAfter_eq] at new
    simp only [beq_iff_eq] at new
    refine ⟨last, new, opens, fun opened hit => ?_, fun opened miss => ?_⟩
    · obtain ⟨counted, others⟩ := State.touchRow_counts (p := port) opened
      rw [if_pos (beq_iff_eq.mpr hit)] at counted others
      exact ⟨counted, others 4 (by decide)⟩
    · obtain ⟨counted, others⟩ := State.touchRow_counts (p := port) opened
      rw [if_neg fun hit => miss (beq_iff_eq.mp hit)] at counted others
      exact ⟨counted, others 3 (by decide)⟩
  · intro bank inside k n free
    have due := State.activationDue_unthrottled (p := port) (bank := bank) free
    refine ⟨fun below => ?_, fun past => ?_⟩
    · rw [State.activate_below _ _ _ fun passes => absurd passes.1 (by rw [due]; exact Nat.not_le.mpr below), due]
      exact ⟨Table.find_put _ _ _, rfl⟩
    · have passes : (s.activationDue port bank).passesThreshold port bank := by
        rw [due]
        exact ⟨past, by rw [free]; decide⟩
      have apart : Reg.dramActFlag ≠ Reg.dramPortStat port := by
        unfold Reg.dramActFlag Reg.dramPortStat
        omega
      refine ⟨(s.activated port bank).portThrottled port bank, Table.find_put _ _ _, rfl, ?_, State.flag_setFlag _ _ _ (by decide), ?_⟩
      · exact (State.flag_setFlag_ne _ _ _ _ apart).trans (State.flag_setFlag _ _ _ (by omega))
      · rw [State.activate_past _ _ _ passes, due, State.throttleReported]
        cases s.dram.throttled.any fun x => x / 32 == port <;> rfl

end Sys2Proof.Machine
end

section
/-! SUPPORT. The DRAM's own events: refresh, readings, windows and the scrubber; and the DRAM commands (R414 to R423). -/

namespace Sys2Proof.Machine

/-! ### Errors found by a read -/

theorem State.retireRow_of_retired {s : State} {row cause : Nat} (retired : s.unitState 4 row = .retired) : s.retireRow row cause = (none, s) :=
  if_pos retired

section
variable {s : State} {port a region : Nat} (healthy : s.dram.poison.contains (a / 64) = false)
include healthy

theorem State.checkRead_corrected (below : (((s.bump64 (Reg.dramCntLo 5)).noteRow (s.dramRow a)).scoreError 4 (s.dramRow a)).1 = false) :
    s.checkRead port a .corrected region = (((s.bump64 (Reg.dramCntLo 5)).noteRow (s.dramRow a)).scoreError 4 (s.dramRow a)).2 := by
  unfold State.checkRead
  simp only [healthy, below, Bool.false_eq_true, if_false]

/-- An uncorrectable word counted and latched. -/
def State.wordLost (s : State) (a : Nat) : State := ((s.bump64 (Reg.dramCntLo 6)).noteRow (s.dramRow a)).setReg64 Reg.dramErrAddrLo a

/-- A lost word reported and scored. -/
def State.lossScored (s : State) (port a region : Nat) : State :=
  (((s.wordLost a).raise 0x5100 2 (le 8 a ++ le 1 port ++ le 1 region)).scoreError 4 (s.dramRow a)).2

theorem State.checkRead_lost (retired : (s.lossScored port a region).unitState 4 (s.dramRow a) = .retired) :
    s.checkRead port a .uncorrectable region = (s.lossScored port a region).loseData region a := by
  unfold State.lossScored State.wordLost at *
  unfold State.checkRead
  simp only [healthy, State.retireRow_of_retired retired, Bool.false_eq_true, if_false, Option.isSome_none, false_and]

end

theorem State.wordLost_shows (s : State) (a : Nat) : (a < 2 ^ 64 → (s.wordLost a).reg64 Reg.dramErrAddrLo = a)
    ∧ (s.wordLost a).reg64 (Reg.dramCntLo 6) = (s.reg64 (Reg.dramCntLo 6) + 1) % 2 ^ 64 := by
  refine ⟨fun small => (State.reg64_setReg64 _ _ _).trans (Nat.mod_eq_of_lt small), ?_⟩
  have kept (r : Nat) (apart : r ≠ Reg.dramErrAddrLo ∧ r ≠ Reg.dramErrAddrLo + 4) : (s.wordLost a).reg r = (s.bump64 (Reg.dramCntLo 6)).reg r :=
    (State.reg_setReg_ne _ _ apart.2).trans (State.reg_setReg_ne _ _ apart.1)
  rw [State.reg64, kept _ (by decide), kept _ (by decide)]
  exact State.reg64_bump64 _ _ _

/-! ### Refresh, readings and windows -/

section
variable {s : State} (ready : s.dramReady = true)
include ready

section
variable {channel rank : Nat} (used : s.rankUsed channel rank = true)
include used

/-- A refresh postponed. -/
def State.refreshPostponed (s : State) (k : Nat) : State :=
  { s with dram := { s.dram with postponed := Table.put s.dram.postponed k ((Table.find s.dram.postponed k).getD 0 + 1) } }

/-- A refresh issued: it closes its bank, and counts where it breaks in on panic. -/
def State.refreshIssued (s : State) (bank : Nat) : State :=
  let t := if s.anyPanic then s.bump64 (Reg.dramCntLo 7) else s
  { t with dram := { t.dram with openRows := Table.drop t.dram.openRows bank } }

theorem execRefreshDue_eq {bank : Nat} (inside : bank < 8) : execRefreshDue channel rank bank s = .next (
    if s.anyPanic = true ∧ (Table.find s.dram.postponed (channel * 2 + rank)).getD 0 < 8 then s.refreshPostponed (channel * 2 + rank)
    else s.refreshIssued (channel * 16 + rank * 8 + bank)) := by
  have goes_on : ¬ (!s.dramReady || !s.rankUsed channel rank || decide (8 ≤ bank)) = true := by simp [ready, used, Nat.not_le.mpr inside]
  unfold execRefreshDue
  rw [if_neg goes_on]
  simp only [Bool.and_eq_true, decide_eq_true_eq]
  rfl

/-- A rank's oscillator read. -/
def State.driftRead (s : State) (k : Nat) : State :=
  let t := s.reachElapsed (((Table.find s.dram.driftAt k).getD 0) + 1000000 * s.fld Reg.dramTrnCtl 15 0)
  { t with dram := { t.dram with driftAt := Table.put t.dram.driftAt k t.elapsed } }

omit ready used in
theorem State.driftRead_keeps (s : State) (k : Nat) : (∀ a, (s.driftRead k).reg a = s.reg a) ∧ (s.driftRead k).dram.deferred = s.dram.deferred
    ∧ (Table.find s.dram.driftAt k).getD 0 + 1000000 * s.fld Reg.dramTrnCtl 15 0 ≤ (s.driftRead k).elapsed :=
  ⟨fun _ => State.reachElapsed_reg _ _ _, by rw [State.driftRead, State.reachElapsed_eq],
    (le_max_right _ _).trans_eq (State.reachElapsed_elapsed _ _).symm⟩

omit ready used in
theorem State.anyPanic_of_regs {s t : State} (same : ∀ a, t.reg a = s.reg a) : t.anyPanic = s.anyPanic := by
  have ports : t.portPanic = s.portPanic := funext fun p => State.flag_of_reg (same _) 6
  rw [State.anyPanic, ports, State.anyPanic]

/-- What a reading does with a rank's drift: re-centred now, or left until panic ends. -/
theorem execDqsDriftCheck_eq (drift : Nat) : let k := channel * 2 + rank; let past := decide (s.fld Reg.dramTrnCtl 23 16 < drift); let t := s.driftRead k
    execDqsDriftCheck channel rank drift s = .next (
      if s.dram.deferred.contains k || (past && !s.anyPanic) then
        ({ t with dram := { t.dram with deferred := s.dram.deferred.filter (· != k) } }).bump64 (Reg.dramCntLo 10)
      else if past then { t with dram := { t.dram with deferred := s.dram.deferred ++ [k] } } else t) := by
  have goes_on : ¬ (!s.dramReady || !s.rankUsed channel rank) = true := by simp [ready, used]
  obtain ⟨regs, deferred, _⟩ := s.driftRead_keeps (channel * 2 + rank)
  unfold execDqsDriftCheck
  rw [if_neg goes_on]
  dsimp only
  rw [← deferred, ← State.anyPanic_of_regs regs, ← State.fld_of_reg (regs Reg.dramTrnCtl) 23 16]
  rfl

end

theorem execMr4ReadDue_eq {rate : Nat} (legal : rate ≤ 2) : execMr4ReadDue rate s = .next (
    let t := s.reachElapsed (16000000 + s.dram.mr4At)
    ({ t with dram := { t.dram with mr4At := t.elapsed } } : State).setFld Reg.dramStat 3 2 rate) := by
  have goes_on : ¬ (!s.dramReady || decide (2 < rate)) = true := by simp [ready, Nat.not_lt.mpr legal]
  unfold execMr4ReadDue
  rw [if_neg goes_on]

/-- The ports' throttles lifted. -/
def State.throttlesLifted (s : State) (ports : List Nat) : State :=
  ports.foldl (fun (s : State) p => s.setFlag (Reg.dramPortStat p) 7 false) s

omit ready in
theorem State.throttlesLifted_flag (ports : List Nat) (s : State) (p : Nat) (named : p ∈ ports ∨ s.flag (Reg.dramPortStat p) 7 = false) :
    (s.throttlesLifted ports).flag (Reg.dramPortStat p) 7 = false := by
  induction ports generalizing s with
  | nil => exact named.resolve_left List.not_mem_nil
  | cons q ports ih =>
    refine ih _ ?_
    by_cases same : p = q
    · exact .inr (same ▸ State.flag_setFlag _ _ _ (by decide))
    · have apart : Reg.dramPortStat p ≠ Reg.dramPortStat q := by
        unfold Reg.dramPortStat
        omega
      rw [State.flag_setFlag_ne _ _ _ _ apart]
      exact named.imp_left fun mem => (List.mem_cons.mp mem).resolve_left same

omit ready in
theorem State.throttlesLifted_reg (ports : List Nat) (s : State) : (s.throttlesLifted ports).reg Reg.dramActFlag = s.reg Reg.dramActFlag := by
  refine foldl_keeps (·.reg Reg.dramActFlag) (fun t p => ?_) ports s
  have apart : Reg.dramActFlag ≠ Reg.dramPortStat p := by
    unfold Reg.dramActFlag Reg.dramPortStat
    omega
  exact State.reg_setFlag_ne _ _ _ apart

/-- Activation counts and throttles started afresh. -/
def State.windowStarted (s : State) : State :=
  { s with dram := { s.dram with acts := [], lastAct := [], throttled := [], windowStart := s.elapsed } }

/-- When the window ends (R420). -/
def State.windowEnd (s : State) : Nat := s.dram.windowStart + (if s.fld Reg.dramStat 3 2 = 0 then 32000000 else 16000000)

theorem execActWindowEnd_eq : execActWindowEnd s = .next ((s.reachElapsed s.windowEnd).throttlesLifted (List.range 5)).windowStarted := by
  have goes_on : ¬ (!s.dramReady) = true := by simp [ready]
  exact congrArg Host.Outcome.next (if_neg goes_on)

omit ready in
theorem State.throttlesLifted_elapsed (ports : List Nat) (s : State) : (s.throttlesLifted ports).elapsed = s.elapsed := by
  refine foldl_keeps State.elapsed (fun t p => ?_) ports s
  rfl

omit ready in
theorem State.windowStarted_keeps (s : State) : s.windowStarted.dram.acts = [] ∧ s.windowStarted.dram.throttled = []
    ∧ s.windowStarted.elapsed = s.elapsed ∧ ∀ a, s.windowStarted.reg a = s.reg a := ⟨rfl, rfl, rfl, fun _ => rfl⟩

omit ready in
/-- A window's end on a device that waits for it. -/
theorem State.windowStarted_shows (s : State) (due : Nat) : let t := ((s.reachElapsed due).throttlesLifted (List.range 5)).windowStarted
    t.dram.acts = [] ∧ t.dram.throttled = [] ∧ t.reg Reg.dramActFlag = s.reg Reg.dramActFlag ∧ due ≤ t.elapsed
      ∧ ∀ port, port < 5 → t.flag (Reg.dramPortStat port) 7 = false := by
  obtain ⟨acts, throttled, elapsed, regs⟩ := ((s.reachElapsed due).throttlesLifted (List.range 5)).windowStarted_keeps
  refine ⟨acts, throttled, ?_, ?_, fun port inside => ?_⟩
  · rw [regs, State.throttlesLifted_reg, State.reachElapsed_reg]
  · rw [elapsed, State.throttlesLifted_elapsed, State.reachElapsed_elapsed]
    exact le_max_right _ _
  · rw [State.flag_of_reg (regs _)]
    exact State.throttlesLifted_flag _ _ _ (.inl (List.mem_range.mpr inside))

/-- The state with the address that the scrubber reads next. -/
def State.scrubNext (s : State) (a : Nat) : State := { s with dram := { s.dram with scrub := a } }

/-- The state in which the scrubber has touched its row. -/
def State.scrubTouched (s : State) : State := s.touchRow 4 (bankOf (s.dramRow s.dram.scrub)) (s.openedRow (s.dramRow s.dram.scrub))

/-- The state in which the scrubber has read its address. -/
def State.scrubbed (s : State) : State := s.scrubTouched.scrubNext ((s.dram.scrub + 64) % s.scrubTouched.dramCapacity)

theorem execScrubRead_eq (ecc : EccFault) (region : Nat) (installed : 0 < s.dramCapacity) :
    execScrubRead ecc region s = .next (s.scrubbed.checkRead 4 s.dram.scrub ecc region) := by
  have goes_on : ¬ (!s.dramReady || s.dramCapacity == 0) = true := by simp [ready, installed.ne']
  unfold execScrubRead
  rw [if_neg goes_on]
  rfl

end

theorem State.dramCapacity_of_cfg {s t : State} (cfg : t.reg Reg.dramCfg = s.reg Reg.dramCfg) : t.dramCapacity = s.dramCapacity := by
  have channels : t.dramChannels = s.dramChannels := List.filter_congr fun c _ => State.flag_of_reg cfg _
  have ranks : t.dramRanks = s.dramRanks := by rw [State.dramRanks, State.flag_of_reg cfg, State.dramRanks]
  rw [State.dramCapacity, channels, ranks, State.fld_of_reg cfg, State.dramCapacity]

theorem State.scrubNext_dram (s : State) (a : Nat) : (s.scrubNext a).dram.scrub = a ∧ (s.scrubNext a).dram.cells = s.dram.cells := ⟨rfl, rfl⟩

theorem State.scrubTouched_keeps (s : State) : s.scrubTouched.dram.cells = s.dram.cells ∧ s.scrubTouched.dramCapacity = s.dramCapacity := by
  obtain ⟨_, _, _, cells, cfg⟩ := s.touchRow_shows 4 (bankOf (s.dramRow s.dram.scrub)) (s.openedRow (s.dramRow s.dram.scrub))
  exact ⟨cells, State.dramCapacity_of_cfg cfg⟩

theorem State.scrubbed_shows (s : State) : s.scrubbed.dram.scrub = (s.dram.scrub + 64) % s.dramCapacity ∧ s.scrubbed.dram.cells = s.dram.cells := by
  obtain ⟨cells, capacity⟩ := s.scrubTouched_keeps
  obtain ⟨next, same⟩ := s.scrubTouched.scrubNext_dram ((s.dram.scrub + 64) % s.scrubTouched.dramCapacity)
  exact ⟨next.trans (by rw [capacity]), same.trans cells⟩

/-- While the DRAM is not ready nothing touches it. -/
theorem dram_unready {s : State} (unready : s.dramReady = false) (channel rank bank port a region level drift rate : Nat) (write : Option Bytes) (ecc : EccFault) :
    execDramAccess port a write ecc region level s = .next s ∧ execRefreshDue channel rank bank s = .next s ∧ execMr4ReadDue rate s = .next s
      ∧ execDqsDriftCheck channel rank drift s = .next s ∧ execActWindowEnd s = .next s ∧ execScrubRead ecc region s = .next s := by
  simp [execDramAccess, execRefreshDue, execMr4ReadDue, execDqsDriftCheck, execActWindowEnd, execScrubRead, unready]

/-! ### Commands (R423) -/

section
variable {s : State} {c : Cmd} {p : Bytes} (ready : s.Ready dramRowRetireSpec c p)
include ready

/-- The row that a DRAM_ROW_RETIRE names. -/
def namedRow (p : Bytes) : Nat := rowNumber (num p 0 1) (num p 1 1) (num p 2 1) (num p 4 2)

/-- Whether a channel has a row remapped. -/
def State.rowRemappedIn (s : State) (channel row : Nat) : Bool := (s.remapped channel).any fun e => s.remapOf channel e == remapKey row

theorem execDramRowRetire_refuses (remapped : (s.received c).rowRemappedIn (num p 0 1) (namedRow p) = true) :
    execDramRowRetire c p s = .next ((s.received c).refuse (originOf c 0x5101) Status.resourceBusy p) := by
  rw [execDramRowRetire, State.run_ready ready]
  exact congrArg (fun v => Host.Outcome.next ((s.received c).settle dramRowRetireSpec c v)) (if_pos remapped)

theorem execDramRowRetire_retires (remapped : (s.received c).rowRemappedIn (num p 0 1) (namedRow p) = false) :
    execDramRowRetire c p s = .next (((s.received c).retireRow (namedRow p) 3).2.reply (originOf c 0x5101) Status.ok
      (le 1 ((((s.received c).retireRow (namedRow p) 3).1.map (·.1)).getD 0xFF))) := by
  rw [execDramRowRetire, State.run_ready ready]
  exact congrArg (fun v => Host.Outcome.next ((s.received c).settle dramRowRetireSpec c v)) (if_neg (Bool.eq_false_iff.mp remapped))

end

/-- What DRAM_STATUS answers. -/
def State.dramWords (s : State) : Bytes := [Reg.dramCfg, Reg.dramStat, Reg.dramSpareStat, Reg.dramActFlag].flatMap fun a => le 4 (s.reg a).toNat

theorem State.dramWords_shows (s : State) : s.dramWords.length = 16 ∧ num s.dramWords 0 4 = (s.reg Reg.dramCfg).toNat
    ∧ num s.dramWords 4 4 = (s.reg Reg.dramStat).toNat ∧ num s.dramWords 8 4 = (s.reg Reg.dramSpareStat).toNat
    ∧ num s.dramWords 12 4 = (s.reg Reg.dramActFlag).toNat := by
  have whole (a : Nat) : (le 4 (s.reg a).toNat : Bytes).length = 4 := length_le _ _
  have entry {j a : Nat} (at_j : [Reg.dramCfg, Reg.dramStat, Reg.dramSpareStat, Reg.dramActFlag][j]? = some a) :
      num s.dramWords (4 * j + 0) 4 = (s.reg a).toNat := (num_flatMap_entry whole at_j (by decide)).trans (num_le_word _)
  exact ⟨length_flatMap_entry whole _, entry (j := 0) rfl, entry (j := 1) rfl, entry (j := 2) rfl, entry (j := 3) rfl⟩

/-- Settles O48: each event by the state it leaves, the commands by their result. -/
theorem dramServed : Obligations.DramServed := by
  intro s channel rank bank c p
  refine ⟨fun port a region healthy => ⟨State.checkRead_corrected healthy, ?_⟩, ?_, ?_, ?_, ?_, ?_, ?_, ?_, ?_⟩
  · exact ⟨(s.wordLost_shows a).1, (s.wordLost_shows a).2, State.checkRead_lost healthy⟩
  · intro ready used inside
    refine ⟨_, execRefreshDue_eq ready used inside, ?_⟩
    split
    · exact ⟨Table.find_put _ _ _, rfl⟩
    · cases panic : s.anyPanic
      · simp only [State.refreshIssued, panic]
        exact ⟨Table.find_drop _ _, rfl, rfl⟩
      · simp only [State.refreshIssued, panic]
        exact ⟨Table.find_drop _ _, rfl, State.reg64_bump64 _ _ _⟩
  · intro rate ready legal
    refine ⟨_, execMr4ReadDue_eq ready legal, ?_, ?_, rfl, (le_max_right _ _).trans_eq (State.reachElapsed_elapsed _ _).symm⟩
    · refine (State.fld_setFld _ _ _ (by decide)).trans ?_
      omega
    · have trained : s.flag Reg.dramStat 0 = true := by
        rw [State.dramReady, Bool.and_eq_true] at ready
        exact ready.1
      rw [State.flag, State.fld_setFld_other _ _ _ (by decide) (.inl (by decide))]
      exact (State.flag_of_reg (State.reachElapsed_reg _ _ _) 0).trans trained
  · intro drift ready used
    obtain ⟨regs, deferred, late⟩ := s.driftRead_keeps (channel * 2 + rank)
    have count : (s.driftRead (channel * 2 + rank)).reg64 (Reg.dramCntLo 10) = s.reg64 (Reg.dramCntLo 10) := by rw [State.reg64, regs, regs, State.reg64]
    refine ⟨_, execDqsDriftCheck_eq ready used drift, ?_, ?_, ?_, ?_⟩
    · split
      · exact late
      · split <;> exact late
    · intro due
      have now : (s.dram.deferred.contains (channel * 2 + rank) || (decide (s.fld Reg.dramTrnCtl 23 16 < drift) && !s.anyPanic)) = true := by
        simpa using due
      rw [if_pos now]
      exact ⟨(State.reg64_bump64 _ _ _).trans (by rw [← count]; rfl), by simp⟩
    · intro fresh past panic
      have later : ¬ (s.dram.deferred.contains (channel * 2 + rank) || (decide (s.fld Reg.dramTrnCtl 23 16 < drift) && !s.anyPanic)) = true := by
        rw [fresh, panic]; simp
      rw [if_neg later, if_pos (decide_eq_true past)]
      exact ⟨count, by simp⟩
    · intro fresh within
      have within_ := decide_eq_false within
      have later : ¬ (s.dram.deferred.contains (channel * 2 + rank) || (decide (s.fld Reg.dramTrnCtl 23 16 < drift) && !s.anyPanic)) = true := by
        rw [fresh, within_]; simp
      rw [if_neg later, if_neg (by rw [within_]; decide)]
      exact ⟨count, deferred⟩
  · intro ready
    exact ⟨_, execActWindowEnd_eq ready, s.windowStarted_shows s.windowEnd⟩
  · intro ecc region ready installed
    exact ⟨_, execScrubRead_eq ready ecc region installed, s.scrubbed_shows⟩
  · exact fun unready port a write ecc region level drift rate => dram_unready unready channel rank bank port a region level drift rate write ecc
  · exact fun ready => ⟨execDramRowRetire_refuses ready, execDramRowRetire_retires ready⟩
  · exact fun ready => ⟨_, congrArg _ (State.run_ready ready _), (s.received c).dramWords_shows⟩

end Sys2Proof.Machine
end

section
/-! SUPPORT. The clock monitors and the PLLs (R456 to R459). -/

namespace Sys2Proof.Machine

/-! ### A monitor window -/

/-- The bad windows that have run, and the good ones, at the end of a window. -/
def badRun (k count bad : Nat) : Nat := if goodCount k count then 0 else bad + 1

def goodRun (k count run : Nat) : Nat := if goodCount k count then min 100 (run + 1) else 0

/-- A window's count stored, and a bad one counted. -/
def State.countStored (s : State) (k count : Nat) : State :=
  let t := s.setFld (Reg.clkMonCnt k) 15 0 (min count 65535)
  if goodCount k count then t else t.bumpFld (Reg.clkMonCnt k) 31 16

/-- The state with the bad and the good windows of a source that have run. -/
def State.withRuns (s : State) (k bad good : Nat) : State :=
  { s with power := { s.power with failing := setAt s.power.failing k fun _ => bad, good := setAt s.power.good k fun _ => good } }

/-- A window stored, with the row of windows that it ends or goes on. -/
def State.windowStored (s : State) (k count : Nat) : State :=
  (s.countStored k count).withRuns k (badRun k count (s.power.failing.getD k 0)) (goodRun k count (s.power.good.getD k 0))

theorem State.withRuns_keeps (s : State) (k bad good : Nat) : (∀ a, (s.withRuns k bad good).reg a = s.reg a)
    ∧ (k < s.power.failing.length → (s.withRuns k bad good).power.failing.getD k 0 = bad)
    ∧ (k < s.power.good.length → (s.withRuns k bad good).power.good.getD k 0 = good) :=
  ⟨fun _ => rfl, getD_setAt_same _ _, getD_setAt_same _ _⟩

/-- The failure of a source. -/
def State.sourceFails (s : State) (k count : Nat) : State :=
  match k with
  | 0 => s.tcxoFails count
  | 1 => s.crystalFails count
  | _ => s.rcFails count

section
variable {s : State} {k count : Nat} (source : k ≤ 2)
include source

theorem monCnt_apart : Reg.clkSrcStat ≠ Reg.clkMonCnt k := by
  unfold Reg.clkSrcStat Reg.clkMonCnt
  omega

theorem State.windowStored_keeps : (s.windowStored k count).reg Reg.clkSrcStat = s.reg Reg.clkSrcStat := by
  have apart := monCnt_apart source
  refine ((s.countStored k count).withRuns_keeps k _ _).1 _ |>.trans ?_
  unfold State.countStored
  dsimp only
  split
  · exact State.reg_setFld_ne _ _ _ _ apart
  · exact (State.reg_bumpFld_ne _ _ _ _ apart).trans (State.reg_setFld_ne _ _ _ _ apart)

omit source in
theorem State.countStored_power : (s.countStored k count).power = s.power := by
  unfold State.countStored
  dsimp only
  split <;> rfl

omit source in
theorem State.countStored_count : (s.countStored k count).fld (Reg.clkMonCnt k) 15 0 = min count 65535
    ∧ (s.countStored k count).fld (Reg.clkMonCnt k) 31 16
      = if goodCount k count then s.fld (Reg.clkMonCnt k) 31 16 else min (s.fld (Reg.clkMonCnt k) 31 16 + 1) 65535 := by
  have stored : (s.setFld (Reg.clkMonCnt k) 15 0 (min count 65535)).fld (Reg.clkMonCnt k) 15 0 = min count 65535 := by
    rw [State.fld_setFld _ _ _ (by decide)]
    omega
  have above : (s.setFld (Reg.clkMonCnt k) 15 0 (min count 65535)).fld (Reg.clkMonCnt k) 31 16 = s.fld (Reg.clkMonCnt k) 31 16 :=
    State.fld_setFld_other _ _ _ (by decide) (.inr (by decide))
  unfold State.countStored
  dsimp only
  split
  · exact ⟨stored, above⟩
  · exact ⟨(State.fld_setFld_other _ _ _ (by decide) (.inl (by decide))).trans stored, by rw [State.fld_bumpFld _ _ _ (by decide), above]; rfl⟩

omit source in
theorem State.windowStored_count : (s.windowStored k count).fld (Reg.clkMonCnt k) 15 0 = min count 65535
    ∧ (s.windowStored k count).fld (Reg.clkMonCnt k) 31 16
      = if goodCount k count then s.fld (Reg.clkMonCnt k) 31 16 else min (s.fld (Reg.clkMonCnt k) 31 16 + 1) 65535 := by
  have same := ((s.countStored k count).withRuns_keeps k (badRun k count (s.power.failing.getD k 0)) (goodRun k count (s.power.good.getD k 0))).1
  rw [State.windowStored, State.fld_of_reg (same _), State.fld_of_reg (same _)]
  exact State.countStored_count

omit source in
theorem State.windowStored_runs (badInside : k < s.power.failing.length) (goodInside : k < s.power.good.length) :
    (s.windowStored k count).power.failing.getD k 0 = badRun k count (s.power.failing.getD k 0)
      ∧ (s.windowStored k count).power.good.getD k 0 = goodRun k count (s.power.good.getD k 0) := by
  have same : (s.countStored k count).power = s.power := State.countStored_power
  obtain ⟨_, failing, good⟩ := (s.countStored k count).withRuns_keeps k (badRun k count (s.power.failing.getD k 0)) (goodRun k count (s.power.good.getD k 0))
  exact ⟨failing (same ▸ badInside), good (same ▸ goodInside)⟩

theorem execClockMonitorWindow_eq (on : s.flag Reg.clkPllStat 9 = true) : execClockMonitorWindow k count s = .next (
    if s.flag Reg.clkSrcStat k && (count == 0 || decide (2 ≤ badRun k count (s.power.failing.getD k 0))) then (s.windowStored k count).sourceFails k count
    else if !s.flag Reg.clkSrcStat k && goodRun k count (s.power.good.getD k 0) == 100 then (s.windowStored k count).sourceGood k
    else s.windowStored k count) := by
  have goes_on : ¬ (!s.flag Reg.clkPllStat 9 || decide (2 < k)) = true := by simp [on, Nat.not_lt.mpr source]
  rw [← State.flag_of_reg (s.windowStored_keeps source)]
  exact congrArg Host.Outcome.next (if_neg goes_on)

end

theorem goodCount_zero (k : Nat) : goodCount k 0 = false := by
  unfold goodCount
  split <;> decide

/-- A source fails at a bad window with a count of 0 or after another. -/
theorem fails_iff {k count bad : Nat} (was : Bool) : (was && (count == 0 || decide (2 ≤ badRun k count bad))) = true
    ↔ was = true ∧ goodCount k count = false ∧ (count = 0 ∨ 1 ≤ bad) := by
  rw [Bool.and_eq_true, Bool.or_eq_true, beq_iff_eq, decide_eq_true_eq, badRun]
  refine and_congr_right fun _ => ?_
  rcases Nat.eq_zero_or_pos count with rfl | some_
  · simp [goodCount_zero]
  · cases good : goodCount k count
    · simp [some_.ne']
    · simp [some_.ne']

theorem goodAgain_iff {k count run : Nat} : goodRun k count run = 100 ↔ (goodCount k count && decide (99 ≤ run)) = true := by
  unfold goodRun
  cases goodCount k count
  · simp
  · simp

/-- A source that is good again: its bit is set; the counts of the windows stay. -/
theorem State.sourceGood_shows (s : State) {k : Nat} (source : k ≤ 2) : (s.sourceGood k).flag Reg.clkSrcStat k = true
    ∧ (s.sourceGood k).power = s.power ∧ (s.sourceGood k).reg (Reg.clkMonCnt k) = s.reg (Reg.clkMonCnt k) := by
  have apart := (monCnt_apart source).symm
  have shown : (s.setFlag Reg.clkSrcStat k true).flag Reg.clkSrcStat k = true := State.flag_setFlag _ _ _ (by omega)
  have ticking (t : State) : t.startTick.regs = t.regs ∧ t.startTick.power = t.power := by
    unfold State.startTick
    split <;> exact ⟨rfl, rfl⟩
  unfold State.sourceGood
  dsimp only
  split
  · next crystal =>
    obtain ⟨regs, power⟩ := ticking ((s.setFlag Reg.clkSrcStat k true).setFlag Reg.clkSrcStat 4 false)
    refine ⟨?_, power, ?_⟩
    · rw [State.flag_of_reg (State.reg_of_regs regs _), State.flag_setFlag_other _ _ _ (by omega) (by omega), shown]
    · rw [State.reg_of_regs regs, State.reg_setFlag_ne _ _ _ apart, State.reg_setFlag_ne _ _ _ apart]
  · exact ⟨shown, rfl, State.reg_setFlag_ne _ _ _ apart⟩

/-- The state in which the RC oscillator's failure is raised. -/
def State.rcFailed (s : State) : State := (s.setFlag Reg.clkSrcStat 2 false).setFlag Reg.clkFail 2 true

theorem State.rcFailed_shows (s : State) : s.rcFailed.flag Reg.clkSrcStat 2 = false ∧ s.rcFailed.flag Reg.clkFail 2 = true
    ∧ s.rcFailed.flag Reg.clkSrcStat 3 = s.flag Reg.clkSrcStat 3 := by
  refine ⟨(State.flag_setFlag_ne _ _ _ _ (by decide)).trans (State.flag_setFlag _ _ _ (by decide)), State.flag_setFlag _ _ _ (by decide), ?_⟩
  rw [State.rcFailed, State.flag_setFlag_ne _ _ _ _ (by decide), State.flag_setFlag_other _ _ _ (by decide) (by decide)]

/-! ### The failure of the TCXO -/

/-- The TCXO's failure noted. -/
def State.tcxoNoted (s : State) : State := (s.setFlag Reg.clkSrcStat 0 false).setFlag Reg.clkFail 0 true

/-- Radios, ports and grids stopped, and the outputs held. -/
def State.clocksStopped (s : State) : State :=
  let t := (List.range 3).foldl (fun (s : State) n => (s.abortTx n).radioDown n) s.settleTimers
  ((t.unpinAll.portsDown).selfRefresh.stopGrids).holdOutputs

/-- CTRL goes over to the RC oscillator, and every PLL stops. -/
def State.ctrlOnRc (s : State) : State := (s.setFld Reg.clkPllStat 8 0 0).setFlag Reg.clkSrcStat 3 true

theorem State.tcxoFails_eq (s : State) (count : Nat) : s.tcxoFails count
    = ((if s.tcxoNoted.flag Reg.clkSrcStat 2 then s.tcxoNoted.clocksStopped.ctrlOnRc.wakeSource 6 else s.tcxoNoted).raise 0x6001 3 ([0, 0] ++ le 4 count)).setSvc 12 := rfl

theorem State.tcxoNoted_shows (s : State) : s.tcxoNoted.flag Reg.clkSrcStat 0 = false ∧ s.tcxoNoted.flag Reg.clkFail 0 = true
    ∧ ∀ i, i < 32 → i ≠ 0 → s.tcxoNoted.flag Reg.clkSrcStat i = s.flag Reg.clkSrcStat i := by
  refine ⟨(State.flag_setFlag_ne _ _ _ _ (by decide)).trans (State.flag_setFlag _ _ _ (by decide)), State.flag_setFlag _ _ _ (by decide), fun i small other => ?_⟩
  rw [State.tcxoNoted, State.flag_setFlag_ne _ _ _ _ (by decide), State.flag_setFlag_other _ _ _ small other]

theorem State.ctrlOnRc_shows (s : State) : s.ctrlOnRc.flag Reg.clkSrcStat 3 = true ∧ s.ctrlOnRc.fld Reg.clkPllStat 8 0 = 0 :=
  ⟨State.flag_setFlag _ _ _ (by decide), (State.fld_setFlag_ne _ _ _ _ _ (by decide)).trans (State.fld_setFld _ _ _ (by decide))⟩

/-! ### PLLs -/

/-- A PLL's loss of lock, noted. -/
def State.lockNoted (s : State) (k : Nat) : State := ((s.setFlag Reg.clkPllStat k false).setFlag Reg.clkFail 3 true).setFld Reg.clkFail 15 8 k

/-- The state in which the loss of a PLL's lock is raised. -/
def State.lockLost (s : State) (k : Nat) : State := (s.lockNoted k).draw.2

theorem State.draw_reg (s : State) (a : Nat) : s.draw.2.reg a = s.reg a := rfl

section
variable {s : State} {k : Nat}

theorem execPllLockLoss_eq (locked : s.flag Reg.clkPllStat k = true) (pll : k < 9) : ∃ x, execPllLockLoss k s
    = .next ((((s.lockLost k).raise 0x6001 3 ([3] ++ le 1 k ++ le 4 x)).unitError 9 k).wakeSource 6) := by
  have goes_on : ¬ (!s.flag Reg.clkPllStat k || decide (9 ≤ k)) = true := by simp [locked, Nat.not_le.mpr pll]
  exact ⟨_, congrArg Host.Outcome.next (if_neg goes_on)⟩

theorem State.lockNoted_shows (pll : k < 9) : (s.lockNoted k).flag Reg.clkPllStat k = false ∧ (s.lockNoted k).flag Reg.clkFail 3 = true
    ∧ (s.lockNoted k).fld Reg.clkFail 15 8 = k ∧ ∀ j, j < 10 → j ≠ k → (s.lockNoted k).flag Reg.clkPllStat j = s.flag Reg.clkPllStat j := by
  have kept (i : Nat) : (s.lockNoted k).flag Reg.clkPllStat i = (s.setFlag Reg.clkPllStat k false).flag Reg.clkPllStat i := by
    rw [State.lockNoted, State.flag, State.fld_setFld_ne _ _ _ _ _ _ (by decide), ← State.flag, State.flag_setFlag_ne _ _ _ _ (by decide)]
  have noted : ((s.setFlag Reg.clkPllStat k false).setFlag Reg.clkFail 3 true).flag Reg.clkFail 3 = true := State.flag_setFlag _ _ _ (by decide)
  refine ⟨(kept k).trans (State.flag_setFlag _ _ _ (by omega)), ?_, ?_, fun j inside other => (kept j).trans (State.flag_setFlag_other _ _ _ (by omega) other)⟩
  · rw [State.lockNoted, State.flag, State.fld_setFld_other _ _ _ (by decide) (.inl (by decide)), ← State.flag, noted]
  · rw [State.lockNoted, State.fld_setFld _ _ _ (by decide)]
    omega

theorem State.lockLost_shows (pll : k < 9) : (s.lockLost k).flag Reg.clkPllStat k = false ∧ (s.lockLost k).flag Reg.clkFail 3 = true
    ∧ (s.lockLost k).fld Reg.clkFail 15 8 = k ∧ ∀ j, j < 10 → j ≠ k → (s.lockLost k).flag Reg.clkPllStat j = s.flag Reg.clkPllStat j := by
  have regs (a : Nat) : (s.lockLost k).reg a = (s.lockNoted k).reg a := State.draw_reg _ a
  simp only [State.flag_of_reg (regs _), State.fld_of_reg (regs _)]
  exact State.lockNoted_shows pll

theorem execPllRelock_same (still : (s.flag Reg.clkPllStat k || decide (9 ≤ k) || s.flag Reg.clkSrcStat 3) = true) : execPllRelock k s = .next s := by
  refine congrArg Host.Outcome.next (if_pos ?_)
  rw [still]
  simp

/-- Whether what a PLL's clock is gated by is set. -/
def State.pllGated (s : State) (k : Nat) : Bool :=
  match pllGate k with
  | some g => s.flag Reg.clkGateCtl g
  | none => s.awake || [0, 1, 4].contains k

theorem execPllRelock_locks (pll : k < 9) (lost : s.flag Reg.clkPllStat k = false) (ctrl : s.flag Reg.clkSrcStat 3 = false) (powered : s.powerState ≤ 2)
    (gated : s.pllGated k = true) : execPllRelock k s = .next (s.setFlag Reg.clkPllStat k true) := by
  refine congrArg Host.Outcome.next (if_neg ?_)
  change ¬ (s.flag Reg.clkPllStat k || decide (9 ≤ k) || s.flag Reg.clkSrcStat 3 || !s.pllGated k || decide (2 < s.powerState)) = true
  simp [lost, ctrl, gated, Nat.not_le.mpr pll, Nat.not_lt.mpr powered]

end

/-- Settles O52: a window by its count and what that makes of its source; PLLs by their lock. -/
theorem clocksWatched : Obligations.ClocksWatched := by
  intro s k count
  refine ⟨?_, ?_, ?_, ?_, ?_, ?_, ?_, ?_⟩
  · intro idle
    refine congrArg Host.Outcome.next (if_pos ?_)
    rcases idle with off | far
    · rw [off]; rfl
    · simp [far]
  · intro on source badLength goodLength bad run was fails
    have window := execClockMonitorWindow_eq (count := count) source on
    have same := s.windowStored_keeps (count := count) source
    obtain ⟨stored, above⟩ := s.windowStored_count (k := k) (count := count)
    obtain ⟨bads, goods⟩ := s.windowStored_runs (k := k) (count := count) (by omega) (by omega)
    refine ⟨fun failing => ?_, fun holding => ?_⟩
    · rw [if_pos ((fails_iff _).mpr failing)] at window
      refine ⟨_, stored, same, ?_, ?_, ?_⟩
      · rintro rfl; exact window
      · rintro rfl; exact window
      · rintro rfl
        obtain ⟨source, fail, ctrl⟩ := (s.windowStored 2 count).rcFailed_shows
        exact ⟨_, window, source, fail, ctrl.trans (State.flag_of_reg same 3)⟩
    · rw [if_neg fun failing => holding ((fails_iff _).mp failing)] at window
      split at window
      · next again =>
        obtain ⟨out, hundred⟩ : was = false ∧ goodRun k count run = 100 := by simpa only [Bool.and_eq_true, Bool.not_eq_true', beq_iff_eq] using again
        obtain ⟨shown, power, monitor⟩ := (s.windowStored k count).sourceGood_shows source
        refine ⟨_, window, (State.fld_of_reg monitor _ _).trans stored, ?_, ?_, ?_, (State.fld_of_reg monitor _ _).trans above⟩
        · rw [power, bads, badRun]
        · rw [power, goods, goodRun]
        · rw [shown, goodAgain_iff.mp hundred, Bool.or_true]
      · next notAgain =>
        refine ⟨_, window, stored, bads, goods, ?_, above⟩
        rw [State.flag_of_reg same]
        cases out : was
        · have short : ¬ goodRun k count run = 100 := fun hundred => notAgain (by
            rw [Bool.and_eq_true, Bool.not_eq_true', beq_iff_eq]
            exact ⟨out, hundred⟩)
          rw [goodAgain_iff, Bool.not_eq_true] at short
          exact out.trans (by rw [short]; rfl)
        · exact out
  · intro noRc
    obtain ⟨source, fail, others⟩ := s.tcxoNoted_shows
    have quiet := (others 2 (by decide) (by decide)).trans noRc
    refine ⟨s.tcxoNoted, ?_, source, fail, others 3 (by decide) (by decide)⟩
    rw [State.tcxoFails_eq, quiet, if_neg (by decide)]
  · intro rc
    obtain ⟨_, _, others⟩ := s.tcxoNoted_shows
    have good := (others 2 (by decide) (by decide)).trans rc
    refine ⟨s.tcxoNoted.clocksStopped.ctrlOnRc, ?_, State.ctrlOnRc_shows _⟩
    rw [State.tcxoFails_eq, if_pos good]
  · intro locked pll
    obtain ⟨x, lost⟩ := execPllLockLoss_eq locked pll
    exact ⟨x, _, lost, State.lockLost_shows pll⟩
  · intro idle
    refine congrArg Host.Outcome.next (if_pos ?_)
    rcases idle with unlocked | far
    · rw [unlocked]; rfl
    · simp [far]
  · intro pll lost ctrl powered gate free
    refine ⟨_, execPllRelock_locks pll lost ctrl powered ?_, State.flag_setFlag _ _ _ (by omega), fun j inside other => State.flag_setFlag_other _ _ _ (by omega) other⟩
    unfold State.pllGated
    split
    · next g named => exact gate g named
    · next named => simpa [Bool.or_eq_true] using free named
  · exact fun ctrl => execPllRelock_same (by rw [ctrl, Bool.or_true])

end Sys2Proof.Machine
end

section
/-! SUPPORT. The debug level, the nonce and the keys: what closing debug, erasing and checking a token leave (R497 to R510). -/

namespace Sys2Proof.Machine

/-! ### Timers brought up to now -/

theorem State.settleTimers_part {β : Type} (part : State → β) (counted : ∀ (t : State) n w, part (t.setReg (Reg.tmrCnt n) w) = part t)
    (noted : ∀ (t : State) n f, part (t.modTimer n f) = part t) (s : State) : part s.settleTimers = part s :=
  foldl_keeps part (fun t n => (noted _ _ _).trans (counted t n _)) _ s

theorem State.settleTimers_reg (s : State) {a : Nat} (below : a < 0x52000C) : s.settleTimers.reg a = s.reg a := by
  have apart (n : Nat) : a ≠ Reg.tmrCnt n := by
    unfold Reg.tmrCnt
    omega
  exact s.settleTimers_part (·.reg a) (fun t n w => State.reg_setReg_ne _ _ (apart n)) fun t n f => State.modTimer_reg _ _ _ _

@[simp] theorem State.settleTimers_sec (s : State) : s.settleTimers.sec = s.sec := s.settleTimers_part State.sec (fun _ _ _ => rfl) fun _ _ _ => rfl

/-! ### The debug level (R506, R510) -/

section
variable (s : State) (level cause : Nat)

@[simp] theorem State.setLevel_sec : (s.setLevel level cause).sec = s.sec := by
  unfold State.setLevel
  dsimp only
  split
  · rfl
  · rw [State.raise_sec, State.setFld_sec]

theorem State.setLevel_reg {a : Nat} (other : a ≠ Reg.secDbgStat) (cells : a ≠ Reg.tmBufStat) : (s.setLevel level cause).reg a = s.reg a := by
  unfold State.setLevel
  dsimp only
  split
  · rfl
  · rw [State.raise_reg _ _ _ _ _ cells, State.reg_setFld_ne _ _ _ _ other]

theorem State.setLevel_level (small : level < 4) : (s.setLevel level cause).debugLevel = level := by
  unfold State.setLevel
  dsimp only
  split
  · next same => exact same
  · rw [State.debugLevel, State.fld_of_reg (State.raise_reg _ _ _ _ _ (by decide)), State.fld_setFld _ _ _ (by decide)]
    exact Nat.mod_eq_of_lt small

theorem State.setLevel_flag {i : Nat} (small : i < 32) (above : 1 < i) : (s.setLevel level cause).flag Reg.secDbgStat i = s.flag Reg.secDbgStat i := by
  unfold State.setLevel
  dsimp only
  split
  · rfl
  · rw [State.flag_of_reg (State.raise_reg _ _ _ _ _ (by decide)), State.flag, State.fld_setFld_other _ _ _ small (.inr above), State.flag]

/-- Nothing held halted, and no lifetime running. -/
def State.debugFreed (s : State) : State := { s with sec := { s.sec with levelDue := none, debugHalted := [] } }

theorem State.debugFreed_keeps : s.debugFreed.sec = { s.sec with levelDue := none, debugHalted := [] } ∧ ∀ a, s.debugFreed.reg a = s.reg a :=
  ⟨rfl, fun _ => rfl⟩

theorem State.closeDebug_eq : s.closeDebug cause = s.settleTimers.debugFreed.setLevel 0 cause := rfl

/-- Debug closed: the level, what the debug port held, and nothing else of the security block. -/
theorem State.closeDebug_sec : (s.closeDebug cause).sec = { s.sec with levelDue := none, debugHalted := [] } := by
  rw [State.closeDebug_eq, State.setLevel_sec, (State.debugFreed_keeps _).1, State.settleTimers_sec]

theorem State.closeDebug_level : (s.closeDebug cause).debugLevel = 0 := by
  rw [State.closeDebug_eq]
  exact State.setLevel_level _ _ _ (by decide)

theorem State.closeDebug_reg {a : Nat} (below : a < 0x52000C) (other : a ≠ Reg.secDbgStat) (cells : a ≠ Reg.tmBufStat) :
    (s.closeDebug cause).reg a = s.reg a := by
  rw [State.closeDebug_eq, State.setLevel_reg _ _ _ other cells, (State.debugFreed_keeps _).2, s.settleTimers_reg below]

end

/-! ### Tokens (R505 to R507) -/

/-- What the check of a staged token finds wrong with it. -/
def State.tokenFault (s : State) (kind len : Nat) : Option Nat :=
  let t := s.staged 0 (min len 20480)
  if !(tokenFormOk t && decide (len = 17120)) then some Status.paramRange
  else if !s.tokenSuits t kind then some Status.notPermitted
  else if !s.tokenKeysOk t then some Status.notPermitted
  else if !signaturesOk (slice t 64 384, slice t 448 48) (t.take 512) (t.drop 512) then some Status.notPermitted
  else none

theorem State.checkToken_eq (s : State) (kind len : Nat) : s.checkToken kind len = (s.tokenFault kind len, s.staged 0 (min len 20480),
    ((if s.tokenFault kind len = some Status.paramRange then s else s.voidNonce).secCount (if (s.tokenFault kind len).isSome then 3 else 2)).clearStaged) := by
  unfold State.checkToken State.tokenFault
  dsimp only

theorem State.tokenFault_cases (s : State) (kind len : Nat) :
    s.tokenFault kind len = some Status.paramRange ∨ s.tokenFault kind len = some Status.notPermitted ∨ s.tokenFault kind len = none := by
  unfold State.tokenFault
  dsimp only
  split
  · exact .inl rfl
  · split
    · exact .inr (.inl rfl)
    · split
      · exact .inr (.inl rfl)
      · split
        · exact .inr (.inl rfl)
        · exact .inr (.inr rfl)

/-! ### Keys erased for a transition (R490, R497) -/

theorem State.erasePages_sec (s : State) (mask : Nat) : (s.erasePages mask).sec = s.sec := by
  rw [State.erasePages_eq, State.inbandPageChanged_keeps State.sec (fun _ _ _ => rfl)]
  exact foldl_keeps (f := State.erasePage) State.sec (fun _ _ => rfl) _ _

theorem State.erasePages_reg (s : State) (mask : Nat) {a : Nat} (below : a < 0x500100) : (s.erasePages mask).reg a = s.reg a := by
  rw [State.erasePages_eq, State.inbandPageChanged_reg]
  refine foldl_keeps (f := State.erasePage) (·.reg a) (fun t q => ?_) _ _
  have apart : a ≠ Reg.ciphPageCfg q ∧ a ≠ Reg.ciphPageKcv q := by
    unfold Reg.ciphPageCfg Reg.ciphPageKcv
    omega
  exact t.erasePage_reg q apart.1 apart.2

/-- Every page named is empty afterwards. -/
theorem State.erasePages_empty (s : State) (mask : Nat) {q : Nat} (page : q < 16) (named : bit mask q = true) : (s.erasePages mask).pageLoaded q = false := by
  obtain ⟨cfg, _⟩ := State.foldl_erasePage (bitsSet 16 (Nat.land mask s.loadedMask)) s q
  rw [State.pageLoaded, State.erasePages_eq, State.flag_of_reg (State.inbandPageChanged_reg _ _ _)]
  split at cfg
  · exact State.pageLoaded_of_cleared cfg
  · next spared =>
    rw [State.flag_of_reg cfg]
    rw [mem_bitsSet, bit_eq_testBit] at spared
    have both : (Nat.land mask s.loadedMask).testBit q = (mask.testBit q && s.loadedMask.testBit q) := Nat.testBit_and _ _ _
    rw [both, ← bit_eq_testBit, ← bit_eq_testBit, named, s.bit_loadedMask page] at spared
    exact (by simpa [page] using spared : s.pageLoaded q = false)

/-- What erasing for a transition leaves. -/
theorem State.eraseForTransition_shows (s : State) : s.eraseForTransition.sec = { s.sec with transportKey := none }
    ∧ s.eraseForTransition.lifecycle = s.lifecycle ∧ ∀ q, q < 16 → s.eraseForTransition.pageLoaded q = false := by
  have all (q : Nat) (page : q < 16) : bit 0xFFFF q = true := by
    interval_cases q <;> decide
  have apart (q : Nat) : Reg.ciphPageCfg q ≠ Reg.secLifecycle := by
    unfold Reg.ciphPageCfg Reg.secLifecycle
    omega
  refine ⟨?_, ?_, fun q page => ?_⟩
  · rw [State.eraseForTransition, State.eraseTransport, State.setFlag_sec, State.erasePages_sec]
  · exact (State.fld_setFlag_other _ _ _ (by decide) (.inl (by decide))).trans (State.fld_of_reg (s.erasePages_reg 0xFFFF (by decide)) 2 0)
  · exact (State.flag_setFlag_ne _ _ _ _ (apart q)).trans (s.erasePages_empty 0xFFFF page (all q page))

/-- A fold keeps what each of its steps on the list keeps. -/
theorem foldl_keeps_mem {σ α β : Type} (part : σ → β) {f : σ → α → σ} (l : List α) (keeps : ∀ t, ∀ a ∈ l, part (f t a) = part t) (t : σ) :
    part (l.foldl f t) = part t := by
  induction l generalizing t with
  | nil => rfl
  | cons a l ih =>
    rw [List.foldl_cons, ih fun t b mem => keeps t b (List.mem_cons_of_mem _ mem), keeps _ _ List.mem_cons_self]

theorem State.clearBackup_reg_ne (s : State) {a : Nat} (other : ∀ i, i < 8 → a ≠ Reg.rtcBkpData i) : s.clearBackup.reg a = s.reg a := by
  refine foldl_keeps_mem (f := fun (s : State) i => s.setReg (Reg.rtcBkpData i) 0) (·.reg a) _ (fun t i mem => ?_) _
  exact State.reg_setReg_ne _ _ (other i (List.mem_range.mp mem))

/-! ### A page's and a level's status after security counters -/

theorem State.secCount_reg (s : State) (k : Nat) {a : Nat} (other : a < 0x20040) : (s.secCount k).reg a = s.reg a := by
  have apart : a ≠ Reg.secCnt k := by
    unfold Reg.secCnt
    omega
  exact State.reg_bumpFld_ne _ _ _ _ apart

end Sys2Proof.Machine
end

section
/-! SUPPORT. The lifecycle: its transitions, the identity, the certificate and the debug authority (R489 to R513). -/

namespace Sys2Proof.Machine

/-! ### Transitions (R489, R490) -/

/-- A transition goes forward, under a token from Deployed alone. -/
theorem State.transitionToken_forward {s : State} {target kind : Nat} (made : s.transitionToken target = some kind) :
    s.lifecycle < target ∧ target ≤ 4 ∧ (s.lifecycle = 2 → kind = target) ∧ (s.lifecycle ≠ 2 → kind = 0) := by
  unfold State.transitionToken at made
  split at made
  · simp only [Option.ite_none_right_eq_some, Option.some.injEq] at made
    omega
  · simp only [Option.ite_none_right_eq_some, Option.some.injEq] at made
    omega
  · simp only [Option.some.injEq] at made
    omega
  · simp only [Option.some.injEq] at made
    omega
  · simp only [Option.some.injEq] at made
    omega
  · simp only [Option.some.injEq] at made
    omega
  · simp only [Option.some.injEq] at made
    omega
  · cases made

/-- What entering a state does before debug is closed (Table 19-2). -/
def State.transitionEffects (s : State) (target : Nat) : State :=
  match target with
  | 2 => { s.eraseForTransition with sec := { s.eraseForTransition.sec with
      sealedValues := some (sealAddresses.map fun a => (a, s.eraseForTransition.reg a)) } }
  | 3 => s.eraseForTransition.clearBackup
  | 4 => { s.eraseForTransition with sec := { s.eraseForTransition.sec with privateKeys := false } }
  | _ => s

/-- The state with a transition under way. -/
def State.transitionNoted (s : State) (target : Nat) : State := { s with sec := { s.sec with transition := some target } }

theorem State.beginTransition_eq (s : State) (target : Nat) :
    s.beginTransition target = ((s.transitionEffects target).closeDebug 5).transitionNoted target := by
  rfl

theorem State.transitionNoted_keeps (s : State) (target : Nat) : (s.transitionNoted target).sec = { s.sec with transition := some target }
    ∧ ∀ a, (s.transitionNoted target).reg a = s.reg a := ⟨rfl, fun _ => rfl⟩

theorem State.clearBackup_keeps (s : State) : s.clearBackup.sec = s.sec ∧ s.clearBackup.lifecycle = s.lifecycle
    ∧ ∀ q, s.clearBackup.pageLoaded q = s.pageLoaded q := by
  have lifecycle (i : Nat) (_ : i < 8) : Reg.secLifecycle ≠ Reg.rtcBkpData i := by
    unfold Reg.secLifecycle Reg.rtcBkpData
    omega
  have page (q i : Nat) (_ : i < 8) : Reg.ciphPageCfg q ≠ Reg.rtcBkpData i := by
    unfold Reg.ciphPageCfg Reg.rtcBkpData
    omega
  exact ⟨s.clearBackup_sec, State.fld_of_reg (s.clearBackup_reg_ne lifecycle) 2 0, fun q => State.flag_of_reg (s.clearBackup_reg_ne (page q)) 0⟩

theorem State.transitionEffects_shows (s : State) (target : Nat) : let t := s.transitionEffects target
    t.lifecycle = s.lifecycle ∧ (target = 2 → t.sec.sealedValues.isSome = true) ∧ (target = 4 → t.sec.privateKeys = false)
      ∧ (target = 3 → ∀ i, i < 8 → t.reg (Reg.rtcBkpData i) = 0)
      ∧ (target = 2 ∨ target = 3 ∨ target = 4 → t.sec.transportKey = none ∧ ∀ q, q < 16 → t.pageLoaded q = false) := by
  obtain ⟨sec, lifecycle, pages⟩ := s.eraseForTransition_shows
  obtain ⟨backupSec, backupLifecycle, backupPages⟩ := s.eraseForTransition.clearBackup_keeps
  have transport : s.eraseForTransition.sec.transportKey = none := by rw [sec]
  unfold State.transitionEffects
  split
  · exact ⟨lifecycle, fun _ => rfl, fun other => absurd other (by decide), fun other => absurd other (by decide), fun _ => ⟨transport, pages⟩⟩
  · refine ⟨backupLifecycle.trans lifecycle, fun other => absurd other (by decide), fun other => absurd other (by decide),
      fun _ i register => State.clearBackup_reg _ register, fun _ => ⟨?_, fun q page => (backupPages q).trans (pages q page)⟩⟩
    rw [backupSec, transport]
  · exact ⟨lifecycle, fun other => absurd other (by decide), fun _ => rfl, fun other => absurd other (by decide), fun _ => ⟨transport, pages⟩⟩
  · next two three four => exact ⟨rfl, fun e => absurd e two, fun e => absurd e four, fun e => absurd e three,
      fun e => absurd e (by rintro (e | e | e); exacts [two e, three e, four e])⟩

theorem State.beginTransition_shows (s : State) (target : Nat) : let t := s.beginTransition target
    t.sec.transition = some target ∧ t.lifecycle = s.lifecycle ∧ t.debugLevel = 0 ∧ t.sec.debugHalted = []
      ∧ (target = 2 → t.sec.sealedValues.isSome = true) ∧ (target = 4 → t.sec.privateKeys = false)
      ∧ (target = 3 → ∀ i, i < 8 → t.reg (Reg.rtcBkpData i) = 0)
      ∧ (target = 2 ∨ target = 3 ∨ target = 4 → t.sec.transportKey = none ∧ ∀ q, q < 16 → t.pageLoaded q = false) := by
  obtain ⟨lifecycle, sealed, scrapped, backup, erased⟩ := s.transitionEffects_shows target
  obtain ⟨noted, noted_regs⟩ := ((s.transitionEffects target).closeDebug 5).transitionNoted_keeps target
  have sec := (s.transitionEffects target).closeDebug_sec 5
  have regs {a : Nat} (below : a < 0x52000C) (other : a ≠ Reg.secDbgStat) (cells : a ≠ Reg.tmBufStat) :
      (s.beginTransition target).reg a = (s.transitionEffects target).reg a := by
    rw [State.beginTransition_eq, noted_regs, State.closeDebug_reg _ _ below other cells]
  have level : (s.beginTransition target).debugLevel = 0 := by
    rw [State.beginTransition_eq, State.debugLevel, State.fld_of_reg (noted_regs _)]
    exact State.closeDebug_level _ _
  have whole : (s.beginTransition target).sec = { (s.transitionEffects target).sec with levelDue := none, debugHalted := [], transition := some target } := by
    rw [State.beginTransition_eq, noted, sec]
  refine ⟨by rw [whole], (State.fld_of_reg (regs (by decide) (by decide) (by decide)) 2 0).trans lifecycle, level, by rw [whole], fun two => ?_, fun four => ?_, fun three i register => ?_, fun named => ⟨?_, fun q page => ?_⟩⟩
  · rw [whole]; exact sealed two
  · rw [whole]; exact scrapped four
  · have apart : Reg.rtcBkpData i < 0x52000C ∧ Reg.rtcBkpData i ≠ Reg.secDbgStat ∧ Reg.rtcBkpData i ≠ Reg.tmBufStat := by
      unfold Reg.rtcBkpData Reg.secDbgStat Reg.tmBufStat
      omega
    rw [regs apart.1 apart.2.1 apart.2.2, backup three i register]
  · rw [whole]; exact (erased named).1
  · have apart : Reg.ciphPageCfg q < 0x52000C ∧ Reg.ciphPageCfg q ≠ Reg.secDbgStat ∧ Reg.ciphPageCfg q ≠ Reg.tmBufStat := by
      unfold Reg.ciphPageCfg Reg.secDbgStat Reg.tmBufStat
      omega
    exact (State.flag_of_reg (regs apart.1 apart.2.1 apart.2.2) 0).trans ((erased named).2 q page)

/-- The state fuses programmed. -/
def State.fused (s : State) (target : Nat) : State := ({ s with sec := { s.sec with transition := none } } : State).setFld Reg.secLifecycle 2 0 target

theorem State.fused_shows (s : State) {target : Nat} (small : target < 8) : (s.fused target).lifecycle = target ∧ (s.fused target).sec.transition = none := by
  refine ⟨(State.fld_setFld _ _ _ (by decide)).trans (Nat.mod_eq_of_lt small), ?_⟩
  rw [State.fused, State.setFld_sec]

theorem execLifecycleTransitionDone_eq {s : State} {target : Nat} (begun : s.sec.transition = some target) : execLifecycleTransitionDone s
    = .next (((s.fused target).finishWork Work.isLifecycle Status.ok (le 1 target)).raise 0x0411 1 (le 1 s.lifecycle ++ le 1 target)) := by
  unfold execLifecycleTransitionDone
  rw [begun]
  rfl

/-! ### LIFECYCLE_SET -/

section
variable {s : State} {c : Cmd} {p : Bytes} (ready : s.Ready lifecycleSetSpec c p)
include ready

theorem execLifecycleSet_held {h : Bytes} (held : (s.received c).holder (fun o => o.work.isLifecycle) = some h) :
    execLifecycleSet c p s = .next ((s.received c).refuse (originOf c 0x0411) Status.resourceBusy h) := by
  simp [execLifecycleSet, State.run_ready ready, held, State.settle]
  rfl

section
variable (free : (s.received c).holder (fun o => o.work.isLifecycle) = none)
include free

theorem execLifecycleSet_none (none_ : (s.received c).transitionToken (num p 0 1) = none) :
    execLifecycleSet c p s = .next ((s.received c).refuse (originOf c 0x0411) Status.notPermitted []) := by
  simp [execLifecycleSet, State.run_ready ready, free, none_, State.settle]
  rfl

theorem execLifecycleSet_free (tokenless : (s.received c).transitionToken (num p 0 1) = some 0) : execLifecycleSet c p s
    = .next ((((s.received c).beginTransition (num p 0 1)).start lifecycleSetSpec c (.lifecycle (num p 0 1))).acceptReply (originOf c 0x0411)) := by
  simp [execLifecycleSet, State.run_ready ready, free, tokenless, State.settle]
  rfl

section
variable {kind : Nat} (token : (s.received c).transitionToken (num p 0 1) = some kind) (needed : kind ≠ 0)
include token needed

theorem execLifecycleSet_tokenless (absent : num p 4 4 = 0) :
    execLifecycleSet c p s = .next ((s.received c).refuse (originOf c 0x0411) Status.notPermitted []) := by
  simp [execLifecycleSet, State.run_ready ready, free, token, absent, State.settle]
  rfl

theorem execLifecycleSet_fault (present : num p 4 4 ≠ 0) {fault : Nat} {body : Bytes} {u : State}
    (checked : (s.received c).checkToken kind (num p 4 4) = (some fault, body, u)) :
    execLifecycleSet c p s = .next ((u.bump Reg.sysCmdErr).reply (originOf c 0x0411) fault []) := by
  simp [execLifecycleSet, State.run_ready ready, free, token, present, checked, State.settle]
  rfl

theorem execLifecycleSet_token (present : num p 4 4 ≠ 0) {body : Bytes} {u : State}
    (checked : (s.received c).checkToken kind (num p 4 4) = (none, body, u)) : execLifecycleSet c p s
    = .next (((u.beginTransition (num p 0 1)).start lifecycleSetSpec c (.lifecycle (num p 0 1))).acceptReply (originOf c 0x0411)) := by
  simp [execLifecycleSet, State.run_ready ready, free, token, present, checked, State.settle]
  rfl

end

end

end

/-! ### Identity and certificate (R493, R494) -/

theorem execIdentityGen_again {s : State} {c : Cmd} {p : Bytes} (ready : s.Ready identityGenSpec c p) (made : (s.received c).sec.keyPairs.isSome = true) :
    execIdentityGen c p s = .next ((s.received c).refuse (originOf c 0x0412) Status.notPermitted []) := by
  obtain ⟨n, pairs⟩ := Option.isSome_iff_exists.mp made
  simp [execIdentityGen, State.run_ready ready, pairs, State.settle]
  rfl

/-- The identity's registers written. -/
def State.identityShown (s : State) (id : Bytes) : State :=
  (List.range 4).foldl (fun (s : State) i => s.setReg (Reg.secId i) (word (num id (4 * i) 4))) s

theorem State.identityShown_reg (s : State) (id : Bytes) {i : Nat} (register : i < 4) : (s.identityShown id).reg (Reg.secId i) = word (num id (4 * i) 4) := by
  have shown (l : List Nat) (t : State) (named : i ∈ l ∨ t.reg (Reg.secId i) = word (num id (4 * i) 4)) :
      (l.foldl (fun (s : State) i => s.setReg (Reg.secId i) (word (num id (4 * i) 4))) t).reg (Reg.secId i) = word (num id (4 * i) 4) := by
    induction l generalizing t with
    | nil => exact named.resolve_left List.not_mem_nil
    | cons j l ih =>
      refine ih _ ?_
      by_cases same : i = j
      · exact .inr (same ▸ State.reg_setReg _ _ _)
      · have apart : Reg.secId i ≠ Reg.secId j := by
          unfold Reg.secId
          omega
        rw [State.reg_setReg_ne _ _ apart]
        exact named.imp_left fun mem => (List.mem_cons.mp mem).resolve_left same
  exact shown _ s (.inl (List.mem_range.mpr register))

theorem State.identityShown_sec (s : State) (id : Bytes) : (s.identityShown id).sec = s.sec := by
  refine foldl_keeps State.sec (fun t i => ?_) _ _
  rfl

/-- The key pairs made. -/
def State.pairsMade (s : State) : State :=
  { s with draws := s.draws + 1, sec := { s.sec with keyPairs := some s.draws, privateKeys := true } }

/-- The identity made, shown and noted. -/
def State.identityMade (s : State) : State := (s.pairsMade.identityShown (identityOf s.draws)).setFlag Reg.secLifecycle 3 true

theorem execIdentityGen_first {s : State} {c : Cmd} {p : Bytes} (ready : s.Ready identityGenSpec c p) (unmade : (s.received c).sec.keyPairs = none) :
    execIdentityGen c p s = .next ((s.received c).identityMade.reply (originOf c 0x0412) Status.ok (identityOf (s.received c).draws)) := by
  simp only [execIdentityGen, State.run_ready ready, unmade]
  rfl

theorem State.identityMade_shows (s : State) : s.identityMade.sec.keyPairs.isSome = true ∧ s.identityMade.sec.privateKeys = true
    ∧ s.identityMade.flag Reg.secLifecycle 3 = true ∧ ∀ i, i < 4 → s.identityMade.reg (Reg.secId i) = word (num (identityOf s.draws) (4 * i) 4) := by
  have sec : s.identityMade.sec = s.pairsMade.sec := by rw [State.identityMade, State.setFlag_sec, State.identityShown_sec]
  refine ⟨by rw [sec]; rfl, by rw [sec]; rfl, State.flag_setFlag _ _ _ (by decide), fun i register => ?_⟩
  have apart : Reg.secId i ≠ Reg.secLifecycle := by
    unfold Reg.secId Reg.secLifecycle
    omega
  exact (State.reg_setFlag_ne _ _ _ apart).trans (State.identityShown_reg _ _ register)

/-- The staged certificate stored in both sealed-settings copies. -/
def State.certStored (s : State) (t : Bytes) : State :=
  ({ s with boot := { s.boot with sealedCopies := s.boot.sealedCopies.map fun (x : SealedCopy) => { x with deviceCert := t } } } : State).setFlag Reg.secLifecycle 4 true

theorem State.certStored_shows (s : State) (t : Bytes) : (s.certStored t).flag Reg.secLifecycle 4 = true
    ∧ ∀ x ∈ (s.certStored t).boot.sealedCopies, x.deviceCert = t := by
  refine ⟨State.flag_setFlag _ _ _ (by decide), fun x mem => ?_⟩
  rw [State.certStored, State.setFlag_boot] at mem
  obtain ⟨y, _, rfl⟩ := List.mem_map.mp mem
  rfl

section
variable {s : State} {c : Cmd} {p : Bytes} (ready : s.Ready devCertWriteSpec c p)
include ready

theorem execDevCertWrite_invalid (bad : (s.received c).deviceCertOk ((s.received c).staged 0 17504) = false) :
    execDevCertWrite c p s = .next ((s.received c).refuse (originOf c 0x0413) Status.notPermitted []) := by
  rw [execDevCertWrite, State.run_ready ready]
  exact congrArg (fun v => Host.Outcome.next ((s.received c).settle devCertWriteSpec c v)) (if_neg (Bool.eq_false_iff.mp bad))

theorem execDevCertWrite_valid (good : (s.received c).deviceCertOk ((s.received c).staged 0 17504) = true) : execDevCertWrite c p s
    = .next (((s.received c).certStored ((s.received c).staged 0 17504)).reply (originOf c 0x0413) Status.ok []) := by
  rw [execDevCertWrite, State.run_ready ready]
  exact congrArg (fun v => Host.Outcome.next ((s.received c).settle devCertWriteSpec c v)) (if_pos good)

end

/-! ### The staging buffer, the debug authority and the key-transport key -/

theorem execDbgAuthSet_again {s : State} {c : Cmd} {p : Bytes} (ready : s.Ready dbgAuthSetSpec c p) (set : (s.received c).sec.debugAuthority.isSome = true) :
    execDbgAuthSet c p s = .next ((s.received c).refuse (originOf c 0x0418) Status.notPermitted []) := by
  obtain ⟨keys, authority⟩ := Option.isSome_iff_exists.mp set
  simp only [execDbgAuthSet, State.run_ready ready, authority]
  rfl

/-- The debug authority's digests written. -/
def State.authoritySet (s : State) (keys : Bytes × Bytes) : State :=
  ({ s with sec := { s.sec with debugAuthority := some keys } } : State).setFlag Reg.secLifecycle 5 true

theorem State.authoritySet_shows (s : State) (keys : Bytes × Bytes) : (s.authoritySet keys).sec.debugAuthority = some keys
    ∧ (s.authoritySet keys).flag Reg.secLifecycle 5 = true := ⟨rfl, State.flag_setFlag _ _ _ (by decide)⟩

theorem execDbgAuthSet_first {s : State} {c : Cmd} {p : Bytes} (ready : s.Ready dbgAuthSetSpec c p) (unset : (s.received c).sec.debugAuthority = none) :
    execDbgAuthSet c p s = .next (((s.received c).authoritySet (p.take 48, p.drop 48)).reply (originOf c 0x0418) Status.ok []) := by
  have length : p.length = 96 := by simpa [dbgAuthSetSpec] using ready.length
  have halves : (slice p 0 48, slice p 48 48) = (p.take 48, p.drop 48) := by
    rw [slice, slice, List.drop_zero, List.take_of_length_le (l := p.drop 48) (by rw [List.length_drop]; omega)]
  simp only [execDbgAuthSet, State.run_ready ready, unset, ← halves]
  rfl

section
variable {s : State} {c : Cmd} {p : Bytes} (ready : s.Ready ktkLoadSpec c p)
include ready

/-- What KTK_LOAD decrypts. -/
def State.transportPlain (s : State) (p : Bytes) : Option Bytes := if s.sec.privateKeys then Config.oaepDecrypt (s.sec.keyPairs.getD 0) p else none

theorem execKtkLoad_closed (closed : (s.received c).loadClosed = true) :
    execKtkLoad c p s = .next ((s.received c).refuse (originOf c 0x0417) Status.notPermitted []) := by
  simp only [execKtkLoad, State.run_ready ready, closed, if_true]
  rfl

section
variable (unclosed : (s.received c).loadClosed = false)
include unclosed

theorem execKtkLoad_bad (bad : (s.received c).transportPlain p = none ∨ ∃ k, (s.received c).transportPlain p = some k ∧ k.length ≠ 32) :
    execKtkLoad c p s = .next ((s.received c).refuse (originOf c 0x0417) Status.paramRange []) := by
  rw [execKtkLoad, State.run_ready ready]
  unfold State.transportPlain at bad
  rcases bad with plain | ⟨k, plain, length⟩
  · simp only [unclosed, plain, Bool.false_eq_true, if_false]
    rfl
  · simp only [unclosed, plain, length, Bool.false_eq_true, if_false, ne_eq, not_false_eq_true, if_true]
    rfl

/-- The key-transport key installed. -/
def State.transportSet (s : State) (k : Bytes) : State := ({ s with sec := { s.sec with transportKey := some k } } : State).setFlag Reg.secLifecycle 6 true

omit ready unclosed in
theorem State.transportSet_shows (s : State) (k : Bytes) : (s.transportSet k).sec.transportKey = some k ∧ (s.transportSet k).flag Reg.secLifecycle 6 = true :=
  ⟨rfl, State.flag_setFlag _ _ _ (by decide)⟩

theorem execKtkLoad_good {k : Bytes} (plain : (s.received c).transportPlain p = some k) (length : k.length = 32) :
    execKtkLoad c p s = .next (((s.received c).transportSet k).reply (originOf c 0x0417) Status.ok (le 3 (checkValue k))) := by
  rw [execKtkLoad, State.run_ready ready]
  unfold State.transportPlain at plain
  simp only [unclosed, plain, length, Bool.false_eq_true, if_false, ne_eq, not_true_eq_false]
  rfl

end

end

/-- Settles O55: transitions by their effects and their fuses, the commands by what each writes once. -/
theorem lifecycleHeld : Obligations.LifecycleHeld := by
  intro s c p
  refine ⟨fun ready => ⟨fun h => execLifecycleSet_held ready, fun free => ⟨execLifecycleSet_none ready free, execLifecycleSet_free ready free,
    fun kind token needed => ⟨execLifecycleSet_tokenless ready free token needed, fun fault body u present => execLifecycleSet_fault ready free token needed present,
      fun body u present => execLifecycleSet_token ready free token needed present⟩⟩⟩,
    fun target kind => State.transitionToken_forward, s.beginTransition_shows, ?_, ?_, ?_, ?_, ?_, ?_, ?_⟩
  · intro target begun small
    obtain ⟨lifecycle, ended⟩ := s.fused_shows small
    exact ⟨_, lifecycle, ended, execLifecycleTransitionDone_eq begun⟩
  · exact fun ready => ⟨execIdentityGen_again ready, fun unmade => ⟨_, _, execIdentityGen_first ready unmade, State.identityMade_shows _⟩⟩
  · exact fun ready => ⟨execDevCertWrite_invalid ready, fun good => ⟨_, execDevCertWrite_valid ready good, State.certStored_shows _ _⟩⟩
  · exact fun ready => congrArg _ (State.run_ready ready _)
  · intro ready
    refine ⟨_, congrArg _ (State.run_ready ready _), fun x => ?_⟩
    rw [Memory.read_writeBytes, List.length_drop]
  · exact fun ready => ⟨execDbgAuthSet_again ready, fun unset => ⟨_, execDbgAuthSet_first ready unset, State.authoritySet_shows _ _⟩⟩
  · exact fun ready => ⟨execKtkLoad_closed ready, fun unclosed => ⟨execKtkLoad_bad ready unclosed,
      fun k plain length => ⟨_, execKtkLoad_good ready unclosed plain length, State.transportSet_shows _ _⟩⟩⟩

end Sys2Proof.Machine
end

section
/-! SUPPORT. Tokens, debug accesses, attestation reports and in-band authentication (R495 to R511). -/

namespace Sys2Proof.Machine

/-! ### The token check and the levels it grants (R506 to R509) -/

theorem State.voidNonce_shows (s : State) : s.voidNonce.sec = { s.sec with nonce := none } ∧ s.voidNonce.flag Reg.secDbgStat 2 = false
    ∧ s.voidNonce.elapsed = s.elapsed := ⟨State.setFlag_sec _ _ _ _, State.flag_setFlag _ _ _ (by decide), rfl⟩

theorem State.secCount_sec (s : State) (k : Nat) : (s.secCount k).sec = s.sec := State.bump_sec _ _ _

theorem State.clearStaged_sec (s : State) : s.clearStaged.sec = { s.sec with stage := [] } := rfl

theorem State.checkToken_shows (s : State) (kind len : Nat) : let x := s.checkToken kind len
    x.2.2.sec.stage = [] ∧ (x.1 = some Status.paramRange ∨ x.1 = some Status.notPermitted ∨ x.1 = none)
      ∧ (x.1 ≠ some Status.paramRange → x.2.2.sec.nonce = none) ∧ (x.1 = some Status.paramRange → x.2.2.sec.nonce = s.sec.nonce) := by
  rw [State.checkToken_eq]
  dsimp only
  rw [State.clearStaged_sec, State.secCount_sec]
  refine ⟨rfl, s.tokenFault_cases kind len, fun consumed => ?_, fun form => ?_⟩
  · rw [if_neg consumed, s.voidNonce_shows.1]
  · rw [if_pos form]

theorem State.freeLevel_iff (s : State) (level : Nat) : s.freeLevel level = true ↔ s.lifecycle = 0 ∨ (level = 1 ∧ s.lifecycle ≠ 2) := by
  simp [State.freeLevel]

/-- The state with the end of a level's lifetime. -/
def State.levelTimed (s : State) (due : Option Nat) : State := { s with sec := { s.sec with levelDue := due } }

theorem State.levelTimed_keeps (s : State) (due : Option Nat) : (s.levelTimed due).sec = { s.sec with levelDue := due }
    ∧ ∀ a, (s.levelTimed due).reg a = s.reg a := ⟨rfl, fun _ => rfl⟩

/-- What Full debug brings before its level shows. -/
def State.fullNoted (s : State) (level : Nat) : State :=
  let t := if level = 2 ∧ s.lifecycle = 2 then s.sound 5 4 else s
  if level = 2 then t.setFlag Reg.secDbgStat 3 true else t

theorem State.grant_eq (s : State) (level minutes : Nat) : s.grant level minutes
    = ((s.fullNoted level).levelTimed (if minutes = 0 then none else some ((s.fullNoted level).elapsed + 60000000000 * minutes))).setLevel level 0 := rfl

theorem State.fullNoted_elapsed (s : State) {level : Nat} (mild : level ≠ 2 ∨ s.lifecycle ≠ 2) : (s.fullNoted level).elapsed = s.elapsed := by
  have quiet : ¬ (level = 2 ∧ s.lifecycle = 2) := fun both => mild.elim (absurd both.1) (absurd both.2)
  unfold State.fullNoted
  rw [if_neg quiet]
  dsimp only
  split <;> rfl

theorem State.grant_shows (s : State) {level : Nat} (minutes : Nat) (small : level ≤ 2) : let g := s.grant level minutes
    g.debugLevel = level ∧ (level ≠ 2 ∨ s.lifecycle ≠ 2 → g.sec.levelDue = (if minutes = 0 then none else some (s.elapsed + 60000000000 * minutes)))
      ∧ (level = 2 → s.lifecycle ≠ 2 → g.flag Reg.secDbgStat 3 = true) := by
  rw [State.grant_eq]
  refine ⟨State.setLevel_level _ _ _ (by omega), fun mild => ?_, fun full other => ?_⟩
  · rw [State.setLevel_sec, (State.levelTimed_keeps _ _).1, s.fullNoted_elapsed mild]
  · rw [State.setLevel_flag _ _ _ (by decide) (by decide), State.flag_of_reg ((State.levelTimed_keeps _ _).2 _), State.fullNoted, if_pos full]
    exact State.flag_setFlag _ _ _ (by decide)

section
variable {s : State} {c : Cmd} {p : Bytes} (ready : s.Ready dbgUnlockSpec c p)
include ready

theorem execDbgUnlock_free (free : (s.received c).freeLevel (num p 0 1) = true) (tokenless : num p 4 4 = 0) :
    execDbgUnlock c p s = .next (((s.received c).clearStaged.grant (num p 0 1) 0).reply (originOf c 0x041A) Status.ok [0, 0]) := by
  simp only [execDbgUnlock, State.run_ready ready, free, tokenless, if_true]
  rfl

theorem execDbgUnlock_needless (free : (s.received c).freeLevel (num p 0 1) = true) (token : num p 4 4 ≠ 0) :
    execDbgUnlock c p s = .next ((s.received c).refuse (originOf c 0x041A) Status.paramRange []) := by
  simp only [execDbgUnlock, State.run_ready ready, free, token, if_true, if_false]
  rfl

section
variable (needed : (s.received c).freeLevel (num p 0 1) = false) {body : Bytes} {u : State}
include needed

theorem execDbgUnlock_fault {fault : Nat} (checked : (s.received c).checkToken (num p 0 1) (num p 4 4) = (some fault, body, u)) :
    execDbgUnlock c p s = .next ((u.bump Reg.sysCmdErr).reply (originOf c 0x041A) fault []) := by
  simp only [execDbgUnlock, State.run_ready ready, needed, checked, Bool.false_eq_true, if_false]
  rfl

theorem execDbgUnlock_grants (checked : (s.received c).checkToken (num p 0 1) (num p 4 4) = (none, body, u)) : execDbgUnlock c p s
    = .next ((u.grant (num p 0 1) (num body 6 2)).reply (originOf c 0x041A) Status.ok (le 2 (num body 6 2))) := by
  simp only [execDbgUnlock, State.run_ready ready, needed, checked, Bool.false_eq_true, if_false]
  rfl

end

end

theorem execDebugLifetimeExpiry_eq {s : State} {due : Nat} (timed : s.sec.levelDue = some due) :
    execDebugLifetimeExpiry s = .next ((s.reachElapsed due).closeDebug 2) := by
  simp only [execDebugLifetimeExpiry, timed]

/-! ### The nonce (R505) -/

/-- A nonce drawn and outstanding for 600 s. -/
def State.nonceDrawn (s : State) : State :=
  let t := (s.drawBytes 32).2
  ({ t with sec := { t.sec with nonce := some (s.drawBytes 32).1, nonceDue := 600000000000 + t.elapsed } } : State).setFlag Reg.secDbgStat 2 true

theorem length_drawBytes (s : State) (n : Nat) : (s.drawBytes n).1.length = n := by simp [State.drawBytes]

theorem State.nonceDrawn_shows (s : State) : s.nonceDrawn.sec.nonce = some (s.drawBytes 32).1 ∧ s.nonceDrawn.sec.nonceDue = 600000000000 + s.elapsed
    ∧ s.nonceDrawn.flag Reg.secDbgStat 2 = true := by
  have sec : s.nonceDrawn.sec = { s.sec with nonce := some (s.drawBytes 32).1, nonceDue := 600000000000 + s.elapsed } := State.setFlag_sec _ _ _ _
  exact ⟨by rw [sec], by rw [sec], State.flag_setFlag _ _ _ (by decide)⟩

theorem execDbgNonceExpiry_eq {s : State} {n : Bytes} (outstanding : s.sec.nonce = some n) :
    execDbgNonceExpiry s = .next (s.reachElapsed s.sec.nonceDue).voidNonce := by
  simp only [execDbgNonceExpiry, outstanding]

/-! ### Accesses of the debug port (R503) -/

section
variable {s : State} {access : DebugAccess}

theorem execDebugAccess_unpowered (low : 3 ≤ s.powerState) : execDebugAccess access s = .next s := by
  simp [execDebugAccess, low]

section
variable (powered : s.powerState < 3)
include powered

theorem execDebugAccess_never (never : debugNeed access = none) : execDebugAccess access s = .next (s.bump (Reg.secCnt 6)) := by
  simp [execDebugAccess, Nat.not_le.mpr powered, never]
  rfl

theorem execDebugAccess_beyond {n : Nat} (need : debugNeed access = some n) (beyond : s.debugLevel < n) :
    execDebugAccess access s = .next (s.bump (Reg.secCnt 6)) := by
  simp [execDebugAccess, Nat.not_le.mpr powered, need, beyond]
  rfl

theorem execDebugAccess_serves {n : Nat} (need : debugNeed access = some n) (within : n ≤ s.debugLevel) :
    execDebugAccess access s = .next (s.debugServe access) := by
  simp [execDebugAccess, Nat.not_le.mpr powered, need, Nat.not_lt.mpr within]

end

/-- What the level Observe allows changes nothing. -/
theorem State.debugServe_observe (s : State) {n : Nat} (need : debugNeed access = some n) (observe : n < 2) : s.debugServe access = s := by
  have full (two : some 2 = some n) : s.debugServe access = s := absurd (Option.some.inj two) (by omega)
  cases access with
  | bypass => rfl
  | idcode => rfl
  | readReg a => rfl
  | trace => rfl
  | halt k => exact full need
  | resume k => exact full need
  | step k => rfl
  | writeReg a v =>
    unfold debugNeed at need
    dsimp only at need
    split at need
    · cases need
    · exact full need
  | boundaryScan => rfl

end

/-- The state with the processors that the debug port holds halted. -/
def State.haltedSet (s : State) (l : List Nat) : State := { s with sec := { s.sec with debugHalted := l } }

theorem State.haltedSet_keeps (s : State) (l : List Nat) : (s.haltedSet l).sec.debugHalted = l ∧ ∀ a, (s.haltedSet l).reg a = s.reg a := ⟨rfl, fun _ => rfl⟩

theorem State.debugServe_halt (s : State) (k : Nat) : s.debugServe (.halt k)
    = s.settleTimers.haltedSet (k % 2 :: s.settleTimers.sec.debugHalted.filter (· != k % 2)) := rfl

theorem State.debugServe_resume (s : State) (k : Nat) : s.debugServe (.resume k)
    = s.settleTimers.haltedSet (s.settleTimers.sec.debugHalted.filter (· != k % 2)) := rfl

theorem State.settleTimers_level (s : State) : s.settleTimers.debugLevel = s.debugLevel := State.fld_of_reg (s.settleTimers_reg (by decide)) 1 0

/-! ### Attestation (R495) -/

theorem length_padTo_full (n : Nat) (p : Bytes) : (padTo n p).length = n := by
  simp [padTo]
  omega

/-- A signed report: the body, then both signatures. -/
def State.attestReport (s : State) (body : Bytes) : Bytes :=
  let n := s.sec.keyPairs.getD 0
  body ++ padTo 384 (Config.rsaSign n (sha384 body)) ++ padTo 16224 (Config.slhSign n (sha384 body))

theorem State.attestReport_shows (s : State) (body : Bytes) : (s.attestReport body).length = 16608 + body.length ∧ (s.attestReport body).take body.length = body := by
  unfold State.attestReport
  dsimp only
  refine ⟨?_, by rw [List.append_assoc, List.take_left]⟩
  rw [List.length_append, List.length_append, length_padTo_full, length_padTo_full]
  omega

/-- The report kept for its session. -/
def State.reportKept (s : State) (n : Nat) (report : Bytes) : State :=
  (({ s with sec := { s.sec with attesting := none } } : State).modSession n fun e => { e with report := report }).secCount 5

theorem State.reportKept_shows (s : State) {n : Nat} (report : Bytes) (inside : n < s.host.sessions.length) :
    (s.reportKept n report).sec.attesting = none ∧ ((s.reportKept n report).session n).report = report := by
  refine ⟨rfl, ?_⟩
  have own : (s.reportKept n report).session n = { s.session n with report := report } := getD_setAt_same _ _ inside
  rw [own]

theorem execAttestSignDone_eq {s : State} {body : Bytes} {o : Outstanding} (signing : s.sec.attesting = some body)
    (waits : (s.outstandingOf fun o => o.work == .attest).head? = some o) : execAttestSignDone s
    = .next ((s.reportKept o.origin.session (s.attestReport body)).finish o Status.ok (le 4 (s.attestReport body).length)) := by
  unfold execAttestSignDone
  rw [signing]
  dsimp only
  have same : (({ s with sec := { s.sec with attesting := none } } : State).outstandingOf fun o => o.work == .attest).head? = some o := waits
  rw [same]
  rfl

theorem slice_append_beyond {a b : Bytes} {off n : Nat} (beyond : a.length ≤ off) : slice (a ++ b) off n = slice b (off - a.length) n := by
  rw [slice, slice, List.drop_append, List.drop_eq_nil_of_le beyond, List.nil_append]

theorem slice_append_whole {a b : Bytes} {n : Nat} (length : a.length = n) : slice (a ++ b) 0 n = a := by
  rw [slice, List.drop_zero, ← length, List.take_left]

theorem State.length_identity (s : State) : s.identity.length = 16 := by
  have whole (i : Nat) : (le 4 (s.reg (Reg.secId i)).toNat : Bytes).length = 4 := length_le _ _
  rw [State.identity, length_flatMap_entry whole, List.length_range]

/-- The first fields of a report's body (Table 19-3). -/
theorem State.attestBody_shows (s : State) {nonce : Bytes} (length : nonce.length = 32) : num (s.attestBody nonce) 0 4 = 0x4C444154
    ∧ slice (s.attestBody nonce) 24 32 = nonce ∧ num (s.attestBody nonce) 6 1 = s.lifecycle ∧ num (s.attestBody nonce) 7 1 = s.debugLevel := by
  have lifecycle : s.lifecycle < 8 := s.fld_lt _ 2 0
  have level : s.debugLevel < 4 := s.fld_lt _ 1 0
  unfold State.attestBody
  dsimp only
  simp only [List.append_assoc]
  refine ⟨?_, ?_, ?_, ?_⟩
  · rw [num_le_append]
    decide
  · simp (disch := simp [s.length_identity]) only [slice_append_beyond, length_le, s.length_identity, Nat.reduceSub]
    exact slice_append_whole length
  · simp (disch := simp) only [num_append_beyond, num_le_append, length_le, Nat.reduceSub]
    omega
  · simp (disch := simp) only [num_append_beyond, num_le_append, length_le, Nat.reduceSub]
    omega

section
variable {s : State} {c : Cmd} {p : Bytes} (ready : s.Ready attestReadSpec c p)
include ready

theorem execAttestRead_none (none_ : ((s.received c).session c.session).report = []) :
    execAttestRead c p s = .next ((s.received c).refuse (originOf c 0x0416) Status.paramRange []) := by
  simp only [execAttestRead, State.run_ready ready, none_, List.isEmpty_nil, if_true]
  rfl

theorem execAttestRead_some (some_ : ((s.received c).session c.session).report ≠ []) : execAttestRead c p s
    = .next ((s.received c).reply (originOf c 0x0416) Status.ok (slice ((s.received c).session c.session).report (num p 0 4) (num p 4 2))) := by
  have full : ((s.received c).session c.session).report.isEmpty = false := by simpa using some_
  simp only [execAttestRead, State.run_ready ready, full, Bool.false_eq_true, if_false]
  rfl

end

/-! ### In-band authentication (R498, R499) -/

/-- What both tags cover beside the nonces is the session's endpoint and the device. -/
theorem State.tagTail_congr {s t : State} {n : Nat} (ep : (t.session n).ep = (s.session n).ep) (stat : t.reg Reg.chainStat = s.reg Reg.chainStat) :
    t.tagTail n = s.tagTail n := by
  have device : t.device = s.device := by rw [State.device, State.fld_of_reg stat, State.device]
  rw [State.tagTail, ep, device, State.tagTail]

theorem State.session_modSession_own (s : State) {n : Nat} (f : Session → Session) (inside : n < s.host.sessions.length) :
    (s.modSession n f).session n = f (s.session n) := getD_setAt_same f {} inside

/-- The outstanding challenge used. -/
def State.challengeUsed (s : State) (n : Nat) : State := s.modSession n fun e => { e with challenge := none }

/-- A session authenticated, and counted. -/
def State.sessionPassed (s : State) (n : Nat) : State :=
  ((s.challengeUsed n).modSession n fun e => { e with authenticated := true, authDue := none }).secCount 0

section
variable {s : State} {n : Nat} (inside : n < s.host.sessions.length)
include inside

theorem State.challengeUsed_session : (s.challengeUsed n).session n = { s.session n with challenge := none } := s.session_modSession_own _ inside

theorem State.challengeUsed_tail : (s.challengeUsed n).tagTail n = s.tagTail n :=
  State.tagTail_congr (by rw [State.challengeUsed_session inside]) rfl

theorem State.sessionPassed_session :
    (s.sessionPassed n).session n = { s.session n with challenge := none, authenticated := true, authDue := none } := by
  have still : n < (s.challengeUsed n).host.sessions.length := (length_setAt s.host.sessions n _).symm ▸ inside
  refine ((s.challengeUsed n).session_modSession_own _ still).trans ?_
  rw [State.challengeUsed_session inside]

theorem State.sessionPassed_tail : (s.sessionPassed n).tagTail n = s.tagTail n :=
  State.tagTail_congr (by rw [State.sessionPassed_session inside]) (State.secCount_reg _ _ (by decide))

end

/-- The key of the in-band sessions' page, and whether that page can serve. -/
def State.inbandKey (s : State) : Bytes := (Table.find s.cipher.keys (s.fld Reg.secInbandCfg 3 0)).getD []

def State.inbandUsable (s : State) : Bool :=
  let page := s.fld Reg.secInbandCfg 3 0
  s.pageLoaded page && s.fld (Reg.ciphPageCfg page) 5 2 == 6 && s.flag (Reg.ciphPageCfg page) 9

section
variable {s : State} {c : Cmd} {p : Bytes} (ready : s.Ready secAuthSpec c p)
include ready

theorem execSecAuth_issues (issue : num p 0 1 = 0) : execSecAuth c p s = .next (
    (((s.received c).drawBytes 16).2.modSession c.session fun e => { e with challenge := some ((s.received c).drawBytes 16).1 }).reply
      (originOf c 0x041C) Status.ok ((s.received c).drawBytes 16).1) := by
  simp only [execSecAuth, State.run_ready ready, issue, if_true]
  rfl

section
variable (check : num p 0 1 = 1)
include check

theorem execSecAuth_unchallenged (none_ : ((s.received c).session c.session).challenge = none) : execSecAuth c p s
    = .next (((((s.received c).challengeUsed c.session).authFails c.session).bump Reg.sysCmdErr).reply (originOf c 0x041C) Status.notPermitted []) := by
  simp only [execSecAuth, State.run_ready ready, check, Nat.one_ne_zero, if_false, none_]
  rfl

/-- A challenged tag: whether it is right. -/
theorem execSecAuth_checks {nd : Bytes} (challenged : ((s.received c).session c.session).challenge = some nd) : let r := s.received c
    execSecAuth c p s = .next ((s.received c).settle secAuthSpec c (
      if r.inbandUsable && cmac r.inbandKey (nd ++ slice p 4 16 ++ (r.challengeUsed c.session).tagTail c.session) == slice p 20 16 then
        .done (r.sessionPassed c.session) Status.ok (cmac r.inbandKey (slice p 4 16 ++ nd ++ (r.sessionPassed c.session).tagTail c.session))
      else .done (((r.challengeUsed c.session).authFails c.session).bump Reg.sysCmdErr) Status.notPermitted [])) := by
  simp only [execSecAuth, State.run_ready ready, check, Nat.one_ne_zero, if_false, challenged]
  rfl

section
variable (inside : c.session < (s.received c).host.sessions.length) {nd : Bytes} (challenged : ((s.received c).session c.session).challenge = some nd)
include inside challenged

theorem execSecAuth_right (usable : (s.received c).inbandUsable = true)
    (right : cmac (s.received c).inbandKey (nd ++ slice p 4 16 ++ (s.received c).tagTail c.session) = slice p 20 16) : execSecAuth c p s
    = .next (((s.received c).sessionPassed c.session).reply (originOf c 0x041C) Status.ok
        (cmac (s.received c).inbandKey (slice p 4 16 ++ nd ++ (s.received c).tagTail c.session))) := by
  rw [execSecAuth_checks ready check challenged, State.challengeUsed_tail inside, State.sessionPassed_tail inside, right, usable]
  simp only [beq_self_eq_true, Bool.and_self, if_true]
  rfl

theorem execSecAuth_wrong (wrong : (s.received c).inbandUsable = false
      ∨ cmac (s.received c).inbandKey (nd ++ slice p 4 16 ++ (s.received c).tagTail c.session) ≠ slice p 20 16) : execSecAuth c p s
    = .next (((((s.received c).challengeUsed c.session).authFails c.session).bump Reg.sysCmdErr).reply (originOf c 0x041C) Status.notPermitted []) := by
  have fails : ¬ ((s.received c).inbandUsable
      && cmac (s.received c).inbandKey (nd ++ slice p 4 16 ++ (s.received c).tagTail c.session) == slice p 20 16) = true := by
    rcases wrong with unusable | differs
    · simp [unusable]
    · rw [beq_eq_false_iff_ne.mpr differs]
      simp
  rw [execSecAuth_checks ready check challenged, State.challengeUsed_tail inside, if_neg fails]
  rfl

end

end

end

theorem execAuthTimeout_closes {s : State} {n due : Nat} (timed : (s.session n).authDue = some due) (unauthenticated : (s.session n).authenticated = false)
    (bound : s.isOpen n = true) : execAuthTimeout n s = .next ((s.reachElapsed due).endSession n 3) := by
  simp only [execAuthTimeout, timed, unauthenticated, bound]
  rfl

/-- Settles O56: the token check and the level by what each leaves, the accesses by need and level, the tags by their check. -/
theorem debugAndAttestation : Obligations.DebugAndAttestation := by
  intro s c p
  refine ⟨s.checkToken_shows, s.freeLevel_iff, fun level minutes small => s.grant_shows minutes small,
    fun ready => ⟨fun free => ⟨execDbgUnlock_free ready free, execDbgUnlock_needless ready free⟩, fun needed => ⟨fun fault body u => execDbgUnlock_fault ready needed,
      fun body u => execDbgUnlock_grants ready needed⟩⟩, fun ready => congrArg _ (State.run_ready ready _),
    fun cause => ⟨s.closeDebug_level cause, by rw [s.closeDebug_sec cause], by rw [s.closeDebug_sec cause]⟩,
    fun due => execDebugLifetimeExpiry_eq, ?_, ?_, ?_, ?_, ?_, fun nonce => s.attestBody_shows,
    fun ready => ⟨execAttestRead_none ready, execAttestRead_some ready⟩, ?_, fun n due => execAuthTimeout_closes⟩
  · intro ready
    obtain ⟨nonce, due, outstanding⟩ := (s.received c).nonceDrawn_shows
    exact ⟨(s.received c).nonceDrawn, ((s.received c).drawBytes 32).1, congrArg _ (State.run_ready ready _), length_drawBytes _ _, nonce, due, outstanding⟩
  · intro n outstanding
    obtain ⟨sec, flag, elapsed⟩ := (s.reachElapsed s.sec.nonceDue).voidNonce_shows
    refine ⟨_, execDbgNonceExpiry_eq outstanding, by rw [sec], ?_, flag⟩
    rw [elapsed, State.reachElapsed_elapsed]
    exact le_max_right _ _
  · refine fun access => ⟨execDebugAccess_unpowered, fun powered => ⟨execDebugAccess_never powered, fun n => execDebugAccess_beyond powered, fun n need within observe => ?_, ?_, ?_⟩⟩
    · exact (execDebugAccess_serves powered need within).trans (congrArg _ (s.debugServe_observe need observe))
    · rintro k rfl full small
      obtain ⟨halted, regs⟩ := s.settleTimers.haltedSet_keeps (k % 2 :: s.settleTimers.sec.debugHalted.filter (· != k % 2))
      refine ⟨_, (execDebugAccess_serves powered rfl full.ge).trans (congrArg _ (s.debugServe_halt k)), ?_, ?_⟩
      · rw [halted, Nat.mod_eq_of_lt small]
        exact List.mem_cons_self
      · exact (State.fld_of_reg (regs _) 1 0).trans (s.settleTimers_level.trans full)
    · rintro k rfl full small
      obtain ⟨halted, _⟩ := s.settleTimers.haltedSet_keeps (s.settleTimers.sec.debugHalted.filter (· != k % 2))
      refine ⟨_, (execDebugAccess_serves powered rfl full.ge).trans (congrArg _ (s.debugServe_resume k)), ?_⟩
      rw [halted, Nat.mod_eq_of_lt small]
      simp
  · intro a v sec
    simp [debugNeed, sec]
  · intro body o signing waits inside
    obtain ⟨ended, kept⟩ := s.reportKept_shows (s.attestReport body) inside
    obtain ⟨length, head⟩ := s.attestReport_shows body
    refine ⟨_, ?_, ended, by rw [kept, length], by rw [kept, head]⟩
    rw [← length]
    exact execAttestSignDone_eq signing waits
  · intro ready inside
    refine ⟨fun issue => ⟨_, _, execSecAuth_issues ready issue, length_drawBytes _ _, ?_⟩, fun nd check challenged usable right => ?_, fun check wrong => ?_⟩
    · exact congrArg Session.challenge (((s.received c).drawBytes 16).2.session_modSession_own _ inside)
    · refine ⟨_, execSecAuth_right ready check inside challenged usable right, ?_⟩
      rw [State.sessionPassed_session inside]
      exact ⟨rfl, rfl, rfl⟩
    · refine ⟨(s.received c).challengeUsed c.session, ?_, ?_, ?_⟩
      · rw [State.challengeUsed_session inside]
      · rw [State.challengeUsed_session inside]
      · cases challenge : ((s.received c).session c.session).challenge with
        | none => exact execSecAuth_unchallenged ready check challenge
        | some nd => exact execSecAuth_wrong ready check inside challenge (wrong nd challenge)

end Sys2Proof.Machine
end

section
/-! SUPPORT. Cordonnet frames: what one received, relayed, sent and sent again leaves (R520 to R531). -/

namespace Sys2Proof.Machine

/-! ### The counters of a port -/

theorem State.on_congr {s t : State} (island : Island) (dom : t.reg Reg.pwrDomStat = s.reg Reg.pwrDomStat) (src : t.reg Reg.clkSrcStat = s.reg Reg.clkSrcStat)
    (pll : t.reg Reg.clkPllStat = s.reg Reg.clkPllStat) (gate : t.reg Reg.clkGateCtl = s.reg Reg.clkGateCtl) : t.on island = s.on island := by
  have locked (i : Nat) : t.flag Reg.clkPllStat i = s.flag Reg.clkPllStat i := State.flag_of_reg pll i
  have gated (i : Nat) : t.flag Reg.clkGateCtl i = s.flag Reg.clkGateCtl i := State.flag_of_reg gate i
  cases island <;> simp only [State.on, State.powered, State.clocked, State.flag_of_reg dom, State.flag_of_reg src, locked, gated]

theorem State.chainCount_reg (s : State) {port k n a : Nat} (other : a < 0x10100 ∨ 0x20000 ≤ a) (inside : port < 2) (counter : k < 8) :
    (s.chainCount port k n).reg a = s.reg a := by
  have apart : a ≠ Reg.chainPortCntLo port k ∧ a ≠ Reg.chainPortCntLo port k + 4 := by
    unfold Reg.chainPortCntLo
    omega
  exact reg64_pair_ne apart.1 apart.2 s n

theorem State.chainCount_chain (s : State) (port k n : Nat) : (s.chainCount port k n).chain = s.chain := rfl

section
variable {s : State} {port k n : Nat} (inside : port < 2) (counter : k < 8)
include inside counter

theorem State.chainCount_numbered : (s.chainCount port k n).numbered = s.numbered := by
  rw [State.numbered, State.fld_of_reg (s.chainCount_reg (.inl (by decide)) inside counter), State.numbered]

theorem State.chainCount_device : (s.chainCount port k n).device = s.device := by
  have same := State.fld_of_reg (s.chainCount_reg (n := n) (a := Reg.chainStat) (.inl (by decide)) inside counter) 7 0
  rw [State.device, same, State.device]

theorem State.chainCount_on (island : Island) : (s.chainCount port k n).on island = s.on island :=
  State.on_congr island (s.chainCount_reg (.inr (by decide)) inside counter) (s.chainCount_reg (.inr (by decide)) inside counter)
    (s.chainCount_reg (.inr (by decide)) inside counter) (s.chainCount_reg (.inr (by decide)) inside counter)

end

/-! ### A good frame, delivered or relayed (R520, R522) -/

section
variable {s : State} {port : Nat} {f : Bytes}

/-- The content of a frame. -/
def frameContent (f : Bytes) : Bytes := slice f 12 (num f 8 2)

theorem State.chainFrame_drops (control : Option ChainControl) (own : (s.numbered = true ∧ num f 1 1 = s.device) ∨ num f 3 1 = 0) :
    s.chainFrame port f control = .next (s.chainCount port 5) := by
  refine if_pos ?_
  rw [Bool.or_eq_true, Bool.and_eq_true, beq_iff_eq, beq_iff_eq]
  exact own

section
variable (other : num f 1 1 ≠ s.device) (hops : num f 3 1 ≠ 0)
include other hops

theorem State.chainFrame_goes_on : ¬ ((s.numbered && num f 1 1 == s.device) || num f 3 1 == 0) = true := by
  simp [other, hops]

theorem State.chainFrame_relays (data : num f 0 1 % 4 = 0) (away : num f 2 1 ≠ s.device) :
    s.chainFrame port f none = .next (s.relay port f (frameContent f)) := by
  have elsewhere : s.forThis f none = false := by simp [State.forThis, away]
  unfold State.chainFrame
  rw [if_neg (State.chainFrame_goes_on other hops), data, if_neg (by decide), elsewhere]
  rfl

theorem State.chainFrame_enters (numbered : s.numbered = true) (data : num f 0 1 % 4 = 0) (here : num f 2 1 = s.device) (on : s.on .pkt = true) : s.chainFrame port f none
    = .next (s.enter (0x40 + num f 1 1) (num f 4 2 % 4096) (frameContent f) [] (some (num f 6 2))).2 := by
  have mine : s.forThis f none = true := by simp [State.forThis, here, numbered]
  unfold State.chainFrame
  rw [if_neg (State.chainFrame_goes_on other hops), data, if_neg (by decide), mine, on]
  rfl

theorem State.chainFrame_floods (flood : num f 0 1 % 4 = 1) (on : s.on .pkt = true) : s.chainFrame port f none
    = .next ((s.enter (0x40 + num f 1 1) (num f 4 2 % 4096) (frameContent f) [] (some 0xFFFF)).2.relay port f (frameContent f)) := by
  unfold State.chainFrame
  rw [if_neg (State.chainFrame_goes_on other hops), flood, on]
  rfl

end

theorem State.relay_exhausted (content : Bytes) (last : num f 3 1 ≤ 1) : s.relay port f content = s.chainCount port 5 :=
  if_pos (by omega)

theorem State.relay_onward (content : Bytes) (more : 2 ≤ num f 3 1) (linked : s.chainLink (1 - port) = true) : s.relay port f content
    = (s.chainCount port 3).linkOut (1 - port) (num f 0 1 % 4) (num f 1 1) (num f 2 1) (num f 3 1 - 1) (num f 4 2) (num f 6 2) content := by
  unfold State.relay
  rw [if_neg (by omega), linked]
  rfl

end

/-! ### A frame received (R521, R523) -/

/-- Whether a frame is whole and its CRC right. -/
def frameGood (f : Bytes) : Bool := decide (16 ≤ f.length) && crc32 (f.take (f.length - 4)) == ofLe (f.drop (f.length - 4))

/-- An acknowledgement frees the frames it names. -/
def State.framesFreed (s : State) (port seq : Nat) : State :=
  { s with chain := { s.chain with unacked := s.chain.unacked.filter fun h => !(h.port == port && h.seq == seq) } }

section
variable {s : State} {port : Nat} {f : Bytes}

theorem execCordonnetFrameRx_idle (control : Option ChainControl) (idle : (s.on .link && s.chainLink port) = false) :
    execCordonnetFrameRx port f control s = .next s := if_pos (by rw [idle]; rfl)

section
variable (live : (s.on .link && s.chainLink port) = true)
include live

theorem execCordonnetFrameRx_bad (control : Option ChainControl) (bad : frameGood f = false) :
    execCordonnetFrameRx port f control s = .next (s.chainCount port 2) := by
  have wrong : f.length < 16 ∨ crc32 (f.take (f.length - 4)) ≠ ofLe (f.drop (f.length - 4)) := by
    by_contra right
    rw [not_or, Nat.not_lt, Decidable.not_not] at right
    simp [frameGood, right.1, right.2] at bad
  unfold execCordonnetFrameRx
  rw [if_neg (by rw [live]; decide), if_pos wrong]

section
variable (good : frameGood f = true)
include good

/-- What follows once a good frame has been counted. -/
def State.frameServed (s : State) (port : Nat) (f : Bytes) (control : Option ChainControl) : Host.Outcome State Fault Refusal :=
  match control with
  | some (.ack q) => .next (s.framesFreed port q)
  | _ =>
    if num f 0 1 % 4 < 2 then s.chainFrame port f none
    else
      let t := s.chainCount port 0
      if (t.chain.accepted.getD port []).contains (num f 0 1 / 4) then .next t
      else
        ({ t with chain := { t.chain with accepted := setAt t.chain.accepted port fun l => (num f 0 1 / 4 :: l).take 32 } } : State).chainFrame port f
          (if num f 0 1 % 4 = 3 then control else none)

theorem execCordonnetFrameRx_good (control : Option ChainControl) :
    execCordonnetFrameRx port f control s = (s.chainCount port 1).frameServed port f control := by
  have right : ¬ (f.length < 16 ∨ crc32 (f.take (f.length - 4)) ≠ ofLe (f.drop (f.length - 4))) := by
    rw [frameGood, Bool.and_eq_true, decide_eq_true_eq, beq_iff_eq] at good
    exact fun wrong => wrong.elim (Nat.not_lt.mpr good.1) (absurd good.2)
  unfold execCordonnetFrameRx
  rw [if_neg (by rw [live]; decide), if_neg right]
  rfl

end

end

/-- A data frame is served as it is. -/
theorem State.frameServed_data (data : num f 0 1 % 4 < 2) : s.frameServed port f none = s.chainFrame port f none := if_pos data

/-- A frame of kind 2 or 3 that has been accepted before is acknowledged again, and discarded. -/
theorem State.frameServed_seen {control : Option ChainControl} (noAck : ∀ q, control ≠ some (.ack q)) (kept : 2 ≤ num f 0 1 % 4)
    (seen : num f 0 1 / 4 ∈ s.chain.accepted.getD port []) : s.frameServed port f control = .next (s.chainCount port 0) := by
  unfold State.frameServed
  split
  · next q => exact absurd rfl (noAck q)
  · rw [if_neg (by omega)]
    exact if_pos (List.contains_iff_mem.mpr seen)

end

/-! ### A frame sent, and sent again (R523) -/

/-- A frame that waits for its acknowledgement. -/
def State.frameKept (s : State) (port seq : Nat) (f : Bytes) : State :=
  { s with chain := { s.chain with
      seqs := setAt s.chain.seqs port fun q => (q + 1) % 64
      unacked := s.chain.unacked ++ [⟨port, seq, false, s.elapsed, f⟩] } }

section
variable {s : State} {port kind src dest hop vlan remote : Nat} {content : Bytes} (on : s.on .link = true) (linked : s.chainLink port = true)
include on linked

theorem State.linkOut_data (data : kind < 2) : s.linkOut port kind src dest hop vlan remote content = s.chainCount port 0 := by
  unfold State.linkOut
  rw [on, linked]
  exact (if_pos (by rfl)).trans (if_neg (Nat.not_le.mpr data))

theorem State.linkOut_kept (kept : 2 ≤ kind) : s.linkOut port kind src dest hop vlan remote content
    = (s.chainCount port 0).frameKept port (s.chain.seqs.getD port 0) (cordonnetFrame kind (s.chain.seqs.getD port 0) src dest hop vlan remote content) := by
  unfold State.linkOut
  rw [on, linked, if_pos (by rfl)]
  dsimp only
  rw [if_pos kept, if_pos kept]
  rfl

end

theorem State.frameKept_shows (s : State) {port : Nat} (seq : Nat) (f : Bytes) (inside : port < s.chain.seqs.length) :
    (s.frameKept port seq f).regs = s.regs ∧ (s.frameKept port seq f).chain.unacked = s.chain.unacked ++ [⟨port, seq, false, s.elapsed, f⟩]
      ∧ (s.frameKept port seq f).chain.seqs.getD port 0 = (s.chain.seqs.getD port 0 + 1) % 64 :=
  ⟨rfl, rfl, getD_setAt_same _ _ inside⟩

/-- An unacknowledged frame marked as sent once more. -/
def State.frameResent (s : State) (h : HopFrame) : State :=
  { s with chain := { s.chain with unacked := s.chain.unacked.filter (· != h) ++ [{ h with resent := true, sent := s.elapsed }] } }

theorem execHopResend_none {s : State} {port seq : Nat} (none_ : s.chain.unacked.find? (fun h => h.port == port && h.seq == seq && !h.resent) = none) :
    execHopResend port seq s = .next s := by
  unfold execHopResend
  rw [none_]

theorem execHopResend_eq {s : State} {port seq : Nat} {h : HopFrame}
    (waits : s.chain.unacked.find? (fun h => h.port == port && h.seq == seq && !h.resent) = some h) (t : State) (due : t = s.reachElapsed (20000 + h.sent))
    (present : t.present (num h.frame 2 1) = true) (other : num h.frame 2 1 ≠ t.device) (route : t.route (num h.frame 2 1) = port)
    (linked : t.chainLink port = true) : execHopResend port seq s = .next ((t.frameResent h).chainCount port 0) := by
  subst due
  have again : ((s.reachElapsed (20000 + h.sent)).present (num h.frame 2 1) && num h.frame 2 1 != (s.reachElapsed (20000 + h.sent)).device
      && (s.reachElapsed (20000 + h.sent)).route (num h.frame 2 1) == port && (s.reachElapsed (20000 + h.sent)).chainLink port) = true := by
    simp [present, other, route, linked]
  unfold execHopResend
  rw [waits]
  exact congrArg Host.Outcome.next (if_pos again)

theorem State.frameResent_shows (s : State) (h : HopFrame) : (s.frameResent h).regs = s.regs
    ∧ (s.frameResent h).chain.unacked = s.chain.unacked.filter (· != h) ++ [{ h with resent := true, sent := s.elapsed }] := ⟨rfl, rfl⟩

theorem State.chainCount_regs {s t : State} (port k n : Nat) (same : t.regs = s.regs) : (t.chainCount port k n).regs = (s.chainCount port k n).regs := by
  simp only [State.chainCount, State.bump64, State.setReg64, State.setReg, State.reg64, State.reg, same]

/-! ### Delays (R530) -/

/-- The filtered delay of a port, after a measurement. -/
def delayAfter (d m : Int) : Int := clampInt 0 (2 ^ 24 - 1) (d + roundDiv (m - d) 8)

theorem delayAfter_range (d m : Int) : 0 ≤ delayAfter d m ∧ delayAfter d m < 2 ^ 24 := by
  unfold delayAfter clampInt
  omega

section
variable {s : State} {port : Nat} {t1 t2 t3 t4 : Int}

theorem execDelayBlockDue_eq (locked : s.flag (Reg.chainPortStat port) 0 = true) (on : s.on .link = true) : execDelayBlockDue port t1 t2 t3 t4 s
    = .next (s.setFld (Reg.chainPortDelay port) 23 0
        (delayAfter (s.fld (Reg.chainPortDelay port) 23 0) (500 * ((t4 - t1) - (t3 - t2)) - s.sfld (Reg.chainPortAsym port) 31 0)).toNat) := by
  unfold execDelayBlockDue
  rw [locked, on]
  rfl

theorem execDelayBlockDue_same (unlocked : s.flag (Reg.chainPortStat port) 0 = false) : execDelayBlockDue port t1 t2 t3 t4 s = .next s := by
  unfold execDelayBlockDue
  rw [unlocked]
  rfl

end

/-! ### The tags of a device that left (R525) -/

section
variable {s : State} {n tag d : Nat} {o : Outstanding} (tagged : (s.session n).outstanding.find? (fun o => o.origin.tag == tag) = some o) (away : o.work = .forwarded d)
include tagged away

theorem execForwardedTagOrphaned_ends {t : Nat} (left : Table.find s.chain.departed d = some t) :
    execForwardedTagOrphaned n tag s = .next ((s.reachElapsed (1000000 + t)).finish o Status.noSuchDevice [1]) := by
  simp only [execForwardedTagOrphaned, tagged, away, left]

theorem execForwardedTagOrphaned_waits (present : Table.find s.chain.departed d = none) : execForwardedTagOrphaned n tag s = .next s := by
  simp only [execForwardedTagOrphaned, tagged, away, present]

end

/-- Settles O58: a frame by its CRC, its kind and its destination; the rest by what each leaves of the chain. -/
theorem chainFramesCarried : Obligations.ChainFramesCarried := by
  intro s port inside
  have numbered : (s.chainCount port 1).numbered = s.numbered := State.chainCount_numbered inside (by decide)
  have device : (s.chainCount port 1).device = s.device := State.chainCount_device inside (by decide)
  have on : (s.chainCount port 1).on .pkt = s.on .pkt := State.chainCount_on inside (by decide) _
  refine ⟨fun frame control => ⟨execCordonnetFrameRx_idle control, execCordonnetFrameRx_bad (control := control), fun live good => ?_⟩,
    fun f content => ⟨State.relay_exhausted content, State.relay_onward content⟩, ?_, ?_, ?_, rfl, fun n tag d t o tagged away =>
      ⟨execForwardedTagOrphaned_ends tagged away, execForwardedTagOrphaned_waits tagged away⟩⟩
  · have served := execCordonnetFrameRx_good live good
    refine ⟨?_, ?_, ?_, ?_, ?_, fun noAck kept seen => (served control).trans (State.frameServed_seen noAck kept seen)⟩
    · rintro q rfl
      exact ⟨(s.chainCount port 1).framesFreed port q, served (some (.ack q)), rfl, rfl⟩
    · rintro rfl data own
      rw [← numbered, ← device] at own
      exact (served none).trans ((State.frameServed_data data).trans (State.chainFrame_drops none own))
    · rintro rfl data _ other hops away
      rw [← device] at other away
      exact (served none).trans ((State.frameServed_data (by omega)).trans (State.chainFrame_relays other hops data away))
    · rintro rfl data isNumbered other hops here isOn
      rw [← numbered] at isNumbered
      rw [← device] at other here
      rw [← on] at isOn
      exact (served none).trans ((State.frameServed_data (by omega)).trans (State.chainFrame_enters other hops isNumbered data here isOn))
    · rintro rfl flood _ other hops isOn
      rw [← device] at other
      rw [← on] at isOn
      exact (served none).trans ((State.frameServed_data (by omega)).trans (State.chainFrame_floods other hops flood isOn))
  · intro kind src dest hop vlan remote content _ link linked length
    rcases Nat.lt_or_ge kind 2 with data | kept
    · rw [State.linkOut_data link linked data]
      exact ⟨rfl, fun _ => rfl, fun kept => absurd kept (Nat.not_le.mpr data)⟩
    · rw [State.linkOut_kept link linked kept]
      obtain ⟨regs, unacked, seqs⟩ := (s.chainCount port 0).frameKept_shows (s.chain.seqs.getD port 0)
        (cordonnetFrame kind (s.chain.seqs.getD port 0) src dest hop vlan remote content) (port := port) (by rw [State.chainCount_chain]; omega)
      exact ⟨regs, fun data => absurd kept (Nat.not_le.mpr data), fun _ => ⟨unacked, seqs⟩⟩
  · rintro seq q rfl
    refine ⟨execHopResend_none, fun h waits present other route linked => ?_⟩
    obtain ⟨regs, unacked⟩ := (s.reachElapsed (20000 + h.sent)).frameResent_shows h
    refine ⟨_, execHopResend_eq waits _ rfl present other route linked, ?_, State.chainCount_regs port 0 1 regs⟩
    rw [State.chainCount_chain, unacked]
  · intro t1 t2 t3 t4 d m
    refine ⟨fun locked on => ⟨_, execDelayBlockDue_eq locked on, rfl, ?_, fun a other => State.reg_setFld_ne _ _ _ _ other⟩, execDelayBlockDue_same⟩
    obtain ⟨nonneg, below⟩ := delayAfter_range d m
    rw [State.fld_setFld _ _ _ (by decide), Nat.mod_eq_of_lt ((Int.toNat_lt nonneg).mpr below), Int.toNat_of_nonneg nonneg]
    rfl

end Sys2Proof.Machine
end

section
/-! SUPPORT. The paths of the chain: what changes them, and what leaves them (R518 to R533). -/

namespace Sys2Proof.Machine

/-! ### What keeps the paths, the identities and CHAIN_CTL -/

/-- The paths, the identities and CHAIN_CTL as they were. -/
structure State.SamePaths (s t : State) : Prop where
  down : t.chain.down = s.chain.down
  up : t.chain.up = s.chain.up
  identities : t.chain.identities = s.chain.identities
  ctl : t.reg Reg.chainCtl = s.reg Reg.chainCtl

theorem State.SamePaths.refl (s : State) : s.SamePaths s := ⟨rfl, rfl, rfl, rfl⟩

section
variable {s t : State} (h : s.SamePaths t)
include h

theorem State.SamePaths.trans {u : State} (next : t.SamePaths u) : s.SamePaths u :=
  ⟨next.down.trans h.down, next.up.trans h.up, next.identities.trans h.identities, next.ctl.trans h.ctl⟩

theorem State.SamePaths.of_chain {u : State} (chain : u.chain = t.chain) (ctl : u.reg Reg.chainCtl = t.reg Reg.chainCtl) : s.SamePaths u :=
  h.trans ⟨by rw [chain], by rw [chain], by rw [chain], ctl⟩

theorem State.SamePaths.foldl {α : Type} {f : State → α → State} (keeps : ∀ {t : State} (a : α), s.SamePaths t → s.SamePaths (f t a))
    (l : List α) : s.SamePaths (l.foldl f t) := by
  induction l generalizing t with
  | nil => exact h
  | cons a l ih => exact ih (keeps a h)

theorem State.SamePaths.setFld {a hi lo x : Nat} (other : Reg.chainCtl ≠ a) : s.SamePaths (t.setFld a hi lo x) :=
  h.of_chain rfl (State.reg_setFld_ne _ _ _ _ other)

theorem State.SamePaths.setFlag {a i : Nat} {b : Bool} (other : Reg.chainCtl ≠ a) : s.SamePaths (t.setFlag a i b) := h.setFld other

theorem State.SamePaths.setReg {a : Nat} {w : Word} (other : Reg.chainCtl ≠ a) : s.SamePaths (t.setReg a w) :=
  h.of_chain rfl (State.reg_setReg_ne _ _ other)

theorem State.SamePaths.modSession {n : Nat} {f : Session → Session} : s.SamePaths (t.modSession n f) := h.of_chain rfl rfl

theorem State.SamePaths.pushPrivileged {node : Nat} {x : Copy} : s.SamePaths (t.pushPrivileged node x) := by
  refine h.of_chain ?_ ((State.SameRegs.refl t).pushPrivileged _ (by decide))
  unfold State.pushPrivileged
  dsimp only
  split <;> rfl

theorem State.SamePaths.pumpRing {n ring : Nat} : s.SamePaths (t.pumpRing n ring) := by
  refine h.of_chain ?_ ((State.SameRegs.refl t).pumpRing _ (by decide))
  unfold State.pumpRing
  dsimp only
  split
  · split
    · rfl
    · split <;> rfl
  · rfl

theorem State.SamePaths.raiseTimed {n code severity status source : Nat} {forwarded : Bool} {time body : Bytes} :
    s.SamePaths (t.raiseTimed n code severity status source forwarded time body) := by
  unfold State.raiseTimed
  dsimp only
  split
  · exact h
  · split
    · split
      · exact h.modSession.pushPrivileged
      · split
        · split
          · exact h.modSession.modSession.pumpRing
          · exact h.modSession.modSession
        · exact h.modSession.modSession
    · exact h

theorem State.SamePaths.raise {code severity : Nat} {body : Bytes} {status : Nat} : s.SamePaths (t.raise code severity body status) := by
  unfold State.raise
  dsimp only
  split
  · exact h.foldl (fun _ same => same.raiseTimed) _
  · split
    · exact h.pushPrivileged
    · split <;> exact h.trans ⟨rfl, rfl, rfl, rfl⟩

theorem State.SamePaths.sendControl {d : Nat} {m : ChainControl} : s.SamePaths (t.sendControl d m) := h.pushPrivileged

theorem State.SamePaths.forgetPort {port : Nat} : s.SamePaths (t.forgetPort port) := h.of_chain rfl rfl

theorem State.SamePaths.deviceLeft {tell : Bool} {d : Nat} : s.SamePaths (t.deviceLeft tell d) := by
  have left : s.SamePaths { t.forgetPort (0x40 + d) with chain := { (t.forgetPort (0x40 + d)).chain with
      departed := Table.put (t.forgetPort (0x40 + d)).chain.departed d (t.forgetPort (0x40 + d)).elapsed } } :=
    h.forgetPort.trans ⟨rfl, rfl, rfl, rfl⟩
  unfold State.deviceLeft
  dsimp only
  split
  · exact left.raise
  · exact left

theorem State.SamePaths.setFreq {v : Int} : s.SamePaths (t.setFreq v) := by
  have set : s.SamePaths (t.setFld Reg.timeFreq 31 0 (unsigned 32 (saturate 32 v))) := h.setFld (by decide)
  unfold State.setFreq
  dsimp only
  split
  · exact set.of_chain rfl rfl
  · exact set

theorem State.SamePaths.ite {p : Prop} [Decidable p] {u : State} (other : s.SamePaths u) : s.SamePaths (if p then t else u) := by
  split
  · exact h
  · exact other

/-- The time base entered into a state. -/
def State.timeEntered (s : State) (x : TimeBase) (new : Nat) : State := ({ s with time := x } : State).setFld Reg.timeState 2 0 new

theorem State.SamePaths.timeEntered {x : TimeBase} {new : Nat} : s.SamePaths (t.timeEntered x new) :=
  h.of_chain rfl (State.reg_setFld_ne _ _ _ _ (by decide))

theorem State.SamePaths.toTimeState {new : Nat} : s.SamePaths (t.toTimeState new) := by
  unfold State.toTimeState
  refine State.SamePaths.ite h (State.SamePaths.raise (State.SamePaths.ite (State.SamePaths.setFreq ?_) ?_))
  all_goals exact State.SamePaths.timeEntered (State.SamePaths.ite h.setFreq h)

theorem State.SamePaths.loseSource : s.SamePaths t.loseSource := State.SamePaths.ite h.toTimeState h

theorem State.SamePaths.chainSend {d : Nat} {content : Bytes} : s.SamePaths (t.chainSend d content) := h.pushPrivileged

/-- The events held for want of a path taken. -/
def State.eventsTaken (s : State) : State := { s with chain := { s.chain with waitingEvents := [], droppedEvents := 0 } }

theorem State.SamePaths.draw : s.SamePaths t.draw.2 := h.of_chain rfl rfl

theorem State.SamePaths.releaseEvents : s.SamePaths t.releaseEvents := by
  have taken : s.SamePaths t.eventsTaken := h.trans ⟨rfl, rfl, rfl, rfl⟩
  have sent (l : List Reply) : s.SamePaths (l.foldl (fun (s : State) r => s.chainSend 0 r.packet) t.eventsTaken) :=
    taken.foldl (fun _ same => same.chainSend) l
  unfold State.releaseEvents
  exact State.SamePaths.ite (sent _) (sent _).draw.raise

theorem State.SamePaths.showChain : s.SamePaths t.showChain := by
  have port (i : Nat) : Reg.chainCtl ≠ Reg.chainPortStat i := by
    unfold Reg.chainCtl Reg.chainPortStat
    omega
  have shown : s.SamePaths t.showChain := by
    unfold State.showChain
    refine State.SamePaths.ite ?_ (State.SamePaths.setFlag ?_ (by decide))
    all_goals
      exact (((((((h.setReg (by decide)).setReg (by decide)).setReg (by decide)).setReg (by decide)).setFld (by decide)).setFld (port 0)).setFld (port 1))
  exact shown

theorem State.SamePaths.sendPaths : s.SamePaths t.sendPaths := h.foldl (fun _ same => same.sendControl) _

end

/-- The state with new paths and the ring's flag. -/
def State.pathsSet (s : State) (down up : List Nat) (ring : Bool) : State :=
  ({ s with chain := { s.chain with down := down, up := up } } : State).setFlag Reg.chainStat 15 ring

/-- A device present again. -/
def State.deviceBack (s : State) (d : Nat) : State := { s with chain := { s.chain with departed := Table.drop s.chain.departed d } }

/-- New paths stand as they are given; the rest of a topology's work leaves them, the identities and CHAIN_CTL. -/
theorem State.applyTopology_paths (s : State) (down up : List Nat) (ring tell : Bool) :
    (s.pathsSet down up ring).SamePaths (s.applyTopology down up ring tell) := by
  have back {t u : State} (h : t.SamePaths u) (d : Nat) : t.SamePaths (u.deviceBack d) := h.trans ⟨rfl, rfl, rfl, rfl⟩
  have left (l : List Nat) : (s.pathsSet down up ring).SamePaths (l.foldl (fun (s : State) d => s.deviceLeft tell d) (s.pathsSet down up ring).showChain) :=
    (State.SamePaths.refl _).showChain.foldl (fun _ same => same.deviceLeft) l
  have moved (l m : List Nat) : (s.pathsSet down up ring).SamePaths (m.foldl (fun (s : State) d => s.deviceBack d)
      (l.foldl (fun (s : State) d => s.deviceLeft tell d) (s.pathsSet down up ring).showChain)) := (left l).foldl (fun d same => back same d) m
  unfold State.applyTopology
  refine State.SamePaths.ite (State.SamePaths.releaseEvents (State.SamePaths.ite (State.SamePaths.loseSource ?_) ?_)) (State.SamePaths.ite (State.SamePaths.loseSource ?_) ?_)
  all_goals exact moved _ _

theorem State.pathsSet_shows (s : State) (down up : List Nat) (ring : Bool) : (s.pathsSet down up ring).chain.down = down
    ∧ (s.pathsSet down up ring).chain.up = up ∧ (s.pathsSet down up ring).chain.identities = s.chain.identities
    ∧ (s.pathsSet down up ring).reg Reg.chainCtl = s.reg Reg.chainCtl := ⟨rfl, rfl, rfl, State.reg_setFlag_ne _ _ _ (by decide)⟩

/-! ### The loss of a link (R532, R533) -/

section
variable (s : State) (device port near : Nat)

/-- The state after the paths have been cut at a break. -/
def State.pathsCut : State := s.applyTopology (s.breakPaths device port near).1 (s.breakPaths device port near).2 false true

theorem State.pathsCut_head : (s.pathsCut device port near).head = s.head := by
  obtain ⟨_, _, _, kept⟩ := s.applyTopology_paths (s.breakPaths device port near).1 (s.breakPaths device port near).2 false true
  obtain ⟨_, _, _, ctl⟩ := s.pathsSet_shows (s.breakPaths device port near).1 (s.breakPaths device port near).2 false
  exact State.flag_of_reg (kept.trans ctl) 0

theorem State.chainBroken_eq : s.chainBroken device port near = if s.flag Reg.chainStat 15 && s.head then
    (s.pathsCut device port near).raise 0x0301 1 (le 1 device ++ le 1 port ++ le 1 near) else s.pathsCut device port near := by
  rw [← s.pathsCut_head device port near]
  rfl

end

/-- A lost link, cleared and counted. -/
def State.linkCleared (s : State) (port lost : Nat) : State :=
  (((s.setFlag (Reg.chainPortStat port) 0 false).setFlag (Reg.chainPortStat port) 1 false).bumpFld (Reg.chainPortStat port) 31 16).chainCount port 4 lost

section
variable {s : State} {port lost : Nat}

theorem State.chainLost_same (unlinked : s.chainLink port = false) (unlocked : s.flag (Reg.chainPortStat port) 0 = false) : s.chainLost port lost = s :=
  if_neg (by rw [unlinked, unlocked]; decide)

section
variable (inside : port < 2)
include inside

theorem portStat_apart : Reg.chainPortStat port < 0x10100 ∧ Reg.chainPortStat port ≠ Reg.chainStat := by
  unfold Reg.chainPortStat Reg.chainStat
  omega

theorem State.linkCleared_stat : (s.linkCleared port lost).reg (Reg.chainPortStat port)
    = (((s.setFlag (Reg.chainPortStat port) 0 false).setFlag (Reg.chainPortStat port) 1 false).bumpFld (Reg.chainPortStat port) 31 16).reg (Reg.chainPortStat port) :=
  State.chainCount_reg _ (.inl (portStat_apart inside).1) inside (by decide)

end

end

end Sys2Proof.Machine
end

section
/-! SUPPORT. The lists of the chain's devices: the walk's numbers, the table of identities, paths cut at a break. -/

namespace Sys2Proof.Machine

/-! ### Paths cut at a break -/

section
variable {a b : Nat}

theorem untilBreak_prefix (x : Nat) (l : List Nat) : untilBreak a b x l <+: l := by
  induction l generalizing x with
  | nil => exact List.prefix_rfl
  | cons y l ih =>
    unfold untilBreak
    split
    · exact List.nil_prefix
    · exact (List.prefix_cons_inj y).2 (ih y)

theorem untilBreak_free (x : Nat) (l : List Nat) (i : Nat) (here : (x :: untilBreak a b x l)[i]? = some a) :
    (x :: untilBreak a b x l)[i + 1]? ≠ some b := by
  induction l generalizing x i with
  | nil => simp [untilBreak]
  | cons y l ih =>
    unfold untilBreak at here ⊢
    by_cases broken : x = a ∧ y = b
    · simp [if_pos broken]
    · rw [if_neg broken] at here ⊢
      cases i with
      | zero =>
        intro next
        exact broken ⟨by simpa using here, by simpa using next⟩
      | succ i => exact ih y i here

/-- Up to the break's far end, nothing is cut. -/
theorem mem_untilBreak {m : List Nat} (beyond : b ∉ m) (x : Nat) (r : List Nat) {d : Nat} (inside : d ∈ m) : d ∈ untilBreak a b x (m ++ r) := by
  induction m generalizing x with
  | nil => exact absurd inside List.not_mem_nil
  | cons y m ih =>
    obtain ⟨other, rest⟩ := List.ne_and_not_mem_of_not_mem_cons beyond
    rw [List.cons_append, untilBreak, if_neg fun broken => other broken.2.symm]
    cases inside with
    | head => exact List.mem_cons_self
    | tail _ inside => exact List.mem_cons_of_mem y (ih rest y inside)

/-- A ring with one break reaches every device, one way round or the other. -/
theorem ring_reaches {x : Nat} {l : List Nat} (once : (x :: l).Nodup) {i : Nat} (near : (x :: l ++ [x])[i]? = some a)
    (far : (x :: l ++ [x])[i + 1]? = some b) {d : Nat} (inside : d ∈ l) : d ∈ untilBreak a b x l ∨ d ∈ untilBreak b a x l.reverse := by
  have short : i ≤ l.length := by
    have := (List.getElem?_eq_some_iff.1 far).1
    rw [List.length_append, List.length_cons, List.length_singleton] at this
    omega
  have far_here : b ∈ (l ++ [x]).drop i := List.mem_of_getElem? (i := 0) (by rw [List.getElem?_drop]; exact far)
  have no_far : b ∉ l.take i := fun before => by
    have split := List.disjoint_take_drop (m := i) (n := i) (((List.perm_append_singleton x l).nodup_iff).2 once) le_rfl
    exact split (by rw [List.take_append_of_le_length short]; exact before) far_here
  have near_here : a ∈ (x :: l).take (i + 1) := List.mem_of_getElem? (i := i) (by
    rw [List.getElem?_take_of_lt (by omega), ← List.getElem?_append_left (l₂ := [x]) (by rw [List.length_cons]; omega)]
    exact near)
  have no_near : a ∉ (l.drop i).reverse := fun after =>
    List.disjoint_take_drop once le_rfl near_here (List.mem_reverse.1 after)
  rcases List.mem_append.1 ((List.take_append_drop i l).symm ▸ inside : d ∈ l.take i ++ l.drop i) with before | after
  · left
    rw [← List.take_append_drop i l]
    exact mem_untilBreak no_far x _ before
  · right
    rw [← List.take_append_drop i l, List.reverse_append]
    exact mem_untilBreak no_near x _ (List.mem_reverse.2 after)

end

/-! ### The table of identities (R518, R519) -/

/-- The identities in the order of their numbers, as a table. -/
def numberTable (l : List Bytes) : Table Bytes := l.zipIdx.map fun e => (e.2, e.1)

theorem find_zipIdx (l : List Bytes) (n k : Nat) : Table.find ((l.zipIdx n).map fun e => (e.2, e.1)) k = if n ≤ k then l[k - n]? else none := by
  induction l generalizing n with
  | nil => simp
  | cons x l ih =>
    rw [List.zipIdx_cons, List.map_cons, Table.find_cons, ih]
    by_cases here : n = k
    · rw [if_pos here, if_pos here.le, here, Nat.sub_self]
      rfl
    · rw [if_neg here]
      by_cases later : n + 1 ≤ k
      · rw [if_pos later, if_pos (by omega), show k - n = (k - (n + 1)) + 1 by omega, List.getElem?_cons_succ]
      · rw [if_neg later, if_neg (by omega)]

theorem find_numberTable (l : List Bytes) (k : Nat) : Table.find (numberTable l) k = l[k]? := find_zipIdx l 0 k

theorem assignNumbers_former {t : Table Bytes} {id : Bytes} {d : Nat} (held : numberOf t id = some d) : assignNumbers t [id] = ([(d, true)], t) := by
  simp [assignNumbers, held]

theorem assignNumbers_fresh {t : Table Bytes} {id : Bytes} {d : Nat} (unknown : numberOf t id = none) (free : freeNumber t = some d) :
    assignNumbers t [id] = ([(d, false)], Table.put t d id) := by
  simp [assignNumbers, unknown, free]

theorem freeNumber_lowest {t : Table Bytes} {d : Nat} (free : freeNumber t = some d) :
    Table.find t d = none ∧ ∀ k, k < d → (Table.find t k).isSome = true := by
  obtain ⟨empty, _, below⟩ := List.find?_range_eq_some.1 free
  exact ⟨Option.isNone_iff_eq_none.1 empty, fun k before => by simpa using below k before⟩

/-! ### Enumeration (R518) -/

section
variable (s : State) (walk : ChainWalk)

/-- The identities that a walk brings, in order. -/
def walkIds : List Bytes := if walk.closed then walk.down else walk.down ++ walk.up

/-- The numbers given out of CRD_DN. -/
def walkDown : List Nat := (List.range (min walk.down.length 63)).map (· + 1)

/-- The numbers given out of CRD_UP. -/
def walkUp : List Nat := if walk.closed then (walkDown walk).reverse else
  (List.range (min ((walkIds walk).map (padTo 16)).length 63 - min walk.down.length 63)).map (· + min walk.down.length 63 + 1)

theorem State.enumerate_result : (s.enumerate walk).2 = le 1 (min (walkIds walk).length 63 + 1)
    ++ le 1 (bitOf walk.closed + 2 * bitOf (decide (63 < (walkIds walk).length)) + 4 * bitOf walk.conflict) := by
  rw [← List.length_map (as := walkIds walk) (padTo 16)]
  rfl

theorem State.enumerate_paths : ∃ u : State, u.chain.identities = numberTable (s.identity :: ((walkIds walk).map (padTo 16)).take 63)
    ∧ (u.pathsSet (walkDown walk) (walkUp walk) walk.closed).SamePaths (s.enumerate walk).1 := by
  unfold State.enumerate
  dsimp only
  refine ⟨_, ?_, State.SamePaths.raise (State.SamePaths.sendPaths (State.SamePaths.foldl (State.applyTopology_paths _ _ _ _ _) (fun _ same => same.sendControl) _))⟩
  rfl

theorem State.enumerate_shows : (s.enumerate walk).1.chain.down = (walkDown walk) ∧ (s.enumerate walk).1.chain.up = (walkUp walk)
    ∧ (s.enumerate walk).1.chain.identities = numberTable (s.identity :: ((walkIds walk).map (padTo 16)).take 63) := by
  obtain ⟨u, held, down, up, identities, _⟩ := s.enumerate_paths walk
  obtain ⟨downSet, upSet, identitiesSet, _⟩ := u.pathsSet_shows (walkDown walk) (walkUp walk) walk.closed
  exact ⟨down.trans downSet, up.trans upSet, identities.trans (identitiesSet.trans held)⟩

end

/-! ### Hops (R520) -/

section
variable {s : State} {d a b : Nat} (down : hopsIn s.chain.down d = some a) (up : hopsIn s.chain.up d = some b)
include down up

theorem State.throughUp_iff : s.throughUp d = true ↔ b < a := by simp [State.throughUp, down, up]

theorem State.hopsTo_eq (other : d ≠ s.device) : s.hopsTo d = some (min a b) := by simp [State.hopsTo, down, up, other]

end

/-- What CHAIN_STATUS returns. -/
def State.chainBytes (s : State) : Bytes :=
  ([Reg.chainStat, Reg.chainMapLo, Reg.chainMapHi, Reg.chainRouteLo, Reg.chainRouteHi].flatMap fun a => le 4 (s.reg a).toNat)
    ++ (List.range 64).flatMap fun d => le 1 ((s.hopsTo d).getD 0xFF)

theorem State.chainBytes_shows (s : State) : s.chainBytes.length = 84
    ∧ num s.chainBytes 0 4 = (s.reg Reg.chainStat).toNat ∧ num s.chainBytes 4 4 = (s.reg Reg.chainMapLo).toNat
    ∧ num s.chainBytes 8 4 = (s.reg Reg.chainMapHi).toNat ∧ num s.chainBytes 12 4 = (s.reg Reg.chainRouteLo).toNat
    ∧ num s.chainBytes 16 4 = (s.reg Reg.chainRouteHi).toNat
    ∧ ∀ d, d < 64 → num s.chainBytes (20 + d) 1 = (s.hopsTo d).getD 0xFF % 256 := by
  have words : ∀ a, (le 4 (s.reg a).toNat).length = 4 := fun _ => length_le _ _
  have hops : ∀ d, (le 1 ((s.hopsTo d).getD 0xFF)).length = 1 := fun _ => length_le _ _
  have first : ([Reg.chainStat, Reg.chainMapLo, Reg.chainMapHi, Reg.chainRouteLo, Reg.chainRouteHi].flatMap fun a => le 4 (s.reg a).toNat).length = 20 :=
    length_flatMap_entry words _
  have entry {j a : Nat} (at_j : [Reg.chainStat, Reg.chainMapLo, Reg.chainMapHi, Reg.chainRouteLo, Reg.chainRouteHi][j]? = some a) :
      num s.chainBytes (4 * j + 0) 4 = (s.reg a).toNat := by
    have inside : j < 5 := (List.getElem?_eq_some_iff.1 at_j).1
    rw [State.chainBytes, num_append_within (by rw [first]; omega), num_flatMap_entry words at_j (by decide), num_le_word]
  refine ⟨?_, entry (j := 0) rfl, entry (j := 1) rfl, entry (j := 2) rfl, entry (j := 3) rfl, entry (j := 4) rfl, fun d inside => ?_⟩
  · rw [State.chainBytes, List.length_append, first, length_flatMap_entry hops, List.length_range]
  · rw [State.chainBytes, num_append_right first, ← Nat.one_mul d, ← Nat.add_zero (1 * d),
      num_flatMap_entry hops (List.getElem?_range (by omega)) (by decide), num_le, Nat.one_mul, Nat.pow_one, Nat.add_zero]

/-! ### A port's enable (R535) -/

section
variable {s : State} {q e : Nat} (port : q ≤ 1) (value : e ≤ 1)
include port value

/-- The enable of the port named is the one written; the other port's stays. -/
theorem enable_withField (old : Word) {p : Nat} (here : p ≤ 1) :
    field (withField old (8 + q) (8 + q) e) (8 + p) (8 + p) = if p = q then e else field old (8 + p) (8 + p) := by
  by_cases named : p = q
  · subst named
    rw [if_pos rfl, field_withField _ _ (by omega), Nat.add_sub_cancel_left, Nat.mod_eq_of_lt (by omega)]
  · rw [if_neg named, field_withField_other _ _ (by omega) (by omega)]

theorem State.chainCtlCheck_port : s.chainCtlCheck (s.reg Reg.chainCtl) (withField (s.reg Reg.chainCtl) (8 + q) (8 + q) e)
    = if s.trimmed (7 + q) && e == 1 && !s.flag Reg.chainCtl (8 + q) then some (Status.notPermitted, []) else none := by
  have zero := enable_withField port value (s.reg Reg.chainCtl) (p := 0) (by decide)
  have one := enable_withField port value (s.reg Reg.chainCtl) (p := 1) (by decide)
  have within (p : Nat) : field (s.reg Reg.chainCtl) (8 + p) (8 + p) < 2 := by
    have := field_lt (s.reg Reg.chainCtl) (8 + p) (8 + p)
    rwa [Nat.add_sub_cancel_left] at this
  have small := within q
  unfold State.chainCtlCheck
  refine if_congr ?_ rfl rfl
  rw [List.any_cons, List.any_cons, List.any_nil, zero, one, State.flag, State.fld]
  obtain rfl | rfl : q = 0 ∨ q = 1 := by omega
  all_goals grind

end

section
variable {s : State} {q : Nat} (port : q ≤ 1)
include port

/-- An enable that is cleared acts as a link loss. -/
theorem State.chainCtlWritten_cleared {old : Word} (enabled : field old (8 + q) (8 + q) = 1) :
    s.chainCtlWritten old (withField old (8 + q) (8 + q) 0) = s.chainLost q 0 := by
  have zero := enable_withField port (Nat.zero_le 1) old (p := 0) (by decide)
  have one := enable_withField port (Nat.zero_le 1) old (p := 1) (by decide)
  unfold State.chainCtlWritten
  rw [List.foldl_cons, List.foldl_cons, List.foldl_nil, zero, one]
  have idle (n : Nat) (t u v : State) : (if n = 0 ∧ n = 1 then t else if n = 1 ∧ n = 0 then u else v) = v := by
    rw [if_neg (by omega), if_neg (by omega)]
  obtain rfl | rfl : q = 0 ∨ q = 1 := by omega
  · simp [enabled, idle]
  · simp [enabled, idle]

end

end Sys2Proof.Machine
end

section
/-! The chain: enumeration, its status, its ports, the loss of a link and its return (R516 to R535). -/

namespace Sys2Proof.Machine

section
variable {s : State} {port lost : Nat} (inside : port < 2)
include inside

/-- What a lost link leaves at the port: no link, no lock, the loss and the lost frames counted. -/
theorem State.linkCleared_shows : (s.linkCleared port lost).chainLink port = false ∧ (s.linkCleared port lost).flag (Reg.chainPortStat port) 0 = false
    ∧ (s.linkCleared port lost).fld (Reg.chainPortStat port) 31 16 = min 65535 (s.fld (Reg.chainPortStat port) 31 16 + 1)
    ∧ (s.linkCleared port lost).chain = s.chain
    ∧ (s.reg64 (Reg.chainPortCntLo port 4) + lost) % 2 ^ 64 = (s.linkCleared port lost).reg64 (Reg.chainPortCntLo port 4) := by
  have stat := State.linkCleared_stat (s := s) (lost := lost) inside
  have apart : Reg.chainPortCntLo port 4 ≠ Reg.chainPortStat port ∧ Reg.chainPortCntLo port 4 + 4 ≠ Reg.chainPortStat port := by
    unfold Reg.chainPortCntLo Reg.chainPortStat
    omega
  refine ⟨?_, ?_, ?_, rfl, ?_⟩
  · rw [State.chainLink, State.flag_of_reg stat, State.flag, State.bumpFld, State.fld_setFld_other _ _ _ (by decide) (by decide), ← State.flag,
      State.flag_setFlag _ _ _ (by decide)]
  · rw [State.flag_of_reg stat, State.flag, State.bumpFld, State.fld_setFld_other _ _ _ (by decide) (by decide),
      State.fld_setFlag_other _ _ _ (by decide) (by decide), ← State.flag, State.flag_setFlag _ _ _ (by decide)]
  · rw [State.fld_of_reg stat, State.fld_bumpFld _ _ _ (by decide), State.fld_setFlag_other _ _ _ (by decide) (by decide),
      State.fld_setFlag_other _ _ _ (by decide) (by decide), Nat.min_comm]
    rfl
  · have same : (((s.setFlag (Reg.chainPortStat port) 0 false).setFlag (Reg.chainPortStat port) 1 false).bumpFld (Reg.chainPortStat port) 31 16).reg64
        (Reg.chainPortCntLo port 4) = s.reg64 (Reg.chainPortCntLo port 4) := by
      rw [State.reg64, State.reg64]
      simp only [State.reg_bumpFld_ne _ _ _ _ apart.1, State.reg_bumpFld_ne _ _ _ _ apart.2, State.reg_setFlag_ne _ _ _ apart.1,
        State.reg_setFlag_ne _ _ _ apart.2]
    rw [State.linkCleared, State.chainCount, State.reg64_bump64, same]

theorem State.linkCleared_device : (s.linkCleared port lost).device = s.device := by
  have same : (s.linkCleared port lost).reg Reg.chainStat = s.reg Reg.chainStat := by
    rw [State.linkCleared, State.chainCount_reg _ (.inl (by decide)) inside (by decide), State.reg_bumpFld_ne _ _ _ _ (portStat_apart inside).2.symm,
      State.reg_setFlag_ne _ _ _ (portStat_apart inside).2.symm, State.reg_setFlag_ne _ _ _ (portStat_apart inside).2.symm]
  rw [State.device, State.fld_of_reg same, State.device]

theorem State.chainLost_linked (linked : s.chainLink port = true) : s.chainLost port lost
    = ((((s.linkCleared port lost).chainBroken s.device port (s.fld (Reg.chainPortStat port) 15 8)).setFld (Reg.chainPortStat port) 15 8 0xFF).resendUnacked
      port).tellAll (.broken port (s.fld (Reg.chainPortStat port) 15 8)) := by
  rw [← State.linkCleared_device (lost := lost) inside, State.chainLost, if_pos (by rw [linked]; rfl)]
  exact if_pos linked

end

/-- A port whose link has come up. -/
def State.linkRaised (s : State) (port : Nat) : State := (s.setFlag (Reg.chainPortStat port) 0 true).setFlag (Reg.chainPortStat port) 1 true

section
variable {s : State} {port : Nat}

theorem State.linkRaised_reg {a : Nat} (other : a < 0x10020) : (s.linkRaised port).reg a = s.reg a := by
  have apart : a ≠ Reg.chainPortStat port := by
    unfold Reg.chainPortStat
    omega
  exact (State.reg_setFlag_ne _ _ _ apart).trans (State.reg_setFlag_ne _ _ _ apart)

theorem State.linkRaised_head : (s.linkRaised port).head = s.head := State.flag_of_reg (State.linkRaised_reg (by decide)) 0

theorem State.linkRaised_device : (s.linkRaised port).device = s.device := by
  rw [State.device, State.fld_of_reg (State.linkRaised_reg (by decide)), State.device]

theorem State.linkRaised_numbered : (s.linkRaised port).numbered = s.numbered := by
  rw [State.numbered, State.fld_of_reg (State.linkRaised_reg (by decide)), State.numbered]

theorem State.linkRaised_present (d : Nat) : (s.linkRaised port).present d = s.present d := by
  rw [State.present, State.linkRaised_device, State.linkRaised_reg (by decide), State.linkRaised_reg (by decide), State.present]

/-- What CHAIN_LINK_UP does once the port's link may come up: the head joins what lies beyond, another device reports it. -/
theorem execChainLinkUp_raised {beyond : List Bytes} {ring : Bool}
    (up : (s.flag Reg.chainCtl (8 + port) && !s.chainLink port && !s.flag (Reg.chainPortStat port) 2 && s.on .link) = true) :
    execChainLinkUp port beyond ring s = .next (if s.head then (s.linkRaised port).join s.device port beyond ring
      else if s.numbered && s.present 0 then (s.linkRaised port).sendControl 0 (.found port beyond ring) else s.linkRaised port) := by
  rw [← State.linkRaised_head (s := s) (port := port), ← State.linkRaised_device (s := s) (port := port),
    ← State.linkRaised_numbered (s := s) (port := port), ← State.linkRaised_present (s := s) (port := port)]
  exact congrArg Host.Outcome.next (if_pos up)

end

/-- Settles O57: clause by clause over the commands and events of the chain. -/
theorem chainHeld : Obligations.ChainHeld := by
  intro s c p
  refine ⟨fun walk ready => ⟨fun other => ?_, fun h head waits => ?_, fun head free => ?_⟩, fun walk => ?_,
    fun t id d => ⟨assignNumbers_former, fun unknown free => ⟨assignNumbers_fresh unknown free, freeNumber_lowest free⟩⟩,
    fun ready => ?_, fun d a b down up => ⟨State.throughUp_iff down up, State.hopsTo_eq down up⟩, fun ready => ?_,
    fun port lost inside => ⟨fun unlinked unlocked => ?_, fun linked => ?_⟩, fun device port near => ⟨fun ring head => ?_, fun line => ?_⟩,
    fun a b x l => ⟨untilBreak_prefix x l, untilBreak_free x l, fun once ⟨i, near, far⟩ d inside => ring_reaches once near far inside⟩,
    fun port beyond ring inside => ⟨fun down => ?_, fun up => ⟨?_, fun head => ?_, fun other numbered present => ?_, fun other unnumbered => ?_⟩⟩⟩
  case refine_1 =>
    simp [exec, execChainEnum, State.run_ready ready, other, State.settle]
    rfl
  case refine_2 =>
    simp [exec, execChainEnum, State.run_ready ready, head, waits, State.settle]
    rfl
  case refine_3 =>
    simp [exec, execChainEnum, State.run_ready ready, head, free, State.settle]
    rfl
  case refine_4 =>
    obtain ⟨down, up, identities⟩ := s.enumerate_shows walk
    refine ⟨s.enumerate_result walk, down, fun closed => ?_, ?_, fun i inside => ?_⟩
    · exact up.trans (by rw [walkUp, if_pos closed, ← down])
    · rw [identities, find_numberTable]
      rfl
    · rw [identities, find_numberTable, List.getElem?_cons_succ, List.getElem?_take_of_lt inside, List.getElem?_map]
      rfl
  case refine_5 =>
    obtain ⟨length, shows⟩ := (s.received c).chainBytes_shows
    exact ⟨(s.received c).chainBytes, congrArg _ (State.run_ready ready _), length, shows⟩
  case refine_6 =>
    obtain ⟨port, value⟩ : num p 0 1 ≤ 1 ∧ num p 1 1 ≤ 1 := by
      have := ready.range
      simp only [chainPortSetSpec, Bool.and_eq_true, decide_eq_true_eq] at this
      exact this.1
    have checked := State.chainCtlCheck_port (s := s.received c) port value
    refine ⟨fun shut => ?_, fun allowed => ?_, fun cleared enabled t => ?_⟩
    · simp [exec, execChainPortSet, State.run_ready ready, checked, shut, State.settle]
      rfl
    · simp [exec, execChainPortSet, State.run_ready ready, checked, allowed, State.settle]
      rfl
    · rw [cleared]
      exact State.chainCtlWritten_cleared port (of_decide_eq_true enabled)
  case refine_7 => exact congrArg Host.Outcome.next (State.chainLost_same unlinked unlocked)
  case refine_8 =>
    obtain ⟨unlinked, unlocked, count, chain, lostCount⟩ := State.linkCleared_shows (s := s) (lost := lost) inside
    exact ⟨s.linkCleared port lost, unlinked, unlocked, count, chain, lostCount, congrArg Host.Outcome.next (State.chainLost_linked inside linked)⟩
  case refine_9 =>
    rw [State.chainBroken_eq, ring, head]
    rfl
  case refine_10 =>
    rw [State.chainBroken_eq, line]
    rfl
  case refine_11 => exact congrArg Host.Outcome.next (if_neg (by rw [down]; decide))
  case refine_12 => exact State.flag_setFlag _ _ _ (by decide)
  case refine_13 => exact (execChainLinkUp_raised up).trans (congrArg Host.Outcome.next (if_pos head))
  case refine_14 =>
    refine (execChainLinkUp_raised up).trans ?_
    rw [other, numbered, present]
    rfl
  case refine_15 =>
    refine (execChainLinkUp_raised up).trans ?_
    rw [other, unnumbered]
    rfl

end Sys2Proof.Machine
end

section
/-! Error scores and their leak, wear, checkpoints, and what the fault commands read (R536 to R555). -/

namespace Sys2Proof.Machine

/-! ### Scores (R536) -/

section
variable (s : State) (kind unit : Nat) (x : Score)

@[simp] theorem State.setScore_units : (s.setScore kind unit x).darn.units = s.darn.units := by
  unfold State.setScore
  dsimp only
  split <;> rfl

theorem State.setScore_scores : (s.setScore kind unit x).darn.scores
    = if x = {} then Table.drop s.darn.scores (unitKey kind unit) else Table.put s.darn.scores (unitKey kind unit) x := by
  unfold State.setScore
  dsimp only
  split <;> rfl

/-- An error leaves a score that is not the one of a unit never in error, for it counts. -/
theorem State.scoreError_serving (serving : s.unitState kind unit ≠ .retired) : s.scoreError kind unit
    = (decide ((s.scoring kind).2 < min 255 ((s.scoreOf kind unit).score + (s.scoring kind).1)),
      (s.setScore kind unit ⟨min 255 ((s.scoreOf kind unit).score + (s.scoring kind).1), min 65535 ((s.scoreOf kind unit).errors + 1)⟩).darnCount 0) :=
  if_neg serving

end

section
variable {s : State} {kind unit : Nat} {x : Score} (counted : x ≠ {})
include counted

theorem State.setScore_same : (s.setScore kind unit x).scoreOf kind unit = x := by
  rw [State.scoreOf, State.setScore_scores, if_neg counted, Table.find_put, Option.getD_some]

theorem State.setScore_other {key : Nat} (other : key ≠ unitKey kind unit) :
    Table.find (s.setScore kind unit x).darn.scores key = Table.find s.darn.scores key := by
  rw [State.setScore_scores, if_neg counted, Table.find_put_ne _ _ other]

end

/-- A score with an error in it is not the one of a unit never in error. -/
theorem score_counted (score errors : Nat) : (⟨score, min 65535 (errors + 1)⟩ : Score) ≠ {} := by
  intro never
  have := congrArg Score.errors never
  dsimp only at this
  omega

/-! ### The leak (R536) -/

theorem find_map_value {α : Type} (t : Table α) (f : Nat → α → α) (k : Nat) : Table.find (t.map fun e => (e.1, f e.1 e.2)) k = (Table.find t k).map (f k) := by
  induction t with
  | nil => rfl
  | cons e t ih =>
    obtain ⟨n, v⟩ := e
    rw [List.map_cons, Table.find_cons, Table.find_cons, ih]
    split
    case isTrue here => rw [here, Option.map_some]
    case isFalse => rfl

/-- Whether the key is that of a unit of a kind in use. -/
def State.leaks (s : State) (kind key : Nat) : Bool :=
  decide (unitKey kind 0 ≤ key ∧ (kind = 4 ∨ key < 65536 + unitKey kind 0) ∧ s.unitState kind (key - unitKey kind 0) ≠ .retired)

/-- A score less 1, of a unit that leaks. -/
def State.leaked (s : State) (kind key : Nat) (x : Score) : Score := if s.leaks kind key then { x with score := x.score - 1 } else x

theorem State.leakScores_eq (s : State) (kind : Nat) : s.leakScores kind = s.darn.scores.map fun e => (e.1, s.leaked kind e.1 e.2) := by
  refine List.map_congr_left fun e _ => ?_
  unfold State.leaked State.leaks
  dsimp only
  split <;> simp [*]

theorem State.find_leakScores (s : State) (kind key : Nat) :
    (Table.find (s.leakScores kind) key).getD {} = s.leaked kind key ((Table.find s.darn.scores key).getD {}) := by
  rw [State.leakScores_eq, find_map_value]
  cases Table.find s.darn.scores key with
  | some x => rfl
  | none =>
    unfold State.leaked
    split <;> rfl

section
variable (s : State) {kind unit : Nat}

theorem State.leaks_own (inside : kind = 4 ∨ unit < 65536) : s.leaks kind (unitKey kind unit) = decide (s.unitState kind unit ≠ .retired) := by
  have place : unitKey kind unit = unitKey kind 0 + unit := rfl
  rw [State.leaks, place, Nat.add_sub_cancel_left]
  refine decide_eq_decide.2 ⟨fun h => h.2.2, fun h => ⟨Nat.le_add_right _ _, ?_, h⟩⟩
  omega

theorem State.leaks_other {other : Nat} (known : kind ≤ 10) (apart : other ≠ kind) (known' : other ≤ 10) (row : other ≠ 4) (inside : unit < 65536) :
    s.leaks kind (unitKey other unit) = false := by
  refine decide_eq_false fun ⟨low, high, _⟩ => ?_
  unfold unitKey at low high
  rw [if_neg row] at low high
  by_cases rows : kind = 4
  · rw [if_pos rows] at low
    omega
  · rw [if_neg rows] at low high
    have := high.resolve_left rows
    omega

/-- The state once a leak period has passed: the next one set, the scores leaked. -/
def State.scoresLeaked (kind : Nat) : State :=
  let t := s.reachElapsed (s.leakEnd kind)
  { t with darn := { t.darn with
      leaks := Table.put t.darn.leaks kind (s.leakEnd kind + 60000000000 * (if kind ≤ 5 then t.fld (Reg.darnClassCfg kind) 23 16 else 1))
      scores := t.leakScores kind } }

/-- The score of a cipher engine shown in its register. -/
def State.showEngine (s : State) (e : Nat) : State := s.setFld (Reg.ciphEngStat e) 15 8 (s.scoreOf 3 e).score

/-- The scores of all cipher engines shown in their registers. -/
def State.enginesShown : State := (List.range 5).foldl State.showEngine s

theorem execScoreLeak_eq (used : kind ≠ 6) (known : kind ≤ 10) :
    execScoreLeak kind s = .next (if kind = 3 then (s.scoresLeaked kind).enginesShown else s.scoresLeaked kind) :=
  congrArg Host.Outcome.next (if_neg (by omega))

theorem State.enginesShown_keeps : s.enginesShown.darn = s.darn ∧ s.enginesShown.elapsed = s.elapsed :=
  ⟨foldl_keeps State.darn (f := State.showEngine) (fun _ _ => rfl) _ _, foldl_keeps State.elapsed (f := State.showEngine) (fun _ _ => rfl) _ _⟩

theorem State.scoresLeaked_darn : (s.scoresLeaked kind).darn.units = s.darn.units
    ∧ (s.scoresLeaked kind).darn.scores = s.leakScores kind
    ∧ Table.find (s.scoresLeaked kind).darn.leaks kind
      = some (s.leakEnd kind + 60000000000 * (if kind ≤ 5 then s.fld (Reg.darnClassCfg kind) 23 16 else 1)) := by
  have same : (s.reachElapsed (s.leakEnd kind)).darn = s.darn := by rw [State.reachElapsed_eq]
  refine ⟨congrArg (·.units) same, ?_, ?_⟩
  · show (s.reachElapsed (s.leakEnd kind)).leakScores kind = s.leakScores kind
    unfold State.leakScores State.unitState
    rw [same]
  · show Table.find (Table.put (s.reachElapsed (s.leakEnd kind)).darn.leaks kind _) kind = _
    rw [Table.find_put, State.reachElapsed_fld]

theorem State.scoresLeaked_elapsed : s.leakEnd kind ≤ (s.scoresLeaked kind).elapsed := by
  show s.leakEnd kind ≤ (s.reachElapsed (s.leakEnd kind)).elapsed
  rw [State.reachElapsed_elapsed]
  omega

theorem State.scoresLeaked_scoreOf (k u : Nat) : (s.scoresLeaked kind).scoreOf k u = s.leaked kind (unitKey k u) (s.scoreOf k u) := by
  rw [State.scoreOf, s.scoresLeaked_darn.2.1, State.find_leakScores, State.scoreOf]

theorem State.scoresLeaked_own (inside : kind = 4 ∨ unit < 65536) : (s.scoresLeaked kind).scoreOf kind unit
    = if s.unitState kind unit = .retired then s.scoreOf kind unit else { s.scoreOf kind unit with score := (s.scoreOf kind unit).score - 1 } := by
  rw [State.scoresLeaked_scoreOf, State.leaked, s.leaks_own inside]
  split <;> simp_all

theorem State.scoresLeaked_other {other : Nat} (known : kind ≤ 10) (apart : other ≠ kind) (known' : other ≤ 10) (row : other ≠ 4) (inside : unit < 65536) :
    (s.scoresLeaked kind).scoreOf other unit = s.scoreOf other unit := by
  rw [State.scoresLeaked_scoreOf, State.leaked, s.leaks_other known apart known' row inside]
  rfl

theorem State.foldl_showEngine {l : List Nat} {t : State} (same : t.darn = s.darn) {e : Nat} (here : e ∈ l) :
    (l.foldl State.showEngine t).fld (Reg.ciphEngStat e) 15 8 = (s.scoreOf 3 e).score % 256 := by
  induction l generalizing t with
  | nil => exact absurd here List.not_mem_nil
  | cons a l ih =>
    rw [List.foldl_cons]
    by_cases later : e ∈ l
    · exact ih (t := t.showEngine a) same later
    · have now : e = a := (List.mem_cons.1 here).resolve_right later
      have kept := foldl_keeps_mem (fun u : State => u.fld (Reg.ciphEngStat e) 15 8) (f := State.showEngine) l
        (fun u other inside => u.fld_setFld_ne _ _ _ _ _ fun equal => later (by unfold Reg.ciphEngStat at equal; rwa [show e = other by omega])) (t.showEngine a)
      refine kept.trans ?_
      rw [now, State.showEngine, State.fld_setFld _ _ _ (by decide), State.scoreOf, same, State.scoreOf]
      rfl

theorem State.enginesShown_fld {e : Nat} (inside : e < 5) : s.enginesShown.fld (Reg.ciphEngStat e) 15 8 = (s.scoreOf 3 e).score % 256 :=
  s.foldl_showEngine rfl (List.mem_range.2 inside)

end

/-! ### Wear (R550) -/

section
variable (s : State)

/-- Wear counters 2 to 4 as the flash and OTP stand. -/
def State.wearCounted : State :=
  let erases (l : List Nat) : Nat := l.foldl max 0
  let roles := [s.areaOf 0, s.areaOf 1].map fun a => (s.boot.areas.getD a {}).erases
  let s := s.setReg (Reg.darnWear 2) (word (max (s.reg (Reg.darnWear 2)).toNat (erases roles)))
  let s := s.setReg (Reg.darnWear 3) (word (erases (s.boot.slots.map (·.erases))))
  s.setReg (Reg.darnWear 4) (word s.sec.rollback.length)

theorem State.wearCounted_darn : s.wearCounted.darn = s.darn := rfl

/-- Whether a wear counter has reached its threshold. -/
def State.worn (w : Nat) : Bool := decide ((s.reg (Reg.darnWearThr w)).toNat ≤ (s.reg (Reg.darnWear w)).toNat)

/-- A wear counter noted as reported. -/
def State.wearNoted (w : Nat) : State := { s with darn := { s.darn with wearReported := s.darn.wearReported ++ [w] } }

/-- A wear counter reported at its threshold, once. -/
def State.reportWear (w : Nat) : State :=
  if (s.reg (Reg.darnWear w)).toNat < (s.reg (Reg.darnWearThr w)).toNat ∨ s.darn.wearReported.contains w then s else
    ((s.wearNoted w).setSvc 13).raise 0x7004 1 (le 1 w ++ le 4 ((s.wearNoted w).reg (Reg.darnWear w)).toNat)

theorem State.checkWear_eq : s.checkWear = (List.range 5).foldl State.reportWear s.wearCounted := rfl

theorem State.setSvc_reg (b : Nat) {a : Nat} (buffer : a ≠ Reg.tmBufStat) (service : a ≠ Reg.darnSvc) : (s.setSvc b).reg a = s.reg a := by
  unfold State.setSvc
  dsimp only
  split
  · rfl
  · exact ((State.AnswersTo.refl _).raise.noteSummary.reg buffer).trans (State.reg_setFlag_ne _ _ _ service)

theorem State.setSvc_darn (b : Nat) : (s.setSvc b).darn = s.darn := by
  unfold State.setSvc
  dsimp only
  split
  · rfl
  · exact (State.AnswersTo.refl _).raise.noteSummary.darn_eq

theorem State.reportWear_reg (w : Nat) {a : Nat} (buffer : a ≠ Reg.tmBufStat) (service : a ≠ Reg.darnSvc) : (s.reportWear w).reg a = s.reg a := by
  unfold State.reportWear
  split
  · rfl
  · exact (State.raise_reg _ _ _ _ _ buffer).trans ((s.wearNoted w).setSvc_reg 13 buffer service)

theorem State.reportWear_reports (w v : Nat) :
    v ∈ (s.reportWear w).darn.wearReported ↔ v ∈ s.darn.wearReported ∨ (v = w ∧ s.worn v = true) := by
  unfold State.reportWear State.worn
  split
  case isTrue quiet =>
    refine ⟨.inl, fun reported => reported.elim id fun ⟨here, reached⟩ => ?_⟩
    subst here
    exact List.contains_iff_mem.1 (quiet.resolve_left (by have := of_decide_eq_true reached; omega))
  case isFalse loud =>
    rw [State.raise_darn, State.setSvc_darn]
    have reached : (s.reg (Reg.darnWearThr w)).toNat ≤ (s.reg (Reg.darnWear w)).toNat := by
      have := mt Or.inl loud
      omega
    show v ∈ s.darn.wearReported ++ [w] ↔ _
    rw [List.mem_append, List.mem_singleton]
    refine or_congr_right ⟨fun here => ⟨here, ?_⟩, And.left⟩
    rw [here]
    exact decide_eq_true reached

/-- The registers that hold a wear counter and its threshold are not those that a report moves. -/
theorem wear_apart (w : Nat) : (Reg.darnWear w ≠ Reg.tmBufStat ∧ Reg.darnWear w ≠ Reg.darnSvc) ∧ Reg.darnWearThr w ≠ Reg.tmBufStat ∧ Reg.darnWearThr w ≠ Reg.darnSvc := by
  unfold Reg.darnWear Reg.darnWearThr Reg.tmBufStat Reg.darnSvc
  omega

theorem State.reportWear_worn (w v : Nat) : (s.reportWear w).worn v = s.worn v := by
  obtain ⟨⟨counterBuffer, counterService⟩, thresholdBuffer, thresholdService⟩ := wear_apart v
  rw [State.worn, s.reportWear_reg w counterBuffer counterService, s.reportWear_reg w thresholdBuffer thresholdService, State.worn]

theorem State.foldl_reportWear (l : List Nat) (v : Nat) : (l.foldl State.reportWear s).worn v = s.worn v
    ∧ (v ∈ (l.foldl State.reportWear s).darn.wearReported ↔ v ∈ s.darn.wearReported ∨ (v ∈ l ∧ s.worn v = true)) := by
  induction l generalizing s with
  | nil => simp
  | cons w l ih =>
    obtain ⟨worn, reported⟩ := ih (s.reportWear w)
    rw [State.reportWear_worn] at worn reported
    refine ⟨worn, reported.trans ?_⟩
    rw [State.reportWear_reports, List.mem_cons, or_and_right, or_assoc]

theorem State.checkWear_reports {w : Nat} (counter : w < 5) :
    w ∈ s.checkWear.darn.wearReported ↔ w ∈ s.darn.wearReported ∨ s.checkWear.worn w = true := by
  obtain ⟨worn, reported⟩ := s.wearCounted.foldl_reportWear (List.range 5) w
  rw [State.checkWear_eq, worn, reported, State.wearCounted_darn]
  simp [counter]

/-- An hour of power counted, a hot one too. -/
def State.hourCounted (hot : Bool) : State := if hot then (s.bump (Reg.darnWear 0)).bump (Reg.darnWear 1) else s.bump (Reg.darnWear 0)

theorem execWearHour_eq (hot : Bool) (on : s.powerState ≠ 4) : execWearHour hot s = .next ((s.hourCounted hot).checkWear.logDarn 1 0 0 0xFFFF 0) :=
  congrArg Host.Outcome.next (if_neg on)

theorem State.bump_word (a n : Nat) : (s.bump a n).reg a = word (min 0xFFFFFFFF ((s.reg a).toNat + n)) := by
  apply BitVec.eq_of_toNat_eq
  rw [State.reg_bump, BitVec.toNat_ofNat]
  omega

theorem State.hourCounted_shows (hot : Bool) : (s.hourCounted hot).reg (Reg.darnWear 0) = word (min 0xFFFFFFFF ((s.reg (Reg.darnWear 0)).toNat + 1))
    ∧ (s.hourCounted hot).reg (Reg.darnWear 1) = word (min 0xFFFFFFFF ((s.reg (Reg.darnWear 1)).toNat + bitOf hot)) ∧ (s.hourCounted hot).darn = s.darn := by
  have apart : Reg.darnWear 0 ≠ Reg.darnWear 1 := by decide
  unfold State.hourCounted
  cases hot with
  | true =>
    refine ⟨?_, ?_, rfl⟩
    · rw [if_pos rfl, State.reg_bump_ne _ _ apart, State.bump_word]
    · rw [if_pos rfl, State.bump_word, State.reg_bump_ne _ _ apart.symm]
      rfl
  | false =>
    refine ⟨State.bump_word _ _ _, ?_, rfl⟩
    rw [if_neg Bool.false_ne_true, State.reg_bump_ne _ _ apart.symm]
    apply BitVec.eq_of_toNat_eq
    have := (s.reg (Reg.darnWear 1)).isLt
    rw [BitVec.toNat_ofNat, show bitOf false = 0 from rfl]
    omega

end

/-! ### The log (R544) -/

theorem crcBit_lt {poly c : Nat} (whole : poly < 2 ^ 32) (word : c < 2 ^ 32) : crcBit poly c < 2 ^ 32 := by
  unfold crcBit
  split
  · exact Nat.xor_lt_two_pow (by omega) whole
  · omega

theorem crcByte_lt {poly c : Nat} (whole : poly < 2 ^ 32) (word : c < 2 ^ 32) (b : Byte) : crcByte poly c b < 2 ^ 32 := by
  have bits (l : List Nat) (x : Nat) (small : x < 2 ^ 32) : l.foldl (fun x _ => crcBit poly x) x < 2 ^ 32 := by
    induction l generalizing x with
    | nil => exact small
    | cons _ l ih => exact ih _ (crcBit_lt whole small)
  exact bits _ _ (Nat.xor_lt_two_pow word (lt_trans b.isLt (by decide)))

theorem crc32c_lt (p : Bytes) : crc32c p < 2 ^ 32 := by
  have bytes (l : Bytes) (x : Nat) (small : x < 2 ^ 32) : l.foldl (crcByte 0x82F63B78) x < 2 ^ 32 := by
    induction l generalizing x with
    | nil => exact small
    | cons b l ih => exact ih _ (crcByte_lt (by decide) small b)
  exact Nat.xor_lt_two_pow (bytes p _ (by decide)) (by decide)

/-- A log record but for its check. -/
def LogRecord.body (r : LogRecord) : Bytes :=
  le 4 r.seq ++ le 6 r.seconds ++ le 1 r.kind ++ le 1 r.unitKind ++ le 2 r.unit ++ le 2 r.spare ++ le 1 r.cause
    ++ le 3 0 ++ (List.range 5).flatMap (fun w => le 4 (r.wear.getD w 0)) ++ List.replicate 20 0

theorem LogRecord.body_length (r : LogRecord) : r.body.length = 60 := by
  simp [LogRecord.body]

theorem LogRecord.bytes_shows (r : LogRecord) : r.bytes.length = 64 ∧ num r.bytes 60 4 = crc32c (r.bytes.take 60) := by
  have parts : r.bytes = r.body ++ le 4 (crc32c r.body) := rfl
  constructor
  · rw [parts, List.length_append, r.body_length, length_le]
  · rw [parts, num_append_beyond (by rw [r.body_length]), r.body_length, List.take_left' r.body_length, num_le]
    exact Nat.mod_eq_of_lt (crc32c_lt _)

/-- The record that an entry in the log makes. -/
def State.darnRecord (s : State) (kind unitKind unit spare cause : Nat) : LogRecord :=
  { seq := s.darn.logSeq, seconds := s.seconds, kind := kind, unitKind := unitKind, unit := unit, spare := spare, cause := cause,
    wear := (List.range 5).map fun w => (s.reg (Reg.darnWear w)).toNat }

theorem logged_last (l : List LogRecord) (r : LogRecord) : ((l ++ [r]).drop (l.length - 127)).getLast? = some r
    ∧ ((l ++ [r]).drop (l.length - 127)).length ≤ 128 := by
  constructor
  · rw [List.drop_append_of_le_length (by omega), List.getLast?_append]
    rfl
  · rw [List.length_drop, List.length_append, List.length_singleton]
    omega

theorem State.logDarn_copies (s : State) (kind unitKind unit spare cause : Nat) : (s.logDarn kind unitKind unit spare cause).boot.sealedCopies
    = s.boot.sealedCopies.map fun c => { c with log := (c.log ++ [s.darnRecord kind unitKind unit spare cause]).drop (c.log.length - 127) } := rfl

/-! ### Checkpoints (R548) -/

/-- The tags outstanding, each with its session. -/
def State.tagsOut (s : State) : List (Nat × Nat) := (List.range 4).flatMap fun n => (s.session n).outstanding.map fun o => (n, o.origin.tag)

theorem State.mem_tagsOut (s : State) (k tag : Nat) : (k, tag) ∈ s.tagsOut ↔ k < 4 ∧ ∃ o ∈ (s.session k).outstanding, o.origin.tag = tag := by
  unfold State.tagsOut
  rw [List.mem_flatMap]
  constructor
  · rintro ⟨n, inside, held⟩
    obtain ⟨o, out, equal⟩ := List.mem_map.1 held
    obtain ⟨rfl, tagged⟩ := Prod.mk.inj equal
    exact ⟨List.mem_range.1 inside, o, out, tagged⟩
  · rintro ⟨inside, o, out, tagged⟩
    exact ⟨k, List.mem_range.2 inside, List.mem_map.2 ⟨o, out, by rw [tagged]⟩⟩

/-- A checkpoint written. -/
def State.checkpointed (s : State) (n : Nat) : State :=
  { s with darn := { s.darn with checkpoints := setAt s.darn.checkpoints n fun _ => if s.darn.taskOwner.getD 0 0 = n then s.tagsOut else [] } }

theorem execCheckpointDue_eq {s : State} {n : Nat} (here : n < 2) (serves : s.unitState 7 n ≠ .retired) (on : s.on .ctrl = true) :
    execCheckpointDue n s = .next (s.checkpointed n) := by
  have due : ¬ (s.unitState 7 n = .retired ∨ 2 ≤ n ∨ ¬ s.on .ctrl) := by
    rintro (retired | beyond | off)
    · exact serves retired
    · omega
    · exact off on
  exact congrArg Host.Outcome.next (if_neg due)

section
variable {s : State} {n : Nat} (here : n < 2)
include here

theorem State.checkpointed_own (two : s.darn.checkpoints.length = 2) (d : List (Nat × Nat)) :
    (s.checkpointed n).darn.checkpoints.getD n d = if s.darn.taskOwner.getD 0 0 = n then s.tagsOut else [] :=
  getD_setAt_same _ d (by omega)

theorem State.checkpointed_other (d : List (Nat × Nat)) : (s.checkpointed n).darn.checkpoints.getD (1 - n) d = s.darn.checkpoints.getD (1 - n) d := by
  show (s.darn.checkpoints.modify n _).getD (1 - n) d = _
  have apart : n ≠ 1 - n := by omega
  rw [List.getD_eq_getElem?_getD, List.getElem?_modify, List.getD_eq_getElem?_getD]
  simp [apart]

end

/-! ### What the fault commands read (R555) -/

section
variable (s : State)

/-- What DARN_STATUS returns. -/
def State.darnBytes : Bytes :=
  le 4 (s.reg Reg.darnSvc).toNat ++ le 4 (s.reg Reg.darnStat).toNat ++ (List.range 7).flatMap (fun k => le 4 (s.reg (Reg.darnClassStat k)).toNat)
    ++ (List.range 5).flatMap fun w => le 4 (s.reg (Reg.darnWear w)).toNat

theorem State.darnBytes_shows : s.darnBytes.length = 56 ∧ num s.darnBytes 0 4 = (s.reg Reg.darnSvc).toNat
    ∧ num s.darnBytes 4 4 = (s.reg Reg.darnStat).toNat ∧ (∀ k, k < 7 → num s.darnBytes (8 + 4 * k) 4 = (s.reg (Reg.darnClassStat k)).toNat)
    ∧ ∀ w, w < 5 → num s.darnBytes (36 + 4 * w) 4 = (s.reg (Reg.darnWear w)).toNat := by
  have words (f : Nat → Nat) (n : Nat) : ((List.range n).flatMap fun k => le 4 (s.reg (f k)).toNat).length = 4 * n := by
    rw [length_flatMap_entry (m := 4) (fun _ => length_le _ _), List.length_range]
  have small (a : Nat) : (s.reg a).toNat % 256 ^ 4 = (s.reg a).toNat := Nat.mod_eq_of_lt (s.reg a).isLt
  refine ⟨?_, ?_, ?_, fun k inside => ?_, fun w inside => ?_⟩
  · simp [State.darnBytes, words]
  · rw [State.darnBytes, List.append_assoc, List.append_assoc, num_le_append, small]
  · rw [State.darnBytes, List.append_assoc, List.append_assoc, num_append_beyond (by simp), num_append_within (by simp)]
    exact (num_le _ _).trans (small _)
  · rw [State.darnBytes, num_append_within (by simp [words]; omega), num_append_right (n := 8) (by simp),
      num_range_le (fun k => (s.reg (Reg.darnClassStat k)).toNat) inside, small]
  · rw [State.darnBytes, num_append_right (n := 36) (by simp [words]), num_range_le (fun w => (s.reg (Reg.darnWear w)).toNat) inside, small]

/-- The state of a unit as DARN_UNIT_READ codes it. -/
def State.unitCode (kind id : Nat) : Nat :=
  match s.unitState kind id with
  | .serving => if kind = 0 ∧ s.laneState id = 4 then 3 else if kind = 1 ∧ s.onAir (id / 2) ≠ id % 2 then 1 else 0
  | .spare => if kind = 1 ∧ s.onAir (id / 2) = id % 2 then 0 else 1
  | .retired => 2
  | .testing => 3

theorem State.unitCode_le (kind id : Nat) : s.unitCode kind id ≤ 3 := by
  unfold State.unitCode
  split
  · split
    · decide
    · split <;> decide
  · split <;> decide
  · decide
  · decide

theorem State.unitWord_named {kind n u : Nat} (named : s.namedUnit kind n = some u) :
    s.unitWord kind n = (s.scoreOf kind u).score + s.unitCode kind u * 256 + 65536 * (s.scoreOf kind u).errors := by
  unfold State.unitWord
  rw [named]
  rfl

end

/-- Settles O59: clause by clause over the scores, the leak, wear, checkpoints and the fault commands. -/
theorem scoresAndWear : Obligations.ScoresAndWear := by
  intro s c p
  refine ⟨fun kind unit => ⟨fun retired => if_pos retired, fun serving => ?_⟩, fun kind => ⟨fun idle => congrArg Host.Outcome.next (if_pos idle), fun used known => ?_⟩,
    fun hot => ⟨fun off => congrArg Host.Outcome.next (if_pos off), fun on => ?_⟩, fun w counter => ?_, fun kind unitKind unit spare cause copy held => ?_,
    fun n => ⟨fun idle => ?_, fun here serves on two => ?_⟩, fun ready => ?_, fun ready => ?_, fun ready => ?_⟩
  case refine_1 =>
    have counted := score_counted (min 255 ((s.scoreOf kind unit).score + (s.scoring kind).1)) (s.scoreOf kind unit).errors
    have scored := s.scoreError_serving kind unit serving
    rw [scored]
    exact ⟨State.setScore_same counted, decide_eq_true_iff, s.setScore_units kind unit _, fun key other => State.setScore_other counted other⟩
  case refine_2 =>
    obtain ⟨units, _, next⟩ := s.scoresLeaked_darn (kind := kind)
    obtain ⟨darn, elapsed⟩ := (s.scoresLeaked kind).enginesShown_keeps
    by_cases engines : kind = 3
    · have same (k u : Nat) : (s.scoresLeaked kind).enginesShown.scoreOf k u = (s.scoresLeaked kind).scoreOf k u := by
        rw [State.scoreOf, darn, State.scoreOf]
      refine ⟨(s.scoresLeaked kind).enginesShown, (execScoreLeak_eq s used known).trans (congrArg _ (if_pos engines)), ?_, ?_, ?_, fun unit inside => ?_,
        fun other unit apart known' row inside => ?_, fun _ e inside => ?_⟩
      · exact s.scoresLeaked_elapsed.trans_eq elapsed.symm
      · rw [darn, units]
      · rw [darn, next]
      · rw [same, s.scoresLeaked_own inside]
      · rw [same, s.scoresLeaked_other known apart known' row inside]
      · rw [same, State.enginesShown_fld _ inside]
    · exact ⟨s.scoresLeaked kind, (execScoreLeak_eq s used known).trans (congrArg _ (if_neg engines)), s.scoresLeaked_elapsed, units, next,
        fun unit inside => s.scoresLeaked_own inside, fun other unit apart known' row inside => s.scoresLeaked_other known apart known' row inside,
        fun engine => absurd engine engines⟩
  case refine_3 =>
    obtain ⟨hours, hotHours, darn⟩ := s.hourCounted_shows hot
    exact ⟨s.hourCounted hot, hours, hotHours, darn, execWearHour_eq s hot on⟩
  case refine_4 => exact (s.checkWear_reports counter).trans (or_congr_right decide_eq_true_iff)
  case refine_5 =>
    rw [State.logDarn_copies] at held
    obtain ⟨old, _, rfl⟩ := List.mem_map.1 held
    dsimp only
    obtain ⟨last, short⟩ := logged_last old.log (s.darnRecord kind unitKind unit spare cause)
    obtain ⟨length, check⟩ := (s.darnRecord kind unitKind unit spare cause).bytes_shows
    exact ⟨s.darnRecord kind unitKind unit spare cause, last, short, rfl, rfl, rfl, rfl, rfl, rfl, rfl, length, check⟩
  case refine_6 =>
    refine congrArg Host.Outcome.next (if_pos (idle.imp_right (Or.imp_right fun off => ?_)))
    rw [off]
    exact Bool.false_ne_true
  case refine_7 =>
    refine ⟨s.checkpointed n, execCheckpointDue_eq here serves on, rfl, rfl, State.checkpointed_other here [], fun other => ?_, fun owner k tag => ?_⟩
    · rw [State.checkpointed_own here two, if_neg other]
    · rw [State.checkpointed_own here two, if_pos owner, State.mem_tagsOut]
  case refine_8 =>
    obtain ⟨length, shows⟩ := (s.received c).darnBytes_shows
    refine ⟨(s.received c).darnBytes, (congrArg _ (State.run_ready ready _)).trans ?_, length, shows⟩
    have status : okUnless ((s.received c).reg Reg.darnSvc != 0) = if (s.received c).reg Reg.darnSvc = 0 then Status.ok else Status.okDegraded := by
      by_cases clear : (s.received c).reg Reg.darnSvc = 0
      · simp [okUnless, clear]
      · rw [if_neg clear, okUnless, if_pos (bne_iff_ne.2 clear)]
    rw [status]
    rfl
  case refine_9 =>
    have whole (i : Nat) : (le 4 ((s.received c).unitWord (num p 0 1) (num p 2 2 + i))).length = 4 := length_le _ _
    refine ⟨(List.range (num p 4 2)).flatMap fun i => le 4 ((s.received c).unitWord (num p 0 1) (num p 2 2 + i)),
      congrArg _ (State.run_ready ready _), ?_, fun i u inside named => ⟨(s.received c).unitCode (num p 0 1) u, State.unitCode_le _ _ _, ?_, ?_, ?_⟩⟩
    · rw [length_flatMap_entry whole, List.length_range]
    · rw [num_range_le (fun i => (s.received c).unitWord (num p 0 1) (num p 2 2 + i)) inside, State.unitWord_named _ named]
      rw [Nat.mul_comm 256]
      rfl
    · intro retired
      rw [State.unitCode, retired]
    · intro testing
      rw [State.unitCode, testing]
  case refine_10 => exact congrArg _ (State.run_ready ready _)

end Sys2Proof.Machine
end
